-- ==== Sys2Proof/Word.lean ====
section
/-! DEFINITION. The word types and the plain-data operand types of the commands: what the manual numbers, and what a
command carries from outside the part. -/

namespace Sys2Proof

/-- The native 36-bit word (R7). -/
abbrev Word := BitVec 36

/-- An octet. -/
abbrev Byte := BitVec 8

/-- A host register dword (R11). -/
abbrev Dword := BitVec 32

/-- A sparse table: key and value pairs with strictly rising keys. A key that is not listed holds the table's default. -/
abbrev Store (α : Type) := List (Nat × α)

/-- A thread of the package: die, die core (cluster × 4 + core) and thread in the core (R13). -/
structure Tid where
  die : Nat
  core : Nat
  thr : Nat
deriving DecidableEq, Repr

/-- What a line delivers (R46, R51, R52): the octets of an Ethernet frame; the levels of a synchronous telegram line in order
of arrival, one for each bit in NRZ and two, its halves, in Manchester; or the characters of an asynchronous telegram line,
each as its bits after the start bit. -/
inductive Line where
  | octets (o : List Byte)
  | bits (b : List Bool)
  | chars (c : List (List Bool))
deriving DecidableEq, Repr

/-- The blocks that have an EVENT register, in the order of the interrupt sources of R380 (DCTL last). -/
inductive EvBlock where
  | dsp | tbl | mls | dmc | ecc | twx | hlp | egr | tly | grt | ans | dctl
deriving DecidableEq, Repr

/-- The commands of a chain or a configuration write to the PCIe function (R373). -/
inductive PowerState where
  | d0 | d3hot
deriving DecidableEq, Repr

end Sys2Proof
end

