-- ==== Sys2Proof/Syntax.lean ====
section
/-! DEFINITION. The commands: one constructor for each row of spec/opcode_table.json, in the table's order. -/

namespace Sys2Proof

/-- A command: an event at the part's pins, an access of the host, a step of one of its engines, or an instruction of one of
its threads. The operands carry what comes from outside: octets, levels, register values, and the choice of the die, port,
thread or unit that acts. -/
inductive Instr where
  /-- REGISTER_WRITE (R10) -/
  | registerWrite (d off : Nat) (v : Dword) (be : BitVec 4)
  /-- SLOT_LOW_DWORD_WRITE (R375) -/
  | slotLowDwordWrite (d off : Nat) (v : Dword)
  /-- EVENT_W1C_CLEAR (R380) -/
  | eventW1cClear (d : Nat) (b : EvBlock) (v : Dword)
  /-- CROSS_MAX_READ (R9) -/
  | crossMaxRead (d : Nat)
  /-- DEV_CE_READ (R370) -/
  | devCeRead (d rank dev : Nat)
  /-- WMK_DROPS_READ (R9) -/
  | wmkDropsRead
  /-- JRN_DROPS_READ (R9) -/
  | jrnDropsRead
  /-- ETHERNET_FRAME_RECEIVE (R46) -/
  | ethernetFrameReceive (d p : Nat) (rest : Line) (err : Bool)
  /-- PAUSE_FRAME_RECEIVE (R49) -/
  | pauseFrameReceive (d p : Nat) (pfc : Bool) (enable : Byte) (times : List Nat)
  /-- PAUSE_EXPIRE (R311) -/
  | pauseExpire (d p : Nat) (pri : Option Nat)
  /-- PAUSE_SEND (R49) -/
  | pauseSend (d p : Nat)
  /-- PAUSE_REPEAT (R49) -/
  | pauseRepeat (d p : Nat)
  /-- PCS_LINK_DOWN (R47) -/
  | pcsLinkDown (d p : Nat)
  /-- PCS_LINK_UP (R46) -/
  | pcsLinkUp (d p speed : Nat)
  /-- MAC_PORT_CONFIG (R44) -/
  | macPortConfig (d p : Nat) (v : Dword)
  /-- TELEGRAM_FRAME_RECEIVE (R53) -/
  | telegramFrameReceive (d p : Nat) (rest : Line)
  /-- TELEGRAM_ABORT (R54) -/
  | telegramAbort (d p : Nat)
  /-- GAP_TIMEOUT (R55) -/
  | gapTimeout (d p : Nat)
  /-- TELEGRAM_PORT_DISABLE (R57) -/
  | telegramPortDisable (d t : Nat) (v : Dword)
  /-- FRAME_FIRST_CELL (R59) -/
  | frameFirstCell (d p : Nat) (line : Line)
  /-- CELL_ALLOCATE (R64) -/
  | cellAllocate (d p : Nat) (line : Line)
  /-- FRAME_ADMIT (R58) -/
  | frameAdmit (d : Nat)
  /-- EXTRACT (R66) -/
  | extract (d : Nat)
  /-- PROFILE_ENABLE (R70) -/
  | profileEnable (d pr : Nat) (v : Dword)
  /-- PROFILE_DISABLE (R71) -/
  | profileDisable (d pr : Nat) (v : Dword)
  /-- SELECTOR_DISABLE (R71) -/
  | selectorDisable (d e : Nat) (v : Dword)
  /-- HOP_REGISTER_READ (R72) -/
  | hopRegisterRead (d off : Nat)
  /-- CLASSIFIER_LOOKUP (R241) -/
  | classifierLookup (d : Nat)
  /-- HOPPER_MOVE (R26) -/
  | hopperMove (d : Nat)
  /-- INSTANTIATE (R93) -/
  | instantiate (d : Nat)
  /-- DISPATCH_DELIVERY (R134) -/
  | dispatchDelivery (d g : Nat)
  /-- COMMIT_APPLY (R108) -/
  | commitApply (d slot : Nat)
  /-- TBLU_ENTRY_COMPLETE (R255) -/
  | tbluEntryComplete (d slot : Nat)
  /-- RESOLUTION_RECORD (R26) -/
  | resolutionRecord (d : Nat)
  /-- TICKET_RELEASE (R21) -/
  | ticketRelease (d p : Nat)
  /-- RELEASE_GRANT (R29) -/
  | releaseGrant (d : Nat)
  /-- CREDIT_RETURN (R28) -/
  | creditReturn (d : Nat)
  /-- REMOTE_ENQUEUE_ARRIVE (R27) -/
  | remoteEnqueueArrive (d : Nat)
  /-- RELEASE_SEQUENCE_SKIP (R27) -/
  | releaseSequenceSkip (d g : Nat)
  /-- EGRESS_COPY (R305) -/
  | egressCopy (d : Nat)
  /-- TWIPEX_REGISTER_TRANSACTION (R376) -/
  | twipexRegisterTransaction (d off : Nat) (write : Option Dword) (be : BitVec 4)
  /-- LINK_ENABLE (R487) -/
  | linkEnable (d k : Nat) (v : Dword)
  /-- LINK_DISABLE (R37) -/
  | linkDisable (d k : Nat) (v : Dword)
  /-- LINK_RETRAIN (R40) -/
  | linkRetrain (d : Nat)
  /-- LINK_TRAINING_END (R487) -/
  | linkTrainingEnd (d k : Nat) (lowPass highPass : Bool)
  /-- LANE_FAILURE (R37) -/
  | laneFailure (d k : Nat)
  /-- FLIT_ERROR (R38) -/
  | flitError (d k : Nat) (failed : Bool)
  /-- REROUTE_COMPLETE (R39) -/
  | rerouteComplete
  /-- SPAWN (R95) -/
  | spawn (t : Tid) (a b : BitVec 5) (g : BitVec 8)
  /-- OPEND (R181) -/
  | opend (t : Tid) (k : BitVec 3)
  /-- ENQ (R181) -/
  | enq (t : Tid) (a : BitVec 5)
  /-- PGROW (R182) -/
  | pgrow (t : Tid) (a : BitVec 5)
  /-- ANSC (R396) -/
  | ansc (t : Tid) (a : BitVec 5)
  /-- LOOKUP_NODE (R87) -/
  | lookupNode (d slot : Nat)
  /-- ENQUEUE_NODE (R113) -/
  | enqueueNode (d slot : Nat)
  /-- DISCARD_NODE (R114) -/
  | discardNode (d slot : Nat)
  /-- DEADLINE_MISS (R105) -/
  | deadlineMiss (d slot : Nat)
  /-- FALLBACK_INSTANTIATE (R112) -/
  | fallbackInstantiate (d : Nat)
  /-- GRAPH_ENABLE (R88) -/
  | graphEnable (d g : Nat)
  /-- GS_DATA_WRITE (R84) -/
  | gsDataWrite (d : Nat) (hi : Dword)
  /-- HARDWARE_FAULT (R141) -/
  | hardwareFault (t : Tid) (stuck : Bool)
  /-- LOCKSTEP_MISMATCH (R148) -/
  | lockstepMismatch (t : Tid)
  /-- FAULT_NOTICE_DELIVER (R142) -/
  | faultNoticeDeliver (d c : Nat)
  /-- CORE_DEADLOCK (R136) -/
  | coreDeadlock (d c : Nat)
  /-- CLUSTER_DEADLOCK (R137) -/
  | clusterDeadlock (d cl : Nat)
  /-- LOCAL_TIMER_EXPIRE (R133) -/
  | localTimerExpire (t : Tid)
  /-- WAIT_WAKE (R133) -/
  | waitWake (t : Tid)
  /-- CHANNEL_SEND_UNBLOCK (R130) -/
  | channelSendUnblock (t : Tid)
  /-- CHANNEL_RECEIVE_UNBLOCK (R131) -/
  | channelReceiveUnblock (t : Tid)
  /-- BANK_GRANT (R121) -/
  | bankGrant (d cl b : Nat)
  /-- TBL_ANSWER (R122) -/
  | tblAnswer (t : Tid)
  /-- LDF_ANSWER (R261) -/
  | ldfAnswer (t : Tid)
  /-- CORE_STOP (R150) -/
  | coreStop (d : Nat)
  /-- CORE_RESTART (R147) -/
  | coreRestart (d : Nat)
  /-- CORE_RESTART_DONE (R146) -/
  | coreRestartDone (d c : Nat)
  /-- THREAD_STOP (R151) -/
  | threadStop (d : Nat)
  /-- THREAD_RESUME (R150) -/
  | threadResume (d : Nat)
  /-- THREAD_STEP (R150) -/
  | threadStep (d : Nat)
  /-- STEP_COUNT_DONE (R150) -/
  | stepCountDone (t : Tid)
  /-- THREAD_ABANDON (R152) -/
  | threadAbandon (d : Nat)
  /-- THREAD_SIGNAL (R150) -/
  | threadSignal (d : Nat)
  /-- THREAD_READ (R150) -/
  | threadRead (d : Nat)
  /-- THREAD_WRITE (R150) -/
  | threadWrite (d : Nat)
  /-- ILLEGAL_INSTRUCTION (R165) -/
  | illegalInstruction (t : Tid)
  /-- ADD (R169) -/
  | add (t : Tid) (sys : Bool) (d a b : BitVec 5)
  /-- ADC (R169) -/
  | adc (t : Tid) (sys : Bool) (d a b : BitVec 5)
  /-- SUB (R169) -/
  | sub (t : Tid) (sys : Bool) (d a b : BitVec 5)
  /-- SBC (R169) -/
  | sbc (t : Tid) (sys : Bool) (d a b : BitVec 5)
  /-- NEG (R169) -/
  | neg (t : Tid) (sys : Bool) (d a : BitVec 5)
  /-- ABS (R169) -/
  | abs (t : Tid) (sys : Bool) (d a : BitVec 5)
  /-- CMP (R169) -/
  | cmp (t : Tid) (a b : BitVec 5)
  /-- AND (R169) -/
  | and (t : Tid) (sys : Bool) (d a b : BitVec 5)
  /-- OR (R169) -/
  | or (t : Tid) (sys : Bool) (d a b : BitVec 5)
  /-- XOR (R169) -/
  | xor (t : Tid) (sys : Bool) (d a b : BitVec 5)
  /-- ANDN (R169) -/
  | andn (t : Tid) (sys : Bool) (d a b : BitVec 5)
  /-- NOT (R169) -/
  | not (t : Tid) (sys : Bool) (d a : BitVec 5)
  /-- TST (R169) -/
  | tst (t : Tid) (a b : BitVec 5)
  /-- MOV (R169) -/
  | mov (t : Tid) (sys : Bool) (d a : BitVec 5)
  /-- CLZ (R169) -/
  | clz (t : Tid) (sys : Bool) (d a : BitVec 5)
  /-- POPC (R169) -/
  | popc (t : Tid) (sys : Bool) (d a : BitVec 5)
  /-- SHL (R170) -/
  | shl (t : Tid) (d a b : BitVec 5)
  /-- SHR (R170) -/
  | shr (t : Tid) (d a b : BitVec 5)
  /-- SAR (R170) -/
  | sar (t : Tid) (d a b : BitVec 5)
  /-- ROL (R170) -/
  | rol (t : Tid) (d a b : BitVec 5)
  /-- ROR (R170) -/
  | ror (t : Tid) (d a b : BitVec 5)
  /-- MUL (R171) -/
  | mul (t : Tid) (d a b : BitVec 5)
  /-- MULL (R171) -/
  | mull (t : Tid) (d a b : BitVec 5)
  /-- MULLU (R171) -/
  | mullu (t : Tid) (d a b : BitVec 5)
  /-- DIVS (R172) -/
  | divs (t : Tid) (d a b : BitVec 5)
  /-- DIVU (R172) -/
  | divu (t : Tid) (d a b : BitVec 5)
  /-- ADDI (R173) -/
  | addi (t : Tid) (d a : BitVec 5) (imm : BitVec 18)
  /-- SUBI (R173) -/
  | subi (t : Tid) (d a : BitVec 5) (imm : BitVec 18)
  /-- CMPI (R173) -/
  | cmpi (t : Tid) (a : BitVec 5) (imm : BitVec 18)
  /-- ANDI (R173) -/
  | andi (t : Tid) (d a : BitVec 5) (imm : BitVec 18)
  /-- ORI (R173) -/
  | ori (t : Tid) (d a : BitVec 5) (imm : BitVec 18)
  /-- XORI (R173) -/
  | xori (t : Tid) (d a : BitVec 5) (imm : BitVec 18)
  /-- MOVI (R173) -/
  | movi (t : Tid) (d : BitVec 5) (imm : BitVec 18)
  /-- MOVHI (R173) -/
  | movhi (t : Tid) (d a : BitVec 5) (imm : BitVec 18)
  /-- SHLI (R173) -/
  | shli (t : Tid) (d a : BitVec 5) (n : BitVec 8)
  /-- SHRI (R173) -/
  | shri (t : Tid) (d a : BitVec 5) (n : BitVec 8)
  /-- SARI (R173) -/
  | sari (t : Tid) (d a : BitVec 5) (n : BitVec 8)
  /-- ROLI (R173) -/
  | roli (t : Tid) (d a : BitVec 5) (n : BitVec 8)
  /-- RORI (R173) -/
  | rori (t : Tid) (d a : BitVec 5) (n : BitVec 8)
  /-- EXTU (R173) -/
  | extu (t : Tid) (d a : BitVec 5) (lsb wm1 : BitVec 6)
  /-- INS (R173) -/
  | ins (t : Tid) (d a : BitVec 5) (lsb wm1 : BitVec 6)
  /-- DADD (R197) -/
  | dadd (t : Tid) (d a b : BitVec 5)
  /-- DADC (R197) -/
  | dadc (t : Tid) (d a b : BitVec 5)
  /-- DSUB (R197) -/
  | dsub (t : Tid) (d a b : BitVec 5)
  /-- DSBC (R197) -/
  | dsbc (t : Tid) (d a b : BitVec 5)
  /-- DCMP (R197) -/
  | dcmp (t : Tid) (a b : BitVec 5)
  /-- DADJ (R195) -/
  | dadj (t : Tid) (d a : BitVec 5)
  /-- DSADJ (R196) -/
  | dsadj (t : Tid) (d a : BitVec 5)
  /-- BIN2D (R198) -/
  | bin2d (t : Tid) (d a : BitVec 5)
  /-- D2BIN (R198) -/
  | d2bin (t : Tid) (d a : BitVec 5)
  /-- DSHL (R198) -/
  | dshl (t : Tid) (d a b : BitVec 5)
  /-- DSHR (R198) -/
  | dshr (t : Tid) (d a b : BitVec 5)
  /-- DVALID (R198) -/
  | dvalid (t : Tid) (a : BitVec 5)
  /-- CPW (R175) -/
  | cpw (t : Tid) (sys : Bool) (d a b : BitVec 5)
  /-- CMPS (R175) -/
  | cmps (t : Tid) (a b : BitVec 5)
  /-- DSTEP (R175) -/
  | dstep (t : Tid) (a b : BitVec 5)
  /-- LDW (R176) -/
  | ldw (t : Tid) (d a : BitVec 5) (p : Bool) (disp : BitVec 15)
  /-- STW (R176) -/
  | stw (t : Tid) (d a : BitVec 5) (p : Bool) (disp : BitVec 15)
  /-- LDP (R176) -/
  | ldp (t : Tid) (d a : BitVec 5) (p : Bool) (sz : BitVec 2) (disp : BitVec 15)
  /-- STP (R176) -/
  | stp (t : Tid) (d a : BitVec 5) (p : Bool) (sz : BitVec 2) (disp : BitVec 15)
  /-- LDF (R176) -/
  | ldf (t : Tid) (d a : BitVec 5) (disp : BitVec 15)
  /-- STF (R176) -/
  | stf (t : Tid) (d a : BitVec 5) (disp : BitVec 15)
  /-- LDO (R176) -/
  | ldo (t : Tid) (d a : BitVec 5) (disp : BitVec 15)
  /-- STO (R176) -/
  | sto (t : Tid) (d a : BitVec 5) (disp : BitVec 15)
  /-- LDA (R176) -/
  | lda (t : Tid) (d a : BitVec 5) (disp : BitVec 15)
  /-- STA (R176) -/
  | sta (t : Tid) (d a : BitVec 5) (disp : BitVec 15)
  /-- BCC (R178) -/
  | bcc (t : Tid) (cond : BitVec 4) (off : BitVec 24)
  /-- JAL (R178) -/
  | jal (t : Tid) (d : BitVec 5) (target : BitVec 16)
  /-- JR (R178) -/
  | jr (t : Tid) (a : BitVec 5)
  /-- CHS (R129) -/
  | chs (t : Tid) (a : BitVec 5) (n : BitVec 6)
  /-- CHE (R129) -/
  | che (t : Tid) (a : BitVec 5) (n : BitVec 6)
  /-- CHR (R131) -/
  | chr (t : Tid) (d : BitVec 5) (n : BitVec 6)
  /-- WAIT (R180) -/
  | wait (t : Tid) (d a : BitVec 5)
  /-- WAITI (R180) -/
  | waiti (t : Tid) (d : BitVec 5) (src : BitVec 17)
  /-- TBL (R183) -/
  | tbl (t : Tid) (d a : BitVec 5) (n : BitVec 6) (k : BitVec 2)
  /-- TBLU (R183) -/
  | tblu (t : Tid) (d a : BitVec 5) (n : BitVec 6) (k : BitVec 2) (c : BitVec 3)
  /-- HLOCK (R210) -/
  | hlock (t : Tid) (n : BitVec 6)
  /-- HUNLOCK (R212) -/
  | hunlock (t : Tid) (n : BitVec 6)
  /-- HGO (R213) -/
  | hgo (t : Tid) (a : BitVec 5) (n : BitVec 6) (k : BitVec 3)
  /-- HTEST (R184) -/
  | htest (t : Tid) (d : BitVec 5) (k : BitVec 3)
  /-- CRC (R185) -/
  | crc (t : Tid) (d a : BitVec 5) (n : BitVec 6) (k : BitVec 2)
  /-- CRCP (R185) -/
  | crcp (t : Tid) (d a : BitVec 5) (n : BitVec 6)
  /-- MFS (R156) -/
  | mfs (t : Tid) (d : BitVec 5) (n : BitVec 6)
  /-- MTS (R156) -/
  | mts (t : Tid) (n : BitVec 6) (a : BitVec 5)
  /-- RPT (R201) -/
  | rpt (t : Tid) (a : BitVec 5)
  /-- REPEAT_ITERATION (R202) -/
  | repeatIteration (t : Tid)
  /-- TCTL (R144) -/
  | tctl (t : Tid) (a : BitVec 5) (abandon : Bool)
  /-- CCTL (R186) -/
  | cctl (t : Tid) (a : BitVec 5) (k : BitVec 8)
  /-- IS_DATA_WRITE (R166) -/
  | isDataWrite (d cl : Nat) (hi : Dword)
  /-- IS_DATA_READ (R166) -/
  | isDataRead (d cl : Nat)
  /-- CS_DATA_WRITE (R360) -/
  | csDataWrite (d cl : Nat) (hi : Dword)
  /-- CS_DATA_READ (R127) -/
  | csDataRead (d cl : Nat)
  /-- HELPER_JOB_START (R222) -/
  | helperJobStart (d h : Nat)
  /-- GCM_ENC (R217) -/
  | gcmEnc (d h : Nat)
  /-- GCM_DEC (R217) -/
  | gcmDec (d h : Nat)
  /-- CMAC_GEN (R217) -/
  | cmacGen (d h : Nat)
  /-- CMAC_VER (R217) -/
  | cmacVer (d h : Nat)
  /-- SHA256 (R217) -/
  | sha256 (d h : Nat)
  /-- ECDSA_VER (R217) -/
  | ecdsaVer (d h : Nat)
  /-- STUFF (R218) -/
  | stuff (d h : Nat)
  /-- UNSTUFF (R218) -/
  | unstuff (d h : Nat)
  /-- ESCAPE (R218) -/
  | escape (d h : Nat)
  /-- UNESCAPE (R218) -/
  | unescape (d h : Nat)
  /-- FCS_GEN (R218) -/
  | fcsGen (d h : Nat)
  /-- FCS_CHECK (R218) -/
  | fcsCheck (d h : Nat)
  /-- MANCH_ENC (R218) -/
  | manchEnc (d h : Nat)
  /-- MANCH_DEC (R218) -/
  | manchDec (d h : Nat)
  /-- ENCAP (R221) -/
  | encap (d h : Nat)
  /-- DECAP (R221) -/
  | decap (d h : Nat)
  /-- COPY (R219) -/
  | copy (d h : Nat)
  /-- FILL (R219) -/
  | fill (d h : Nat)
  /-- GATHER (R219) -/
  | gather (d h : Nat)
  /-- COMPARE (R219) -/
  | compare (d h : Nat)
  /-- HELPER_JOB_COMPLETE (R223) -/
  | helperJobComplete (d h : Nat)
  /-- THREAD_WINDOW_EXPIRE (R211) -/
  | threadWindowExpire (d h : Nat)
  /-- LOOKUP (R250) -/
  | lookup (d : Nat)
  /-- INSERT (R239) -/
  | insert (d : Nat)
  /-- UPDATE (R250) -/
  | update (d : Nat)
  /-- DELETE (R250) -/
  | delete (d : Nat)
  /-- DELETE_IF_IDLE (R250) -/
  | deleteIfIdle (d : Nat)
  /-- READ_CLEAR_HIT (R250) -/
  | readClearHit (d : Nat)
  /-- WALK (R251) -/
  | walk (d : Nat)
  /-- FENCE (R253) -/
  | fence (d : Nat)
  /-- FENCE_COMPLETE (R253) -/
  | fenceComplete (d : Nat)
  /-- SWAP_TABLE (R254) -/
  | swapTable (d : Nat)
  /-- SWAP_ACCESS_POINT (R254) -/
  | swapAccessPoint (d : Nat)
  /-- REPLICA_COMMAND (R258) -/
  | replicaCommand (d : Nat)
  /-- TABLE_ACTIVATE (R245) -/
  | tableActivate (d t : Nat)
  /-- TABLE_FREEZE (R245) -/
  | tableFreeze (d t : Nat)
  /-- INIT_START (R246) -/
  | initStart (d b : Nat)
  /-- INIT_COMPLETE (R246) -/
  | initComplete (d : Nat)
  /-- CTX_DATA_WRITE (R263) -/
  | ctxDataWrite (d : Nat) (hi : Dword)
  /-- CTX_DATA_READ (R263) -/
  | ctxDataRead (d : Nat)
  /-- ENCODER_EDGE (R269) -/
  | encoderEdge (enc : Nat) (a b : Bool) (held : Nat)
  /-- INDEX_EDGE (R271) -/
  | indexEdge (enc held : Nat)
  /-- ZERO_CROSSING (R270) -/
  | zeroCrossing (input : Nat) (falling : Bool) (held : Nat)
  /-- AXIS_BROADCAST (R275) -/
  | axisBroadcast
  /-- AXIS_RECORD_EFFECT (R275) -/
  | axisRecordEffect
  /-- BCAST_LOSS (R275) -/
  | bcastLoss (d : Nat)
  /-- AXIS_HELD (R277) -/
  | axisHeld (n : Nat)
  /-- AXIS_ENABLE (R276) -/
  | axisEnable (n : Nat) (v : Dword)
  /-- AXIS_DISABLE (R279) -/
  | axisDisable (n : Nat) (v : Dword)
  /-- PPS_OUT_RISE (R267) -/
  | ppsOutRise
  /-- PPS_OUT_FALL (R267) -/
  | ppsOutFall
  /-- PPS_IN_EDGE (R267) -/
  | ppsInEdge (falling : Bool)
  /-- MILESTONE_FIRE (R287) -/
  | milestoneFire (d : Nat)
  /-- SEND_DELIVERY (R289) -/
  | sendDelivery (d : Nat)
  /-- MILESTONE_WAIT_COMPLETE (R290) -/
  | milestoneWaitComplete (d : Nat)
  /-- EVENT_PIN_CHANGE (R468) -/
  | eventPinChange
  /-- PIN_PULSE_END (R288) -/
  | pinPulseEnd (pin : Nat)
  /-- MS_ARM (R281) -/
  | msArm (d : Nat)
  /-- MS_DISARM (R293) -/
  | msDisarm (d : Nat)
  /-- MS_READ (R293) -/
  | msRead (d : Nat)
  /-- AXIS_SET (R286) -/
  | axisSet (d : Nat)
  /-- JUMP_EFFECT (R286) -/
  | jumpEffect
  /-- CAPTURE_POP (R291) -/
  | capturePop (d : Nat)
  /-- MS_DATA_READ (R280) -/
  | msDataRead (d : Nat)
  /-- AXIS_JOURNAL_RECORD (R295) -/
  | axisJournalRecord
  /-- QUEUE_ADMIT (R302) -/
  | queueAdmit (d : Nat)
  /-- READ_AHEAD_REFILL (R320) -/
  | readAheadRefill (d q : Nat)
  /-- TRANSMIT_SELECT (R310) -/
  | transmitSelect (d p : Nat)
  /-- PORT_TRANSMIT (R307) -/
  | portTransmit (d p : Nat)
  /-- ENQUEUE_TRANSMITTED (R305) -/
  | enqueueTransmitted (d p : Nat)
  /-- GATE_LIST_CHANGE (R316) -/
  | gateListChange (d pp l : Nat)
  /-- GATE_LIST_ENABLE (R315) -/
  | gateListEnable (d pp l : Nat) (v : Dword)
  /-- GATE_LIST_DISABLE (R315) -/
  | gateListDisable (d pp l : Nat) (v : Dword)
  /-- GATE_LIST_END_WRITE (R315) -/
  | gateListEndWrite (d pp l : Nat) (hi : Dword)
  /-- GL_DATA_WRITE (R315) -/
  | glDataWrite (d : Nat) (hi : Dword)
  /-- QUEUE_ENABLE (R301) -/
  | queueEnable (d q : Nat) (v : Dword)
  /-- HOST_RX_DELIVER (R392) -/
  | hostRxDeliver (d h : Nat) (e0 e1 : BitVec 64)
  /-- TRAIN_GO (R330) -/
  | trainGo (d : Nat)
  /-- DRAM_TRAINING_END (R330) -/
  | dramTrainingEnd (d : Nat) (pass : Bool) (failed : Nat)
  /-- DRAM_READ_REQUEST (R332) -/
  | dramReadRequest (d who addr : Nat) (panic : Bool)
  /-- DRAM_WRITE_REQUEST (R332) -/
  | dramWriteRequest (d who addr : Nat) (bytes : List Byte) (panic : Bool)
  /-- DRAM_READ_RETURN (R355) -/
  | dramReadReturn (d : Nat)
  /-- REFRESH_TICK (R335) -/
  | refreshTick (d r : Nat)
  /-- REFSB_ISSUE (R335) -/
  | refsbIssue (d r : Nat)
  /-- MR4_READ (R337) -/
  | mr4Read (d ind0 ind1 : Nat)
  /-- SR_ENTRY_START (R343) -/
  | srEntryStart (d : Nat)
  /-- SRE_ISSUE (R344) -/
  | sreIssue (d : Nat)
  /-- SELF_REFRESH_EXIT (R345) -/
  | selfRefreshExit (d : Nat)
  /-- ENTER_MAINT (R348) -/
  | enterMaint (d : Nat)
  /-- EXIT_MAINT (R348) -/
  | exitMaint (d : Nat)
  /-- RETRAIN (R348) -/
  | retrain (d : Nat)
  /-- MRW (R348) -/
  | mrw (d : Nat)
  /-- MRR (R348) -/
  | mrr (d : Nat)
  /-- MAP_MASK_WRITE (R328) -/
  | mapMaskWrite (d i hi : Nat)
  /-- BOLTER_DRAM_STEP (R366) -/
  | bolterDramStep (d : Nat)
  /-- BOLTER_SRAM_STEP (R367) -/
  | bolterSramStep (d store : Nat)
  /-- BOLTER_REVISIT (R368) -/
  | bolterRevisit (d : Nat)
  /-- SRAM_WRITEBACK (R358) -/
  | sramWriteback (d store cluster unit : Nat)
  /-- ERROR_RING_POP (R369) -/
  | errorRingPop (d : Nat)
  /-- BAR2_READ (R377) -/
  | bar2Read (second : Bool) (x n : Nat)
  /-- BAR2_WRITE (R377) -/
  | bar2Write (second : Bool) (x : Nat) (bytes : List Byte)
  /-- D_TAIL_WRITE (R385) -/
  | dTailWrite (d r : Nat) (v : Dword)
  /-- DESCRIPTOR_FETCH (R385) -/
  | descriptorFetch (d r : Nat) (d0 d1 d2 d3 : BitVec 64) (arg : List (BitVec 64))
  /-- C_HEAD_WRITE (R380) -/
  | cHeadWrite (d r : Nat) (v : Dword)
  /-- RING_ENABLE (R388) -/
  | ringEnable (d r : Nat) (v : Dword)
  /-- RING_DISABLE (R388) -/
  | ringDisable (d r : Nat) (v : Dword)
  /-- RING_HALT (R387) -/
  | ringHalt (d r : Nat)
  /-- HTX_FETCH (R391) -/
  | htxFetch (d : Nat) (e1 e3 : BitVec 64) (bytes : List Byte)
  /-- HTX_HEAD_ACK (R380) -/
  | htxHeadAck (d : Nat) (v : Dword)
  /-- HRX_TAIL_WRITE (R392) -/
  | hrxTailWrite (d h : Nat) (v : Dword)
  /-- ANS_READ (R394) -/
  | ansRead (addr : BitVec 14)
  /-- ANS_WRITE (R398) -/
  | ansWrite (addr : BitVec 14) (be : BitVec 4) (data : Dword)
  /-- PAGE_PUBLISH (R397) -/
  | pagePublish (page : BitVec 4) (idle : Bool)
  /-- ANS_PUBLISH_WRITE (R396) -/
  | ansPublishWrite (v : Dword)
  /-- HDATA_WRITE (R396) -/
  | hdataWrite (v : Dword)
  /-- HDATA_READ (R395) -/
  | hdataRead
  /-- ANS_CLK_LOSS (R393) -/
  | ansClkLoss
  /-- ENUMERATE (R404) -/
  | enumerate (dest src : BitVec 6) (hops count : Byte)
  /-- RELEASE (R404) -/
  | release (dest src : BitVec 6) (hops : Byte)
  /-- REG_READ (R406) -/
  | regRead (dest src : BitVec 6) (hops : Byte) (off : Dword) (seq : Byte)
  /-- REG_WRITE (R406) -/
  | regWrite (dest src : BitVec 6) (hops : Byte) (off data : Dword) (seq : Byte)
  /-- REG_RESP (R415) -/
  | regResp (dest src : BitVec 6) (hops seq code : Byte) (data : Dword)
  /-- ATTEST_REQ (R406) -/
  | attestReq (dest src : BitVec 6) (hops : Byte) (nonce : List Byte)
  /-- ATTEST_RESP (R415) -/
  | attestResp (dest src : BitVec 6) (hops : Byte) (report : List Byte)
  /-- TIME (R407) -/
  | time (dest src : BitVec 6) (hops : Byte) (master : BitVec 72) (corr : Dword)
  /-- WMK_BAD_FRAME (R400) -/
  | wmkBadFrame
  /-- TIME_FRAME_SEND (R407) -/
  | timeFrameSend
  /-- ATTEST (R412) -/
  | attest
  /-- READ_CERT (R415) -/
  | readCert
  /-- INSTALL_CERT (R410) -/
  | installCert
  /-- UNLOCK_CHALLENGE (R413) -/
  | unlockChallenge
  /-- UNLOCK_RESPONSE (R413) -/
  | unlockResponse
  /-- LOCK (R414) -/
  | lock
  /-- OWNER_CLAIM (R409) -/
  | ownerClaim
  /-- SET_MIN_VERSION (R415) -/
  | setMinVersion
  /-- WMK_ENUMERATE (R405) -/
  | wmkEnumerate
  /-- WMK_RELEASE (R405) -/
  | wmkRelease
  /-- WMK_REG (R415) -/
  | wmkReg
  /-- RECOVER_LOAD (R420) -/
  | recoverLoad (trainFail : Byte)
  /-- CHAIN_RESPONSE_TIMEOUT (R405) -/
  | chainResponseTimeout
  /-- UNLOCK_EXPIRE (R414) -/
  | unlockExpire
  /-- BOOT (R419) -/
  | boot (slotA slotB : Option (List Byte)) (bootSrc pcieBif : Bool) (trainFail : Byte)
  /-- JOURNAL_WRITE (R424) -/
  | journalWrite
  /-- JRN_DATA_WRITE (R422) -/
  | jrnDataWrite (hi : Dword)
  /-- JRN_DATA_READ (R422) -/
  | jrnDataRead
  /-- SNAPSHOT_TICK (R432) -/
  | snapshotTick (d : Nat)
  /-- SNAPSHOT_ENABLE (R433) -/
  | snapshotEnable (d : Nat) (v : Dword)
  /-- COUNTER_ZERO (R428) -/
  | counterZero (d b : Nat)
  /-- OVF_CLEAR (R428) -/
  | ovfClear (d b index : Nat) (all : Bool)
  /-- COUNTER_READ_LATCH (R428) -/
  | counterReadLatch (d : Nat)
  /-- INSTRUCTION_SAMPLE (R435) -/
  | instructionSample (d c : Nat)
  /-- SAMPLE_WRITE (R437) -/
  | sampleWrite (d : Nat)
  /-- SAMPLE_WRITER_ENABLE (R437) -/
  | sampleWriterEnable (d : Nat) (v : Dword)
  /-- TAG_ENABLE (R439) -/
  | tagEnable (d : Nat) (v : Dword)
  /-- SET_DELAY (R448) -/
  | setDelay (d : Nat)
  /-- DELAYED_ITEM_RELEASE (R448) -/
  | delayedItemRelease (d : Nat)
  /-- SET_SLUICE (R449) -/
  | setSluice (d : Nat)
  /-- SET_LIST_HOLD (R449) -/
  | setListHold (d : Nat)
  /-- SET_REF_STRETCH (R449) -/
  | setRefStretch (d : Nat)
  /-- FLIP_DRAM (R450) -/
  | flipDram (d : Nat)
  /-- FLIP_SRAM (R450) -/
  | flipSram (d : Nat)
  /-- FORCE_FAULT (R451) -/
  | forceFault (d : Nat)
  /-- FORCE_FAULT_TIMEOUT (R451) -/
  | forceFaultTimeout (d : Nat)
  /-- FORCE_HELD (R452) -/
  | forceHeld (d : Nat)
  /-- FORCE_HELD_EXPIRE (R452) -/
  | forceHeldExpire (n : Nat)
  /-- CLEAR_ALL (R447) -/
  | clearAll (d : Nat)
  /-- SEED (R447) -/
  | seed (d : Nat)
  /-- RESET_N_ASSERT (R463) -/
  | resetNAssert
  /-- BROWNOUT (R464) -/
  | brownout (rail : Nat)
  /-- SELF_RESET_END (R464) -/
  | selfResetEnd
  /-- SYSCLK_LOSS (R467) -/
  | sysclkLoss
  /-- SERDES_REFCLK_LOSS (R467) -/
  | serdesRefclkLoss
  /-- SERDES_REFCLK_RETURN (R467) -/
  | serdesRefclkReturn
  /-- PCIE_REFCLK_LOSS (R467) -/
  | pcieRefclkLoss
  /-- TEMPERATURE_SAMPLE (R478) -/
  | temperatureSample (d : Nat) (t : BitVec 9)
  /-- TAP_RESET (R473) -/
  | tapReset
  /-- EXTEST (R474) -/
  | extest (pins shiftIn : Nat)
  /-- SAMPLE_PRELOAD (R474) -/
  | samplePreload (pins shiftIn : Nat)
  /-- IDCODE (R474) -/
  | idcode
  /-- HIGHZ (R474) -/
  | highz
  /-- CLAMP (R474) -/
  | clamp
  /-- BYPASS (R474) -/
  | bypass (code : Byte)
  /-- DBG (R475) -/
  | dbg (v : BitVec 96)
  /-- PCIE_LINK_UP (R416) -/
  | pcieLinkUp (second : Bool)
  /-- PCIE_POWER_STATE (R373) -/
  | pciePowerState (p : PowerState)
  /-- TIME_READ_LATCH (R266) -/
  | timeReadLatch (d : Nat)
  /-- PPS_IN_READ_LATCH (R267) -/
  | ppsInReadLatch
  /-- AXIS_VALUE_READ_LATCH (R274) -/
  | axisValueReadLatch (d n which : Nat)
  /-- WMK_TIME_READ_LATCH (R407) -/
  | wmkTimeReadLatch
deriving DecidableEq, Repr

end Sys2Proof
end

