-- ==== Sys2Proof/Decode.lean ====
section
/-! DEFINITION. Commands from words. No row of spec/opcode_table.json gives bits: a command of this block is an event, an access
or an engine's step, and no word spells it. The words of the part's own cores are decoded in Machine/Isa.lean. -/

namespace Sys2Proof

/-- The command that a word spells by the table's bits: none, since the table gives none. -/
def decodeTableWord (_nbits _w : Nat) : Option Instr := none

end Sys2Proof
end

