-- ==== Sys2Proof/Machine/Isa.lean ====
section
/-! DEFINITION. The 36-bit instruction words (R163 to R187): the instructions with their fields, their encoding, which field
values are legal (R165), and the decoder, total on every word. -/

namespace Sys2Proof.Machine

open Sys2Proof

/-- Arithmetic and logic of opcode 0o010 (R169). -/
inductive AluOp where
  | add | adc | sub | sbc | neg | abs | cmp | and | or | xor | andn | not | tst | mov | clz | popc
deriving DecidableEq, Repr

/-- Shifts and rotates of opcode 0o011 and 0o030 to 0o034 (R170, R173). -/
inductive ShOp where
  | shl | shr | sar | rol | ror
deriving DecidableEq, Repr

/-- Multiplications and divisions of opcode 0o012 (R171). -/
inductive MulOp where
  | mul | mull | mullu | divs | divu
deriving DecidableEq, Repr

/-- Immediate forms 0o020 to 0o027 (R173). -/
inductive ImmOp where
  | addi | subi | cmpi | andi | ori | xori | movi | movhi
deriving DecidableEq, Repr

/-- Packed-decimal operations of opcode 0o013 (R174). -/
inductive DecOp where
  | dadd | dadc | dsub | dsbc | dcmp | dadj | dsadj | bin2d | d2bin | dshl | dshr | dvalid
deriving DecidableEq, Repr

/-- Memory instructions 0o100 to 0o111 (R176). -/
inductive MemOp where
  | ldw | stw | ldp | stp | ldf | stf | ldo | sto | lda | sta
deriving DecidableEq, Repr

/-- An instruction of a core with its fields. -/
inductive CoreInstr where
  | alu (op : AluOp) (sys : Bool) (d a b : BitVec 5)
  | sh (op : ShOp) (d a b : BitVec 5)
  | mul (op : MulOp) (d a b : BitVec 5)
  | imm (op : ImmOp) (d a : BitVec 5) (imm : BitVec 18)
  | shi (op : ShOp) (d a : BitVec 5) (n : BitVec 8)
  | extu (d a : BitVec 5) (lsb wm1 : BitVec 6)
  | ins (d a : BitVec 5) (lsb wm1 : BitVec 6)
  | dec (op : DecOp) (d a b : BitVec 5)
  | cpw (sys : Bool) (d a b : BitVec 5)
  | cmps (a b : BitVec 5)
  | dstep (a b : BitVec 5)
  | mem (op : MemOp) (d a : BitVec 5) (p : Bool) (sz : BitVec 2) (disp : BitVec 15)
  | bcc (cond : BitVec 4) (off : BitVec 24)
  | jal (d : BitVec 5) (target : BitVec 16)
  | jr (a : BitVec 5)
  | chs (a : BitVec 5) (n : BitVec 6)
  | che (a : BitVec 5) (n : BitVec 6)
  | chr (d : BitVec 5) (n : BitVec 6)
  | wait (d a : BitVec 5)
  | waiti (d : BitVec 5) (src : BitVec 17)
  | opend (k : BitVec 3)
  | spawn (a b : BitVec 5) (g : BitVec 8)
  | enq (a : BitVec 5)
  | pgrow (a : BitVec 5)
  | ansc (a : BitVec 5)
  | tbl (d a : BitVec 5) (n : BitVec 6) (k : BitVec 2)
  | tblu (d a : BitVec 5) (n : BitVec 6) (k : BitVec 2) (cmd : BitVec 3)
  | hlock (n : BitVec 6)
  | hunlock (n : BitVec 6)
  | hgo (a : BitVec 5) (n : BitVec 6) (k : BitVec 3)
  | htest (d : BitVec 5) (k : BitVec 3)
  | crc (d a : BitVec 5) (n : BitVec 6) (k : BitVec 2)
  | crcp (d a : BitVec 5) (n : BitVec 6)
  | mfs (d : BitVec 5) (n : BitVec 6)
  | mts (n : BitVec 6) (a : BitVec 5)
  | rpt (a : BitVec 5)
  | tctl (a : BitVec 5) (abandon : Bool)
  | cctl (a : BitVec 5) (k : BitVec 8)
deriving DecidableEq, Repr

/-! ### Encoding (R163, R164) -/

/-- func of an arithmetic or logic row (R169). -/
def AluOp.func : AluOp → BitVec 12
  | .add => 1 | .adc => 2 | .sub => 3 | .sbc => 4 | .neg => 5 | .abs => 6 | .cmp => 7 | .and => 8 | .or => 9 | .xor => 10
  | .andn => 11 | .not => 12 | .tst => 13 | .mov => 14 | .clz => 15 | .popc => 16

/-- func of a shift row (R170). -/
def ShOp.func : ShOp → BitVec 12
  | .shl => 1 | .shr => 2 | .sar => 3 | .rol => 4 | .ror => 5

/-- Opcode of a shift's immediate form (R173). -/
def ShOp.opcodeI : ShOp → BitVec 8
  | .shl => 0o030 | .shr => 0o031 | .sar => 0o032 | .rol => 0o033 | .ror => 0o034

/-- func of a multiplication or division row (R171). -/
def MulOp.func : MulOp → BitVec 12
  | .mul => 1 | .mull => 2 | .mullu => 3 | .divs => 4 | .divu => 5

/-- Opcode of an immediate form (R173). -/
def ImmOp.opcode : ImmOp → BitVec 8
  | .addi => 0o020 | .subi => 0o021 | .cmpi => 0o022 | .andi => 0o023 | .ori => 0o024 | .xori => 0o025 | .movi => 0o026
  | .movhi => 0o027

/-- func of a packed-decimal row (R174). -/
def DecOp.func : DecOp → BitVec 12
  | .dadd => 1 | .dadc => 2 | .dsub => 3 | .dsbc => 4 | .dcmp => 5 | .dadj => 6 | .dsadj => 7 | .bin2d => 8 | .d2bin => 9
  | .dshl => 10 | .dshr => 11 | .dvalid => 12

/-- Opcode of a memory instruction (R176). -/
def MemOp.opcode : MemOp → BitVec 8
  | .ldw => 0o100 | .stw => 0o101 | .ldp => 0o102 | .stp => 0o103 | .ldf => 0o104 | .stf => 0o105 | .ldo => 0o106
  | .sto => 0o107 | .lda => 0o110 | .sta => 0o111

/-- One bit of a Bool. -/
def bit1 (b : Bool) : BitVec 1 := if b then 1 else 0

/-- Format A: opcode, d, a, b, and func with SYS in bit 12 (R163, R164). -/
def fmtA (op : BitVec 8) (d a b : BitVec 5) (sys : Bool) (func : BitVec 12) : Word := op ++ d ++ a ++ b ++ bit1 sys ++ func

/-- Format I (R163). -/
def fmtI (op : BitVec 8) (d a : BitVec 5) (imm : BitVec 18) : Word := op ++ d ++ a ++ imm

/-- Format M (R163). -/
def fmtM (op : BitVec 8) (d a : BitVec 5) (p : Bool) (sz : BitVec 2) (disp : BitVec 15) : Word :=
  op ++ d ++ a ++ bit1 p ++ sz ++ disp

/-- Format X (R163). -/
def fmtX (op : BitVec 8) (d a : BitVec 5) (n : BitVec 6) (k : BitVec 12) : Word := op ++ d ++ a ++ n ++ k

/-- Format B (R163). -/
def fmtB (op : BitVec 8) (cond : BitVec 4) (off : BitVec 24) : Word := op ++ cond ++ off

/-- The word of an instruction. -/
def encodeInstr : CoreInstr → Word
  | .alu op sys d a b => fmtA 0o010 d a b sys op.func
  | .sh op d a b => fmtA 0o011 d a b false op.func
  | .mul op d a b => fmtA 0o012 d a b false op.func
  | .imm op d a i => fmtI op.opcode d a i
  | .shi op d a n => fmtI op.opcodeI d a ((0 : BitVec 10) ++ n)
  | .extu d a lsb wm1 => fmtI 0o035 d a ((0 : BitVec 6) ++ wm1 ++ lsb)
  | .ins d a lsb wm1 => fmtI 0o036 d a ((0 : BitVec 6) ++ wm1 ++ lsb)
  | .dec op d a b => fmtA 0o013 d a b false op.func
  | .cpw sys d a b => fmtA 0o014 d a b sys 1
  | .cmps a b => fmtA 0o014 0 a b false 2
  | .dstep a b => fmtA 0o014 0 a b false 3
  | .mem op d a p sz disp => fmtM op.opcode d a p sz disp
  | .bcc cond off => fmtB 0o200 cond off
  | .jal d t => fmtI 0o201 d 0 ((0 : BitVec 2) ++ t)
  | .jr a => fmtA 0o202 0 a 0 false 0
  | .chs a n => fmtX 0o220 0 a n 0
  | .che a n => fmtX 0o221 0 a n 0
  | .chr d n => fmtX 0o222 d 0 n 0
  | .wait d a => fmtX 0o302 d a 0 0
  | .waiti d src => fmtI 0o303 d 0 ((0 : BitVec 1) ++ src)
  | .opend k => fmtX 0o260 0 0 0 ((0 : BitVec 9) ++ k)
  | .spawn a b g => fmtA 0o261 0 a b false ((0 : BitVec 4) ++ g)
  | .enq a => fmtX 0o262 0 a 0 0
  | .pgrow a => fmtX 0o263 0 a 0 0
  | .ansc a => fmtX 0o264 0 a 0 0
  | .tbl d a n k => fmtX 0o240 d a n ((0 : BitVec 10) ++ k)
  | .tblu d a n k cmd => fmtX 0o241 d a n ((0 : BitVec 7) ++ cmd ++ k)
  | .hlock n => fmtX 0o230 0 0 n 0
  | .hunlock n => fmtX 0o231 0 0 n 0
  | .hgo a n k => fmtX 0o232 0 a n ((0 : BitVec 9) ++ k)
  | .htest d k => fmtX 0o233 d 0 0 ((0 : BitVec 9) ++ k)
  | .crc d a n k => fmtX 0o250 d a n ((0 : BitVec 10) ++ k)
  | .crcp d a n => fmtX 0o251 d a n 0
  | .mfs d n => fmtX 0o300 d 0 n 0
  | .mts n a => fmtX 0o301 0 a n 0
  | .rpt a => fmtX 0o304 0 a 0 0
  | .tctl a ab => fmtX 0o305 0 a 0 ((0 : BitVec 11) ++ bit1 ab)
  | .cctl a k => fmtX 0o306 0 a 0 ((0 : BitVec 4) ++ k)

/-! ### Legality (R165) -/

/-- A system register that an instruction may write (R156). -/
def sysRw (n : BitVec 6) : Bool := n.ult 4 || n = 6 || n = 7 || n = 8 || n = 10 || n = 11

/-- A destination of an A-format instruction: with SYS a writable system register (R156, R164). -/
def dstOk (sys : Bool) (d : BitVec 5) : Bool := !sys || sysRw (d.zeroExtend 6)

/-- SZ that a memory instruction takes (R176). -/
def MemOp.szOk (op : MemOp) (sz : BitVec 2) : Bool :=
  match op with
  | .ldp | .stp => sz ≠ 3
  | .lda | .sta => sz = 2
  | _ => sz = 3

/-- P = 1 is allowed (R176). -/
def MemOp.post : MemOp → Bool
  | .ldw | .stw | .ldp | .stp => true
  | _ => false

/-- Fields that an instruction's row leaves legal (R165). -/
def legalInstr : CoreInstr → Bool
  | .alu op sys d _ b =>
    (match op with
      | .cmp | .tst => d = 0 && !sys
      | .neg | .abs | .not | .mov | .clz | .popc => b = 0
      | _ => true) && dstOk sys d
  | .sh .. => true
  | .mul op d _ _ => op = .mul || d.getLsbD 0 = false
  | .imm op d a _ => (match op with | .cmpi => d = 0 | .movi => a = 0 | _ => true)
  | .shi .. => true
  | .extu _ _ lsb wm1 => lsb.toNat + wm1.toNat + 1 ≤ 36
  | .ins _ _ lsb wm1 => lsb.toNat + wm1.toNat + 1 ≤ 36
  | .dec op d _ b =>
    match op with
    | .dcmp => d = 0
    | .dvalid => d = 0 && b = 0
    | .dadj | .dsadj | .bin2d | .d2bin => b = 0
    | _ => true
  | .cpw sys d a b => dstOk sys d && (sys || (d ≠ a && d ≠ b))
  | .cmps .. => true
  | .dstep .. => true
  | .mem op d a p sz disp =>
    op.szOk sz && (!p || (op.post && d ≠ a)) &&
      (match op with | .ldf | .stf => disp.ult 16 | _ => true)
  | .bcc .. => true
  | .jal .. => true
  | .jr _ => true
  | .chs _ n => n.ult 40
  | .che _ n => n.ult 40
  | .chr d n => n.ult 40 && d.ult 24
  | .wait .. => true
  | .waiti _ src => src.extractLsb' 15 2 ≠ 3
  | .opend _ => true
  | .spawn .. => true
  | .enq a => a.ult 30
  | .pgrow _ => true
  | .ansc _ => true
  | .tbl d a _ k => d.ult 30 && a.toNat + k.toNat ≤ 31
  | .tblu d a _ k cmd =>
    a.toNat + k.toNat ≤ 31 &&
      (((cmd = 1 || cmd = 2) && d ≠ 0 && d.ult 30) || ((cmd = 3 || cmd = 4) && d = 0))
  | .hlock n => n.ult 3
  | .hunlock n => n.ult 3
  | .hgo _ n _ => n.ult 3
  | .htest .. => true
  | .crc _ _ n k => n.ult 4 && k ≠ 3
  | .crcp d a n => n.ult 4 && d ≠ a
  | .mfs _ n => n.ult 16
  | .mts n _ => sysRw n
  | .rpt _ => true
  | .tctl .. => true
  | .cctl .. => true

/-! ### Decoding -/

/-- The operation of func, in the order of a table that starts at func 1. -/
def fromFunc {α : Type} (ops : List α) (f : BitVec 12) : Option α := if f = 0 then none else ops[f.toNat - 1]?

/-- The instruction whose opcode and func a word has, with its fields taken where they lie. -/
def parseWord (w : Word) : Option CoreInstr :=
  let op := w.extractLsb' 28 8
  let d := w.extractLsb' 23 5
  let a := w.extractLsb' 18 5
  let b := w.extractLsb' 13 5
  let sys := w.getLsbD 12
  let func := w.extractLsb' 0 12
  let imm := w.extractLsb' 0 18
  let n := w.extractLsb' 12 6
  match op.toNat with
  | 0o010 => (fromFunc [.add, .adc, .sub, .sbc, .neg, .abs, .cmp, .and, .or, .xor, .andn, .not, .tst, .mov, .clz, .popc]
      func).map fun o => .alu o sys d a b
  | 0o011 => (fromFunc [.shl, .shr, .sar, .rol, .ror] func).map fun o => .sh o d a b
  | 0o012 => (fromFunc [.mul, .mull, .mullu, .divs, .divu] func).map fun o => .mul o d a b
  | 0o013 => (fromFunc [.dadd, .dadc, .dsub, .dsbc, .dcmp, .dadj, .dsadj, .bin2d, .d2bin, .dshl, .dshr, .dvalid]
      func).map fun o => .dec o d a b
  | 0o014 => if func = 1 then some (.cpw sys d a b) else if func = 2 then some (.cmps a b)
      else if func = 3 then some (.dstep a b) else none
  | 0o020 => some (.imm .addi d a imm)
  | 0o021 => some (.imm .subi d a imm)
  | 0o022 => some (.imm .cmpi d a imm)
  | 0o023 => some (.imm .andi d a imm)
  | 0o024 => some (.imm .ori d a imm)
  | 0o025 => some (.imm .xori d a imm)
  | 0o026 => some (.imm .movi d a imm)
  | 0o027 => some (.imm .movhi d a imm)
  | 0o030 => some (.shi .shl d a (w.extractLsb' 0 8))
  | 0o031 => some (.shi .shr d a (w.extractLsb' 0 8))
  | 0o032 => some (.shi .sar d a (w.extractLsb' 0 8))
  | 0o033 => some (.shi .rol d a (w.extractLsb' 0 8))
  | 0o034 => some (.shi .ror d a (w.extractLsb' 0 8))
  | 0o035 => some (.extu d a (w.extractLsb' 0 6) (w.extractLsb' 6 6))
  | 0o036 => some (.ins d a (w.extractLsb' 0 6) (w.extractLsb' 6 6))
  | 0o100 => some (.mem .ldw d a (w.getLsbD 17) (w.extractLsb' 15 2) (w.extractLsb' 0 15))
  | 0o101 => some (.mem .stw d a (w.getLsbD 17) (w.extractLsb' 15 2) (w.extractLsb' 0 15))
  | 0o102 => some (.mem .ldp d a (w.getLsbD 17) (w.extractLsb' 15 2) (w.extractLsb' 0 15))
  | 0o103 => some (.mem .stp d a (w.getLsbD 17) (w.extractLsb' 15 2) (w.extractLsb' 0 15))
  | 0o104 => some (.mem .ldf d a (w.getLsbD 17) (w.extractLsb' 15 2) (w.extractLsb' 0 15))
  | 0o105 => some (.mem .stf d a (w.getLsbD 17) (w.extractLsb' 15 2) (w.extractLsb' 0 15))
  | 0o106 => some (.mem .ldo d a (w.getLsbD 17) (w.extractLsb' 15 2) (w.extractLsb' 0 15))
  | 0o107 => some (.mem .sto d a (w.getLsbD 17) (w.extractLsb' 15 2) (w.extractLsb' 0 15))
  | 0o110 => some (.mem .lda d a (w.getLsbD 17) (w.extractLsb' 15 2) (w.extractLsb' 0 15))
  | 0o111 => some (.mem .sta d a (w.getLsbD 17) (w.extractLsb' 15 2) (w.extractLsb' 0 15))
  | 0o200 => some (.bcc (w.extractLsb' 24 4) (w.extractLsb' 0 24))
  | 0o201 => some (.jal d (w.extractLsb' 0 16))
  | 0o202 => some (.jr a)
  | 0o220 => some (.chs a n)
  | 0o221 => some (.che a n)
  | 0o222 => some (.chr d n)
  | 0o230 => some (.hlock n)
  | 0o231 => some (.hunlock n)
  | 0o232 => some (.hgo a n (w.extractLsb' 0 3))
  | 0o233 => some (.htest d (w.extractLsb' 0 3))
  | 0o240 => some (.tbl d a n (w.extractLsb' 0 2))
  | 0o241 => some (.tblu d a n (w.extractLsb' 0 2) (w.extractLsb' 2 3))
  | 0o250 => some (.crc d a n (w.extractLsb' 0 2))
  | 0o251 => some (.crcp d a n)
  | 0o260 => some (.opend (w.extractLsb' 0 3))
  | 0o261 => some (.spawn a b (w.extractLsb' 0 8))
  | 0o262 => some (.enq a)
  | 0o263 => some (.pgrow a)
  | 0o264 => some (.ansc a)
  | 0o300 => some (.mfs d n)
  | 0o301 => some (.mts n a)
  | 0o302 => some (.wait d a)
  | 0o303 => some (.waiti d (w.extractLsb' 0 17))
  | 0o304 => some (.rpt a)
  | 0o305 => some (.tctl a (w.getLsbD 0))
  | 0o306 => some (.cctl a (w.extractLsb' 0 8))
  | _ => none

/-- The instruction of a word; none is an illegal word: an opcode or func that no table gives, a nonzero unused field or
reserved bit, or an operand value marked illegal (R165). -/
def decodeWord (w : Word) : Option CoreInstr :=
  match parseWord w with
  | some i => if encodeInstr i = w && legalInstr i then some i else none
  | none => none

/-- The instructions that RPT repeats (R187, R206). -/
def repeatable : CoreInstr → Bool
  | .cpw sys d _ _ => !(sys && d = 0)
  | .cmps .. => true
  | .dstep .. => true
  | .crcp .. => true
  | .mem op _ _ p _ _ => op.post && p
  | _ => false

end Sys2Proof.Machine
end

