-- ==== Sys2Proof/Config.lean ====
section
/-! DEFINITION. The free values: what the manual leaves open and no step fixes. None has a body, so no proof can lean on
a number. Each is named in notes/assumptions. -/

namespace Sys2Proof.Config

/-- The n-th choice the manual leaves to the part (R58 cell order, slot and record choice). Log entry 3. -/
opaque freeNat : Nat → Nat

/-- The n-th value that the manual does not state. Log entry 4. -/
opaque freeWord : Nat → BitVec 64

/-- The private device key, sealed in the identity block and readable by nothing (R408). Log entry 6. -/
opaque deviceKey : Nat

end Sys2Proof.Config
end

