-- ==== Sys2Proof/Machine/RegMap.lean ====
section
/-! DEFINITION. The register map (R8 to R12): every host register of a die window with its offset, its copies, its reset
value and which of its bits have which access code (R9). The rows are those of the register maps at the end of the
chapters; a row's fields that the part computes are RO here and read live in Machine/HostRegs.lean. -/

namespace Sys2Proof.Machine

/-- The registers of a die window. A register with copies (per port, per queue) is one name with indices. -/
inductive RegId where
  /-- TWX.TOPOLOGY (chapter 01) -/
  | twxTopology
  /-- TWX.LINK_STAT0–2 (chapter 01) -/
  | twxLinkStat
  /-- TWX.LINK_CTL0–2 (chapter 01) -/
  | twxLinkCtl
  /-- TWX.ROUTE0–7 (chapter 01) -/
  | twxRoute
  /-- TWX.EVENT (chapter 01) -/
  | twxEvent
  /-- TWX.EVENT_EN (chapter 01) -/
  | twxEventEn
  /-- TWX.CROSS_MAX (chapter 01) -/
  | twxCrossMax
  /-- HOP.PORT_CFG0–31 (chapter 02) -/
  | hopPortCfg
  /-- HOP.PORT_DEF0–31 (chapter 02) -/
  | hopPortDef
  /-- HOP.PORT_QUOTA0–31, HOP.PORT_XOFF0–31, HOP.PORT_XON0–31 (chapter 02) -/
  | hopPortQuota
  /-- HOP.PORT_QUOTA0–31, HOP.PORT_XOFF0–31, HOP.PORT_XON0–31 (chapter 02) -/
  | hopPortXoff
  /-- HOP.PORT_QUOTA0–31, HOP.PORT_XOFF0–31, HOP.PORT_XON0–31 (chapter 02) -/
  | hopPortXon
  /-- HOP.PORT_OCC0–31 (chapter 02) -/
  | hopPortOcc
  /-- HOP.PFC_LIM0–9 (chapter 02) -/
  | hopPfcLim
  /-- HOP.STAT (chapter 02) -/
  | hopStat
  /-- HOP.TICKETS (chapter 02) -/
  | hopTickets
  /-- HOP.SEL_MATCH0–63 (chapter 02) -/
  | hopSelMatch
  /-- HOP.SEL_ACT0–63 (chapter 02) -/
  | hopSelAct
  /-- HOP.PROF_CTL0–63 (chapter 02) -/
  | hopProfCtl
  /-- HOP.PROF_GRAPH0–63 (chapter 02) -/
  | hopProfGraph
  /-- HOP.PROF_SEED0–63 (chapter 02) -/
  | hopProfSeed
  /-- HOP.PROF_FLD (chapter 02) -/
  | hopProfFld
  /-- HOP.FP0–4095 (chapter 02) -/
  | hopFp
  /-- MAC.PCFG (chapter 02) -/
  | macPcfg
  /-- MAC.PSTAT (chapter 02) -/
  | macPstat
  /-- MAC.FC (chapter 02) -/
  | macFc
  /-- MAC.FRM (chapter 02) -/
  | macFrm
  /-- MAC.TSADJ (chapter 02) -/
  | macTsadj
  /-- TGP.CFG (chapter 02) -/
  | tgpCfg
  /-- TGP.RATE (chapter 02) -/
  | tgpRate
  /-- TGP.GAP (chapter 02) -/
  | tgpGap
  /-- TGP.STAT (chapter 02) -/
  | tgpStat
  /-- DSP.POOL_CFG (chapter 03) -/
  | dspPoolCfg
  /-- DSP.POOL_STAT (chapter 03) -/
  | dspPoolStat
  /-- DSP.INST_STAT (chapter 03) -/
  | dspInstStat
  /-- DSP.GROUP_LO0–15, DSP.GROUP_HI0–15 (chapter 03) -/
  | dspGroupLo
  /-- DSP.GROUP_LO0–15, DSP.GROUP_HI0–15 (chapter 03) -/
  | dspGroupHi
  /-- DSP.LIST_CFG0–15 (chapter 03) -/
  | dspListCfg
  /-- DSP.LIST_STAT0–15 (chapter 03) -/
  | dspListStat
  /-- DSP.GRAPH_CTL0–255 (chapter 03) -/
  | dspGraphCtl
  /-- DSP.GS_ADDR (chapter 03) -/
  | dspGsAddr
  /-- DSP.GS_DATA (chapter 03) -/
  | dspGsData
  /-- DSP.EVENT (chapter 03) -/
  | dspEvent
  /-- DSP.EVENT_EN (chapter 03) -/
  | dspEventEn
  /-- DSP.LAST_FAULT (chapter 03) -/
  | dspLastFault
  /-- CLU.CLU_CFG (chapter 04) -/
  | cluCfg
  /-- CLU.CORE_CFG (chapter 04) -/
  | cluCoreCfg
  /-- CLU.CORE_STAT (chapter 04) -/
  | cluCoreStat
  /-- CLU.CORE_FAULT (chapter 04) -/
  | cluCoreFault
  /-- CLU.CORE_EVENT (chapter 04) -/
  | cluCoreEvent
  /-- CLU.THREAD_STAT0–15 (chapter 04) -/
  | cluThreadStat
  /-- CLU.THREAD_MAP0–15 (chapter 04) -/
  | cluThreadMap
  /-- CLU.IS_ADDR (chapter 05) -/
  | cluIsAddr
  /-- CLU.IS_DATA (chapter 05) -/
  | cluIsData
  /-- CLU.CS_ADDR (chapter 05) -/
  | cluCsAddr
  /-- CLU.CS_DATA (chapter 05) -/
  | cluCsData
  /-- HLP.ENG_BASE (chapter 07) -/
  | hlpEngBase
  /-- HLP.ENG_LAST (chapter 07) -/
  | hlpEngLast
  /-- HLP.LOCK0–2 (chapter 07) -/
  | hlpLock
  /-- HLP.WAIT0–2 (chapter 07) -/
  | hlpWait
  /-- HLP.CTL (chapter 07) -/
  | hlpCtl
  /-- HLP.EVENT (chapter 07) -/
  | hlpEvent
  /-- HLP.EVENT_EN (chapter 07) -/
  | hlpEventEn
  /-- HLP.LAST_ERR (chapter 07) -/
  | hlpLastErr
  /-- TBL.TAB_CTL0–63 (chapter 08) -/
  | tblTabCtl
  /-- TBL.TAB_CLS0–63 (chapter 08) -/
  | tblTabCls
  /-- TBL.BODY_BASE0–63 (chapter 08) -/
  | tblBodyBase
  /-- TBL.BODY_CFG0–63 (chapter 08) -/
  | tblBodyCfg
  /-- TBL.BODY_SEED0–63 (chapter 08) -/
  | tblBodySeed
  /-- TBL.BODY_DRAM0–63 (chapter 08) -/
  | tblBodyDram
  /-- TBL.BODY_GEN0–63 (chapter 08) -/
  | tblBodyGen
  /-- TBL.BODY_STAT0–63 (chapter 08) -/
  | tblBodyStat
  /-- TBL.BODY_LAYBY0–63 (chapter 08) -/
  | tblBodyLayby
  /-- TBL.INIT (chapter 08) -/
  | tblInit
  /-- TBL.INIT_STAT (chapter 08) -/
  | tblInitStat
  /-- TBL.LAYBY_STAT (chapter 08) -/
  | tblLaybyStat
  /-- TBL.LAYBY_WARN (chapter 08) -/
  | tblLaybyWarn
  /-- TBL.EVENT (chapter 08) -/
  | tblEvent
  /-- TBL.EVENT_EN (chapter 08) -/
  | tblEventEn
  /-- TBL.LAST_ERR (chapter 08) -/
  | tblLastErr
  /-- TBL.LAST_BUCKET (chapter 08) -/
  | tblLastBucket
  /-- FLC.CTX_ADDR (chapter 08) -/
  | flcCtxAddr
  /-- FLC.CTX_DATA (chapter 08) -/
  | flcCtxData
  /-- MLS.TIME_LO, MLS.TIME_HI (chapter 09) -/
  | mlsTimeLo
  /-- MLS.TIME_LO, MLS.TIME_HI (chapter 09) -/
  | mlsTimeHi
  /-- MLS.TIME_RATE (chapter 09) -/
  | mlsTimeRate
  /-- MLS.PPS_CFG (chapter 09) -/
  | mlsPpsCfg
  /-- MLS.PPS_IN_LO, MLS.PPS_IN_HI (chapter 09) -/
  | mlsPpsInLo
  /-- MLS.PPS_IN_LO, MLS.PPS_IN_HI (chapter 09) -/
  | mlsPpsInHi
  /-- MLS.INPUT_CFG0–9 (chapter 09) -/
  | mlsInputCfg
  /-- MLS.AXIS_CFG1–7 (chapter 09) -/
  | mlsAxisCfg
  /-- MLS.AXIS_FRAC1–7 (chapter 09) -/
  | mlsAxisFrac
  /-- MLS.AXIS_STEP1–7, MLS.AXIS_INIT1–7, MLS.AXIS_REF1–7 (chapter 09) -/
  | mlsAxisStep
  /-- MLS.AXIS_STEP1–7, MLS.AXIS_INIT1–7, MLS.AXIS_REF1–7 (chapter 09) -/
  | mlsAxisInit
  /-- MLS.AXIS_STEP1–7, MLS.AXIS_INIT1–7, MLS.AXIS_REF1–7 (chapter 09) -/
  | mlsAxisRef
  /-- MLS.AXIS_STAT1–7 (chapter 09) -/
  | mlsAxisStat
  /-- MLS.AXIS_PERIOD1–7 (chapter 09) -/
  | mlsAxisPeriod
  /-- MLS.AXIS_VAL1–7, MLS.AXIS_EDGE1–7, MLS.AXIS_RATE1–7 (chapter 09) -/
  | mlsAxisVal
  /-- MLS.AXIS_VAL1–7, MLS.AXIS_EDGE1–7, MLS.AXIS_RATE1–7 (chapter 09) -/
  | mlsAxisEdge
  /-- MLS.AXIS_VAL1–7, MLS.AXIS_EDGE1–7, MLS.AXIS_RATE1–7 (chapter 09) -/
  | mlsAxisRate
  /-- MLS.MS_ADDR (chapter 09) -/
  | mlsMsAddr
  /-- MLS.MS_DATA (chapter 09) -/
  | mlsMsData
  /-- MLS.CAP_INFO (chapter 09) -/
  | mlsCapInfo
  /-- MLS.CAP_TIME_LO, MLS.CAP_TIME_HI (chapter 09) -/
  | mlsCapTimeLo
  /-- MLS.CAP_TIME_LO, MLS.CAP_TIME_HI (chapter 09) -/
  | mlsCapTimeHi
  /-- MLS.PIN_CFG (chapter 09) -/
  | mlsPinCfg
  /-- MLS.JRN_CTL (chapter 09) -/
  | mlsJrnCtl
  /-- MLS.EVENT (chapter 09) -/
  | mlsEvent
  /-- MLS.EVENT_EN (chapter 09) -/
  | mlsEventEn
  /-- MLS.SEND_STAT (chapter 09) -/
  | mlsSendStat
  /-- EGR.Q_CFG0–4095 (chapter 10) -/
  | egrQCfg
  /-- EGR.Q_LIM0–4095 (chapter 10) -/
  | egrQLim
  /-- EGR.Q_STAT0–4095 (chapter 10) -/
  | egrQStat
  /-- EGR.Q_SHAPE0–511 (chapter 10) -/
  | egrQShape
  /-- EGR.MGATE0–31 (chapter 10) -/
  | egrMgate
  /-- EGR.GATE_STAT0–31 (chapter 10) -/
  | egrGateStat
  /-- EGR.SPILL (chapter 10) -/
  | egrSpill
  /-- EGR.WEIR (chapter 10) -/
  | egrWeir
  /-- EGR.EVENT (chapter 10) -/
  | egrEvent
  /-- EGR.EVENT_EN (chapter 10) -/
  | egrEventEn
  /-- EGR.LAST_DROP (chapter 10) -/
  | egrLastDrop
  /-- EGR.GL_ADDR (chapter 10) -/
  | egrGlAddr
  /-- EGR.GL_DATA (chapter 10) -/
  | egrGlData
  /-- EGR.GL_CFG (chapter 10) -/
  | egrGlCfg
  /-- EGR.GL_INIT (chapter 10) -/
  | egrGlInit
  /-- EGR.GL_BASE_LO, GL_BASE_HI, GL_CYCLE, GL_END_LO, GL_END_HI (chapter 10) -/
  | egrGlBaseLo
  /-- EGR.GL_BASE_LO, GL_BASE_HI, GL_CYCLE, GL_END_LO, GL_END_HI (chapter 10) -/
  | egrGlBaseHi
  /-- EGR.GL_BASE_LO, GL_BASE_HI, GL_CYCLE, GL_END_LO, GL_END_HI (chapter 10) -/
  | egrGlCycle
  /-- EGR.GL_BASE_LO, GL_BASE_HI, GL_CYCLE, GL_END_LO, GL_END_HI (chapter 10) -/
  | egrGlEndLo
  /-- EGR.GL_BASE_LO, GL_BASE_HI, GL_CYCLE, GL_END_LO, GL_END_HI (chapter 10) -/
  | egrGlEndHi
  /-- EGR.GL_STAT (chapter 10) -/
  | egrGlStat
  /-- DMC.CTL (chapter 11) -/
  | dmcCtl
  /-- DMC.STAT (chapter 11) -/
  | dmcStat
  /-- DMC.GEOM (chapter 11) -/
  | dmcGeom
  /-- DMC.TIMING0 (chapter 11) -/
  | dmcTiming0
  /-- DMC.TIMING1 (chapter 11) -/
  | dmcTiming1
  /-- DMC.MAP_RANK_LO/HI, MAP_BG0_LO/HI, MAP_BG1_LO/HI, MAP_BG2_LO/HI, MAP_BA0_LO/HI, MAP_BA1_LO/HI (chapter 11) -/
  | dmcMapLo
  /-- DMC.MAP_RANK_LO/HI, MAP_BG0_LO/HI, MAP_BG1_LO/HI, MAP_BG2_LO/HI, MAP_BA0_LO/HI, MAP_BA1_LO/HI (chapter 11) -/
  | dmcMapHi
  /-- DMC.SR_CFG (chapter 11) -/
  | dmcSrCfg
  /-- DMC.SCHED (chapter 11) -/
  | dmcSched
  /-- DMC.PANIC_EN (chapter 11) -/
  | dmcPanicEn
  /-- DMC.REF_STAT (chapter 11) -/
  | dmcRefStat
  /-- DMC.TEMP (chapter 11) -/
  | dmcTemp
  /-- DMC.EVENT (chapter 11) -/
  | dmcEvent
  /-- DMC.EVENT_EN (chapter 11) -/
  | dmcEventEn
  /-- ECC.CFG (chapter 12) -/
  | eccCfg
  /-- ECC.BOLT_CFG (chapter 12) -/
  | eccBoltCfg
  /-- ECC.BOLT_POS (chapter 12) -/
  | eccBoltPos
  /-- ECC.BOLT_PASS (chapter 12) -/
  | eccBoltPass
  /-- ECC.REVISIT (chapter 12) -/
  | eccRevisit
  /-- ECC.ERR_LO (chapter 12) -/
  | eccErrLo
  /-- ECC.ERR_HI (chapter 12) -/
  | eccErrHi
  /-- ECC.RING_STAT (chapter 12) -/
  | eccRingStat
  /-- ECC.DEV_WARN (chapter 12) -/
  | eccDevWarn
  /-- ECC.DEV_CE0–39 (chapter 12) -/
  | eccDevCe
  /-- ECC.EVENT (chapter 12) -/
  | eccEvent
  /-- ECC.EVENT_EN (chapter 12) -/
  | eccEventEn
  /-- DCTL.PKG_ID_LO, PKG_ID_HI (chapter 13) -/
  | dctlPkgId
  /-- DCTL.VARIANT (chapter 13) -/
  | dctlVariant
  /-- DCTL.WMK_ADDR (chapter 13) -/
  | dctlWmkAddr
  /-- DCTL.DIE_ID (chapter 13) -/
  | dctlDieId
  /-- DCTL.PART_STATE (chapter 13) -/
  | dctlPartState
  /-- DCTL.EVENT (chapter 13) -/
  | dctlEvent
  /-- DCTL.EVENT_EN (chapter 13) -/
  | dctlEventEn
  /-- DCTL.DBASE_LO/HI, CBASE_LO/HI (chapter 13) -/
  | ringDbaseLo
  /-- DCTL.DBASE_LO/HI, CBASE_LO/HI (chapter 13) -/
  | ringDbaseHi
  /-- DCTL.DBASE_LO/HI, CBASE_LO/HI (chapter 13) -/
  | ringCbaseLo
  /-- DCTL.DBASE_LO/HI, CBASE_LO/HI (chapter 13) -/
  | ringCbaseHi
  /-- DCTL.CTL (chapter 13) -/
  | ringCtl
  /-- DCTL.D_TAIL, D_HEAD, C_TAIL, C_HEAD (chapter 13) -/
  | ringTail
  /-- DCTL.D_TAIL, D_HEAD, C_TAIL, C_HEAD (chapter 13) -/
  | ringHead
  /-- DCTL.D_TAIL, D_HEAD, C_TAIL, C_HEAD (chapter 13) -/
  | ringCTail
  /-- DCTL.D_TAIL, D_HEAD, C_TAIL, C_HEAD (chapter 13) -/
  | ringCHead
  /-- DCTL.DBASE_LO/HI, CBASE_LO/HI (chapter 13) -/
  | htxDbaseLo
  /-- DCTL.DBASE_LO/HI, CBASE_LO/HI (chapter 13) -/
  | htxDbaseHi
  /-- DCTL.DBASE_LO/HI, CBASE_LO/HI (chapter 13) -/
  | htxCbaseLo
  /-- DCTL.DBASE_LO/HI, CBASE_LO/HI (chapter 13) -/
  | htxCbaseHi
  /-- DCTL.CTL (chapter 13) -/
  | htxCtl
  /-- DCTL.D_TAIL, D_HEAD, C_TAIL, C_HEAD (chapter 13) -/
  | htxTail
  /-- DCTL.D_TAIL, D_HEAD, C_TAIL, C_HEAD (chapter 13) -/
  | htxHead
  /-- DCTL.D_TAIL, D_HEAD, C_TAIL, C_HEAD (chapter 13) -/
  | htxCTail
  /-- DCTL.D_TAIL, D_HEAD, C_TAIL, C_HEAD (chapter 13) -/
  | htxHeadAck
  /-- DCTL.DBASE_LO/HI, CBASE_LO/HI (chapter 13) -/
  | hrxDbaseLo
  /-- DCTL.DBASE_LO/HI, CBASE_LO/HI (chapter 13) -/
  | hrxDbaseHi
  /-- DCTL.DBASE_LO/HI, CBASE_LO/HI (chapter 13) -/
  | hrxCbaseLo
  /-- DCTL.DBASE_LO/HI, CBASE_LO/HI (chapter 13) -/
  | hrxCbaseHi
  /-- DCTL.CTL (chapter 13) -/
  | hrxCtl
  /-- DCTL.D_TAIL, D_HEAD, C_TAIL, C_HEAD (chapter 13) -/
  | hrxTail
  /-- DCTL.D_TAIL, D_HEAD, C_TAIL, C_HEAD (chapter 13) -/
  | hrxHead
  /-- DCTL.D_TAIL, D_HEAD, C_TAIL, C_HEAD (chapter 13) -/
  | hrxCTail
  /-- DCTL.D_TAIL, D_HEAD, C_TAIL, C_HEAD (chapter 13) -/
  | hrxHeadAck
  /-- DCTL.HQ_EVENT_LO, HQ_EVENT_HI (chapter 13) -/
  | dctlHqEvent
  /-- DCTL.MSIX_TABLE, MSIX_PBA (chapter 13) -/
  | dctlMsixTable
  /-- DCTL.MSIX_TABLE, MSIX_PBA (chapter 13) -/
  | dctlMsixPba
  /-- DCTL.BOOT_STAT (chapter 14) -/
  | dctlBootStat
  /-- DCTL.UNLOCK (chapter 14) -/
  | dctlUnlock
  /-- DCTL.WMK_CTL (chapter 14) -/
  | dctlWmkCtl
  /-- DCTL.WMK_STAT (chapter 14) -/
  | dctlWmkStat
  /-- DCTL.WMK_TM_LO, WMK_TM_HI, WMK_TL_LO, WMK_TL_HI (chapter 14) -/
  | dctlWmkTime
  /-- DCTL.JRN_STAT (chapter 14) -/
  | dctlJrnStat
  /-- DCTL.JRN_ADDR (chapter 14) -/
  | dctlJrnAddr
  /-- DCTL.JRN_DATA (chapter 14) -/
  | dctlJrnData
  /-- ANS.CFG (chapter 13) -/
  | ansCfg
  /-- ANS.STAT (chapter 13) -/
  | ansStat
  /-- ANS.PENDING (chapter 13) -/
  | ansPending
  /-- ANS.PUBLISH (chapter 13) -/
  | ansPublish
  /-- ANS.HADDR (chapter 13) -/
  | ansHaddr
  /-- ANS.HDATA (chapter 13) -/
  | ansHdata
  /-- ANS.EVENT (chapter 13) -/
  | ansEvent
  /-- ANS.EVENT_EN (chapter 13) -/
  | ansEventEn
  /-- TLY.SNAP_CFG (chapter 15) -/
  | tlySnapCfg
  /-- TLY.SNAP_BASE_LO, SNAP_BASE_HI (chapter 15) -/
  | tlySnapBaseLo
  /-- TLY.SNAP_BASE_LO, SNAP_BASE_HI (chapter 15) -/
  | tlySnapBaseHi
  /-- TLY.SNAP_RING (chapter 15) -/
  | tlySnapRing
  /-- TLY.SNAP_TAIL, SNAP_HEAD, SNAP_SEQ (chapter 15) -/
  | tlySnapTail
  /-- TLY.SNAP_TAIL, SNAP_HEAD, SNAP_SEQ (chapter 15) -/
  | tlySnapHead
  /-- TLY.SNAP_TAIL, SNAP_HEAD, SNAP_SEQ (chapter 15) -/
  | tlySnapSeq
  /-- TLY.SMP_CFG0–47 (chapter 15) -/
  | tlySmpCfg
  /-- TLY.SMP_MASK0–47 (chapter 15) -/
  | tlySmpMask
  /-- TLY.SMP_LEVEL0–47 (chapter 15) -/
  | tlySmpLevel
  /-- TLY.SMP_BASE_LO, SMP_BASE_HI (chapter 15) -/
  | tlySmpBaseLo
  /-- TLY.SMP_BASE_LO, SMP_BASE_HI (chapter 15) -/
  | tlySmpBaseHi
  /-- TLY.SMP_RING (chapter 15) -/
  | tlySmpRing
  /-- TLY.SMP_TAIL, SMP_HEAD (chapter 15) -/
  | tlySmpTail
  /-- TLY.SMP_TAIL, SMP_HEAD (chapter 15) -/
  | tlySmpHead
  /-- TLY.SMP_WEIR (chapter 15) -/
  | tlySmpWeir
  /-- TLY.TAG_CFG (chapter 15) -/
  | tlyTagCfg
  /-- TLY.TAG_SEED (chapter 15) -/
  | tlyTagSeed
  /-- TLY.TAG_STAT (chapter 15) -/
  | tlyTagStat
  /-- TLY.CHAIN (chapter 15) -/
  | tlyChain
  /-- TLY.ZERO (chapter 15) -/
  | tlyZero
  /-- TLY.OVF_CLR (chapter 15) -/
  | tlyOvfClr
  /-- TLY.READ_ADDR (chapter 15) -/
  | tlyReadAddr
  /-- TLY.READ_LO, READ_HI (chapter 15) -/
  | tlyReadLo
  /-- TLY.READ_LO, READ_HI (chapter 15) -/
  | tlyReadHi
  /-- TLY.EVENT (chapter 15) -/
  | tlyEvent
  /-- TLY.EVENT_EN (chapter 15) -/
  | tlyEventEn
  /-- GRT.STAT (chapter 16) -/
  | grtStat
  /-- GRT.DELAY0–3 (chapter 16) -/
  | grtDelay
  /-- GRT.SLUICE (chapter 16) -/
  | grtSluice
  /-- GRT.HOLD (chapter 16) -/
  | grtHold
  /-- GRT.STRETCH (chapter 16) -/
  | grtStretch
  /-- GRT.AXES (chapter 16) -/
  | grtAxes
  /-- GRT.LFSR (chapter 16) -/
  | grtLfsr
  /-- GRT.LAST (chapter 16) -/
  | grtLast
  /-- GRT.EVENT (chapter 16) -/
  | grtEvent
  /-- GRT.EVENT_EN (chapter 16) -/
  | grtEventEn
  /-- DCTL.RESET_CAUSE (chapter 17) -/
  | dctlResetCause
  /-- DCTL.CLK_STAT (chapter 17) -/
  | dctlClkStat
  /-- DCTL.TEMP (chapter 17) -/
  | dctlTemp
  /-- DCTL.THERM (chapter 17) -/
  | dctlTherm
deriving DecidableEq, Repr

/-- One row of the register map. -/
structure RegRow where
  /-- offset in the die window of the first copy (R12) -/
  base : Nat
  /-- copies: count and stride of each index -/
  dims : List (Nat × Nat)
  /-- an 8-byte slot (R11) or a dword -/
  slot : Bool
  /-- 0 every die, 1 die 0 only, 2 dies 0 and 1 -/
  scope : Nat
  reset : Nat
  rw : Nat
  ro : Nat
  wo : Nat
  w1c : Nat
  w1s : Nat
  rc : Nat
deriving DecidableEq, Repr

/-- The register map's rows. -/
def regRow : RegId → RegRow
  | .twxTopology => ⟨0x90000, [], false, 0, 0, 0, 0x7f3, 0, 0, 0, 0⟩
  | .twxLinkStat => ⟨0x90010, [(3, 4)], false, 0, 0, 0, 0xffff73, 0, 0, 0, 0⟩
  | .twxLinkCtl => ⟨0x90020, [(3, 4)], false, 0, 3, 3, 0, 0, 0, 0, 0⟩
  | .twxRoute => ⟨0x90040, [(8, 4)], false, 0, 0, 0, 0x3f7, 0, 0, 0, 0⟩
  | .twxEvent => ⟨0x90060, [], false, 0, 0, 0, 0, 0, 0xf, 0, 0⟩
  | .twxEventEn => ⟨0x90064, [], false, 0, 0, 0xf, 0, 0, 0, 0, 0⟩
  | .twxCrossMax => ⟨0x90068, [], false, 0, 0, 0, 0, 0, 0, 0, 0xffff⟩
  | .hopPortCfg => ⟨0x10000, [(32, 4)], false, 0, 0, 0xff3fff, 0, 0, 0, 0, 0⟩
  | .hopPortDef => ⟨0x10080, [(32, 4)], false, 0, 0, 0x3ffff, 0, 0, 0, 0, 0⟩
  | .hopPortQuota => ⟨0x10100, [(32, 4)], false, 0, 0x800, 0x7ffff, 0, 0, 0, 0, 0⟩
  | .hopPortXoff => ⟨0x10180, [(32, 4)], false, 0, 0x600, 0x7ffff, 0, 0, 0, 0, 0⟩
  | .hopPortXon => ⟨0x10200, [(32, 4)], false, 0, 0x400, 0x7ffff, 0, 0, 0, 0, 0⟩
  | .hopPortOcc => ⟨0x10280, [(32, 4)], false, 0, 0, 0, 0x8007ffff, 0, 0, 0, 0⟩
  | .hopPfcLim => ⟨0x10300, [(10, 4)], false, 0, 0x1000180, 0xffffffff, 0, 0, 0, 0, 0⟩
  | .hopStat => ⟨0x10400, [], false, 0, 0, 0, 0x307ffff, 0, 0, 0, 0⟩
  | .hopTickets => ⟨0x10404, [], false, 0, 0, 0, 0xffff, 0, 0, 0, 0⟩
  | .hopSelMatch => ⟨0x11000, [(64, 4)], false, 0, 0, 0xffffffff, 0, 0, 0, 0, 0⟩
  | .hopSelAct => ⟨0x11100, [(64, 4)], false, 0, 0, 0x7fff, 0, 0, 0, 0, 0⟩
  | .hopProfCtl => ⟨0x12000, [(64, 4)], false, 0, 0, 0x3ffffff, 0, 0, 0, 0, 0⟩
  | .hopProfGraph => ⟨0x12100, [(64, 4)], false, 0, 0, 0xff, 0, 0, 0, 0, 0⟩
  | .hopProfSeed => ⟨0x12200, [(64, 4)], false, 0, 0xffffffff, 0xffffffff, 0, 0, 0, 0, 0⟩
  | .hopProfFld => ⟨0x14000, [(64, 0x40), (16, 4)], false, 0, 0, 0x7fffffff, 0, 0, 0, 0, 0⟩
  | .hopFp => ⟨0x18000, [(4096, 4)], false, 0, 0, 0x1fffff, 0, 0, 0, 0, 0⟩
  | .macPcfg => ⟨0xa0000, [(10, 0x40)], false, 0, 0, 0xff, 0, 0, 0, 0, 0⟩
  | .macPstat => ⟨0xa0004, [(10, 0x40)], false, 0, 0, 0, 0x1fff, 0, 0, 0, 0⟩
  | .macFc => ⟨0xa0008, [(10, 0x40)], false, 0, 0xffff, 0x37ffffff, 0, 0, 0, 0, 0⟩
  | .macFrm => ⟨0xa000c, [(10, 0x40)], false, 0, 0x810005f2, 0xffff3fff, 0, 0, 0, 0, 0⟩
  | .macTsadj => ⟨0xa0010, [(10, 0x40)], false, 0, 0, 0xffffffff, 0, 0, 0, 0, 0⟩
  | .tgpCfg => ⟨0xb0000, [(8, 0x20)], false, 2, 0, 0x3ff, 0, 0, 0, 0, 0⟩
  | .tgpRate => ⟨0xb0004, [(8, 0x20)], false, 2, 0xfa00, 0x1ffffff, 0, 0, 0, 0, 0⟩
  | .tgpGap => ⟨0xb0008, [(8, 0x20)], false, 2, 0x8000040, 0x3fffffff, 0, 0, 0, 0, 0⟩
  | .tgpStat => ⟨0xb000c, [(8, 0x20)], false, 2, 0, 0, 0xf, 0, 0, 0, 0⟩
  | .dspPoolCfg => ⟨0x20000, [], false, 0, 0x4000, 0x7fff, 0, 0, 0, 0, 0⟩
  | .dspPoolStat => ⟨0x20004, [], false, 0, 0, 0, 0x7fffffff, 0, 0, 0, 0⟩
  | .dspInstStat => ⟨0x20008, [], false, 0, 0, 0, 0x3fffffff, 0, 0, 0, 0⟩
  | .dspGroupLo => ⟨0x20100, [(16, 8)], false, 0, 0, 0xffffffff, 0, 0, 0, 0, 0⟩
  | .dspGroupHi => ⟨0x20104, [(16, 8)], false, 0, 0, 0xffff, 0, 0, 0, 0, 0⟩
  | .dspListCfg => ⟨0x20200, [(16, 4)], false, 0, 0x1000, 0x7fff, 0, 0, 0, 0, 0⟩
  | .dspListStat => ⟨0x20240, [(16, 4)], false, 0, 0, 0, 0x7fff, 0, 0, 0, 0⟩
  | .dspGraphCtl => ⟨0x20400, [(256, 4)], false, 0, 0, 1, 0, 0, 0, 0, 0⟩
  | .dspGsAddr => ⟨0x20800, [], false, 0, 0, 0x1ffff, 0, 0, 0, 0, 0⟩
  | .dspGsData => ⟨0x20808, [], true, 0, 0, 0xfffffffff, 0, 0, 0, 0, 0⟩
  | .dspEvent => ⟨0x20900, [], false, 0, 0, 0, 0, 0, 0x1f, 0, 0⟩
  | .dspEventEn => ⟨0x20904, [], false, 0, 0, 0x1f, 0, 0, 0, 0, 0⟩
  | .dspLastFault => ⟨0x20910, [], false, 0, 0, 0, 0x3fffff, 0, 0, 0, 0⟩
  | .cluCfg => ⟨0x100000, [(12, 0x40000)], false, 0, 0, 3, 0, 0, 0, 0, 0⟩
  | .cluCoreCfg => ⟨0x101000, [(12, 0x40000), (4, 0x400)], false, 0, 0x10000, 0x1fffff7, 0, 0, 0, 0, 0⟩
  | .cluCoreStat => ⟨0x101004, [(12, 0x40000), (4, 0x400)], false, 0, 0, 0, 0xffffffff, 0, 0, 0, 0⟩
  | .cluCoreFault => ⟨0x101008, [(12, 0x40000), (4, 0x400)], false, 0, 0, 0, 0xff7fff, 0, 0, 0, 0⟩
  | .cluCoreEvent => ⟨0x10100c, [(12, 0x40000), (4, 0x400)], false, 0, 0, 0xf0, 0, 0, 0xf, 0, 0⟩
  | .cluThreadStat => ⟨0x101040, [(12, 0x40000), (4, 0x400), (16, 4)], false, 0, 0, 0, 0xffff1fff, 0, 0, 0, 0⟩
  | .cluThreadMap => ⟨0x101100, [(12, 0x40000), (4, 0x400), (32, 8)], true, 0, 0, 0xfffffffff, 0, 0, 0, 0, 0⟩
  | .cluIsAddr => ⟨0x100100, [(12, 0x40000)], false, 0, 0, 0xffff, 0, 0, 0, 0, 0⟩
  | .cluIsData => ⟨0x100108, [(12, 0x40000)], true, 0, 0, 0xfffffffff, 0, 0, 0, 0, 0⟩
  | .cluCsAddr => ⟨0x100110, [(12, 0x40000)], false, 0, 0, 0x3ffff, 0, 0, 0, 0, 0⟩
  | .cluCsData => ⟨0x100118, [(12, 0x40000)], true, 0, 0, 0xfffffffff, 0, 0, 0, 0, 0⟩
  | .hlpEngBase => ⟨0xc0000, [(12, 0x40)], false, 0, 0x3ffff, 0x3ffff, 0, 0, 0, 0, 0⟩
  | .hlpEngLast => ⟨0xc0004, [(12, 0x40)], false, 0, 0, 0x3ffff, 0, 0, 0, 0, 0⟩
  | .hlpLock => ⟨0xc0008, [(12, 0x40), (3, 4)], false, 0, 0, 0, 0x7fff, 0, 0, 0, 0⟩
  | .hlpWait => ⟨0xc0014, [(12, 0x40), (3, 4)], false, 0, 0, 0, 0x3fff, 0, 0, 0, 0⟩
  | .hlpCtl => ⟨0xc0400, [], false, 0, 8, 0xff, 0, 0, 0, 0, 0⟩
  | .hlpEvent => ⟨0xc0404, [], false, 0, 0, 0, 0, 0, 0xf, 0, 0⟩
  | .hlpEventEn => ⟨0xc0408, [], false, 0, 0, 0xf, 0, 0, 0, 0, 0⟩
  | .hlpLastErr => ⟨0xc0410, [], false, 0, 0, 0, 0xffffff, 0, 0, 0, 0⟩
  | .tblTabCtl => ⟨0x40000, [(64, 4)], false, 0, 0, 1, 0x3f00, 0, 0, 0, 0⟩
  | .tblTabCls => ⟨0x40100, [(64, 4)], false, 0, 0, 0x3ff, 0, 0, 0, 0, 0⟩
  | .tblBodyBase => ⟨0x40200, [(64, 4)], false, 0, 0, 0x3fffff, 0, 0, 0, 0, 0⟩
  | .tblBodyCfg => ⟨0x40300, [(64, 4)], false, 0, 0x100000, 0x1fffff, 0, 0, 0, 0, 0⟩
  | .tblBodySeed => ⟨0x40400, [(64, 4)], false, 0, 0xffffffff, 0xffffffff, 0, 0, 0, 0, 0⟩
  | .tblBodyDram => ⟨0x40500, [(64, 4)], false, 0, 0, 0xfffffff, 0, 0, 0, 0, 0⟩
  | .tblBodyGen => ⟨0x40600, [(64, 4)], false, 0, 0, 0xf, 0, 0, 0, 0, 0⟩
  | .tblBodyStat => ⟨0x40700, [(64, 4)], false, 0, 0, 0, 0x1ffffff, 0, 0, 0, 0⟩
  | .tblBodyLayby => ⟨0x40800, [(64, 4)], false, 0, 0, 0, 0x1fff, 0, 0, 0, 0⟩
  | .tblInit => ⟨0x40900, [], false, 0, 0, 0, 0, 0x8000003f, 0, 0, 0⟩
  | .tblInitStat => ⟨0x40904, [], false, 0, 0, 0, 0x7f, 0, 0, 0, 0⟩
  | .tblLaybyStat => ⟨0x40910, [], false, 0, 0, 0, 0x1fff, 0, 0, 0, 0⟩
  | .tblLaybyWarn => ⟨0x40914, [], false, 0, 0xe00, 0x1fff, 0, 0, 0, 0, 0⟩
  | .tblEvent => ⟨0x40920, [], false, 0, 0, 0, 0, 0, 0xf, 0, 0⟩
  | .tblEventEn => ⟨0x40924, [], false, 0, 0, 0xf, 0, 0, 0, 0, 0⟩
  | .tblLastErr => ⟨0x40930, [], false, 0, 0, 0, 0x1ffffff, 0, 0, 0, 0⟩
  | .tblLastBucket => ⟨0x40934, [], false, 0, 0, 0, 0x3fffff, 0, 0, 0, 0⟩
  | .flcCtxAddr => ⟨0x50000, [], false, 0, 0, 0x3fffff, 0, 0, 0, 0, 0⟩
  | .flcCtxData => ⟨0x50008, [], true, 0, 0, 0xfffffffff, 0, 0, 0, 0, 0⟩
  | .mlsTimeLo => ⟨0x60000, [], true, 0, 0, 0, 0xfffffffff, 0, 0, 0, 0⟩
  | .mlsTimeHi => ⟨0x60008, [], true, 0, 0, 0, 0xfffffffff, 0, 0, 0, 0⟩
  | .mlsTimeRate => ⟨0x60010, [], false, 1, 0, 0xffffffff, 0, 0, 0, 0, 0⟩
  | .mlsPpsCfg => ⟨0x60014, [], false, 1, 0x8c9, 0x1fff, 0, 0, 0, 0, 0⟩
  | .mlsPpsInLo => ⟨0x60018, [], true, 1, 0, 0, 0xfffffffff, 0, 0, 0, 0⟩
  | .mlsPpsInHi => ⟨0x60020, [], true, 1, 0, 0, 0xfffffffff, 0, 0, 0, 0⟩
  | .mlsInputCfg => ⟨0x60040, [(10, 4)], false, 1, 0x100, 0x3ff, 0, 0, 0, 0, 0⟩
  | .mlsAxisCfg => ⟨0x60140, [(7, 0x40)], false, 1, 0x7d01000, 0x7ffffff, 0, 0, 0, 0, 0⟩
  | .mlsAxisFrac => ⟨0x60144, [(7, 0x40)], false, 1, 0, 0xfff, 0, 0, 0, 0, 0⟩
  | .mlsAxisStep => ⟨0x60148, [(7, 0x40)], true, 1, 1, 0xfffffffff, 0, 0, 0, 0, 0⟩
  | .mlsAxisInit => ⟨0x60150, [(7, 0x40)], true, 1, 0, 0xfffffffff, 0, 0, 0, 0, 0⟩
  | .mlsAxisRef => ⟨0x60158, [(7, 0x40)], true, 1, 0, 0xfffffffff, 0, 0, 0, 0, 0⟩
  | .mlsAxisStat => ⟨0x60160, [(7, 0x40)], false, 0, 0, 0, 0x1f, 0, 0, 0, 0⟩
  | .mlsAxisPeriod => ⟨0x60164, [(7, 0x40)], false, 0, 0, 0, 0xffffffff, 0, 0, 0, 0⟩
  | .mlsAxisVal => ⟨0x60168, [(7, 0x40)], true, 0, 0, 0, 0xfffffffff, 0, 0, 0, 0⟩
  | .mlsAxisEdge => ⟨0x60170, [(7, 0x40)], true, 0, 0, 0, 0xfffffffff, 0, 0, 0, 0⟩
  | .mlsAxisRate => ⟨0x60178, [(7, 0x40)], true, 0, 0, 0, 0xfffffffff, 0, 0, 0, 0⟩
  | .mlsMsAddr => ⟨0x60400, [], false, 0, 0, 0x1fff, 0, 0, 0, 0, 0⟩
  | .mlsMsData => ⟨0x60408, [], true, 0, 0, 0, 0xfffffffff, 0, 0, 0, 0⟩
  | .mlsCapInfo => ⟨0x60500, [], false, 0, 0, 0, 0x400fffff, 0x80000000, 0, 0, 0⟩
  | .mlsCapTimeLo => ⟨0x60508, [], true, 0, 0, 0, 0xfffffffff, 0, 0, 0, 0⟩
  | .mlsCapTimeHi => ⟨0x60510, [], true, 0, 0, 0, 0xfffffffff, 0, 0, 0, 0⟩
  | .mlsPinCfg => ⟨0x60600, [], false, 1, 0x64, 0xffff, 0xff0000, 0, 0, 0, 0⟩
  | .mlsJrnCtl => ⟨0x60700, [], false, 1, 1, 1, 0x1fe, 0, 0, 0, 0⟩
  | .mlsEvent => ⟨0x60800, [], false, 0, 0, 0, 0, 0, 0x3f, 0, 0⟩
  | .mlsEventEn => ⟨0x60804, [], false, 0, 0, 0x3f, 0, 0, 0, 0, 0⟩
  | .mlsSendStat => ⟨0x60810, [], false, 0, 0, 0, 0x7f, 0, 0, 0, 0⟩
  | .egrQCfg => ⟨0x30000, [(4096, 4)], false, 0, 0x80000, 0xfffbffff, 0, 0, 0, 0, 0⟩
  | .egrQLim => ⟨0x34000, [(4096, 4)], false, 0, 0x1000, 0x7ffff, 0, 0, 0, 0, 0⟩
  | .egrQStat => ⟨0x38000, [(4096, 4)], false, 0, 0, 0, 0x3fffff, 0, 0, 0, 0⟩
  | .egrQShape => ⟨0x3c000, [(512, 4)], false, 0, 0, 0xffffffff, 0, 0, 0, 0, 0⟩
  | .egrMgate => ⟨0x3c800, [(32, 4)], false, 0, 0xffff, 0xffff, 0, 0, 0, 0, 0⟩
  | .egrGateStat => ⟨0x3c880, [(32, 4)], false, 0, 0, 0, 0xffff, 0, 0, 0, 0⟩
  | .egrSpill => ⟨0x3c900, [], true, 0, 0, 0xfffffffff, 0, 0, 0, 0, 0⟩
  | .egrWeir => ⟨0x3c908, [], false, 0, 0x10, 0x3f, 0, 0, 0, 0, 0⟩
  | .egrEvent => ⟨0x3c910, [], false, 0, 0, 0, 0, 0, 0xf, 0, 0⟩
  | .egrEventEn => ⟨0x3c914, [], false, 0, 0, 0xf, 0, 0, 0, 0, 0⟩
  | .egrLastDrop => ⟨0x3c918, [], false, 0, 0, 0, 0xfffffff, 0, 0, 0, 0⟩
  | .egrGlAddr => ⟨0x3c920, [], false, 0, 0, 0x7fff, 0, 0, 0, 0, 0⟩
  | .egrGlData => ⟨0x3c928, [], true, 0, 0, 0xfffffffff, 0, 0, 0, 0, 0⟩
  | .egrGlCfg => ⟨0x3d000, [(18, 0x200), (8, 0x40)], false, 0, 0, 0x3fffffff, 0, 0, 0, 0, 0⟩
  | .egrGlInit => ⟨0x3d004, [(18, 0x200), (8, 0x40)], false, 0, 0, 0xffff, 0, 0, 0, 0, 0⟩
  | .egrGlBaseLo => ⟨0x3d008, [(18, 0x200), (8, 0x40)], true, 0, 0, 0xfffffffff, 0, 0, 0, 0, 0⟩
  | .egrGlBaseHi => ⟨0x3d010, [(18, 0x200), (8, 0x40)], true, 0, 0, 0xfffffffff, 0, 0, 0, 0, 0⟩
  | .egrGlCycle => ⟨0x3d018, [(18, 0x200), (8, 0x40)], true, 0, 0, 0xfffffffff, 0, 0, 0, 0, 0⟩
  | .egrGlEndLo => ⟨0x3d020, [(18, 0x200), (8, 0x40)], true, 0, 0xfffffffff, 0xfffffffff, 0, 0, 0, 0, 0⟩
  | .egrGlEndHi => ⟨0x3d028, [(18, 0x200), (8, 0x40)], true, 0, 0xfffffffff, 0xfffffffff, 0, 0, 0, 0, 0⟩
  | .egrGlStat => ⟨0x3d030, [(18, 0x200), (8, 0x40)], false, 0, 0, 0, 0xffffff, 0, 0, 0, 0⟩
  | .dmcCtl => ⟨0x70000, [], false, 0, 0, 2, 0, 0, 0, 1, 0⟩
  | .dmcStat => ⟨0x70004, [], false, 0, 0, 0, 0x1ff, 0, 0, 0, 0⟩
  | .dmcGeom => ⟨0x70008, [], false, 0, 0, 0x3f, 0, 0, 0, 0, 0⟩
  | .dmcTiming0 => ⟨0x7000c, [], false, 0, 0x60343434, 0xffffffff, 0, 0, 0, 0, 0⟩
  | .dmcTiming1 => ⟨0x70010, [], false, 0, 0x4049c82, 0xfffffff, 0, 0, 0, 0, 0⟩
  | .dmcMapLo => ⟨0x70020, [(6, 8)], false, 0, 0, 0xffffffff, 0, 0, 0, 0, 0⟩
  | .dmcMapHi => ⟨0x70024, [(6, 8)], false, 0, 0, 0xff, 0, 0, 0, 0, 0⟩
  | .dmcSrCfg => ⟨0x70050, [], false, 0, 0x3e8, 0xfffff, 0, 0, 0, 0, 0⟩
  | .dmcSched => ⟨0x70054, [], false, 0, 0x7d0, 0xffff, 0, 0, 0, 0, 0⟩
  | .dmcPanicEn => ⟨0x70058, [], false, 0, 3, 3, 0, 0, 0, 0, 0⟩
  | .dmcRefStat => ⟨0x70060, [], false, 0, 0, 0, 0xffffffff, 0, 0, 0, 0⟩
  | .dmcTemp => ⟨0x70064, [], false, 0, 0xc00, 0x7e00, 0x3f, 0, 0, 0, 0⟩
  | .dmcEvent => ⟨0x70070, [], false, 0, 0, 0, 0, 0, 0x1f, 0, 0⟩
  | .dmcEventEn => ⟨0x70074, [], false, 0, 0, 0x1f, 0, 0, 0, 0, 0⟩
  | .eccCfg => ⟨0x80000, [], false, 0, 2, 3, 0, 0, 0, 0, 0⟩
  | .eccBoltCfg => ⟨0x80004, [], false, 0, 0x5a01683, 0x3fffffff, 0, 0, 0, 0, 0⟩
  | .eccBoltPos => ⟨0x80008, [], false, 0, 0, 0, 0x3fffffff, 0, 0, 0, 0⟩
  | .eccBoltPass => ⟨0x8000c, [], false, 0, 0, 0, 0xffffffff, 0, 0, 0, 0⟩
  | .eccRevisit => ⟨0x80010, [], false, 0, 0, 0, 0x1f, 0, 0, 0, 0⟩
  | .eccErrLo => ⟨0x80020, [], false, 0, 0, 0, 0xffffffff, 0, 0, 0, 0⟩
  | .eccErrHi => ⟨0x80024, [], false, 0, 0, 0, 0x47ffffff, 0x80000000, 0, 0, 0⟩
  | .eccRingStat => ⟨0x80028, [], false, 0, 0, 0, 0x1ff, 0, 0, 0, 0⟩
  | .eccDevWarn => ⟨0x80030, [], false, 0, 0x1000, 0xffff, 0, 0, 0, 0, 0⟩
  | .eccDevCe => ⟨0x80100, [(40, 4)], false, 0, 0, 0, 0, 0, 0, 0, 0xffff⟩
  | .eccEvent => ⟨0x80200, [], false, 0, 0, 0, 0, 0, 0x7f, 0, 0⟩
  | .eccEventEn => ⟨0x80204, [], false, 0, 0, 0x7f, 0, 0, 0, 0, 0⟩
  | .dctlPkgId => ⟨0, [(2, 4)], false, 1, 0, 0, 0xffffffff, 0, 0, 0, 0⟩
  | .dctlVariant => ⟨8, [], false, 1, 0, 0, 0xff3f, 0, 0, 0, 0⟩
  | .dctlWmkAddr => ⟨0xc, [], false, 1, 0, 0, 0xff, 0, 0, 0, 0⟩
  | .dctlDieId => ⟨0x10, [], false, 0, 0, 0, 7, 0, 0, 0, 0⟩
  | .dctlPartState => ⟨0x14, [], false, 1, 0, 0, 1, 0, 0, 0, 0⟩
  | .dctlEvent => ⟨0x20, [], false, 0, 0, 0, 0, 0, 7, 0, 0⟩
  | .dctlEventEn => ⟨0x24, [], false, 0, 0, 7, 0, 0, 0, 0, 0⟩
  | .ringDbaseLo => ⟨0x1000, [(7, 0x40)], false, 0, 0, 0xfffff000, 0, 0, 0, 0, 0⟩
  | .ringDbaseHi => ⟨0x1004, [(7, 0x40)], false, 0, 0, 0xffffffff, 0, 0, 0, 0, 0⟩
  | .ringCbaseLo => ⟨0x1008, [(7, 0x40)], false, 0, 0, 0xfffff000, 0, 0, 0, 0, 0⟩
  | .ringCbaseHi => ⟨0x100c, [(7, 0x40)], false, 0, 0, 0xffffffff, 0, 0, 0, 0, 0⟩
  | .ringCtl => ⟨0x1010, [(7, 0x40)], false, 0, 0, 0xfff, 0x3000, 0, 0, 0, 0⟩
  | .ringTail => ⟨0x1014, [(7, 0x40)], false, 0, 0, 0xffff, 0, 0, 0, 0, 0⟩
  | .ringHead => ⟨0x1018, [(7, 0x40)], false, 0, 0, 0, 0xffff, 0, 0, 0, 0⟩
  | .ringCTail => ⟨0x101c, [(7, 0x40)], false, 0, 0, 0, 0xffff, 0, 0, 0, 0⟩
  | .ringCHead => ⟨0x1020, [(7, 0x40)], false, 0, 0, 0xffff, 0, 0, 0, 0, 0⟩
  | .htxDbaseLo => ⟨0x2000, [], false, 0, 0, 0xfffff000, 0, 0, 0, 0, 0⟩
  | .htxDbaseHi => ⟨0x2004, [], false, 0, 0, 0xffffffff, 0, 0, 0, 0, 0⟩
  | .htxCbaseLo => ⟨0x2008, [], false, 0, 0, 0xfffff000, 0, 0, 0, 0, 0⟩
  | .htxCbaseHi => ⟨0x200c, [], false, 0, 0, 0xffffffff, 0, 0, 0, 0, 0⟩
  | .htxCtl => ⟨0x2010, [], false, 0, 0, 0x4fff, 0x3000, 0, 0, 0, 0⟩
  | .htxTail => ⟨0x2014, [], false, 0, 0, 0xffff, 0, 0, 0, 0, 0⟩
  | .htxHead => ⟨0x2018, [], false, 0, 0, 0, 0xffff, 0, 0, 0, 0⟩
  | .htxCTail => ⟨0x201c, [], false, 0, 0, 0, 0xffff, 0, 0, 0, 0⟩
  | .htxHeadAck => ⟨0x2020, [], false, 0, 0, 0xffff, 0, 0, 0, 0, 0⟩
  | .hrxDbaseLo => ⟨0x3000, [(64, 0x40)], false, 0, 0, 0xfffff000, 0, 0, 0, 0, 0⟩
  | .hrxDbaseHi => ⟨0x3004, [(64, 0x40)], false, 0, 0, 0xffffffff, 0, 0, 0, 0, 0⟩
  | .hrxCbaseLo => ⟨0x3008, [(64, 0x40)], false, 0, 0, 0xfffff000, 0, 0, 0, 0, 0⟩
  | .hrxCbaseHi => ⟨0x300c, [(64, 0x40)], false, 0, 0, 0xffffffff, 0, 0, 0, 0, 0⟩
  | .hrxCtl => ⟨0x3010, [(64, 0x40)], false, 0, 0, 0x407f, 0x3000, 0, 0, 0, 0⟩
  | .hrxTail => ⟨0x3014, [(64, 0x40)], false, 0, 0, 0xffff, 0, 0, 0, 0, 0⟩
  | .hrxHead => ⟨0x3018, [(64, 0x40)], false, 0, 0, 0, 0xffff, 0, 0, 0, 0⟩
  | .hrxCTail => ⟨0x301c, [(64, 0x40)], false, 0, 0, 0, 0xffff, 0, 0, 0, 0⟩
  | .hrxHeadAck => ⟨0x3020, [(64, 0x40)], false, 0, 0, 0xffff, 0, 0, 0, 0, 0⟩
  | .dctlHqEvent => ⟨0x4000, [(2, 4)], false, 0, 0, 0, 0, 0, 0xffffffff, 0, 0⟩
  | .dctlMsixTable => ⟨0x8000, [(256, 0x10), (4, 4)], false, 1, 0, 0xffffffff, 0, 0, 0, 0, 0⟩
  | .dctlMsixPba => ⟨0x9000, [(8, 4)], false, 1, 0, 0, 0xffffffff, 0, 0, 0, 0⟩
  | .dctlBootStat => ⟨0x100, [], false, 1, 0, 0, 0x3ffffff, 0, 0, 0, 0⟩
  | .dctlUnlock => ⟨0x104, [], false, 1, 0, 0, 0x1fffff, 0, 0, 0, 0⟩
  | .dctlWmkCtl => ⟨0x110, [], false, 1, 0, 0x7ff, 0, 0, 0, 0, 0⟩
  | .dctlWmkStat => ⟨0x114, [], false, 1, 0, 0, 0xff, 0, 0, 0, 0xffff00⟩
  | .dctlWmkTime => ⟨0x118, [(4, 8)], true, 1, 0, 0, 0xfffffffff, 0, 0, 0, 0⟩
  | .dctlJrnStat => ⟨0x140, [], false, 1, 0, 0, 0x7ffff, 0, 0, 0, 0xfff80000⟩
  | .dctlJrnAddr => ⟨0x148, [], false, 1, 0, 0x3ffff, 0, 0, 0, 0, 0⟩
  | .dctlJrnData => ⟨0x150, [], true, 1, 0, 0xfffffffff, 0, 0, 0, 0, 0⟩
  | .ansCfg => ⟨0xf0000, [], false, 1, 0, 3, 0, 0, 0, 0, 0⟩
  | .ansStat => ⟨0xf0004, [], false, 1, 0, 0, 0x3fff, 0, 0, 0, 0⟩
  | .ansPending => ⟨0xf0008, [], false, 1, 0, 0, 0xffff, 0, 0, 0, 0⟩
  | .ansPublish => ⟨0xf000c, [], false, 1, 0, 0, 0, 0, 0, 0xffff, 0⟩
  | .ansHaddr => ⟨0xf0010, [], false, 1, 0, 0x7fff, 0, 0, 0, 0, 0⟩
  | .ansHdata => ⟨0xf0014, [], false, 1, 0, 0xffffffff, 0, 0, 0, 0, 0⟩
  | .ansEvent => ⟨0xf0020, [], false, 1, 0, 0, 0, 0, 3, 0, 0⟩
  | .ansEventEn => ⟨0xf0024, [], false, 1, 0, 3, 0, 0, 0, 0, 0⟩
  | .tlySnapCfg => ⟨0xd0000, [], false, 0, 0x1f40, 0x7fffff, 0, 0, 0, 0, 0⟩
  | .tlySnapBaseLo => ⟨0xd0008, [], false, 0, 0, 0xffffe000, 0, 0, 0, 0, 0⟩
  | .tlySnapBaseHi => ⟨0xd000c, [], false, 0, 0, 0xffffffff, 0, 0, 0, 0, 0⟩
  | .tlySnapRing => ⟨0xd0010, [], false, 0, 4, 0x1f, 0, 0, 0, 0, 0⟩
  | .tlySnapTail => ⟨0xd0014, [], false, 0, 0, 0, 0xffff, 0, 0, 0, 0⟩
  | .tlySnapHead => ⟨0xd0018, [], false, 0, 0, 0xffff, 0, 0, 0, 0, 0⟩
  | .tlySnapSeq => ⟨0xd001c, [], false, 0, 0, 0, 0xffffffff, 0, 0, 0, 0⟩
  | .tlySmpCfg => ⟨0xd0100, [(48, 4)], false, 0, 0x7fe0, 0x1fffff, 0, 0, 0, 0, 0⟩
  | .tlySmpMask => ⟨0xd0200, [(48, 4)], false, 0, 0xffff, 0xffff, 0, 0, 0, 0, 0⟩
  | .tlySmpLevel => ⟨0xd0300, [(48, 4)], false, 0, 0, 0, 0x3ff, 0, 0, 0, 0⟩
  | .tlySmpBaseLo => ⟨0xd0400, [], false, 0, 0, 0xfffff000, 0, 0, 0, 0, 0⟩
  | .tlySmpBaseHi => ⟨0xd0404, [], false, 0, 0, 0xffffffff, 0, 0, 0, 0, 0⟩
  | .tlySmpRing => ⟨0xd0408, [], false, 0, 0xc, 0x7f, 0, 0, 0, 0, 0⟩
  | .tlySmpTail => ⟨0xd040c, [], false, 0, 0, 0, 0xffffff, 0, 0, 0, 0⟩
  | .tlySmpHead => ⟨0xd0410, [], false, 0, 0, 0xffffff, 0, 0, 0, 0, 0⟩
  | .tlySmpWeir => ⟨0xd0414, [], false, 0, 0x180, 0x3ff, 0, 0, 0, 0, 0⟩
  | .tlyTagCfg => ⟨0xd0500, [], false, 0, 0x1ffe, 0x1ffff, 0, 0, 0, 0, 0⟩
  | .tlyTagSeed => ⟨0xd0504, [], false, 0, 1, 0xffffffff, 0, 0, 0, 0, 0⟩
  | .tlyTagStat => ⟨0xd0508, [], false, 0, 0, 0, 0x7f, 0, 0, 0, 0⟩
  | .tlyChain => ⟨0xd0800, [(28, 0x10), (4, 4)], false, 0, 0, 0xffffffff, 0, 0, 0, 0, 0⟩
  | .tlyZero => ⟨0xd0c00, [], false, 0, 0, 0, 0, 0x8000001f, 0, 0, 0⟩
  | .tlyOvfClr => ⟨0xd0c04, [], false, 0, 0, 0, 0, 0xc0001fff, 0, 0, 0⟩
  | .tlyReadAddr => ⟨0xd0c10, [], false, 0, 0, 0x1fff, 0, 0, 0, 0, 0⟩
  | .tlyReadLo => ⟨0xd0c18, [], false, 0, 0, 0, 0xffffffff, 0, 0, 0, 0⟩
  | .tlyReadHi => ⟨0xd0c1c, [], false, 0, 0, 0, 0x1ffff, 0, 0, 0, 0⟩
  | .tlyEvent => ⟨0xd0d00, [], false, 0, 0, 0, 0, 0, 0x1f, 0, 0⟩
  | .tlyEventEn => ⟨0xd0d04, [], false, 0, 0, 0x1f, 0, 0, 0, 0, 0⟩
  | .grtStat => ⟨0xe0000, [], false, 0, 0, 0, 0x3f, 0, 0, 0, 0⟩
  | .grtDelay => ⟨0xe0010, [(4, 4)], false, 0, 0, 0, 0x1ffff, 0, 0, 0, 0⟩
  | .grtSluice => ⟨0xe0020, [], false, 0, 0, 0, 0xffffffff, 0, 0, 0, 0⟩
  | .grtHold => ⟨0xe0024, [], false, 0, 0, 0, 0xffff, 0, 0, 0, 0⟩
  | .grtStretch => ⟨0xe0028, [], false, 0, 0, 0, 0x3ff, 0, 0, 0, 0⟩
  | .grtAxes => ⟨0xe002c, [], false, 0, 0, 0, 0xfe, 0, 0, 0, 0⟩
  | .grtLfsr => ⟨0xe0030, [], false, 1, 0, 0, 0xffffffff, 0, 0, 0, 0⟩
  | .grtLast => ⟨0xe0038, [], false, 0, 0, 0, 0xffff, 0, 0, 0, 0⟩
  | .grtEvent => ⟨0xe0040, [], false, 0, 0, 0, 0, 0, 7, 0, 0⟩
  | .grtEventEn => ⟨0xe0044, [], false, 0, 0, 7, 0, 0, 0, 0, 0⟩
  | .dctlResetCause => ⟨0x180, [], false, 1, 1, 0, 0x700, 0, 0x1f, 0, 0⟩
  | .dctlClkStat => ⟨0x184, [], false, 0, 0, 0, 7, 0, 0, 0, 0⟩
  | .dctlTemp => ⟨0x188, [], false, 0, 0, 0, 0x3ff, 0, 0, 0, 0⟩
  | .dctlTherm => ⟨0x18c, [], false, 1, 0x73, 0xff, 0xf00, 0, 0, 0, 0⟩

/-- Part 0 of the list of registers. -/
def regIds0 : List RegId :=
  [.twxTopology, .twxLinkStat, .twxLinkCtl, .twxRoute, .twxEvent, .twxEventEn, .twxCrossMax, .hopPortCfg, .hopPortDef, .hopPortQuota, .hopPortXoff, .hopPortXon, .hopPortOcc, .hopPfcLim, .hopStat, .hopTickets, .hopSelMatch, .hopSelAct, .hopProfCtl, .hopProfGraph, .hopProfSeed, .hopProfFld, .hopFp, .macPcfg, .macPstat, .macFc, .macFrm, .macTsadj, .tgpCfg, .tgpRate, .tgpGap, .tgpStat, .dspPoolCfg, .dspPoolStat, .dspInstStat, .dspGroupLo, .dspGroupHi, .dspListCfg, .dspListStat, .dspGraphCtl]

/-- Part 1 of the list of registers. -/
def regIds1 : List RegId :=
  [.dspGsAddr, .dspGsData, .dspEvent, .dspEventEn, .dspLastFault, .cluCfg, .cluCoreCfg, .cluCoreStat, .cluCoreFault, .cluCoreEvent, .cluThreadStat, .cluThreadMap, .cluIsAddr, .cluIsData, .cluCsAddr, .cluCsData, .hlpEngBase, .hlpEngLast, .hlpLock, .hlpWait, .hlpCtl, .hlpEvent, .hlpEventEn, .hlpLastErr, .tblTabCtl, .tblTabCls, .tblBodyBase, .tblBodyCfg, .tblBodySeed, .tblBodyDram, .tblBodyGen, .tblBodyStat, .tblBodyLayby, .tblInit, .tblInitStat, .tblLaybyStat, .tblLaybyWarn, .tblEvent, .tblEventEn, .tblLastErr]

/-- Part 2 of the list of registers. -/
def regIds2 : List RegId :=
  [.tblLastBucket, .flcCtxAddr, .flcCtxData, .mlsTimeLo, .mlsTimeHi, .mlsTimeRate, .mlsPpsCfg, .mlsPpsInLo, .mlsPpsInHi, .mlsInputCfg, .mlsAxisCfg, .mlsAxisFrac, .mlsAxisStep, .mlsAxisInit, .mlsAxisRef, .mlsAxisStat, .mlsAxisPeriod, .mlsAxisVal, .mlsAxisEdge, .mlsAxisRate, .mlsMsAddr, .mlsMsData, .mlsCapInfo, .mlsCapTimeLo, .mlsCapTimeHi, .mlsPinCfg, .mlsJrnCtl, .mlsEvent, .mlsEventEn, .mlsSendStat, .egrQCfg, .egrQLim, .egrQStat, .egrQShape, .egrMgate, .egrGateStat, .egrSpill, .egrWeir, .egrEvent, .egrEventEn]

/-- Part 3 of the list of registers. -/
def regIds3 : List RegId :=
  [.egrLastDrop, .egrGlAddr, .egrGlData, .egrGlCfg, .egrGlInit, .egrGlBaseLo, .egrGlBaseHi, .egrGlCycle, .egrGlEndLo, .egrGlEndHi, .egrGlStat, .dmcCtl, .dmcStat, .dmcGeom, .dmcTiming0, .dmcTiming1, .dmcMapLo, .dmcMapHi, .dmcSrCfg, .dmcSched, .dmcPanicEn, .dmcRefStat, .dmcTemp, .dmcEvent, .dmcEventEn, .eccCfg, .eccBoltCfg, .eccBoltPos, .eccBoltPass, .eccRevisit, .eccErrLo, .eccErrHi, .eccRingStat, .eccDevWarn, .eccDevCe, .eccEvent, .eccEventEn, .dctlPkgId, .dctlVariant, .dctlWmkAddr]

/-- Part 4 of the list of registers. -/
def regIds4 : List RegId :=
  [.dctlDieId, .dctlPartState, .dctlEvent, .dctlEventEn, .ringDbaseLo, .ringDbaseHi, .ringCbaseLo, .ringCbaseHi, .ringCtl, .ringTail, .ringHead, .ringCTail, .ringCHead, .htxDbaseLo, .htxDbaseHi, .htxCbaseLo, .htxCbaseHi, .htxCtl, .htxTail, .htxHead, .htxCTail, .htxHeadAck, .hrxDbaseLo, .hrxDbaseHi, .hrxCbaseLo, .hrxCbaseHi, .hrxCtl, .hrxTail, .hrxHead, .hrxCTail, .hrxHeadAck, .dctlHqEvent, .dctlMsixTable, .dctlMsixPba, .dctlBootStat, .dctlUnlock, .dctlWmkCtl, .dctlWmkStat, .dctlWmkTime, .dctlJrnStat]

/-- Part 5 of the list of registers. -/
def regIds5 : List RegId :=
  [.dctlJrnAddr, .dctlJrnData, .ansCfg, .ansStat, .ansPending, .ansPublish, .ansHaddr, .ansHdata, .ansEvent, .ansEventEn, .tlySnapCfg, .tlySnapBaseLo, .tlySnapBaseHi, .tlySnapRing, .tlySnapTail, .tlySnapHead, .tlySnapSeq, .tlySmpCfg, .tlySmpMask, .tlySmpLevel, .tlySmpBaseLo, .tlySmpBaseHi, .tlySmpRing, .tlySmpTail, .tlySmpHead, .tlySmpWeir, .tlyTagCfg, .tlyTagSeed, .tlyTagStat, .tlyChain, .tlyZero, .tlyOvfClr, .tlyReadAddr, .tlyReadLo, .tlyReadHi, .tlyEvent, .tlyEventEn, .grtStat, .grtDelay, .grtSluice]

/-- Part 6 of the list of registers. -/
def regIds6 : List RegId :=
  [.grtHold, .grtStretch, .grtAxes, .grtLfsr, .grtLast, .grtEvent, .grtEventEn, .dctlResetCause, .dctlClkStat, .dctlTemp, .dctlTherm]

/-- Every register of the map. -/
def regIds : List RegId :=
  regIds0 ++ regIds1 ++ regIds2 ++ regIds3 ++ regIds4 ++ regIds5 ++ regIds6

/-- Offset of a copy from the first one. -/
def regIndexOff : List (Nat × Nat) → List Nat → Nat
  | [], _ => 0
  | _, [] => 0
  | (_, st) :: ds, i :: is => i * st + regIndexOff ds is

/-- Offset of a copy of a register in its die window. -/
def regOff (r : RegId) (ix : List Nat) : Nat :=
  (regRow r).base + regIndexOff (regRow r).dims ix

/-- The indices of the copy that holds an offset, relative to the first copy, with what is left of the offset. Dimensions
are listed with the larger stride first. -/
def regFindIx : List (Nat × Nat) → Nat → Option (List Nat × Nat)
  | [], rel => some ([], rel)
  | (n, st) :: ds, rel =>
    if rel / st < n then (regFindIx ds (rel % st)).map fun p => (rel / st :: p.1, p.2) else none

/-- Whether an offset is a dword of the register: its indices, and 4 for the high dword of a slot. -/
def regMatch (r : RegId) (off : Nat) : Option (List Nat × Nat) :=
  let row := regRow r
  if off < row.base then none
  else match regFindIx row.dims (off - row.base) with
    | some (ix, 0) => some (ix, 0)
    | some (ix, 4) => if row.slot then some (ix, 4) else none
    | _ => none

/-- The register that an offset of a die window names, with its indices and 4 for a slot's high dword. -/
def regFind (off : Nat) : Option (RegId × List Nat × Nat) :=
  regIds.findSome? fun r => (regMatch r off).map fun p => (r, p)

/-- The reset value of a copy. The mask registers of the DDR5 controller differ by index (R328), a table selects its own body (R244), and the vector control
dword of an MSI-X table entry resets to masked, as the PCIe specification gives (R380, log entry 20). -/
def regReset (r : RegId) (ix : List Nat) : Nat :=
  match r, ix with
  | .dmcMapLo, [1] => 0x80
  | .dmcMapLo, [2] => 0x100
  | .dmcMapLo, [3] => 0x200
  | .dmcMapLo, [4] => 0x20000
  | .dmcMapLo, [5] => 0x40000
  | .dctlMsixTable, [_, 3] => 1
  | .tblTabCtl, [t] => 256 * t
  | r, _ => (regRow r).reset

end Sys2Proof.Machine
end

