-- ==== Sys2Proof/Machine/State.lean ====
section
/-! DEFINITION. The machine's state as plain data: every register, store, queue, mode and pin that the manual gives the
part, and the queue of waiting commands. -/

namespace Sys2Proof.Machine

open Sys2Proof

/-! ### Counters (R426) -/

/-- A counter: its 48-bit value and its sticky OVF bit (R426). -/
structure Ctr where
  val : Nat := 0
  ovf : Bool := false
deriving DecidableEq, Repr

/-! ### What leaves the part -/

/-- What a step sends out of the part: the model's own record of its outputs, oldest first. -/
inductive Out where
  /-- an MSI-X message of a vector: the address and data of its table entry (R380) -/
  | msix (vec : Nat) (addr : Nat) (data : Nat)
  /-- a write into host memory over PCIe: address and bytes (R386, R391, R392, R434, R437) -/
  | hostWrite (die : Nat) (addr : Nat) (bytes : List Byte)
  /-- a PCIe completion of a host read: the data and the EP bit (R363, R376) -/
  | readData (data : Nat) (ep : Bool)
  /-- the data of a BAR2 read (R377), with the EP bit of R363 -/
  | readBytes (bytes : List Byte) (ep : Bool)
  /-- a frame on an Ethernet port: the octets sent, and whether it was cut with an error (R307, R362) -/
  | frame (die port : Nat) (bytes : List Byte) (err : Bool)
  /-- a PAUSE or PFC frame of a MAC: priorities named (none for PAUSE) and quanta (R49) -/
  | pause (die port : Nat) (pfc : Bool) (enable : Nat) (quanta : Nat)
  /-- a telegram on a synchronous line: the levels of its flags and of the bits between them (R52, R53) -/
  | telegramBits (die port : Nat) (bits : List Bool) (abort : Bool)
  /-- a telegram on an asynchronous line: the characters, each with its start, data, parity and stop bits (R51) -/
  | telegramChars (die port : Nat) (chars : List (List Bool)) (abort : Bool)
  /-- a telegram line is between frames from here on: it sends flags, or ones (R53) -/
  | telegramIdle (die port : Nat) (ones : Bool)
  /-- the Answer Port drives its data bus (R394) -/
  | ansData (word : Dword)
  /-- a Waymark frame leaves WMK_OUT: the levels of its half bits, from the opening flag to the closing one (R400) -/
  | waymark (levels : List Bool)
  /-- the balls take their states of reset: DRESET_N, the event outputs and PPS_OUT low; TXD pulled to mark; TXC, ANS_D, the SPI
  outputs and WMK_OUT high-Z; the PCIe and SerDes lanes idle (R465) -/
  | resetBalls
  /-- an event output pin changes (R288, R468) -/
  | eventPin (pin : Nat) (level : Bool)
  /-- 1PPS output (R267) -/
  | pps (level : Bool)
  /-- THERM_ALERT_N (R478) -/
  | thermAlert (level : Bool)
  /-- a DDR5 command that the model shows: its kind, and two operands (R335, R337, R344, R345, R348) -/
  | dram (die : Nat) (kind : String) (a b : Nat)
  /-- a granule's bytes returned to the requester of a read, and its poison mark (R332, R355) -/
  | dramData (die who addr : Nat) (bytes : List Byte) (poison : Bool)
  /-- the boot ROM writes an image to NOR slot A (R420) -/
  | norWrite (bytes : List Byte)
  /-- TDO: what a captured data register shifts out, and its length in bits (R474, R475) -/
  | tdo (len value : Nat)
  /-- the scanned outputs follow the boundary register, with each cell's value (R474) -/
  | scanned (cells : Nat)
  /-- every scanned output goes high-Z, or back to the part's own logic (R474) -/
  | scanOff (highZ : Bool)
deriving DecidableEq, Repr

/-! ### Twipex (R32 to R41) -/

/-- The states of a link, in the encoding of TWX.LINK_STAT.STATE (R37). -/
inductive LinkState where
  | training | up | degraded | down
deriving DecidableEq, Repr

/-- One egress enqueue: the destination die, the queue descriptor there and the enqueue descriptor's two words (R306). -/
structure Enq where
  die : Nat
  queue : Nat
  w0 : Word
  w1 : Word
deriving DecidableEq, Repr

/-- An enqueue under way to a queue, stamped with its release sequence (R27). -/
structure Arrival where
  /-- global ingress port -/
  port : Nat
  ticket : Nat
  /-- release sequence of the pair (ingress port, destination die) -/
  seq : Nat
  /-- the packet on the die where this record lies -/
  pid : Nat
  enq : Enq
  /-- crossed from another die (REMOTE_IN of R322) -/
  remote : Bool := false
  /-- discarded by R303 at its source: its release sequence goes on without it (R305, log entry 46) -/
  void : Bool := false
  /-- receive timestamp, kept for R392 -/
  ts : Nat := 0
  /-- times of the packet record of a tagged instance's first enqueue: ADMIT, RESOLVED, RELEASED, and the crossing latency
  once it has crossed (R441) -/
  tag : List Nat := []
  /-- model's clock of its arrival at the queue's die -/
  heldAt : Nat := 0
deriving DecidableEq, Repr

/-- A resolution record of a processing die (R26). -/
structure Resolution where
  port : Nat
  ticket : Nat
  /-- none: the packet was dropped and the ticket retires -/
  enqs : Option (List Enq)
  reason : Nat
  holder : Nat
  pid : Nat
  tagged : Bool := false
deriving DecidableEq, Repr

/-- A message that has left one die and not reached the other (R26 to R29). -/
inductive Flight where
  | resolution (src dst : Nat) (r : Resolution)
  | grant (src dst : Nat) (a : Arrival)
  | credit (src dst : Nat) (port : Nat)
  | enqueue (src dst : Nat) (a : Arrival)
deriving DecidableEq, Repr

/-- The Twipex fabric: link states (by canonical end die × 3 + link), the runs of failed retries by end, the pairs of dies
whose traffic waits for a reroute (source × 8 + destination), when trainings began, the round-robin of the pair variant (R34),
and what is in flight, each with its order number. -/
structure Fabric where
  links : Store LinkState := []
  run : Store Nat := []
  rerouting : Store Bool := []
  trainedAt : Store Nat := []
  /-- a LINK_RETRAIN command in progress: by end, its TAG and whether it came from a ring -/
  retrainTag : Store Nat := []
  spread : Store Nat := []
  /-- by link transmitter: its last grant went to a hopper move and not to an egress copy (R321) -/
  moved : Store Bool := []
  flight : List (Nat × Flight) := []
deriving DecidableEq, Repr

/-! ### Ports and hopper (R42 to R83) -/

/-- A frame being received on a port, from its first cell until it ends (R46, R53, R58, R59). -/
structure RxFrame where
  cells : List Nat := []
  /-- decoded octets so far -/
  octets : List Byte := []
  /-- HOP.PORT_CFG and HOP.PORT_DEF recorded at the first cell -/
  cfg : Dword := 0
  pdef : Dword := 0
  /-- reason of a discard already decided (SLUICE), 0 none -/
  discard : Nat := 0
  pri : Nat := 0
  ts : Nat := 0
  /-- the priority is known and the sluice has been applied (R48, R63) -/
  decided : Bool := false
  /-- a MAC control frame, which takes no cell (R49) -/
  ctl : Bool := false
  /-- synchronous line: run of ones, the bits of a partial octet, and the first half of a Manchester bit -/
  ones : Nat := 0
  part : List Bool := []
  half : Option Bool := none
  /-- asynchronous line: an escape waits for its octet -/
  esc : Bool := false
  /-- a parity error, a stop bit 0 or an abort was seen -/
  bad : Bool := false
  abort : Bool := false
  /-- model clock at the last bits received, for the gap of R55 -/
  lastBit : Nat := 0
deriving DecidableEq, Repr

/-- A packet held on a die: its cells in order, and what travels with it (R58, R59, R82). -/
structure Packet where
  cells : List Nat
  len : Nat
  /-- FCS_BYTES: 0, 1 (two bytes) or 2 (four bytes) -/
  fcs : Nat
  /-- global ingress port and ticket; no ticket for an unadmitted frame -/
  port : Nat
  ticket : Nat := 0
  ticketed : Bool := false
  cfg : Dword
  pdef : Dword
  ts : Nat
  /-- axis 0 time of admission (R441) -/
  admitAt : Nat := 0
  /-- enqueues of this die that still use the cells (R305) -/
  refs : Nat := 0
  /-- held by a station or an instance -/
  held : Bool := true
deriving DecidableEq, Repr

/-- A packet between the extractor and the dispatcher: metadata, key words and lookup result as the words 0 to 26 of an
instance record (R82, R92), and the graph that is to run. -/
structure Staged where
  pid : Nat
  words : List Word
  graph : Nat := 0
  /-- table and number of key words of the lookup to be made, 0 for none (R74) -/
  table : Nat := 0
  lookup : Nat := 0
  /-- the fingerpost entry that applies, when one does (R79) -/
  fp : Option Dword := none
  /-- die that is to process the packet -/
  target : Nat := 0
  /-- the graph runs as a default action -/
  isDefault : Bool := false
  /-- instance created by DISP = RUN_GRAPH (R111) -/
  fallback : Bool := false
deriving DecidableEq, Repr

/-- Who a used cell is charged to: a local port and PFC priority, or no port (R60, R305). -/
structure Charge where
  port : Option Nat
  pri : Nat := 0
deriving DecidableEq, Repr

/-- The condition of a ticket (R20). -/
inductive TicketCond where
  | pending
  | resolved (enqs : List Enq)
  | retired
deriving DecidableEq, Repr

/-- A ticket on its port's scoreboard (R19 to R21). -/
structure Ticket where
  number : Nat
  cond : TicketCond := .pending
  /-- die that holds the packet's cells, and the packet there -/
  holder : Nat
  pid : Nat
  ts : Nat := 0
  /-- the packet tag of R441, when the instance is tagged -/
  tagged : Bool := false
  admitAt : Nat := 0
  resolvedAt : Nat := 0
  reason : Nat := 0
  /-- an enqueue of this ticket has already been released -/
  begun : Bool := false
deriving DecidableEq, Repr

/-- Flow control that a MAC owes its peer: a frame with the given time at the next boundary (R49). -/
structure FcOwed where
  quanta : Nat
  /-- model clock of the last frame sent, for the repetition -/
  sentAt : Nat := 0
  due : Bool := true
deriving DecidableEq, Repr

/-- The hopper, its ports and the extraction stations of one die. -/
structure Hopper where
  /-- cells in use; the rest of the 262,144 form the free pool (R58) -/
  cellUse : Store Charge := []
  /-- model's clock of the last allocation, and cells freed after an allocation of the same fabric cycle (R65) -/
  lastAlloc : Option Nat := none
  freeing : List Nat := []
  /-- poison bits of the cells (R360) -/
  poison : List Nat := []
  /-- packet buffer bytes, at cell × 128 + byte; an unlisted byte reads 0 -/
  buf : List Host.Cell := []
  packets : Store Packet := []
  nextPid : Nat := 0
  rx : Store RxFrame := []
  /-- frames whose last cell is written, waiting for admission (R58, R61) -/
  complete : List Nat := []
  /-- admitted frames before the extractor -/
  admitted : List Nat := []
  extracted : List Staged := []
  toMove : List Staged := []
  toInst : List Staged := []
  /-- sluices closed: the port-wide ones by local port, the priority ones by port × 8 + priority (R61, R62) -/
  closed : List Nat := []
  closedPri : List Nat := []
  fcOwed : Store FcOwed := []
  /-- PCS links up, FEC lock, and speeds of ports 8 and 9 -/
  linkUp : List Nat := []
  speed : Store Nat := []
  /-- received PAUSE: port-wide (key port) and per priority (key 32 + port × 8 + priority), the model clock at which it ends -/
  pausedTo : Store Nat := []
  /-- telegram line activity: model clock at the last bits by port (R55) -/
  lineSeen : Store Nat := []
  /-- next ticket by local port (R18) -/
  nextTicket : Store Nat := []
  /-- ticket scoreboards by local port, oldest first (R19, R21) -/
  board : Store (List Ticket) := []
  /-- tickets admitted and neither released nor retired (R23) -/
  outstanding : Nat := 0
deriving DecidableEq, Repr

/-! ### Dispatcher (R84 to R116) -/

/-- A table update command: operation code, table, key and result words, with the extra operand of the row (R248). -/
structure TblCmd where
  op : Nat
  table : Nat
  key : List Word
  res : List Word := []
  flags : Nat := 0
deriving DecidableEq, Repr

/-- An entry of a commit log (R106). -/
inductive LogEntry where
  /-- packet bytes from a byte offset of the extent -/
  | packet (off : Nat) (bytes : List Byte)
  | context (word : Nat) (val : Word)
  | enqueue (e : Enq)
  | table (c : TblCmd)
  | answer (word : Nat) (val : Dword)
  | publish (page : Nat)
deriving DecidableEq, Repr

/-- The state of an operation (R98). -/
inductive OpState where
  | atomicWait | ready | service | engine | commit | tables
deriving DecidableEq, Repr

/-- An operation in its slot (R98, R99). -/
structure Op where
  inst : Nat
  node : Nat
  kind : Nat
  st : OpState
  replays : Nat := 0
  group : Nat := 0
  domain : Nat := 0
  key : Nat := 0
  atomic : Bool := false
  created : Nat := 0
  /-- the model's clock and order of creation (R290) -/
  born : Nat := 0
  order : Nat := 0
  deadline : Nat := 0
  /-- what the node's definition said at its creation: graph, DEADLINE in µs, TIMEOUT_OK and PARAM (R99) -/
  graph : Nat := 0
  dlUs : Nat := 0
  timeoutOk : Bool := false
  param : Nat := 0
  /-- packet and record word 0 of its instance, which outlive it when an abort finds the operation in COMMIT, and whether the
  packet's cells are then still to be freed (R92, R111, R114) -/
  pid : Option Nat := none
  head : Word := 0
  frees : Bool := false
  log : List LogEntry := []
  /-- carry buffer: carry word index and value (R92) -/
  carry : Store Word := []
  outcome : Nat := 0
  /-- end-of-operation with the drop option (R114) -/
  drop : Bool := false
  /-- the RUNNER thread in SERVICE: die core × 16 + thread -/
  thread : Option Nat := none
  /-- table update entries still to complete after commit, oldest first (R108, R255) -/
  tables : List TblCmd := []
  /-- HELPER operation: its helper (cluster × 3 + helper) when it holds or waits for a lock -/
  helper : Option Nat := none
  tagged : Bool := false
  /-- station times of the tag record: OWNER, READY, START, END (R440) -/
  tOwner : Option Nat := none
  tReady : Option Nat := none
  tStart : Option Nat := none
  tEnd : Option Nat := none
deriving DecidableEq, Repr

/-- A graph instance: its record of 48 words and the progress of its nodes (R89, R92, R94). -/
structure Inst where
  graph : Nat
  width : Nat
  words : List Word
  /-- packet on this die, none for a packetless instance -/
  pid : Option Nat
  spawned : Bool := false
  fallback : Bool := false
  ingress : Bool := false
  arg : Word := 0
  /-- fingerpost entry that applied (R79) -/
  fp : Option Dword := none
  /-- nodes that have completed or been skipped; nodes that became operations or are parked -/
  done : List Nat := []
  created : List Nat := []
  parked : List Nat := []
  /-- inputs delivered: (from, to, live) -/
  inputs : List (Nat × Nat × Bool) := []
  /-- operation slots held -/
  ops : List Nat := []
  enqs : List Enq := []
  /-- record words that hold poison (R214, R357) -/
  poison : List Nat := []
  aborted : Bool := false
  dropped : Bool := false
  tagged : Bool := false
  /-- first non-DONE completion code of the logged table updates is in rec[23] -/
  tblCode : Nat := 0
deriving DecidableEq, Repr

/-- A fallback or disposition instance that waits for slots (R112). -/
structure Fallback where
  graph : Nat
  staged : Staged
  marked : Bool
deriving DecidableEq, Repr

/-- The dispatcher of one die. -/
structure Dispatcher where
  /-- graph store words, at graph × 264 + word (R84) -/
  gstore : Store Word := []
  gsPoison : List Nat := []
  insts : Store Inst := []
  ops : Store Op := []
  /-- ready lists by group, head first (R101) -/
  lists : Store (List Nat) := []
  /-- atomic flows with an owner: (domain × 2^24 + key) to owner then waiters, earliest first (R102, R103) -/
  flows : Store (List Nat) := []
  fallbacks : List Fallback := []
  /-- round-robin memories: group last taken from by thread (die core × 16 + thread), core that last took from a list -/
  lastGroup : Store Nat := []
  lastCore : Store Nat := []
  /-- tag LFSR (R439) -/
  lfsr : BitVec 32 := 1
deriving DecidableEq, Repr

/-! ### Tailrace and egress (R27, R299 to R322) -/

/-- A packet in an egress queue. -/
structure QEntry where
  a : Arrival
  /-- cells counted in the queue's depth -/
  cells : Nat
  /-- the spill granules that still hold its cells, in order (R319) -/
  spill : List Nat := []
  /-- what the spilled packet is, until its read-ahead starts -/
  info : Option Packet := none
  /-- its cells are in the read-ahead (R320) -/
  back : Bool := false
deriving DecidableEq, Repr

/-- A queue descriptor's own state (R304, R310, R312, R319). -/
structure Queue where
  entries : List QEntry := []
  deficit : Nat := 0
  /-- shaper tokens in units of 1/8,000,000 byte, and the model's clock at which they stood so (R312) -/
  tokens : Int := 0
  tokAt : Nat := 0
  spilling : Bool := false
  /-- its read-ahead is being refilled (R320) -/
  refill : Bool := false
  /-- held by a guard since the gate last opened (R317) -/
  guarded : Bool := false
deriving DecidableEq, Repr

/-- A frame chosen by a port (R310) and not yet sent. -/
structure Chosen where
  queue : Nat
  e : QEntry
  at_ : Nat
deriving DecidableEq, Repr

/-- The tailrace and egress of one die. -/
structure Egress where
  /-- next release sequence by local ingress port × 8 + destination die (R27) -/
  nextSeq : Store Nat := []
  /-- enqueues stamped and not yet admitted or skipped, by the same pair (R28) -/
  outst : Store Nat := []
  /-- released enqueues whose packet lies here and whose queue lies on another die, to be copied (R305) -/
  toCopy : List Arrival := []
  /-- enqueues that have reached this die for one of its queues -/
  arrived : List Arrival := []
  /-- next expected release sequence by global ingress port -/
  expect : Store Nat := []
  /-- sequences announced by copies that wait for this die's pool: port × 65,536 + sequence -/
  announced : List Nat := []
  /-- sequences skipped: port × 65,536 + sequence -/
  skipped : List Nat := []
  queues : Store Queue := []
  /-- last member served by local port × 8 + priority (R310) -/
  lastServed : Store Nat := []
  /-- last host queue served -/
  lastHost : Nat := 63
  chosen : Store Chosen := []
  /-- frames being transmitted whose last cell is not yet read, by local port -/
  sending : Store Chosen := []
  /-- model's clock at which each telegram port's last frame ended (FLAG_SHARE of R53) -/
  tgpEnd : Store Nat := []
  /-- spill granules in use (R319) -/
  spillUsed : List Nat := []
  /-- GATE firings on a port in the fabric cycle of the last one: the model's clock, and the queues and OPEN of each (R313) -/
  fired : Store (Nat × List (Nat × Bool)) := []
  /-- gate-list entry words, at ((pp × 8 + list) × 64 + entry) × 2 + word (R314) -/
  glist : Store Word := []
  /-- state that each list last showed: pp × 8 + list to (state, in effect, holding, entry) (R316) -/
  glState : Store (Nat × Bool × Bool × Nat) := []
deriving DecidableEq, Repr

/-! ### Cores, threads, channels (R117 to R187) -/

/-- The states of a core, in the encoding of CLU.CORE_STAT.STATE (R146). -/
inductive CoreRun where
  | running | stopped | debug | restarting
deriving DecidableEq, Repr

/-- A sampled event: its instruction, thread, operation, axis 0 time of issue and the model's clock then (R435, R436). -/
structure SampleDue where
  pc : Nat
  thr : Nat
  ev : Nat
  slot : Option Nat
  t0 : Nat
  at_ : Nat
  /-- model's clock of the thread's next issue slot, once it is known -/
  next : Option Nat := none
deriving DecidableEq, Repr

/-- A core (R139, R146, CLU.CORE_STAT and CORE_FAULT). -/
structure Core where
  run : CoreRun := .stopped
  lastHw : Bool := false
  code : Nat := 0
  faultThread : Nat := 0
  faultPc : Nat := 0
  slot : Nat := 0
  heldOp : Bool := false
  hwStops : Nat := 0
  /-- model clock at the last stop on a hardware fault (R147) -/
  lastHwAt : Option Nat := none
  /-- model's clock since which the deadlock condition has held (R136) -/
  deadSince : Option Nat := none
  /-- fault notices that wait for channel 31 (R142): the four words -/
  notices : List (List Word) := []
  /-- instruction sampling: the countdown, 0 before it starts at N (R435) -/
  countdown : Nat := 0
  /-- sampled events whose record is due, oldest first -/
  sampleDue : List SampleDue := []
  /-- the sample ring (R436) -/
  ring : List (Nat × Nat) := []
deriving DecidableEq, Repr

/-- What a thread is doing (CLU.THREAD_STAT.STATE, with debug stops and core stops shown over it). -/
inductive ThreadSt where
  | idle | issuing | waiting | blocked | faulted | parked
deriving DecidableEq, Repr

/-- A request that keeps a thread waiting: a bank (its index), a table lookup, a flow-context read (R121, R122). -/
inductive ThreadReq where
  | bank (b : Nat)
  | tbl (d : Nat) (table : Nat) (key : List Word)
  | ldf (d : Nat) (word : Nat)
deriving DecidableEq, Repr

/-- A thread's registers and what it is doing (R126, R154, R156). -/
structure Thread where
  role : Nat := 0
  st : ThreadSt := .idle
  /-- stopped by the debugger, and the instructions of a THREAD_STEP still to run (R150, R151) -/
  dbg : Bool := false
  stepping : Bool := false
  steps : Nat := 0
  /-- the model's own: an instruction has issued in the present round (EMPTY of R153) -/
  issued : Bool := false
  pc : Nat := 0
  w : Vector Word 32 := Vector.replicate 32 0
  /-- poison tags: 0 to 31 for w0 to w31, 32 + n for system register n (R155) -/
  tags : List Nat := []
  cnt : Word := 0
  z : Bool := false
  n : Bool := false
  c : Bool := false
  v : Bool := false
  dz : Bool := false
  dcv : BitVec 9 := 0
  tst : Word := 0
  rbase : Nat := 0
  rlast : Nat := 0
  /-- scoreboard bits busy, and the last status of each -/
  busy : List Nat := []
  sbStatus : Store Nat := []
  timer : Word := 0
  timerDue : Bool := false
  timerLatch : Bool := false
  msLatch : Bool := false
  dbgLatch : Bool := false
  rsetLo : Word := 0
  rsetHi : Nat := 0
  crcPoly : Nat := 0
  crcW : Nat := 0
  timeLo : Word := 0
  /-- a repeat is in progress: PC is the repeated instruction (R201) -/
  rep : Bool := false
  /-- the operation held (slot), and whether it has been delivered to a WAIT not yet reported (R134) -/
  op : Option Nat := none
  delivered : Bool := false
  /-- channel of the open message (R129) -/
  openCh : Option Nat := none
  /-- source word of the WAIT in which the thread waits, and its destination (R133) -/
  waitOn : Nat := 0
  waitDst : Nat := 0
  /-- order of the first blocked attempt or of the oldest request -/
  stamp : Nat := 0
  since : Nat := 0
  req : Option ThreadReq := none
  /-- model's clock of the grant of the cluster's table-engine port to its TBL or LDF (R121, R261) -/
  portAt : Option Nat := none
  /-- round ends that must still come before its next instruction (R120, R203), and 1 above the core cycle of its last slot
  (R485) -/
  lag : Nat := 0
  slotAt : Nat := 0
  /-- a job of the thread has read poison: it takes the fault at its next slot (R225) -/
  poisonDue : Bool := false
deriving DecidableEq, Repr

/-- A complete message: the model's clock of its last word, and its words, each with its poison tag (R128, R132). -/
structure Msg where
  at_ : Nat
  words : List (Word × Bool)
deriving DecidableEq, Repr

/-- A channel: complete messages, oldest first; and the open message with its sender (R128, R129). -/
structure Chan where
  msgs : List Msg := []
  opened : Option (Nat × List (Word × Bool)) := none
deriving DecidableEq, Repr

/-! ### Helpers (R207 to R231) -/

/-- Who holds a helper's lock (R209). -/
inductive Holder where
  /-- a thread: die core × 16 + thread -/
  | thread (t : Nat)
  /-- a HELPER operation's slot -/
  | op (slot : Nat)
deriving DecidableEq, Repr

/-- How far a job has come. -/
inductive JobPhase where
  /-- queued behind the holder's earlier jobs -/
  | queued
  /-- checked by R222, its function still to run -/
  | started
  /-- at its end, with status and, when it writes one, RESULT -/
  | ended (status : Nat) (result : Option Nat)
deriving DecidableEq, Repr

/-- A helper job (R213, R214). -/
structure Job where
  who : Holder
  /-- scoreboard bit of an HGO job -/
  sb : Nat := 0
  /-- the 8 descriptor words as they stood, and whether one was poisoned or the descriptor left the region -/
  desc : List Word
  poisoned : Bool := false
  badRegion : Bool := false
  /-- cluster-store word of the descriptor -/
  addr : Nat := 0
  /-- cluster-store range allowed (R216) -/
  first : Nat
  last : Nat
  /-- packet of the holder's operation, and the operation's slot -/
  pid : Option Nat := none
  slot : Option Nat := none
  squashed : Bool := false
  phase : JobPhase := .queued
deriving DecidableEq, Repr

/-- A helper of a cluster (R209, R211). -/
structure Helper where
  holder : Option Holder := none
  /-- the jobs of the present and, while they finish, the previous holder, oldest first -/
  jobs : List Job := []
  refused : Bool := false
  /-- the core of the cluster that last won the lock before the present cycle, and the model's clock of the last HLOCK that won,
  with its core (R210) -/
  lastCore : Nat := 3
  won : Option (Nat × Nat) := none
  /-- the operation at whose commit the holder gives up the lock (R212) -/
  atCommit : Option Nat := none
  /-- model clock at which the thread window ends (R211) -/
  window : Option Nat := none
  /-- HELPER operations that wait for the lock, oldest first -/
  fifo : List Nat := []
deriving DecidableEq, Repr
/-! ### Stores under SEC-DED (R357 to R369) and the table engine (R232 to R259) -/

/-- A record of the error ring (R369). -/
structure ErrRec where
  addr : Nat
  store : Nat
  cluster : Nat := 0
  kind : Nat
  demand : Bool
  rank : Nat := 0
  device : Nat := 0
  symbols : Nat := 0
deriving DecidableEq, Repr

/-- An entry of the lay-by store: its 8 words and its home bucket (R238). -/
structure LayEntry where
  words : List Word
  home : Nat
deriving DecidableEq, Repr

/-- A FENCE that waits for the results under way (R253): the die whose ring it came from, its tag, and the held lookup
results (source and item) that it waits for. -/
structure Fence where
  src : Nat
  tag : Nat
  waits : List (Nat × Nat) := []
deriving DecidableEq, Repr

/-- A WALK under way (R251): its body, the position in the bucket phase or the lay-by phase, the positions still to examine, the
records it has written, and the model's clock of its next access. -/
structure Walk where
  body : Nat
  pos : Nat
  lay : Bool
  left : Nat
  recs : Nat := 0
  next : Nat := 0
deriving DecidableEq, Repr

/-- A request that has reached the table engine and waits for its access point (R254): its source of R243, what it is there, its
order, the model's clock when it came, and whether its table was ACTIVE then (R245, R256). -/
structure TblWait where
  src : Nat
  item : Nat
  order : Nat
  at_ : Nat
  active : Bool
deriving DecidableEq, Repr

/-- A lookup pipe (R242, R243): the model's clock of its last access, and the source last granted. -/
structure Pipe where
  at_ : Option Nat := none
  last : Nat := 15
deriving DecidableEq, Repr

/-- The table engine of a die. -/
structure Tables where
  /-- on-chip table store words, at bucket × 32 + slot × 8 + word; an unlisted word is 0 (R233, R234) -/
  store : Store Word := []
  poison : List Nat := []
  /-- lay-by entries in use, and poisoned lay-by entries (R238) -/
  layby : Store LayEntry := []
  layPoison : List Nat := []
  /-- body under INIT (R246), the buckets it has rewritten, and the body of the last one -/
  init : Option Nat := none
  initPos : Nat := 0
  lastInit : Nat := 0
  /-- the four lookup pipes by number, and the last entry put in the lay-by: model's clock and pipe (R239, R242) -/
  pipes : Store Pipe := []
  layAt : Option (Nat × Nat) := none
  /-- requests that wait for their access points -/
  waiting : List TblWait := []
  /-- the core to which each cluster's table-engine port was last granted (R121) -/
  ports : Store Nat := []
  /-- FENCE commands whose earlier commands have reached their access points (R253) -/
  fences : List Fence := []
deriving DecidableEq, Repr

/-! ### Delays of grit (R448) -/

/-- An item held by SET_DELAY: its target and source, what it is, when it may go, whether it has been released, and the
result it carries (a lookup's outcome and words; a completion's ring, die, code, tag, C0 and C1). -/
structure Delayed where
  target : Nat
  src : Nat
  item : Nat
  until_ : Nat
  gone : Bool := false
  data : List Nat := []
deriving DecidableEq, Repr

/-! ### DRAM (R323 to R356, R364 to R370) -/

/-- The controller's states, in the encoding of DMC.STAT.STATE (R329). -/
inductive DramState where
  | training | active | selfRefresh | maint | urgent
deriving DecidableEq, Repr

/-- A request that the controller has accepted and not yet served (R332, R333): who asked, its class, the DRAM address, and
for a write the bytes from that address within one granule. -/
structure DramReq where
  who : Nat
  panic : Bool
  addr : Nat
  write : Option (List Byte) := none
  /-- a whole granule that is to be written as poison (R359) -/
  mark : Bool := false
  /-- a granule of a host read that the controller holds: the read and the granule's place in it (R329) -/
  bar : Option (Nat × Nat) := none
  at_ : Nat
deriving DecidableEq, Repr

/-- A host read of DRAM that the controller holds: its number, the bytes before its first in the first granule, how many bytes
and granules it asks for, and the granules that have come, with their poison marks (R329, R363). -/
structure BarRead where
  id : Nat
  off : Nat
  n : Nat
  granules : Nat
  parts : Store (List Byte × Bool) := []
deriving DecidableEq, Repr

/-- A writeback under the interlock of R366: the granule, and its corrected bytes or the poison mark. -/
structure BoltWrite where
  granule : Nat
  data : Option (List Byte)
  bolter : Bool
deriving DecidableEq, Repr

/-- The DDR5 controller of a die with the contents of its devices. -/
structure Dram where
  /-- bytes by their place in the devices, location × 128 + byte, a location being a granule's rank, row, bank, column and bank
  group (R326); an unlisted byte reads 0 -/
  mem : List Host.Cell := []
  /-- locations written with the poison mark (R356) -/
  poison : List Nat := []
  /-- damage: location × 8 + codeword to the inverted bits of its 20 symbols (R351, R450) -/
  dmg : Store Nat := []
  /-- locations written in a mode of the code, 0 C2 or 1 C1D3 (R353, R354) -/
  coded : Store Nat := []
  st : DramState := .training
  /-- REFRESH_URGENT was entered from MAINT (R329) -/
  urgentMaint : Bool := false
  /-- TRAIN_GO accepted since reset; training running; it is a RETRAIN; last result -/
  gone : Bool := false
  running : Bool := false
  retrain : Bool := false
  trained : Bool := false
  trainFail : Bool := false
  /-- self-refresh: entry in progress, model clock since which the channel is idle, a request waits for exit (R343, R344) -/
  entering : Bool := false
  idleSince : Nat := 0
  wake : Bool := false
  /-- granules of the units' reads that have been counted as SR_LATE in this self-refresh (R344) -/
  late : List Nat := []
  /-- model clock since which the bolter defers its steps, and how many it has put off (R346, R365) -/
  srSince : Nat := 0
  deferred : Nat := 0
  /-- owed counts by rank × 4 + bank index, ranks at the doubled rate, model clock of each rank's next tick and MR4 read,
  the model clock until which a bank index is held, by rank × 4 + index, and that of each rank's last change of rate (R335,
  R337, R338, R449) -/
  owed : Store Nat := []
  rate2x : List Nat := []
  tickAt : Store Nat := []
  mr4At : Nat := 0
  busyTo : Store Nat := []
  chgAt : Store Nat := []
  /-- open row by rank × 32 + bank group × 4 + bank -/
  rows : Store Nat := []
  queue : List DramReq := []
  bars : List BarRead := []
  /-- mode registers by (rank × 20 + device) × 256 + register (R348) -/
  modeRegs : Store Nat := []
  bolts : List BoltWrite := []
  revisit : List Nat := []
  /-- bolter: passes of the DRAM walker and, by store, position and passes of the SRAM walkers (R364) -/
  pos : Nat := 0
  passes : Nat := 0
  sramPos : Store Nat := []
  sramPasses : Store Nat := []
deriving DecidableEq, Repr


/-! ### Axes and milestones (R265 to R298) -/

/-- An axis record (R272, R275): state 0 OFF, 1 ACTIVE, 2 HELD; edge value in units of 2^−12; edge time; period; direction;
and whether V_e came from the journal. -/
structure AxisRec where
  /-- model's clock of the enabling that the record belongs to (R276) -/
  born : Nat := 0
  st : Nat := 0
  ve : Int := 0
  te : Nat := 0
  p : Option Nat := none
  down : Bool := false
  restored : Bool := false
deriving DecidableEq, Repr

/-- An axis on die 0: its latest record, the last counted edge or accepted crossing, its index, and a force of grit with
the hidden edge value (R271 to R273, R452). -/
structure AxisMaster where
  cur : AxisRec := {}
  /-- timestamp and direction of the last counted edge, or timestamp of the last accepted crossing -/
  last : Option (Nat × Bool) := none
  idxDone : Bool := false
  idxAt : Option Nat := none
  /-- model's clock at which a force ends, and the hidden edge value -/
  forced : Option Nat := none
  hidden : Option Int := none
deriving DecidableEq, Repr

/-- A record on its way to the dies' views, with the direction of its move: 1 forward, −1 backward, 0 no crossing. -/
structure AxisFlight where
  axis : Nat
  recd : AxisRec
  dir : Int
deriving DecidableEq, Repr

/-- A jump that takes effect at a time of the model's clock (R286), and the axis 0 time of its apply point. -/
structure Jump where
  axis : Nat
  delta : Int
  due : Nat
  at_ : Nat
deriving DecidableEq, Repr

/-- The axes of the package, on die 0 (R265 to R279, R288). -/
structure Axes where
  master : Store AxisMaster := []
  recs : List AxisFlight := []
  jumps : List Jump := []
  /-- levels of A (bit 0) and B (bit 1) by encoder -/
  enc : Store Nat := []
  /-- axis 0 time of the next 1PPS pulse, and the model's clock at which the present one falls (R267) -/
  ppsNext : Nat := 1000000000
  ppsFall : Option Nat := none
  /-- levels of the event outputs; changes due: pin, OP of R288 and the model's clock; ends of pulses -/
  pins : Nat := 0
  pinQ : List (Nat × Nat × Nat) := []
  pulses : Store Nat := []
  /-- model's clock of the next axis journal record (R295) -/
  jrnNext : Nat := 10000000
deriving DecidableEq, Repr

/-- A firing that is due (R287): the milestone and its axis, its compare value, DOWN, LATE, by a jump, its crossing time, and
the model's clock at which it became due. -/
structure Firing where
  ms : Nat
  axis : Nat
  c : Nat
  down : Bool
  late : Bool
  jump : Bool
  time : Nat
  at_ : Nat := 0
deriving DecidableEq, Repr

/-- A queued SEND message (R289): its channel, the target thread, its words, and the order of its firing. -/
structure SendMsg where
  chan : Nat
  thread : Nat
  words : List Word
  stamp : Nat
deriving DecidableEq, Repr

/-- How many things of one kind have happened in one fabric cycle of the model's clock. -/
structure Quota where
  at_ : Nat := 0
  used : Nat := 0
deriving DecidableEq, Repr

/-- A die's views of the axes and its milestones. -/
structure Mls where
  /-- the view of axes 1 to 7, and the model value last looked at, in units of 2^−12 -/
  views : Store (AxisRec × Int) := []
  /-- axis 0 time up to which the die's milestones have looked -/
  seen : Nat := 0
  lost : Bool := false
  /-- model's clock of the last broadcast frame (R275) -/
  frameAt : Nat := 0
  /-- milestone entries of 8 words (R280) -/
  ms : Store (List Word) := []
  /-- compare values that have advanced since MS_ARM wrote words 1 and 2 (R280, R284) -/
  cmp : Store Nat := []
  due : List Firing := []
  /-- firings and completed waits of one fabric cycle, at most 4 of each (R287, R290) -/
  fires : Quota := {}
  done : Quota := {}
  sends : List SendMsg := []
  /-- operations that a WAIT firing has marked, in the order in which they complete (R290) -/
  waits : List Nat := []
  caps : List Firing := []
deriving DecidableEq, Repr

/-! ### Tally, samples and tags (R431 to R441) -/

/-- A record that waits for the sample writer, as 64-bit slots. -/
abbrev TagRec := List Nat

/-- A snapshot that is being captured: its tick, the bytes captured so far, and the place of the block that follows (R432). -/
structure Capture where
  tick : Nat
  bytes : List Byte
  next : Nat := 0
deriving DecidableEq, Repr

/-- The tally reader and the sample writer of a die. -/
structure Tally where
  /-- tag queue, oldest first (R439) -/
  tagQueue : List TagRec := []
  /-- axis 0 time of the next tick (R431), ticks skipped since the last snapshot (R433) -/
  nextTick : Nat := 0
  skipped : Nat := 0
  /-- core ring that the sample writer looks at next, 48 for the tag queue (R437) -/
  nextRing : Nat := 0
  /-- the capture in progress (R432), and a captured snapshot whose DRAM write the controller holds (R434) -/
  cap : Option Capture := none
  snap : Option (List Byte) := none
  /-- by TLY.CHAIN register: the model's clock of its last write and the value before it (R427) -/
  chainWas : Store (Nat × Nat) := []
  /-- by block: the model's clock of its last ZERO; and that of its last ZERO or OVF_CLR with its counters before it (R428) -/
  zeroed : Store Nat := []
  was : Store (Nat × Store Ctr) := []
  /-- model's clock of the record last moved by the sample writer (R437) -/
  wrote : Option Nat := none
  /-- snapshots written since ENABLE was set: SEQ of the next one (R433) -/
  written : Nat := 0
deriving DecidableEq, Repr

/-! ### Command rings (R381 to R390) -/

/-- A descriptor that the part has fetched: its four slots, the argument block that goes with it, whether its command has
started, and the model's clock at which it started (for SWAP_TABLE, the order of requests at which it started). -/
structure RCmd where
  d0 : Nat
  d1 : Nat
  d2 : Nat
  d3 : Nat
  arg : List Nat := []
  started : Bool := false
  since : Nat := 0
  /-- the order of its fetch -/
  order : Nat := 0
  /-- the progress of a WALK -/
  walk : Option Walk := none
deriving DecidableEq, Repr

/-- A command ring: fetched commands not yet completed, oldest first, and the PHASE of the next completion (R382, R386). -/
structure Ring where
  cmds : List RCmd := []
  phase : Bool := true
  /-- model's clock of the last fetch (R385) -/
  fetchAt : Option Nat := none
deriving DecidableEq, Repr

/-! ### Answer Port (R393 to R398) -/

/-- The answer memory and the port's own state. -/
structure Answer where
  front : Store Dword := []
  back : Store Dword := []
  /-- pages whose publish waits (ANS.PENDING) -/
  pending : List Nat := []
  /-- page of the read sequence in progress -/
  seqPage : Option Nat := none
  wcount : Nat := 0
  /-- model clock of the last ANS_CLK edge seen -/
  lastEdge : Option Nat := none
  clkSeen : Bool := false
deriving DecidableEq, Repr

/-! ### Waymark, identity, power and the TAP (R400 to R420, R463 to R479) -/

/-- The Waymark port of die 0: when its output line is free, the starts of the frames that still wait for it (R403), the
model's clock at which the next TIME frame is due (R407), the SEQ of the last register frame sent, and the last activity
seen on the input. -/
structure Wmk where
  lineFree : Nat := 0
  starts : List Nat := []
  timeAt : Nat := 0
  seq : Nat := 0
  lastIn : Option Nat := none
deriving DecidableEq, Repr

/-- The identity block (R408 to R415): the owner key hash of the fuses, the one that the boot ROM read at step 1 (R419), the
measurements of the last boot, the running image's version and slot, the outstanding challenge with the model's clock at its
making, and when the unlock's window passes. -/
structure Ident where
  owner : Option Nat := none
  bootKey : Option Nat := none
  mImage : Nat := 0
  mThread : Nat := 0
  mConfig : Nat := 0
  version : Nat := 0
  slotB : Bool := false
  challenge : Option (List Byte × Nat) := none
  window : Option Nat := none
deriving DecidableEq, Repr

/-- Reset, straps, clocks and PCIe links (R374, R416, R463 to R467): RESET_N accepted low, the self-reset causes not yet
cleared (bit numbers of DCTL.RESET_CAUSE), the model's clock at which RESET_N went low and at which the last cause began,
whether boot has run since the release, the BOOT_SRC and PCIE_BIF straps, the PCIe links of dies 0 and 1, and lost
references. -/
structure Power where
  low : Bool := false
  causes : List Nat := []
  lowAt : Nat := 0
  causeAt : Nat := 0
  booted : Bool := false
  bootSrc : Bool := false
  twoEnds : Bool := false
  link1 : Bool := false
  pcieLost : Bool := false
  /-- THERM_ALERT_N is driven low -/
  alert : Bool := false
deriving DecidableEq, Repr

/-- The TAP (R473 to R476): its instruction, the boundary register, a core-control command that waits for ring 3 of its
die with the number of that ring's commands still before it, and the status of the last command. -/
structure Tap where
  ir : Nat := 2
  boundary : Nat := 0
  dbg : Option (Nat × Nat) := none
  code : Nat := 0
  value : Nat := 0
deriving DecidableEq, Repr

/-! ### A die and the part -/

/-- One die (R15): its register file, its counters and the state of its blocks. -/
structure Die where
  /-- registers written by the host or the part, by offset in the die window; an unlisted one holds its reset value -/
  regs : Store Nat := []
  /-- low dwords of slots held for their high dword (R375) -/
  lows : Store Nat := []
  /-- counters by block × 256 + index (R426, R429) -/
  ctrs : Store Ctr := []
  /-- axis 0: nanoseconds modulo 2^72, and the fraction in units of 2^-32 ns (R266) -/
  t0 : Nat := 0
  t0frac : Nat := 0
  /-- the host transmit ring has completed an entry since HTX_HEAD_ACK was last written (R380) -/
  htxDone : Bool := false
  hop : Hopper := {}
  dsp : Dispatcher := {}
  egr : Egress := {}
  cores : Store Core := []
  /-- threads by die core × 16 + thread -/
  threads : Store Thread := []
  /-- core channels by die core × 32 + channel, cluster channels by 1,536 + cluster × 8 + (channel − 32) -/
  chans : Store Chan := []
  /-- instruction stores by cluster × 65,536 + word -/
  istore : Store Word := []
  /-- cluster stores by cluster × 262,144 + word, and the poisoned words (R162) -/
  cstore : Store Word := []
  cstorePoison : List Nat := []
  /-- the last grant of each bank, by cluster × 16 + bank: the model's clock, the thread, and the core (R121) -/
  banks : Store (Nat × Nat × Nat) := []
  /-- helpers by cluster × 3 + kind, and the core that last won each lock (R210) -/
  helpers : Store Helper := []
  /-- flow contexts by context × 16 + word, and the poisoned words (R260, R262) -/
  ctx : Store Word := []
  ctxPoison : List Nat := []
  tly : Tally := {}
  tbl : Tables := {}
  dram : Dram := {}
  /-- SRAM units with inverted bits: (store × 16 + cluster) × 2^28 + unit to the mask of inverted bits (R357, R450); and
  units whose correction or poison bit is still to be written (R358) -/
  dmg : Store Nat := []
  wback : List Nat := []
  errRing : List ErrRec := []
  /-- command rings by number, and table commands of other dies' rings that this die is to apply (R258) -/
  rings : Store Ring := []
  replicas : List (Nat × RCmd) := []
  /-- FORCE_FAULT of ILLEGAL_INSTRUCTION that waits for a thread's next instruction: thread and model clock (R451) -/
  gritForce : Option (Nat × Nat) := none
  /-- FORCE_FAULT of a hardware fault that waits for its core's next round boundary: thread and code (R451) -/
  gritHw : Option (Nat × Nat) := none
  /-- items held by SET_DELAY, oldest first (R448) -/
  delayed : List Delayed := []
  mls : Mls := {}
  /-- values latched by a read of the half that latches, by register offset (R266, R267, R274, R407) -/
  latch : Store Nat := []
  /-- model's clock at which boot released the threads: core cycles count from there (R485) -/
  coreStart : Nat := 0
  /-- model's clock since which a cluster's deadlock condition has held (R137) -/
  clusterSince : Store Nat := []
deriving DecidableEq, Repr

/-- What the fuses fix (R1, R4, DCTL.VARIANT, PKG_ID, R409). -/
structure Fuses where
  dies : Nat := 8
  speed16 : Bool := false
  gradeX : Bool := false
  stepping : Nat := 0
  serial : Nat := 0
deriving DecidableEq, Repr

/-- The fault journal record that a die sends to die 0 (R423, R424). -/
structure JRec where
  kind : Nat
  time : Nat
  die : Nat
  reason : Nat
  w4 : Nat
  w5 : Nat := 0
  w6 : Nat := 0
deriving DecidableEq, Repr

/-- The machine. -/
structure State where
  fuses : Fuses := {}
  /-- fabric cycles since the last reset: the model's own clock, which only an idle step advances -/
  now : Nat := 0
  dies : Vector Die 8 := Vector.replicate 8 {}
  fab : Fabric := {}
  /-- fault journal records that wait on die 0, and the records lost before the next one (R424) -/
  journal : List JRec := []
  journalLost : Nat := 0
  /-- PCIe endpoint of die 0: link up and power state (R373) -/
  pcieUp : Bool := false
  pciePower : PowerState := .d0
  /-- SERDES_REFCLK is lost (R467) -/
  serdesLost : Bool := false
  ans : Answer := {}
  wmk : Wmk := {}
  ident : Ident := {}
  pwr : Power := {}
  tap : Tap := {}
  /-- the package's axes, on die 0 -/
  ax : Axes := {}
  /-- journal MRAM words (R421); an unlisted word is 0 -/
  mram : Store Word := []
  /-- what has left the part, oldest first -/
  out : List Out := []
  /-- the model's own count of free values drawn (log entry 3) -/
  draws : Nat := 0
  /-- order of attempts and requests (R121, R130) -/
  stamps : Nat := 0
  /-- the commands that wait, first in, first out -/
  pending : List Instr := []
deriving DecidableEq, Repr

/-- Why a step stops with a fault. -/
inductive Fault where
  /-- the command is an event of a die, port, core or unit that the variant lacks (R2, R42), which nothing can do; raised by
  the operand checks onDie, onPort and onThread; never by a host access, which is a silent violation; safe -/
  | absent
deriving DecidableEq, Repr

/-- Why a step is refused. -/
inductive Refusal where
  /-- the command has no meaning in the model; raised by an arm of exec; safe -/
  | notModelled (mnemonic : String)
deriving DecidableEq, Repr

/-- The machine right after reset (R463): before BOOT. -/
def State.reset : State := {}

end Sys2Proof.Machine
end

