-- ==== Sys2Proof/Machine/Ops.lean ====
section
/-! DEFINITION. The named operations over the state that every chapter shares: sparse tables and byte memories, the
register file, counters (R426 to R428), events and MSI-X (R380), the Twipex topology (R32 to R36), the fault journal's queue
(R424), free choices, and the shape of a command's meaning. -/

namespace Sys2Proof.Machine

open Sys2Proof

/-! ### Bit fields and sparse tables -/

/-- The field of `w` bits from bit `lo` of a number. -/
def bits (n lo w : Nat) : Nat := n / 2 ^ lo % 2 ^ w

/-- Bit `i` of a number. -/
def bit (n i : Nat) : Bool := n / 2 ^ i % 2 = 1

/-- A number with the field of `w` bits from bit `lo` replaced. -/
def putBits (n lo w v : Nat) : Nat :=
  n - bits n lo w * 2 ^ lo + v % 2 ^ w * 2 ^ lo

/-- A number with bit `i` set or cleared. -/
def putBit (n i : Nat) (b : Bool) : Nat := putBits n i 1 (if b then 1 else 0)

/-- The bits of a mask, lowest first, below `w`. -/
def maskList (m w : Nat) : List Nat := (List.range w).filter (bit m)

/-- The entry of a key. -/
def sget {α : Type} : Store α → Nat → Option α
  | [], _ => none
  | (k', v) :: m, k => if k' = k then some v else if k < k' then none else sget m k

/-- The entry of a key, or a default. -/
def sgetD {α : Type} (m : Store α) (k : Nat) (d : α) : α := (sget m k).getD d

/-- Set the entry of a key, keeping the keys strictly rising. -/
def sset {α : Type} : Store α → Nat → α → Store α
  | [], k, v => [(k, v)]
  | (k', v') :: m, k, v =>
    if k' = k then (k, v) :: m else if k < k' then (k, v) :: (k', v') :: m else (k', v') :: sset m k v

/-- Remove the entry of a key. -/
def sdel {α : Type} (m : Store α) (k : Nat) : Store α := m.filter fun p => p.1 ≠ k

/-- Read a byte of a memory; an unlisted address reads 0. -/
def Memory.read (m : List Host.Cell) (a : Nat) : Byte := sgetD m a 0

/-- Write a byte of a memory in its one canonical form: strictly rising addresses and no listed zero. -/
def Memory.write (m : List Host.Cell) (a : Nat) (b : Byte) : List Host.Cell :=
  if b = 0 then sdel m a else sset m a b

/-- Write bytes from an address upward. -/
def Memory.writeBytes (m : List Host.Cell) (a : Nat) : List Byte → List Host.Cell
  | [] => m
  | b :: bs => Memory.writeBytes (Memory.write m a b) (a + 1) bs

/-- Read `n` bytes from an address upward. -/
def Memory.readBytes (m : List Host.Cell) (a n : Nat) : List Byte :=
  (List.range n).map fun i => Memory.read m (a + i)

/-- The keys of a table rise strictly. -/
def Store.sorted {α : Type} : Store α → Bool
  | [] => true
  | [_] => true
  | (k, _) :: (k', v) :: m => decide (k < k') && Store.sorted ((k', v) :: m)

/-- A byte memory's canonical form. -/
def Memory.wf (m : List Host.Cell) : Bool := Store.sorted m && m.all fun c => c.2 ≠ 0

/-- The number that bytes spell, most significant first. -/
def beNat (bs : List Byte) : Nat := bs.foldl (fun n b => n * 256 + b.toNat) 0

/-- A number as `n` bytes, most significant first. -/
def natBE (n v : Nat) : List Byte := (List.range n).map fun i => BitVec.ofNat 8 (v / 256 ^ (n - 1 - i))

/-- The number that bytes spell, least significant first. -/
def leNat (bs : List Byte) : Nat := bs.foldr (fun b n => n * 256 + b.toNat) 0

/-- A number as `n` bytes, least significant first. -/
def natLE (n v : Nat) : List Byte := (List.range n).map fun i => BitVec.ofNat 8 (v / 256 ^ i)

/-- Quotient rounded up. -/
def ceilDiv (a b : Nat) : Nat := (a + b - 1) / b

/-- A 36-bit word of a number. -/
def w36 (n : Nat) : Word := BitVec.ofNat 36 n

/-- A signed field of `w` bits. -/
def sext (n w : Nat) : Int := if n % 2 ^ w < 2 ^ (w - 1) then (n % 2 ^ w : Nat) else (n % 2 ^ w : Nat) - (2 ^ w : Nat)

/-! ### CRC -/

/-- One bit of a reflected CRC. -/
def crcStep (poly reg : Nat) : Nat := if reg % 2 = 1 then (reg / 2) ^^^ poly else reg / 2

/-- One octet of a reflected CRC, least significant bit first. -/
def crcByte (poly reg : Nat) (b : Byte) : Nat :=
  (List.range 8).foldl (fun r _ => crcStep poly r) (reg ^^^ b.toNat)

/-- A reflected CRC over octets from a register value. -/
def crcBytes (poly reg : Nat) (bs : List Byte) : Nat := bs.foldl (crcByte poly) reg

/-- CRC-32C over octets with a seed, as R78 gives: reflected 0x1EDC_6F41, result complemented. -/
def crc32c (seed : Nat) (bs : List Byte) : Nat := crcBytes 0x82F63B78 seed bs ^^^ 0xFFFFFFFF

/-- The Ethernet FCS and FCS-32: reflected 0x04C1_1DB7. -/
def crc32 (bs : List Byte) : Nat := crcBytes 0xEDB88320 0xFFFFFFFF bs ^^^ 0xFFFFFFFF

/-- FCS-16 of ISO/IEC 13239: reflected 0x1021. -/
def crc16 (bs : List Byte) : Nat := crcBytes 0x8408 0xFFFF bs ^^^ 0xFFFF

/-! ### The state -/

/-- A die of the package. -/
def State.die (s : State) (d : Nat) : Die := s.dies.getD d {}

/-- Change one die. -/
def State.modDie (s : State) (d : Nat) (f : Die → Die) : State := { s with dies := s.dies.setIfInBounds d (f (s.die d)) }

/-- A die that the variant holds (R1, R2). -/
def State.has (s : State) (d : Nat) : Bool := d < s.fuses.dies && d < 8

/-- Change the hopper, the dispatcher or the egress of a die. -/
def State.modHop (s : State) (d : Nat) (f : Hopper → Hopper) : State := s.modDie d fun x => { x with hop := f x.hop }

/-- Change the dispatcher of a die. -/
def State.modDsp (s : State) (d : Nat) (f : Dispatcher → Dispatcher) : State :=
  s.modDie d fun x => { x with dsp := f x.dsp }

/-- Change the tailrace and egress of a die. -/
def State.modEgr (s : State) (d : Nat) (f : Egress → Egress) : State := s.modDie d fun x => { x with egr := f x.egr }

/-- Record an output. -/
def State.emit (s : State) (o : Out) : State := { s with out := s.out ++ [o] }

/-- The axis 0 time of a die in ns, 72 bits (R266). -/
def State.time (s : State) (d : Nat) : Nat := (s.die d).t0

/-- Whether axis 0 of a die has reached a time, on the 72-bit circle. -/
def reached (now t : Nat) : Bool := (now + 2 ^ 72 - t) % 2 ^ 72 < 2 ^ 71

/-- A free choice below `n`, which the manual leaves to the part (log entry 3). -/
def State.choose (s : State) (n : Nat) : Nat × State :=
  (Config.freeNat s.draws % n, { s with draws := s.draws + 1 })

/-- A free value of up to 64 bits, which the manual does not state (log entry 4). -/
def State.freeValue (s : State) : Nat × State :=
  ((Config.freeWord s.draws).toNat, { s with draws := s.draws + 1 })

/-- The first index from `start`, wrapping at `n`, that a list does not hold. -/
def firstFree (used : List Nat) (n : Nat) : Nat → Nat → Nat
  | 0, start => start % n
  | fuel + 1, start => if used.contains (start % n) then firstFree used n fuel (start + 1) else start % n

/-- A free index below `n` outside a list of used ones, by the part's own choice. -/
def State.pick (s : State) (used : List Nat) (n : Nat) : Nat × State :=
  let r := s.choose n
  (firstFree used n used.length r.1, r.2)

/-! ### Registers -/

/-- The value held in a register's storage. -/
def State.reg (s : State) (d : Nat) (r : RegId) (ix : List Nat := []) : Nat :=
  sgetD (s.die d).regs (regOff r ix) (regReset r ix)

/-- A field of a register. -/
def State.fld (s : State) (d : Nat) (r : RegId) (ix : List Nat) (lo w : Nat) : Nat := bits (s.reg d r ix) lo w

/-- Set a register's storage. -/
def State.setReg (s : State) (d : Nat) (r : RegId) (ix : List Nat) (v : Nat) : State :=
  s.modDie d fun x => { x with regs := sset x.regs (regOff r ix) v }

/-- Set a field of a register's storage. -/
def State.setFld (s : State) (d : Nat) (r : RegId) (ix : List Nat) (lo w v : Nat) : State :=
  s.setReg d r ix (putBits (s.reg d r ix) lo w v)

/-! ### Counters (R426, R427) -/

/-- TLY.CHAIN as it acts in this fabric cycle: a write takes effect from the next one (R427). -/
def State.chainNow (s : State) (d blk w : Nat) : Nat :=
  match sget (s.die d).tly.chainWas (regOff .tlyChain [blk, w]) with
  | some (t, old) => if t = s.now then old else s.reg d .tlyChain [blk, w]
  | none => s.reg d .tlyChain [blk, w]

/-- Whether the pair of a counter is chained: TLY.CHAIN of its block (R427). -/
def State.chained (s : State) (d blk idx : Nat) : Bool := bit (s.chainNow d blk (idx / 64)) (idx % 64 / 2)

/-- A block whose counters TLY.ZERO has set to 0 in this fabric cycle, the events of which are discarded (R428). -/
def State.zeroedNow (s : State) (d blk : Nat) : Bool := sget (s.die d).tly.zeroed blk = some s.now

/-- A counter of a die. -/
def State.ctr (s : State) (d blk idx : Nat) : Ctr := sgetD (s.die d).ctrs (blk * 256 + idx) {}

/-- Set a counter. -/
def State.setCtr (s : State) (d blk idx : Nat) (c : Ctr) : State :=
  s.modDie d fun x => { x with ctrs := sset x.ctrs (blk * 256 + idx) c }

/-- Add to a counter's value, with the wrap and OVF of R426. -/
def ctrAdd (c : Ctr) (n : Nat) : Ctr :=
  { val := (c.val + n) % 2 ^ 48, ovf := c.ovf || decide (2 ^ 48 ≤ c.val + n) }

/-- Count an event of amount `n`: the wrap of an even counter of a chained pair goes to the odd one, which then counts no
event of its own (R426, R427). -/
def State.count (s : State) (d blk idx : Nat) (n : Nat := 1) : State :=
  if s.zeroedNow d blk then s
  else if s.chained d blk idx then
    if idx % 2 = 1 then s
    else
      let c := s.ctr d blk idx
      let s1 := s.setCtr d blk idx (ctrAdd c n)
      s1.setCtr d blk (idx + 1) (ctrAdd (s1.ctr d blk (idx + 1)) ((c.val + n) / 2 ^ 48))
  else s.setCtr d blk idx (ctrAdd (s.ctr d blk idx) n)

/-- Block numbers of R429. -/
def ctrDCTL : Nat := 0
def ctrHOP : Nat := 1
def ctrPORT : Nat := 2
def ctrDSP : Nat := 3
def ctrEGR : Nat := 4
def ctrTBL : Nat := 5
def ctrFLC : Nat := 6
def ctrMLS : Nat := 7
def ctrDMC : Nat := 8
def ctrECC : Nat := 9
def ctrTWX : Nat := 10
def ctrHLP : Nat := 11
def ctrTLY : Nat := 12
def ctrGRT : Nat := 13
def ctrANS : Nat := 14

/-- Count a port event: 8 × local port + counter (R83, R429). -/
def State.countPort (s : State) (d p i : Nat) (n : Nat := 1) : State := s.count d ctrPORT (8 * p + i) n

/-- A silent violation on a die (R378, R379); a missing die's is counted on die 0. -/
def State.violation (s : State) (d : Nat) : State := s.count (if s.has d then d else 0) ctrDCTL 0

/-! ### Interrupts (R380) -/

/-- The interrupt source of a block's EVENT register. -/
def evSource : EvBlock → Nat
  | .dsp => 9 | .tbl => 11 | .mls => 12 | .dmc => 13 | .ecc => 14 | .twx => 15 | .hlp => 16 | .egr => 17
  | .tly => 18 | .grt => 19 | .ans => 20 | .dctl => 21

/-- A block's EVENT and EVENT_EN registers. -/
def evRegs : EvBlock → RegId × RegId
  | .dsp => (.dspEvent, .dspEventEn) | .tbl => (.tblEvent, .tblEventEn) | .mls => (.mlsEvent, .mlsEventEn)
  | .dmc => (.dmcEvent, .dmcEventEn) | .ecc => (.eccEvent, .eccEventEn) | .twx => (.twxEvent, .twxEventEn)
  | .hlp => (.hlpEvent, .hlpEventEn) | .egr => (.egrEvent, .egrEventEn) | .tly => (.tlyEvent, .tlyEventEn)
  | .grt => (.grtEvent, .grtEventEn) | .ans => (.ansEvent, .ansEventEn) | .dctl => (.dctlEvent, .dctlEventEn)

/-- An enabled bit of a block's EVENT is set. -/
def State.evCond (s : State) (d : Nat) (b : EvBlock) : Bool :=
  (s.reg d (evRegs b).1 []) &&& (s.reg d (evRegs b).2 []) ≠ 0

/-- Some core of the die has an enabled event bit set: CLU.CORE_EVENT bits [3:0] under enables [7:4]. -/
def State.cluCond (s : State) (d : Nat) : Bool :=
  (List.range 48).any fun c =>
    let v := s.reg d .cluCoreEvent [c / 4, c % 4]
    bits v 0 4 &&& bits v 4 4 ≠ 0

/-- The condition of an interrupt source of a die (R380). -/
def State.irqCond (s : State) (d src : Nat) : Bool :=
  match src with
  | 7 => bit (s.reg d .htxCtl []) 1 && (s.die d).htxDone
  | 8 => s.reg d .dctlHqEvent [0] ≠ 0 || s.reg d .dctlHqEvent [1] ≠ 0
  | 9 => s.evCond d .dsp
  | 10 => s.cluCond d
  | 11 => s.evCond d .tbl
  | 12 => s.evCond d .mls
  | 13 => s.evCond d .dmc
  | 14 => s.evCond d .ecc
  | 15 => s.evCond d .twx
  | 16 => s.evCond d .hlp
  | 17 => s.evCond d .egr
  | 18 => s.evCond d .tly
  | 19 => s.evCond d .grt
  | 20 => s.evCond d .ans
  | 21 => s.evCond d .dctl
  | n => n < 7 && bit (s.reg d .ringCtl [n]) 1 && s.reg d .ringCTail [n] ≠ s.reg d .ringCHead [n]

/-- The part can send on die 0's endpoint: link up and in D0 (R373). -/
def State.pcieLive (s : State) : Bool := s.pcieUp && s.pciePower = .d0

/-- Send the MSI-X message of a source (R380): a masked vector, or one that cannot be sent, sets its pending bit, as the
PCIe specification gives (log entry 20). -/
def State.sendMsix (s : State) (d src : Nat) : State :=
  if s.has d then
    let v := d * 32 + src
    if bit (s.reg 0 .dctlMsixTable [v, 3]) 0 || !s.pcieLive then
      s.setReg 0 .dctlMsixPba [v / 32] (putBit (s.reg 0 .dctlMsixPba [v / 32]) (v % 32) true)
    else
      (s.emit (.msix v (s.reg 0 .dctlMsixTable [v, 1] * 2 ^ 32 + s.reg 0 .dctlMsixTable [v, 0])
        (s.reg 0 .dctlMsixTable [v, 2]))).count d ctrDCTL 6
  else s

/-- Make a change and send the message of a source whose condition becomes true by it (R380). -/
def State.watch (s : State) (d src : Nat) (f : State → State) : State :=
  let s' := f s
  if s.irqCond d src then s' else if s'.irqCond d src then s'.sendMsix d src else s'

/-- Test a source's condition again: another message when it still holds (R380). -/
def State.retest (s : State) (d src : Nat) : State := if s.irqCond d src then s.sendMsix d src else s

/-- Set a bit of a block's EVENT register, sending the message when its source's condition becomes true. -/
def State.event (s : State) (d : Nat) (b : EvBlock) (i : Nat) : State :=
  s.watch d (evSource b) fun s => s.setReg d (evRegs b).1 [] (putBit (s.reg d (evRegs b).1 []) i true)

/-! ### Topology and reach (R32 to R36) -/

/-- The die at the far end of link k of die d (R32). -/
def farEnd (dies d k : Nat) : Nat :=
  if dies = 2 then d ^^^ 1 else if dies = 4 then d ^^^ (k + 1) else d ^^^ 2 ^ k

/-- The key of a link, which both of its ends share (R487). -/
def linkKey (dies d k : Nat) : Nat := min d (farEnd dies d k) * 3 + k

/-- The one state of a link (R37, R487). -/
def State.link (s : State) (d k : Nat) : LinkState := sgetD s.fab.links (linkKey s.fuses.dies d k) .training

/-- A link carries traffic in UP and DEGRADED (R34). -/
def State.linkOpen (s : State) (d k : Nat) : Bool := s.link d k = .up || s.link d k = .degraded

/-- One relaxation of the distances to a die over open links: `none` is no route yet. -/
def hopsStep (s : State) (dist : List (Option Nat)) : List (Option Nat) :=
  (List.range 8).map fun d =>
    match dist.getD d none with
    | some n => some n
    | none =>
      let near := (List.range 3).filterMap fun k =>
        if s.has d && s.linkOpen d k then dist.getD (farEnd s.fuses.dies d k) none else none
      near.foldl (fun m n => match m with | none => some (n + 1) | some x => some (min x (n + 1))) none

/-- Distances of every die to a destination: seven relaxations reach every die of the largest variant. -/
def State.hopsTo (s : State) (dst : Nat) : List (Option Nat) :=
  (List.range 7).foldl (fun m _ => hopsStep s m) ((List.range 8).map fun d => if d = dst && s.has d then some 0 else none)

/-- The hop count between two dies, none when there is no route (R36). -/
def State.hops (s : State) (src dst : Nat) : Option Nat := (s.hopsTo dst).getD src none

/-- A die reaches another (R36). -/
def State.reach (s : State) (src dst : Nat) : Bool := s.has src && s.has dst && (s.hops src dst).isSome

/-! ### The fault journal's queue (R424) -/

/-- Queue a fault journal record on die 0; a full queue of 64 drops it and counts it in JRN_STAT.DROPS. -/
def State.journalRec (s : State) (r : JRec) : State :=
  if s.journal.length < 64 then { s with journal := s.journal ++ [r] }
  else
    { s with journalLost := min 255 (s.journalLost + 1) }.setFld 0 .dctlJrnStat [] 19 13
      (min 8191 (s.fld 0 .dctlJrnStat [] 19 13 + 1))

/-- A journal record made by a die at its present axis 0 time. It goes to die 0 over Twipex, and is lost from a die that does
not reach die 0 (R424, R486). -/
def State.journalBy (s : State) (d kind reason w4 : Nat) (w5 : Nat := 0) (w6 : Nat := 0) : State :=
  if s.reach d 0 then
    s.journalRec { kind := kind, time := s.time d, die := d, reason := reason, w4 := w4, w5 := w5, w6 := w6 }
  else s

/-- Journal a dropped packet or discarded enqueue: KIND DROP (R424). -/
def State.journalDrop (s : State) (d reason port queue : Nat) : State := s.journalBy d 1 reason port queue

/-! ### Reason codes (R484) -/

def rSELECTOR : Nat := 1
def rPARSE : Nat := 2
def rLOOKUP : Nat := 3
def rFAULT : Nat := 4
def rSLUICE : Nat := 5
def rLENGTH : Nat := 6
def rGAP : Nat := 7
def rFCS : Nat := 8
def rPOISON : Nat := 9
def rPROGRAM : Nat := 10
def rDEADLINE : Nat := 11

/-! ### The shape of a command's meaning -/

/-- The outcome of a command. -/
abbrev Res := Host.Outcome State Fault Refusal

/-- The part is in reset: RESET_N is accepted low, or a cause of the part's own reset lasts (R463, R464). -/
def State.inReset (s : State) : Bool := s.pwr.low || !s.pwr.causes.isEmpty

/-- Run a change of the state that reset does not hold back: no command moves the fuses or the queue of commands. -/
def cmdAlways (s : State) (f : State → State) : Res := .next { f s with fuses := s.fuses, pending := s.pending }

/-- Run a change of the state as a command. Nothing happens while the part is in reset (R463); no command moves the model's
clock, the fuses or the queue of commands. -/
def cmd (s : State) (f : State → State) : Res :=
  .next { (if s.inReset then s else f s) with fuses := s.fuses, now := s.now, pending := s.pending }

/-- A command that names a die: a missing die is absent (R2). -/
def onDie (s : State) (d : Nat) (f : State → State) : Res :=
  if s.has d then cmd s f else .fault .absent

end Sys2Proof.Machine
end

