-- ==== Sys2Proof/Machine/Delay.lean ====
section
/-! DEFINITION. The delays of grit (R448): what a delayed item waits for. -/

namespace Sys2Proof.Machine

open Sys2Proof

/-- One step of the 32-bit Galois LFSR of x^32 + x^22 + x^2 + x + 1. -/
def lfsr32 (x : Nat) : Nat := if x % 2 = 1 then (x / 2) ^^^ 0x80200003 else x / 2

/-- Hold an item. -/
def State.holdItem (s : State) (d : Nat) (e : Delayed) : State :=
  s.modDie d fun x => { x with delayed := x.delayed ++ [e] }

/-- The held item of a source. -/
def State.heldItem (s : State) (d target src item : Nat) : Option Delayed :=
  (s.die d).delayed.find? fun e => e.target = target && e.src = src && e.item = item

/-- Forget a held item. -/
def State.dropItem (s : State) (d : Nat) (e : Delayed) : State :=
  s.modDie d fun x => { x with delayed := x.delayed.erase e }

/-- A new item of a SET_DELAY target, with the result it carries: it is held when a delay is in force or an earlier item of
its source is still held (R448). True: it goes at once. -/
def State.delayPut (s : State) (d target src item : Nat) (data : List Nat) : State × Bool :=
  let ns := s.fld d .grtDelay [target] 0 16
  let held := (s.die d).delayed.filter fun e => e.target = target && e.src = src && !e.gone
  let last := (held.map (·.until_)).foldl max 0
  if ns = 0 then
    if held.isEmpty then (s, true) else (s.holdItem d ⟨target, src, item, max s.now last, false, data⟩, false)
  else
    let l := s.reg d .grtLfsr []
    let delay := if s.fld d .grtDelay [target] 16 1 = 1 then l % (ns + 1) else ns
    let s := (s.setReg d .grtLfsr [] (lfsr32 l)).count d ctrGRT 2
    (s.holdItem d ⟨target, src, item, max (s.now + delay) last, false, data⟩, false)

/-- Whether an item of a SET_DELAY target may go now; one that meets a delay is held until DELAYED_ITEM_RELEASE. -/
def State.delayGate (s : State) (d target src item : Nat) : State × Bool :=
  match s.heldItem d target src item with
  | some e => if e.gone then (s.dropItem d e, true) else (s, false)
  | none => s.delayPut d target src item []

end Sys2Proof.Machine
end

