-- ==== Sys2Proof/Machine/Sram.lean ====
section
/-! DEFINITION. The on-chip stores under SEC-DED and poison (R357 to R360, R369, R371): inverted bits, what a demand read or
the bolter finds, and the error ring. -/

namespace Sys2Proof.Machine

open Sys2Proof

/-- Key of an SRAM unit: store and cluster in the encoding of ECC.ERR_HI, and the unit's index in its store (R450). -/
def unitKey (store cluster unit : Nat) : Nat := (store * 16 + cluster) * 2 ^ 28 + unit

/-- The inverted bits of a unit. -/
def Die.flips (x : Die) (key : Nat) : Nat := sgetD x.dmg key 0

/-- How many bits of a unit are inverted. -/
def flipCount (m : Nat) : Nat := (maskList m 72).length

/-- A unit with two or more inverted bits is uncorrectable (R445, R450). -/
def Die.bad (x : Die) (key : Nat) : Bool := 2 ≤ flipCount (x.flips key)

/-- Units of the configuration SRAMs, store 9: the queue descriptors, the gate-list entries, the milestones and the
fingerpost entries, in the order in which R357 names them (log entry 22). -/
def cfgQueue (q : Nat) : Nat := q
def cfgGate (i : Nat) : Nat := 4096 + i
def cfgMilestone (m : Nat) : Nat := 13312 + m
def cfgFinger (i : Nat) : Nat := 14336 + i

/-- A configuration entry that acts as disabled (R357). -/
def State.cfgBad (s : State) (d unit : Nat) : Bool := (s.die d).bad (unitKey 9 0 unit)

/-- ECC.ERR_HI of a record, without VALID (R369). -/
def ErrRec.hi (r : ErrRec) : Nat :=
  bits r.addr 32 8 + r.store * 2 ^ 8 + r.cluster * 2 ^ 12 + r.kind * 2 ^ 16 + (if r.demand then 2 ^ 18 else 0)
    + r.rank * 2 ^ 19 + r.device * 2 ^ 20 + r.symbols * 2 ^ 25

/-- Put a record in the error ring of 256; a full ring drops it. POISONED and UNCORRECTABLE records are journaled
(R369, R371, R424). -/
def State.errRecord (s : State) (d : Nat) (r : ErrRec) : State :=
  let s :=
    if r.kind = 0 && !bit (s.reg d .eccCfg []) 1 then s
    else if (s.die d).errRing.length < 256 then s.modDie d fun x => { x with errRing := x.errRing ++ [r] }
    else (s.count d ctrECC 11).event d .ecc 3
  if r.kind = 0 then s else s.journalBy d 3 0 (bits r.hi 8 22) (r.addr % 2 ^ 36) (bits r.addr 36 4)

/-- Add a number to a list of marks once. -/
def mark (l : List Nat) (n : Nat) : List Nat := if l.contains n then l else n :: l

/-- Remove a mark. -/
def unmark (l : List Nat) (n : Nat) : List Nat := l.filter (· ≠ n)

/-- Set the poison of a unit (R357): the cell of a packet-buffer lane, or the word. -/
def State.poisonUnit (s : State) (d store cluster unit : Nat) : State :=
  match store with
  | 1 => s.modHop d fun h => { h with poison := mark h.poison (unit / 16) }
  | 2 => s.modDie d fun x => { x with cstorePoison := mark x.cstorePoison (cluster * 262144 + unit) }
  | 4 => s.modDie d fun x => { x with ctxPoison := mark x.ctxPoison unit }
  | 5 => s.modDie d fun x => { x with tbl := { x.tbl with poison := mark x.tbl.poison unit } }
  | 6 => s.modDie d fun x => { x with tbl := { x.tbl with layPoison := mark x.tbl.layPoison (unit / 8) } }
  | 7 => s.modDsp d fun y => { y with insts := y.insts.map fun p =>
      if p.1 = unit / 48 then (p.1, { p.2 with poison := mark p.2.poison (unit % 48) }) else p }
  | 8 => s.modDsp d fun y => { y with gsPoison := mark y.gsPoison unit }
  | _ => s

/-- A store whose units carry a poison bit (R357). -/
def hasPoison (store : Nat) : Bool := store ≠ 3 && store ≠ 9

/-- The unit holds poison (R357). A cell of the packet buffer counts by lane for the bolter only: its other readers count it by
cell (State.countCells). -/
def State.unitPoison (s : State) (d store cluster unit : Nat) (demand : Bool) : Bool :=
  let x := s.die d
  match store with
  | 1 => !demand && x.hop.poison.contains (unit / 16)
  | 2 => x.cstorePoison.contains (cluster * 262144 + unit)
  | 4 => x.ctxPoison.contains unit
  | 5 => x.tbl.poison.contains unit
  | 6 => unit % 8 = 0 && x.tbl.layPoison.contains (unit / 8)
  | 7 => match sget x.dsp.insts (unit / 48) with
    | some i => i.poison.contains (unit % 48)
    | none => false
  | 8 => x.dsp.gsPoison.contains unit
  | _ => false

/-- A packet's cells are read: POISON_READ counts those that hold poison (R372). -/
def State.countCells (s : State) (d : Nat) (cells : List Nat) : State :=
  let n := (cells.filter (s.die d).hop.poison.contains).length
  if n = 0 then s else s.count d ctrECC 2 n

/-- A read of a unit by a requester or the bolter (R357, R358, R367, R372): POISON_READ counts a unit that holds poison; a
corrected unit is recorded and waits for its writeback; an uncorrectable one is made poison, or stays as R357 gives for a store
without a poison unit. The poison shows from the read on, and a write of one lane does not take it from a cell (R360, log
entry 110). -/
def State.readUnit (s : State) (d store cluster unit : Nat) (demand : Bool) : State :=
  let s := if s.unitPoison d store cluster unit demand then s.count d ctrECC 2 else s
  let key := unitKey store cluster unit
  let n := flipCount ((s.die d).flips key)
  let r : ErrRec := { addr := unit, store := store, cluster := cluster, kind := 0, demand := demand }
  if n = 0 then s
  else if n = 1 then
    ((s.count d ctrECC 3).errRecord d r).modDie d fun x => { x with wback := mark x.wback key }
  else if hasPoison store then
    if (s.die d).wback.contains key then s
    else
      let s := ((s.count d ctrECC 4).errRecord d { r with kind := 1 }).event d .ecc 1
      let s := if store = 8 then s.event d .ecc 5 else s
      (s.poisonUnit d store cluster unit).modDie d fun x => { x with wback := mark x.wback key }
  else ((s.count d ctrECC 4).errRecord d { r with kind := 2 }).event d .ecc 5

/-- A write of a whole unit gives it fresh check bits, and cancels a writeback that waits (R358). -/
def Die.freshUnit (x : Die) (store cluster unit : Nat) : Die :=
  let key := unitKey store cluster unit
  { x with dmg := sdel x.dmg key, wback := unmark x.wback key }

/-- SRAM_WRITEBACK: the store writes back a corrected unit, or sets its poison bit, in its next free cycle (R358). -/
def execSramWriteback (d store cluster unit : Nat) (s : State) : Res :=
  onDie s d fun s =>
    if (s.die d).wback.contains (unitKey store cluster unit) then s.modDie d fun x => x.freshUnit store cluster unit
    else s

end Sys2Proof.Machine
end

