-- ==== Sys2Proof/Machine/Fabric.lean ====
section
/-! DEFINITION. The Twipex fabric's routes and crossings (R34 to R36, R41, R321), over the topology and reach of
Machine/Ops.lean. -/

namespace Sys2Proof.Machine

open Sys2Proof

/-- The next-hop links in use for a destination: the lowest on a shortest path, and every open link in the pair
variant (R34). -/
def State.routeLinks (s : State) (src dst : Nat) : List Nat :=
  if src = dst then []
  else
    let dist := s.hopsTo dst
    let good := (List.range 3).filter fun k =>
      s.linkOpen src k && (match dist.getD (farEnd s.fuses.dies src k) none, dist.getD src none with
        | some a, some b => a + 1 = b
        | _, _ => false)
    if s.fuses.dies = 2 then good else good.take 1

/-- The link that the next packet takes: round-robin over the open links in the pair variant (R34). -/
def State.nextLink (s : State) (src dst : Nat) : Option Nat :=
  let ls := s.routeLinks src dst
  if s.fuses.dies = 2 then ls[sgetD s.fab.spread src 0 % max 1 ls.length]? else ls.head?

/-- A die has computed its route table, which it does at training: the training of one of its links has ended since reset
(R36, log entry 85). -/
def State.routed (s : State) (d : Nat) : Bool :=
  (List.range 3).any fun k => (sget s.fab.links (linkKey s.fuses.dies d k)).isSome

/-- TWX.ROUTE of a die and destination: 0 until the die has computed its table (R36). -/
def State.routeReg (s : State) (src dst : Nat) : Nat :=
  if s.routed src && s.reach src dst then
    (s.routeLinks src dst).foldl (fun m k => m + 2 ^ k) 0 + (s.hops src dst).getD 0 * 16 + 256
      + (if src = dst then 512 else 0)
  else 0

/-- Cells on their way from a die to another, hop by hop: sent on a link of one die and received on the same link number of
the die at its far end (R32, R430); the round-robin of the pair advances (R34). -/
def State.crossGo (s : State) (cur dst n : Nat) : Nat → State
  | 0 => s
  | fuel + 1 =>
    if cur = dst then s
    else match s.nextLink cur dst with
      | none => s
      | some k =>
        let far := farEnd s.fuses.dies cur k
        let s := (s.count cur ctrTWX (4 * k) n).count far ctrTWX (4 * k + 1) n
        let s := { s with fab := { s.fab with spread := sset s.fab.spread cur (sgetD s.fab.spread cur 0 + 1) } }
        s.crossGo far dst n fuel

/-- The most that one hop adds in ns: 160, 2 more on a DEGRADED link, and four grants of the link's other sources (R41,
R321). -/
def State.hopBound (s : State) (d k : Nat) : Nat := if s.link d k = .degraded then 162 + 4 * 504 else 160 + 4 * 252

/-- The most that the hops of a route add. -/
def State.pathBound (s : State) (dst : Nat) : Nat → Nat → Nat
  | 0, _ => 0
  | fuel + 1, cur =>
    if cur = dst then 0
    else match s.nextLink cur dst with
      | none => 0
      | some k => s.hopBound cur k + s.pathBound dst fuel (farEnd s.fuses.dies cur k)

/-- The largest latency in ns of a crossing of n cells, which follow one another 2 ns apart (R41, R321). -/
def State.crossBound (s : State) (src dst n : Nat) : Nat := 120 + s.pathBound dst 8 src + 2 * (n - 1)

/-- The latency in ns of the crossing of n cells that comes next. The manual bounds it and does not state it: a free value up
to the bound (log entry 12). -/
def State.crossLat (s : State) (src dst n : Nat) : Nat := (s.choose (s.crossBound src dst n + 1)).1

/-- A crossing of cells between two dies: the destination's CROSS_MAX takes its latency, saturating at 65,535 (R41). -/
def State.crossCells (s : State) (src dst n : Nat) : State :=
  if s.reach src dst && src ≠ dst then
    let t := (s.choose (s.crossBound src dst n + 1)).2
    (t.crossGo src dst n 8).setReg dst .twxCrossMax []
      (max (s.reg dst .twxCrossMax []) (min 65535 (s.crossLat src dst n)))
  else s

/-- Put a message in flight, numbered in order. -/
def State.send (s : State) (f : Flight) : State :=
  { s with fab := { s.fab with flight := s.fab.flight ++ [(s.stamps, f)] }, stamps := s.stamps + 1 }

/-- Traffic from a die to another waits at its source while a reroute is in progress (R39). -/
def State.routeHeld (s : State) (src dst : Nat) : Bool := sgetD s.fab.rerouting (src * 8 + dst) false

end Sys2Proof.Machine
end

