-- ==== Sys2Proof/Machine/Hopper.lean ====
section
/-! DEFINITION. Cells, packets, sluices and tickets (R18 to R23, R58 to R65): the shared operations of stations 1, 2 and 9. -/

namespace Sys2Proof.Machine

open Sys2Proof

/-- Cells of a die's pool (R58). -/
def poolCells : Nat := 262144

/-- Free cells of the pool. -/
def Hopper.free (h : Hopper) : Nat := poolCells - h.cellUse.length

/-- Occupancy of a port (R60). -/
def Hopper.occ (h : Hopper) (p : Nat) : Nat := (h.cellUse.filter fun c => c.2.port = some p).length

/-- Occupancy of a port's priority (R62). -/
def Hopper.occPri (h : Hopper) (p q : Nat) : Nat :=
  (h.cellUse.filter fun c => c.2.port = some p && c.2.pri = q).length

/-- Zero the bytes of cells and clear their poison and damage: a fresh or zero-filled cell (R159, R182, R360). -/
def State.zeroCells (s : State) (d : Nat) (cells : List Nat) : State :=
  let lane := fun key => key / 2 ^ 28 = 16 && cells.contains (key % 2 ^ 28 / 16)
  s.modDie d fun x => { x with
    dmg := x.dmg.filter fun p => !lane p.1
    wback := x.wback.filter fun k => !lane k
    hop := { x.hop with
      buf := x.hop.buf.filter fun c => !cells.contains (c.1 / 128)
      poison := x.hop.poison.filter fun c => !cells.contains c } }

/-- Cells of a die are allocated, or asked for in vain, in the present fabric cycle (R65). -/
def State.allocNow (s : State) (d : Nat) : State := s.modHop d fun h => { h with lastAlloc := some s.now }

/-- Take a cell from the pool for a charge: which cell is the part's choice (R58). A fresh cell reads as zero and is clean
(R159, R360). -/
def State.takeCell (s : State) (d : Nat) (c : Charge) : Nat × State :=
  let r := s.pick ((s.die d).hop.cellUse.map (·.1)) poolCells
  (r.1, ((r.2.modHop d fun h => { h with cellUse := sset h.cellUse r.1 c }).allocNow d).zeroCells d [r.1])

/-- Take `n` cells in order. -/
def State.takeCells (s : State) (d : Nat) (c : Charge) : Nat → List Nat × State
  | 0 => ([], s)
  | n + 1 =>
    let r := s.takeCell d c
    let q := r.2.takeCells d c n
    (r.1 :: q.1, q.2)

/-- Return cells to the pool. Within one fabric cycle frees take effect before allocations (R65), so that cells freed after an
allocation of the cycle return with the next one. -/
def State.freeCells (s : State) (d : Nat) (cells : List Nat) : State :=
  s.modHop d fun h =>
    if h.lastAlloc = some s.now then { h with freeing := h.freeing ++ cells }
    else { h with cellUse := h.cellUse.filter fun c => !cells.contains c.1 }

/-- The cells that wait for the end of the fabric cycle return to the pool (R65). -/
def State.freeWaiting (s : State) (d : Nat) : State :=
  if (s.die d).hop.freeing.isEmpty then s
  else s.modHop d fun h => { h with cellUse := h.cellUse.filter fun c => !h.freeing.contains c.1, freeing := [] }

/-- Write bytes into a list of cells from a byte offset of the packet (R58). -/
def writeCells (buf : List Host.Cell) (cells : List Nat) : Nat → List Byte → List Host.Cell
  | _, [] => buf
  | off, b :: bs =>
    let buf := match cells[off / 128]? with
      | some c => Memory.write buf (c * 128 + off % 128) b
      | none => buf
    writeCells buf cells (off + 1) bs

/-- A packet of a die. -/
def State.pkt (s : State) (d pid : Nat) : Option Packet := sget (s.die d).hop.packets pid

/-- Change a packet. -/
def State.modPkt (s : State) (d pid : Nat) (f : Packet → Packet) : State :=
  match s.pkt d pid with
  | some p => s.modHop d fun h => { h with packets := sset h.packets pid (f p) }
  | none => s

/-- A byte of a packet's extent; a fresh cell was zeroed, so the bytes after the stored frame read as zero (R159). -/
def Hopper.pktByte (h : Hopper) (p : Packet) (i : Nat) : Byte :=
  match p.cells[i / 128]? with
  | some c => Memory.read h.buf (c * 128 + i % 128)
  | none => 0

/-- Bytes of a packet. -/
def Hopper.pktBytes (h : Hopper) (p : Packet) (off n : Nat) : List Byte :=
  (List.range n).map fun i => h.pktByte p (off + i)

/-- Create a packet of a die. -/
def State.newPkt (s : State) (d : Nat) (p : Packet) : Nat × State :=
  let pid := (s.die d).hop.nextPid
  (pid, s.modHop d fun h => { h with packets := sset h.packets pid p, nextPid := pid + 1 })

/-- A helper's job works on a packet. -/
def State.jobOn (s : State) (d pid : Nat) : Bool :=
  (s.die d).helpers.any fun p => p.2.jobs.any fun j => j.pid = some pid

/-- Free a packet's cells when nothing holds it (R113, R305); a helper's job that works on it, squashed or not, runs to its end
first (R212, R227, log entry 102). -/
def State.reap (s : State) (d pid : Nat) : State :=
  match s.pkt d pid with
  | some p => if !p.held && p.refs = 0 && !s.jobOn d pid then
      (s.freeCells d p.cells).modHop d fun h => { h with packets := sdel h.packets pid } else s
  | none => s

/-- Give up one enqueue's reference to a packet (R304, R305). -/
def State.dropRef (s : State) (d pid : Nat) : State := (s.modPkt d pid fun p => { p with refs := p.refs - 1 }).reap d pid

/-- The stations and instances no longer hold a packet. -/
def State.unhold (s : State) (d pid : Nat) : State := (s.modPkt d pid fun p => { p with held := false }).reap d pid

/-! ### The dispatcher's back-pressure (R93) -/

/-- Slots in no reservation (R94). -/
def Dispatcher.free (x : Dispatcher) : Nat := 16384 - (x.insts.map (·.2.width)).sum

/-- Slots reserved by ingress instances. -/
def Dispatcher.ingressHeld (x : Dispatcher) : Nat := ((x.insts.filter (·.2.ingress)).map (·.2.width)).sum

/-- WIDTH of a graph's header (R85). -/
def Dispatcher.width (x : Dispatcher) (g : Nat) : Nat := bits (sgetD x.gstore (g * 264) 0).toNat 6 6

/-- DSP.POOL_CFG.LIMIT: 0 or above 16,384 acts as 16,384. -/
def State.poolLimit (s : State) (d : Nat) : Nat :=
  let l := s.fld d .dspPoolCfg [] 0 15
  if l = 0 || l > 16384 then 16384 else l

/-- A ready list is at its LIST_LIMIT; 0 acts as 1 (R93). -/
def State.listFull (s : State) (d g : Nat) : Bool :=
  max 1 (s.fld d .dspListCfg [g] 0 15) ≤ (sgetD (s.die d).dsp.lists g []).length

/-- Grit holds a ready list back (R449). -/
def State.listHeld (s : State) (d g : Nat) : Bool := bit (s.reg d .grtHold []) g

/-- The conditions of R93 for an ingress instantiation of a graph. -/
def State.ingressRoom (s : State) (d g : Nat) : Bool :=
  let x := (s.die d).dsp
  x.width g ≤ x.free && x.ingressHeld + x.width g ≤ s.poolLimit d && !(List.range 16).any (s.listFull d)

/-- The dispatcher takes no frame (HOP.STAT.BLK_DSP): a list at its limit, room for no graph at all, or no room for the
frame at its head (R93). -/
def State.dspBlocked (s : State) (d : Nat) : Bool :=
  (List.range 16).any (s.listFull d) || (s.die d).dsp.free < 1 || s.poolLimit d ≤ (s.die d).dsp.ingressHeld ||
    match (s.die d).hop.toInst with
    | [] => false
    | st :: _ => bit (s.reg d .dspGraphCtl [st.graph]) 0 && !s.ingressRoom d st.graph

/-- The ticket count stands at its limit (R23). -/
def State.ticketsFull (s : State) (d : Nat) : Bool := 32768 ≤ (s.die d).hop.outstanding

/-- The hopper is blocked (R61). -/
def State.blocked (s : State) (d : Nat) : Bool := s.ticketsFull d || s.dspBlocked d

/-! ### Sluices (R61 to R63) -/

/-- A level with its hysteresis: at XOFF closed, at XON open, between them unchanged (R61, R62). -/
def hyst (xoff xon occ : Nat) (was : Bool) : Bool := if xoff ≤ occ then true else if occ ≤ xon then false else was

/-- The port-wide sluice of a port after an event (R61), given whether the hopper is blocked; grit may force it closed
(R449). -/
def State.sluiceNow (s : State) (d : Nat) (blk : Bool) (p : Nat) : Bool :=
  let q := s.fld d .hopPortQuota [p] 0 19
  let xoff := s.fld d .hopPortXoff [p] 0 19
  let xon := s.fld d .hopPortXon [p] 0 19
  if bit (s.reg d .grtSluice []) p then true
  else if !(xon < xoff && xoff ≤ q) then true
  else if blk then true
  else hyst xoff xon ((s.die d).hop.occ p) ((s.die d).hop.closed.contains p)

/-- The priority sluice of a MAC in PFC mode after an event (R62). -/
def State.sluicePriNow (s : State) (d p q : Nat) : Bool :=
  hyst (s.fld d .hopPfcLim [p] 0 16) (s.fld d .hopPfcLim [p] 16 16) ((s.die d).hop.occPri p q)
    ((s.die d).hop.closedPri.contains (p * 8 + q))

/-- A sluice closed for a frame of a priority: the port's or the priority's (R62). -/
def Hopper.shut (h : Hopper) (p q : Nat) : Bool := h.closed.contains p || h.closedPri.contains (p * 8 + q)

/-- The flow control of a key is in use: PAUSE of its port, or PFC with its priority enabled (R48, R49). -/
def State.fcLive (s : State) (d key : Nat) : Bool :=
  let p := if 32 ≤ key then (key - 32) / 8 else key
  let mode := s.fld d .macFc [p] 28 2
  if 32 ≤ key then mode = 2 && bit (s.fld d .macFc [p] 16 8) (key % 8) else mode = 1

/-- What a MAC owes its peer after its sluices changed: a PAUSE frame, or a PFC frame for each priority under PFC that
changed (R49). Key p is PAUSE of port p and 32 + 8p + q is priority q of port p; a key whose flow control is no longer in use
owes nothing. -/
def State.oweFc (s : State) (d : Nat) (old : Hopper) : State :=
  let s := if (s.die d).hop.fcOwed.isEmpty then s
    else s.modHop d fun h => { h with fcOwed := h.fcOwed.filter fun o => s.fcLive d o.1 }
  (List.range 10).foldl (fun s p =>
    let h := (s.die d).hop
    let mode := s.fld d .macFc [p] 28 2
    let owe := fun (s : State) (key : Nat) (was now : Bool) =>
      if was = now then s
      else
        let o : FcOwed := { quanta := if now then s.fld d .macFc [p] 0 16 else 0, sentAt := s.now, due := true }
        s.modHop d fun h => { h with fcOwed := sset h.fcOwed key o }
    if mode = 1 then owe s p (old.closed.contains p) (h.closed.contains p)
    else if mode = 2 then
      (maskList (s.fld d .macFc [p] 16 8) 8).foldl
        (fun s q => owe s (32 + 8 * p + q) (old.shut p q) ((s.die d).hop.shut p q)) s
    else s) s

/-- Bring every sluice of a die up to date after an event that can change one (R61, R62), and owe flow control. -/
def State.settle (s : State) (d : Nat) : State :=
  let old := (s.die d).hop
  let blk := s.blocked d
  let closed := (List.range 32).filter (s.sluiceNow d blk)
  let pairs := ((List.range 10).filter fun p => s.fld d .macFc [p] 28 2 = 2).flatMap fun p => (List.range 8).map fun q => (p, q)
  let pri := pairs.filter fun pq => s.sluicePriNow d pq.1 pq.2
  (s.modHop d fun h => { h with closed := closed, closedPri := pri.map fun pq => pq.1 * 8 + pq.2 }).oweFc d old

/-- A die's command after which its sluices are brought up to date. -/
def onDieS (s : State) (d : Nat) (f : State → State) : Res := onDie s d fun s => (f s).settle d

/-! ### Host accesses (R2, R376, R378, R379) -/

/-- A host write to a register of a die: a die that the variant lacks or that is unreachable counts a violation on die 0, and
a register that the die lacks one on that die; otherwise the write acts. -/
def onHost (s : State) (d : Nat) (ok : Bool) (f : State → State) : Res :=
  cmd s fun s => if !s.reach 0 d then s.violation 8 else if ok then f s else s.violation d

/-- A host write after which the sluices are settled. -/
def onHostS (s : State) (d : Nat) (ok : Bool) (f : State → State) : Res := onHost s d ok fun s => (f s).settle d

/-- A host read of a register of a die, which reads zero where a write would be a violation. -/
def onHostRead (s : State) (d : Nat) (ok : Bool) (f : State → State) : Res :=
  cmd s fun s =>
    if !s.reach 0 d then (s.violation 8).emit (.readData 0 false)
    else if ok then f s
    else (s.violation d).emit (.readData 0 false)

/-! ### Tickets (R18 to R23) -/

/-- The scoreboard of a local port. -/
def State.board (s : State) (d p : Nat) : List Ticket := sgetD (s.die d).hop.board p []

/-- Change a scoreboard. -/
def State.setBoard (s : State) (d p : Nat) (b : List Ticket) : State :=
  s.modHop d fun h => { h with board := sset h.board p b }

/-- Admit a packet on a local port: the next ticket of the port, counted outstanding (R18, R23), and the counts of R83. The
receive timestamp of a frame of port 24 or 31 is the time of its admission (R25, R82). -/
def State.admitAt (s : State) (d p pid : Nat) : State :=
  match s.pkt d pid with
  | none => s
  | some k =>
    let t := sgetD (s.die d).hop.nextTicket p 0
    let now := s.time d
    let k := { k with ts := if p = 24 || p = 31 then now else k.ts }
    let s := s.modPkt d pid fun _ => { k with ticket := t, ticketed := true, admitAt := now }
    let s := s.modHop d fun h => { h with
      nextTicket := sset h.nextTicket p ((t + 1) % 2 ^ 24)
      outstanding := h.outstanding + 1
      admitted := h.admitted ++ [pid] }
    let s := s.setBoard d p (s.board d p ++ [{ number := t, holder := d, pid := pid, ts := k.ts, admitAt := now }])
    let s := if d = 0 && p = 25 then s.count 0 ctrANS 1 else s
    ((s.count d ctrHOP 0).countPort d p 0).countPort d p 1 k.len

/-- Change the ticket of a number that is still pending on its scoreboard. -/
def setPending (f : Ticket → Ticket) (n : Nat) : List Ticket → List Ticket
  | [] => []
  | t :: ts => if t.number = n && t.cond = .pending then f t :: ts else t :: setPending f n ts

/-- Settle a ticket on its ingress die (R20): resolved with its enqueues, or retired, when it no longer counts (R23). -/
def State.settleTicket (s : State) (r : Resolution) : State :=
  let d := r.port / 32
  let p := r.port % 32
  let b := s.board d p
  let gone : Bool := match r.enqs with | some (_ :: _) => false | _ => b.any fun t => t.number = r.ticket && t.cond = .pending
  let s := s.setBoard d p (setPending (fun t => { t with
    cond := match r.enqs with | some (e :: es) => .resolved (e :: es) | _ => .retired
    holder := r.holder, pid := r.pid, reason := r.reason, tagged := r.tagged, resolvedAt := s.time d })
    r.ticket b)
  if gone then s.modHop d fun h => { h with outstanding := h.outstanding - 1 } else s

/-- The processing die settles a ticket: at once on the ingress die, or by a resolution record (R26, R115). -/
def State.resolveFrom (s : State) (d : Nat) (r : Resolution) : State :=
  if r.port / 32 = d then s.settleTicket r
  else if s.reach d (r.port / 32) then s.send (.resolution d (r.port / 32) r) else s

/-- Drop a packet: its ticket retires at once with a reason (R20) and its cells are freed. -/
def State.dropPkt (s : State) (d pid reason : Nat) (tagged : Bool := false) : State :=
  match s.pkt d pid with
  | none => s
  | some k =>
    let s := if k.ticketed then
        s.resolveFrom d { port := k.port, ticket := k.ticket, enqs := none, reason := reason, holder := d, pid := pid,
                          tagged := tagged }
      else s
    s.unhold d pid

/-- The default enqueue descriptor: the whole stored packet, FCS_MODE KEEP, no timestamp (R306). -/
def defaultDesc (len : Nat) : Word := w36 (len % 16384 + 2 * 2 ^ 28)

/-- Resolve a packet's ticket with a set of enqueues; its cells stay for them (R20, R113). -/
def State.resolvePkt (s : State) (d pid : Nat) (enqs : List Enq) (tagged : Bool := false) (reason : Nat := 0) : State :=
  match s.pkt d pid with
  | none => s
  | some k =>
    let s := s.resolveFrom d { port := k.port, ticket := k.ticket, enqs := some enqs, reason := reason, holder := d,
                               pid := pid, tagged := tagged }
    (s.modPkt d pid fun k => { k with refs := k.refs + enqs.length }).unhold d pid

/-! ### The link transmitters (R321) -/

/-- LENGTH and START of an enqueue descriptor (R306). -/
def Enq.len (e : Enq) : Nat := bits e.w0.toNat 0 14
def Enq.start (e : Enq) : Nat := bits e.w0.toNat 14 14

/-- The cells that a copy takes: those that hold the bytes of the enqueue. -/
def Enq.copied (e : Enq) (cells : List Nat) : List Nat :=
  (cells.drop (e.start / 128)).take ((e.start + e.len - 1) / 128 - e.start / 128 + 1)

/-- A route to a die is open and its pool has cells for a packet. -/
def State.canCross (s : State) (d x n : Nat) : Bool := !s.routeHeld d x && s.reach d x && n ≤ (s.die x).hop.free

/-- An egress copy waits for nothing but its link. -/
def State.copyReady (s : State) (d : Nat) (a : Arrival) : Bool :=
  match s.pkt d a.pid with
  | some p => s.canCross d a.enq.die (a.enq.copied p.cells).length
  | none => false

/-- A hopper move waits for nothing but its link. -/
def State.moveReady (s : State) (d : Nat) (st : Staged) : Bool :=
  match s.pkt d st.pid with
  | some p => s.canCross d st.target p.cells.length && (s.heldItem d 0 200 st.pid).all (·.gone)
  | none => false

/-- A link's transmitter grants a hopper move (true) or an egress copy to a die: round-robin between the two sources that wait
at a link, so not again to the source of the last grant while the other waits (R321, log entry 106). -/
def State.linkGrants (s : State) (d x : Nat) (move : Bool) : Bool :=
  match s.nextLink d x with
  | none => true
  | some k =>
    let here := fun (y : Nat) => s.nextLink d y = some k
    sgetD s.fab.moved (d * 3 + k) true ≠ move ||
      if move then (s.die d).egr.toCopy.all fun a => !(here a.enq.die && s.copyReady d a)
      else (s.die d).hop.toMove.head?.all fun st => !(here st.target && s.moveReady d st)

/-- A link's transmitter has granted a source. -/
def State.linkGranted (s : State) (d x : Nat) (move : Bool) : State :=
  match s.nextLink d x with
  | none => s
  | some k => { s with fab := { s.fab with moved := sset s.fab.moved (d * 3 + k) move } }

end Sys2Proof.Machine
end

