-- ==== Sys2Proof/Machine/Rings.lean ====
section
/-! DEFINITION. What the DRAM controller's idle count notices of its commands (R343), the command rings' completions (R381 to
R387), and how a grit command ends (R446, R454). -/

namespace Sys2Proof.Machine

open Sys2Proof

/-- Completion codes of R383. -/
def cDONE : Nat := 0x00
def cMALFORMED : Nat := 0x01
def cSTATE : Nat := 0x02
def cNEEDS_REHASH : Nat := 0x03
def cNOT_FOUND : Nat := 0x04
def cEXISTS : Nat := 0x05
def cPOISON : Nat := 0x06
def cRANGE : Nat := 0x07
def cACTIVE : Nat := 0x08
def cFULL : Nat := 0x09
def cDENIED : Nat := 0x0A

/-- Change the DRAM controller of a die. -/
def State.modDram (s : State) (d : Nat) (f : Dram → Dram) : State := s.modDie d fun x => { x with dram := f x.dram }

/-- A command or PANIC reaches the controller (R343, R344): the idle count restarts, and an entry is aborted. -/
def State.dramStir (s : State) (d : Nat) : State :=
  let m := (s.die d).dram
  let s := s.modDram d fun m => { m with idleSince := s.now }
  if m.st = .active && m.entering then (s.modDram d fun m => { m with entering := false }).count d ctrDMC 9 else s

/-- A ring of a die. -/
def State.ring (s : State) (d r : Nat) : Ring := sgetD (s.die d).rings r {}

/-- Set a ring. -/
def State.setRing (s : State) (d r : Nat) (x : Ring) : State :=
  s.modDie d fun y => { y with rings := sset y.rings r x }

/-- The command at the head of a ring. -/
def State.ringCmd (s : State) (d r : Nat) : Option RCmd := (s.ring d r).cmds.head?

/-- TAG of a descriptor (R382). -/
def RCmd.tag (c : RCmd) : Nat := bits c.d0 32 32

/-- CMD of a descriptor (R382). -/
def RCmd.op (c : RCmd) : Nat := bits c.d0 0 8

/-- A PCIe error halts a command ring (R387). -/
def State.ringHalt (s : State) (d r : Nat) : State := (s.setFld d .ringCtl [r] 12 1 1).event d .dctl 0

/-- Write a completion into a ring, advance C_TAIL and test the interrupt (R382, R386); `die` is the die that applied the
command, `c0` the engine's bits of slot C0 and `c1` slot C1 without PHASE. Without a PCIe link the write fails: the ring
halts and the completion is lost (R387). -/
def State.post (s : State) (d r die code tag c0 c1 : Nat) : State :=
  let t := s.reg d .ringCTail [r]
  let n := 2 ^ s.fld d .ringCtl [r] 7 5
  let x := s.ring d r
  let addr := s.reg d .ringCbaseHi [r] * 2 ^ 32 + s.reg d .ringCbaseLo [r] + 16 * t
  let s := if s.pcieLive then s.emit (.hostWrite d addr
      (natLE 8 (code + die * 256 + c0 + tag * 2 ^ 32) ++ natLE 8 (putBit c1 63 x.phase)))
    else s.ringHalt d r
  let s := if code = cMALFORMED then s.count d ctrDCTL 2 else if code = cSTATE then s.count d ctrDCTL 1 else s
  let s := s.setRing d r { x with phase := if t + 1 = n then !x.phase else x.phase }
  s.watch d r fun s => s.setReg d .ringCTail [r] ((t + 1) % n)

/-- A command code that a ring's engine defines (R250, R348, R292, R150, R390, R415, R447). -/
def ringKnows (r op : Nat) : Bool := 1 ≤ op && op ≤ [9, 5, 4, 9, 1, 12, 10].getD r 0

/-- Scope of the unlock in force (R413, DCTL.UNLOCK). -/
def State.scope (s : State) : Nat := s.fld 0 .dctlUnlock [] 0 3

/-- Record a grit action (R446, R454, R455): its journal record, counter, event and GRT.LAST. -/
def State.gritNote (s : State) (d cmd code d0 d1 d2 : Nat) : State :=
  let s := s.journalBy d 5 code (cmd + code * 256 + bits d0 8 12 * 2 ^ 16) (bits d2 0 36)
    (if cmd = 5 then bits d1 7 33 else bits d1 0 36)
  let s := s.setReg d .grtLast [] (cmd + code * 256)
  if code = cDONE then (s.count d ctrGRT 0).event d .grt 0
  else if code = cDENIED then (s.count d ctrGRT 1).event d .grt 1
  else s

/-- Undefined commands at the head of a ring complete with MALFORMED (R383); one on ring 6 waits for room in the journal's
queue and is recorded (R446). The table ring's are completed by its engine. -/
def State.skipBad (s : State) (d r : Nat) : Nat → State
  | 0 => s
  | n + 1 =>
    match (s.ring d r).cmds with
    | [] => s
    | c :: cs =>
      if ringKnows r c.op || r = 0 || (r = 6 && 64 ≤ s.journal.length) then s
      else
        let s := if r = 6 then s.gritNote d c.op cMALFORMED c.d0 c.d1 c.d2 else if r = 1 then s.dramStir d else s
        ((s.setRing d r { s.ring d r with cmds := cs }).post d r d cMALFORMED c.tag 0 0).skipBad d r n

/-- Complete the command at the head of a ring (R386), and what follows it that no engine knows. -/
def State.ringDone (s : State) (d r code : Nat) (c0 : Nat := 0) (c1 : Nat := 0) : State :=
  match (s.ring d r).cmds with
  | [] => s
  | c :: cs =>
    ((s.setRing d r { s.ring d r with cmds := cs }).post d r d code c.tag c0 c1).skipBad d r cs.length

/-- Change the command at the head of a ring. -/
def State.ringSet (s : State) (d r : Nat) (c : RCmd) : State :=
  match (s.ring d r).cmds with
  | [] => s
  | _ :: cs => s.setRing d r { s.ring d r with cmds := c :: cs }

/-- A grit command ends (R446): its record, then its completion. -/
def State.gritDone (s : State) (d code : Nat) : State :=
  match s.ringCmd d 6 with
  | some c => (s.gritNote d c.op code c.d0 c.d1 c.d2).ringDone d 6 code
  | none => s

/-- A FORCE_FAULT waits for a fault on one of a core's threads (R451). -/
def Die.forces (x : Die) (c : Nat) : Bool :=
  (match x.gritForce with | some (k, _) => k / 16 = c | none => false) ||
    (match x.gritHw with | some (k, _) => k / 16 = c | none => false)

/-- A core that stops ends a FORCE_FAULT that waits for it, with STATE (R451), once the journal has room for its record
(R446). -/
def State.forceStop (s : State) (d c : Nat) : State :=
  if (s.die d).forces c && s.journal.length < 64 then
    (s.modDie d fun x => { x with gritForce := none, gritHw := none }).gritDone d cSTATE
  else s

end Sys2Proof.Machine
end

