-- ==== Sys2Proof/Machine/Ports.lean ====
section
/-! DEFINITION. Stations 1 and 2 on the receive side: the MACs, the telegram ports and the hopper's cells
(R42 to R65). The line data that a command carries is what arrives on the port's line. -/

namespace Sys2Proof.Machine

open Sys2Proof

/-- A local Ethernet port of a die (R42). -/
def isMac (p : Nat) : Bool := p < 10

/-- A local telegram port; dies 0 and 1 have them (R42). -/
def isTgp (d p : Nat) : Bool := d < 2 && 16 ≤ p && p < 24

/-- A local port that a die has (R42). -/
def hasPort (d p : Nat) : Bool := isMac p || isTgp d p || p = 24 || (d = 0 && p = 25) || p = 31

/-- A command on a port: the die and the port must exist (R2, R42). -/
def onPort (s : State) (d _p : Nat) (ok : Bool) (f : State → State) : Res :=
  if s.has d && ok then cmd s fun s => (f s).settle d else .fault .absent

/-- Lanes of a MAC mode (R43). -/
def macLanes (mode : Nat) : Nat :=
  if mode = 5 || mode = 7 then 4 else if mode = 6 then 2 else if mode = 8 then 8 else 1

/-- Line rate of a MAC in Mb/s (R43, R45). -/
def State.macRate (s : State) (d p : Nat) : Nat :=
  match s.fld d .macPcfg [p] 0 4 with
  | 1 => 1000 | 2 => 10000 | 3 => 25000 | 4 => 50000 | 5 => 100000 | 6 => 100000 | 7 => 200000 | 8 => 400000
  | 10 => 2500
  | 9 => match sgetD (s.die d).hop.speed p 0 with | 0 => 10 | 1 => 100 | 2 => 1000 | _ => 2500
  | _ => 1000

/-- A MAC runs: ENABLE = 1 in a mode other than off (R43, R46). -/
def State.macOn (s : State) (d p : Nat) : Bool := bit (s.reg d .macPcfg [p]) 5 && s.fld d .macPcfg [p] 0 4 ≠ 0

/-- A port's receiver runs (R46, R53). -/
def State.rxOn (s : State) (d p : Nat) : Bool :=
  if isMac p then s.macOn d p && (s.die d).hop.linkUp.contains p
  else isTgp d p && bit (s.reg d .tgpCfg [p - 16]) 8 &&
    (s.fld d .tgpCfg [p - 16] 0 2 = 1 || s.fld d .tgpCfg [p - 16] 0 2 = 2)

/-- Largest stored frame of a port: MAC.FRM.MAX_FRAME or TGP.GAP.MAX_LEN. -/
def State.rxMax (s : State) (d p : Nat) : Nat :=
  if isMac p then s.fld d .macFrm [p] 0 14 else s.fld d .tgpGap [p - 16] 16 14

/-- One bit of a synchronous line: the zero after five ones is removed, seven ones are an abort (R51, R54). -/
def rxBit (f : RxFrame) (b : Bool) : RxFrame :=
  if f.ones = 5 && !b then { f with ones := 0 }
  else
    let f := { f with ones := if b then f.ones + 1 else 0, abort := f.abort || (b && 6 ≤ f.ones) }
    let bs := f.part ++ [b]
    if bs.length = 8 then
      { f with part := [], octets := f.octets ++ [BitVec.ofNat 8 (bs.foldr (fun b n => 2 * n + (if b then 1 else 0)) 0)] }
    else { f with part := bs }

/-- One octet of an asynchronous line: an escape and the octet after it become that octet XOR 0x20, and an escape before a
flag is an abort (R51, R54). -/
def rxOctet (f : RxFrame) (c : Byte) : RxFrame :=
  if f.esc then
    if c = 0x7E then { f with esc := false, abort := true }
    else { f with esc := false, octets := f.octets ++ [c ^^^ 0x20] }
  else if c = 0x7D then { f with esc := true }
  else { f with octets := f.octets ++ [c] }

/-- The number that bits spell, least significant first. -/
def bitsNat (bs : List Bool) : Nat := bs.foldr (fun b n => 2 * n + (if b then 1 else 0)) 0

/-- Even parity of bits: true when an odd number of them is set. -/
def oddOnes (bs : List Bool) : Bool := (bs.filter id).length % 2 = 1

/-- A character has the bits of its format after the start bit: 8 data bits, in 8E1 the even parity bit, and the stop bit. -/
def charGood (parity : Bool) (c : List Bool) : Bool :=
  if parity then c.length = 10 && c.getD 8 false = oddOnes (c.take 8) && c.getD 9 false
  else c.length = 9 && c.getD 8 false

/-- One character of an asynchronous line in 8N1 or 8E1 (R51): a parity error or a stop bit of 0 marks the frame (R54). -/
def rxChar (parity : Bool) (f : RxFrame) (c : List Bool) : RxFrame :=
  rxOctet { f with bad := f.bad || !charGood parity c } (BitVec.ofNat 8 (bitsNat (c.take 8)))

/-- One level of a Manchester line: two halves with a transition between them are a bit, 1 where the line rises (log
entry 88); halves without one are no bit (R55). -/
def rxHalf (f : RxFrame) (b : Bool) : RxFrame :=
  match f.half with
  | none => { f with half := some b }
  | some a => if a = b then { f with half := none } else rxBit { f with half := none } b

/-- What a port's line carries in its mode (R46, R51): 0 octets, 1 bits, 2 characters. -/
def State.lineKind (s : State) (d p : Nat) : Nat := if isMac p then 0 else s.fld d .tgpCfg [p - 16] 0 2

/-- Line data of the kind that a port's line carries. -/
def kindOf : Line → Nat
  | .octets _ => 0
  | .bits _ => 1
  | .chars _ => 2

/-- The line data that has arrived on a port, with line code, stuffing and escapes removed (R51 to R53). -/
def State.rxFeed (s : State) (d p : Nat) (f : RxFrame) : Line → RxFrame
  | .octets o => { f with octets := f.octets ++ o }
  | .bits b => if s.fld d .tgpCfg [p - 16] 2 1 = 1 then b.foldl rxHalf f else b.foldl rxBit f
  | .chars c => c.foldl (rxChar (bit (s.reg d .tgpCfg [p - 16]) 4)) f

/-- Count a receive discard under its reason, on the port and in the hopper (R83). -/
def State.countDiscard (s : State) (d p reason : Nat) : State :=
  if reason = rFCS then (s.count d ctrHOP 7).countPort d p 2
  else if reason = rSLUICE then (s.count d ctrHOP 4).countPort d p 3
  else if reason = rLENGTH then (s.count d ctrHOP 5).countPort d p 4
  else (s.count d ctrHOP 6).countPort d p 4

/-- Discard a frame being received: its cells are freed and it is counted once, unless it was already (R19, R47, R54). -/
def State.rxDiscard (s : State) (d p reason : Nat) : State :=
  match sget (s.die d).hop.rx p with
  | none => s
  | some f =>
    let s := (s.freeCells d f.cells).modHop d fun h => { h with rx := sdel h.rx p }
    if f.discard = 0 then s.countDiscard d p reason else s

/-- The port's occupancy stands at its quota, or the pool is empty (R64). -/
def State.noCell (s : State) (d p : Nat) : Bool :=
  s.fld d .hopPortQuota [p] 0 19 ≤ (s.die d).hop.occ p || (s.die d).hop.free = 0

/-- Give a frame the cells that its octets need, up to the port's largest frame; a frame that meets its quota or an empty
pool is discarded with reason SLUICE, and the rest of it is received and dropped (R64). -/
def State.rxGrow (s : State) (d p : Nat) : Nat → RxFrame → State
  | 0, f => s.modHop d fun h => { h with rx := sset h.rx p f }
  | n + 1, f =>
    if f.discard ≠ 0 || f.ctl || !f.decided || ceilDiv (min f.octets.length (s.rxMax d p)) 128 ≤ f.cells.length then
      s.modHop d fun h => { h with rx := sset h.rx p f }
    else if s.noCell d p then
      (((s.allocNow d).freeCells d f.cells).modHop d fun h =>
        { h with rx := sset h.rx p { f with cells := [], discard := rSLUICE } }).countDiscard d p rSLUICE
    else
      let r := s.takeCell d { port := some p, pri := f.pri }
      r.2.rxGrow d p n { f with cells := f.cells ++ [r.1] }

/-- Store a frame's octets in its cells (R58). -/
def State.rxStore (s : State) (d p : Nat) : State :=
  match sget (s.die d).hop.rx p with
  | none => s
  | some f => s.modHop d fun h => { h with buf := writeCells h.buf f.cells 0 (f.octets.take (s.rxMax d p)) }

/-- Priority of a frame for PFC (R48). -/
def State.rxPri (s : State) (d p : Nat) (o : List Byte) : Nat :=
  if s.fld d .macFc [p] 28 2 = 2 && beNat ((o.drop 12).take 2) = s.fld d .macFrm [p] 16 16 && 15 ≤ o.length then
    (o.getD 14 0).toNat / 32
  else s.fld d .macFc [p] 24 3

/-- Flow control covers a frame's priority (R48, R63). -/
def State.rxFc (s : State) (d p pri : Nat) : Bool :=
  isMac p && (s.fld d .macFc [p] 28 2 = 1 || (s.fld d .macFc [p] 28 2 = 2 && bit (s.fld d .macFc [p] 16 8) pri))

/-- The octets of a MAC control frame (R49). -/
def isControl (o : List Byte) : Bool := beNat ((o.drop 12).take 2) = 0x8808 && 14 ≤ o.length

/-- The octets of a frame tell what it is: on a MAC those up to the octet of the priority (R48, R49). -/
def rxKnown (p : Nat) (f : RxFrame) : Bool := !isMac p || 15 ≤ f.octets.length

/-- A frame whose octets tell what it is meets the sluice once (R48, R63): a MAC control frame passes it, another frame is
discarded whole where it is closed and no flow control covers the frame. -/
def State.rxDecide (s : State) (d p : Nat) (f : RxFrame) : State × RxFrame :=
  if f.decided || !rxKnown p f then (s, f)
  else if isMac p && isControl f.octets then (s, { f with decided := true, ctl := true })
  else
    let pri := if isMac p then s.rxPri d p f.octets else 0
    let f := { f with decided := true, pri := pri }
    if (s.die d).hop.shut p pri && !s.rxFc d p pri then (s.countDiscard d p rSLUICE, { f with discard := rSLUICE })
    else (s, f)

/-- A frame takes line data: its octets, the sluice (R63), its cells (R58, R64). -/
def State.rxTake (s : State) (d p : Nat) (f : RxFrame) (line : Line) : State :=
  let r := s.rxDecide d p { s.rxFeed d p f line with lastBit := s.now }
  let s := r.1.modHop d fun h => { h with lineSeen := sset h.lineSeen p s.now }
  (s.rxGrow d p (r.2.octets.length + 1) r.2).rxStore d p

/-- Receive timestamp: axis 0 at the first bit, corrected by RX_ADJ on a MAC (R50, R56). -/
def State.rxStamp (s : State) (d p : Nat) : Nat :=
  if isMac p then ((s.time d + 2 ^ 72 : Nat) + sext (s.fld d .macTsadj [p] 0 16) 16).toNat % 2 ^ 72 else s.time d

/-- The record of a frame that starts: the port's configuration and the timestamp (R50, R59). -/
def State.rxStart (s : State) (d p : Nat) : RxFrame :=
  { cfg := BitVec.ofNat 32 (s.reg d .hopPortCfg [p]), pdef := BitVec.ofNat 32 (s.reg d .hopPortDef [p]), ts := s.rxStamp d p }

/-- The first cell of a frame is written (R59): the port's configuration is recorded and the sluice state applied (R63,
R65). A port that receives nothing stores nothing (R46, R53), and a line carries the data of its port's mode alone (R51). -/
def State.frameFirstCell (s : State) (d p : Nat) (line : Line) : State :=
  if !s.rxOn d p || (sget (s.die d).hop.rx p).isSome || kindOf line ≠ s.lineKind d p then s
  else s.rxTake d p (s.rxStart d p) line

/-- FRAME_FIRST_CELL. -/
def execFrameFirstCell (d p : Nat) (line : Line) (s : State) : Res :=
  onPort s d p (isMac p || isTgp d p) fun s => s.frameFirstCell d p line

/-- A frame in reception takes more line data, of the kind that its line carries. -/
def State.rxMore (s : State) (d p : Nat) (line : Line) : State :=
  match sget (s.die d).hop.rx p with
  | none => s
  | some f => if kindOf line = s.lineKind d p then s.rxTake d p f line else s

/-- CELL_ALLOCATE (R60, R64): a frame in reception takes line data that needs further cells. -/
def execCellAllocate (d p : Nat) (line : Line) (s : State) : Res :=
  onPort s d p (isMac p || isTgp d p) fun s => s.rxMore d p line

/-- A received frame whose last cell is written becomes a packet that waits for admission (R58). -/
def State.rxDone (s : State) (d p fcs : Nat) : State :=
  match sget (s.die d).hop.rx p with
  | none => s
  | some f =>
    if f.discard ≠ 0 then s.modHop d fun h => { h with rx := sdel h.rx p }
    else
      let r := s.newPkt d { cells := f.cells, len := f.octets.length, fcs := fcs, port := d * 32 + p, cfg := f.cfg,
                            pdef := f.pdef, ts := f.ts }
      r.2.modHop d fun h => { h with rx := sdel h.rx p, complete := h.complete ++ [r.1] }

/-- The last four octets are the Ethernet FCS of the others (R47). -/
def fcsGood (o : List Byte) : Bool := leNat (o.drop (o.length - 4)) = crc32 (o.take (o.length - 4))

/-- A received PAUSE stops the port, a PFC frame the priorities it names, for a time in quanta of 512 bit times; time 0
ends the stop (R49, R311). -/
def State.pauseReceive (s : State) (d p : Nat) (pfc : Bool) (enable : Nat) (times : List Nat) : State :=
  if !s.rxOn d p then s
  else
    let upto := fun (q : Nat) => s.now + q * 512 * 1000 / s.macRate d p
    let put := fun (s : State) (key q : Nat) =>
      s.modHop d fun h => { h with pausedTo := if q = 0 then sdel h.pausedTo key else sset h.pausedTo key (upto q) }
    if pfc then (maskList enable 8).foldl (fun s q => put s (32 + 8 * p + q) (times.getD q 0)) s
    else put s p (times.headD 0)

/-- What a MAC control frame says (R49): opcode 0x0001 is PAUSE with one time, opcode 0x0101 PFC with an enable vector and
eight times; another opcode says nothing. -/
def State.controlReceive (s : State) (d p : Nat) (o : List Byte) : State :=
  let half := fun (i : Nat) => beNat ((o.drop i).take 2)
  if half 14 = 0x0001 then s.pauseReceive d p false 0 [half 16]
  else if half 14 = 0x0101 then s.pauseReceive d p true (half 16 % 256) ((List.range 8).map fun q => half (18 + 2 * q))
  else s

/-- The end of an Ethernet frame (R46, R47): the discard reason is that of the first row of the table that holds, and a
MAC control frame is consumed (R49). -/
def State.ethernetEnd (s : State) (d p : Nat) (err : Bool) : State :=
  match sget (s.die d).hop.rx p with
  | none => s
  | some f =>
    if err || f.octets.length < 64 || !fcsGood f.octets then s.rxDiscard d p rFCS
    else if s.rxMax d p < f.octets.length then s.rxDiscard d p rLENGTH
    else if f.ctl then (s.modHop d fun h => { h with rx := sdel h.rx p }).controlReceive d p f.octets
    else s.rxDone d p 2

/-- ETHERNET_FRAME_RECEIVE: the rest of a frame arrives and the frame ends, whole or with an error (R46, R47, R50). -/
def execEthernetFrameReceive (d p : Nat) (rest : Line) (err : Bool) (s : State) : Res :=
  onPort s d p (isMac p) fun s =>
    if s.rxOn d p && kindOf rest = s.lineKind d p then (s.rxMore d p rest).ethernetEnd d p err else s

/-- PCS_LINK_DOWN (R47): a frame in progress ends at the loss. -/
def State.pcsDown (s : State) (d p : Nat) : State :=
  (s.rxDiscard d p rFCS).modHop d fun h => { h with linkUp := h.linkUp.filter (· ≠ p) }

/-- PCS_LINK_DOWN. -/
def execPcsLinkDown (d p : Nat) (s : State) : Res := onPort s d p (isMac p) fun s => s.pcsDown d p

/-- A PCS link comes up on an enabled port; ports 8 and 9 take the speed in use (R45, R46). -/
def State.pcsUp (s : State) (d p speed : Nat) : State :=
  if !s.macOn d p || s.serdesLost then s
  else
    let mode := s.fld d .macPcfg [p] 0 4
    let fixed := s.fld d .macPcfg [p] 6 2
    let v := if mode = 10 then 3 else if mode = 9 && fixed ≠ 0 then fixed - 1 else min speed 2
    s.modHop d fun h => { h with
      linkUp := p :: h.linkUp.filter (· ≠ p)
      speed := if 8 ≤ p then sset h.speed p v else h.speed }

/-- PCS_LINK_UP. -/
def execPcsLinkUp (d p speed : Nat) (s : State) : Res := onPort s d p (isMac p) fun s => s.pcsUp d p speed

/-- The lanes that an enabled lane MAC uses (R43). -/
def State.lanesOf (s : State) (d p : Nat) : List Nat :=
  if p < 8 && bit (s.reg d .macPcfg [p]) 5 then (List.range (macLanes (s.fld d .macPcfg [p] 0 4))).map (p + ·) else []

/-- A MODE that a port can take; other values are ignored (MAC.PCFG). -/
def macModeOk (p mode : Nat) : Bool :=
  mode = 0 || (p < 8 && 1 ≤ mode && mode ≤ 8) || (8 ≤ p && (mode = 9 || mode = 10))

/-- A write of MAC.PCFG with the checks of R44; clearing ENABLE ends what is being received (R46, log entry 14). -/
def State.macPortConfig (s : State) (d p v : Nat) : State :=
  let old := s.reg d .macPcfg [p]
  let mode := if macModeOk p (bits v 0 4) then bits v 0 4 else bits old 0 4
  let new := putBits (bits v 0 8) 0 4 mode
  let lanes := (List.range (macLanes mode)).map (p + ·)
  let clash := p < 8 && (p % macLanes mode ≠ 0 ||
    (List.range 8).any fun q => q ≠ p && (s.lanesOf d q).any lanes.contains)
  if bit old 5 && (mode ≠ bits old 0 4 || bits new 6 2 ≠ bits old 6 2) then s.violation d
  else if bit new 5 && !bit old 5 && clash then s.violation d
  else
    let s := s.setReg d .macPcfg [p] new
    if bit old 5 && !bit new 5 then s.pcsDown d p else s

/-- MAC_PORT_CONFIG. -/
def execMacPortConfig (d p : Nat) (v : Dword) (s : State) : Res :=
  onHostS s d (isMac p) fun s => s.macPortConfig d p v.toNat

/-! ### Flow control (R48, R49, R311) -/

/-- PAUSE_FRAME_RECEIVE. -/
def execPauseFrameReceive (d p : Nat) (pfc : Bool) (enable : Byte) (times : List Nat) (s : State) : Res :=
  onPort s d p (isMac p) fun s => s.pauseReceive d p pfc enable.toNat times

/-- Key of a pause: the port's, or a priority's. -/
def pauseKey (p : Nat) : Option Nat → Nat
  | none => p
  | some q => 32 + 8 * p + q

/-- PAUSE_EXPIRE (R311): the time of a pause has run out. -/
def execPauseExpire (d p : Nat) (pri : Option Nat) (s : State) : Res :=
  onPort s d p (isMac p) fun s =>
    match sget (s.die d).hop.pausedTo (pauseKey p pri) with
    | some t => if t ≤ s.now then
        s.modHop d fun h => { h with pausedTo := sdel h.pausedTo (pauseKey p pri) } else s
    | none => s

/-- A port is sending a frame. -/
def State.txBusy (s : State) (d p : Nat) : Bool :=
  (sget (s.die d).egr.sending p).isSome

/-- Send one owed PAUSE or PFC frame and count it (R49, R83). -/
def State.sendFc (s : State) (d p key : Nat) (o : FcOwed) : State :=
  let s := if 32 ≤ key then s.emit (.pause d p true (2 ^ (key % 8)) o.quanta) else s.emit (.pause d p false 0 o.quanta)
  let s := s.countPort d p 7
  s.modHop d fun h => { h with
    fcOwed := if o.quanta = 0 then sdel h.fcOwed key else sset h.fcOwed key { o with due := false, sentAt := s.now } }

/-- The flow-control keys of a port. -/
def fcKeys (p : Nat) : List Nat := p :: (List.range 8).map (32 + 8 * p + ·)

/-- PAUSE_SEND (R49): at a transmit frame boundary a MAC whose link is up sends what its sluices owe. -/
def execPauseSend (d p : Nat) (s : State) : Res :=
  onPort s d p (isMac p) fun s =>
    if s.txBusy d p || !s.rxOn d p then s
    else (fcKeys p).foldl (fun s k => match sget (s.die d).hop.fcOwed k with
      | some o => if o.due then s.sendFc d p k o else s
      | none => s) s

/-- PAUSE_REPEAT (R49): half of PAUSE_TIME has elapsed with the sluice still closed. -/
def execPauseRepeat (d p : Nat) (s : State) : Res :=
  onPort s d p (isMac p) fun s =>
    if s.txBusy d p || !s.rxOn d p then s
    else (fcKeys p).foldl (fun s k => match sget (s.die d).hop.fcOwed k with
      | some o => if !o.due && decide (o.sentAt + o.quanta * 256 * 1000 / s.macRate d p ≤ s.now) then
          s.sendFc d p k o else s
      | none => s) s

/-! ### Telegram ports (R51 to R57) -/

/-- Octets of a telegram port's FCS. -/
def State.tgpFcs (s : State) (d p : Nat) : Nat := if bit (s.reg d .tgpCfg [p - 16]) 3 then 4 else 2

/-- The FCS at the end of a telegram holds (R53). -/
def telegramFcsGood (n : Nat) (o : List Byte) : Bool :=
  leNat (o.drop (o.length - n)) = (if n = 4 then crc32 (o.take (o.length - n)) else crc16 (o.take (o.length - n)))

/-- The end of a telegram frame at its closing flag: one discard reason in the order of R54, or a packet (R53). An escape that
the flag follows is an abort. -/
def State.telegramEnd (s : State) (d p : Nat) : State :=
  match sget (s.die d).hop.rx p with
  | none => s
  | some f =>
    let n := s.tgpFcs d p
    if f.abort || f.esc then (s.rxDiscard d p rFCS).countPort d p 7
    else if s.rxMax d p < f.octets.length then s.rxDiscard d p rLENGTH
    else if f.bad || f.part ≠ [] || f.octets.length < n + 1 || !telegramFcsGood n f.octets then
      s.rxDiscard d p rFCS
    else s.rxDone d p (if n = 4 then 2 else 1)

/-- TELEGRAM_FRAME_RECEIVE: the rest of a frame and its closing flag arrive (R53, R54, R56). -/
def execTelegramFrameReceive (d p : Nat) (rest : Line) (s : State) : Res :=
  onPort s d p (isTgp d p) fun s =>
    if s.rxOn d p && kindOf rest = s.lineKind d p then (s.rxMore d p rest).telegramEnd d p else s

/-- TELEGRAM_ABORT (R54): counted as FCS and as ABORT. -/
def execTelegramAbort (d p : Nat) (s : State) : Res :=
  onPort s d p (isTgp d p) fun s =>
    match sget (s.die d).hop.rx p with
    | none => s
    | some _ => (s.rxDiscard d p rFCS).countPort d p 7

/-- GAP_TIMEOUT (R55): the gap inside a frame has passed GAP_TIMEOUT bit times at RATE. -/
def execGapTimeout (d p : Nat) (s : State) : Res :=
  onPort s d p (isTgp d p) fun s =>
    match sget (s.die d).hop.rx p with
    | none => s
    | some f =>
      if s.fld d .tgpGap [p - 16] 0 16 * 1000000000 < (s.now - f.lastBit) * s.fld d .tgpRate [p - 16] 0 25 then
        s.rxDiscard d p rGAP
      else s

/-- A telegram port that runs is between frames: it sends flags, or ones under IDLE_MARK (R53). -/
def State.tgpIdle (s : State) (d p : Nat) : State := s.emit (.telegramIdle d p (bit (s.reg d .tgpCfg [p - 16]) 7))

/-- A write of TGP.CFG: while ENABLE = 1 only a write that clears ENABLE acts, and it changes nothing else; a frame in
reception is discarded with reason GAP (R57). -/
def State.tgpCfgWrite (s : State) (d t v : Nat) : State :=
  let old := s.reg d .tgpCfg [t]
  let new := bits v 0 10
  if bit old 8 then
    if !bit new 8 then (s.setReg d .tgpCfg [t] (putBit old 8 false)).rxDiscard d (t + 16) rGAP
    else if new = old then s else s.violation d
  else
    let s := s.setReg d .tgpCfg [t] new
    if s.rxOn d (t + 16) then s.tgpIdle d (t + 16) else s

/-- TELEGRAM_PORT_DISABLE: a write of TGP.CFG that clears ENABLE. -/
def execTelegramPortDisable (d t : Nat) (v : Dword) (s : State) : Res :=
  onHostS s d (isTgp d (t + 16)) fun s => s.tgpCfgWrite d t v.toNat

/-- A write of TGP.RATE (R52, R57). -/
def State.tgpRateWrite (s : State) (d t v : Nat) : State :=
  let r := bits v 0 25
  if r < 1000 || 20000000 < r then s.violation d
  else if bit (s.reg d .tgpCfg [t]) 8 && r ≠ s.reg d .tgpRate [t] then s.violation d
  else s.setReg d .tgpRate [t] r

/-- A write of TGP.GAP: a GAP_TIMEOUT below 8 is a violation, a MAX_LEN outside 4 to 16,000 is ignored (R55, R57). -/
def State.tgpGapWrite (s : State) (d t v : Nat) : State :=
  let old := s.reg d .tgpGap [t]
  let len := if 4 ≤ bits v 16 14 && bits v 16 14 ≤ 16000 then bits v 16 14 else bits old 16 14
  let new := bits v 0 16 + len * 65536
  if bits v 0 16 < 8 then s.violation d
  else if bit (s.reg d .tgpCfg [t]) 8 && new ≠ old then s.violation d
  else s.setReg d .tgpGap [t] new

/-! ### Admission (R58) -/

/-- FRAME_ADMIT: the hopper admits the frame whose last cell was written first, unless it is blocked (R18, R23, R61). -/
def State.frameAdmit (s : State) (d : Nat) : State :=
  match (s.die d).hop.complete with
  | [] => s
  | pid :: rest =>
    if s.blocked d then s
    else match s.pkt d pid with
      | some k => (s.modHop d fun h => { h with complete := rest }).admitAt d (k.port % 32) pid
      | none => s.modHop d fun h => { h with complete := rest }

/-- FRAME_ADMIT. -/
def execFrameAdmit (d : Nat) (s : State) : Res := onDieS s d fun s => s.frameAdmit d

end Sys2Proof.Machine
end

