-- ==== Sys2Proof/Machine/Extract.lean ====
section
/-! DEFINITION. Station 3 and the default actions (R66 to R78, R82): selector, profile, key, hash and metadata; and the
writes that enable and disable profiles and selector entries. -/

namespace Sys2Proof.Machine

open Sys2Proof

/-- Octets of the stored FCS for a code of FCS_BYTES. -/
def fcsLen (c : Nat) : Nat := 2 * c

/-- Data length of a frame: its stored length less its FCS (R67). -/
def Packet.dataLen (p : Packet) : Nat := p.len - fcsLen p.fcs

/-- Selector entry e matches a selector value and a class (R66). -/
def State.selMatch (s : State) (d e value cls : Nat) : Bool :=
  let m := s.reg d .hopSelMatch [e]
  let a := s.reg d .hopSelAct [e]
  let mask := bits m 16 16
  let cm := bits a 5 4
  bit a 0 && (value &&& mask) = (bits m 0 16 &&& mask) && (cls &&& cm) = (bits a 1 4 &&& cm)

/-- A profile's field f. -/
def State.profFld (s : State) (d pr f : Nat) : Nat := s.reg d .hopProfFld [pr, f]

/-- The masked bytes of a field (R68). -/
def Hopper.fieldBytes (h : Hopper) (p : Packet) (v : Nat) : List Byte :=
  let n := bits v 8 4 + 1
  (List.range n).map fun i =>
    let m := (if i = 0 then bits v 12 8 else 255) &&& (if i + 1 = n then bits v 20 8 else 255)
    BitVec.ofNat 8 ((h.pktByte p (bits v 0 8 + i)).toNat &&& m)

/-- The valid fields of a profile with their masked bytes. -/
def State.profBytes (s : State) (d pr : Nat) (p : Packet) : List (Nat × Nat × List Byte) :=
  (List.range 16).filterMap fun f =>
    let v := s.profFld d pr f
    if bit v 30 then some (f, v, (s.die d).hop.fieldBytes p v) else none

/-- The key of a profile's fields (R69). -/
def keyBytes (fs : List (Nat × Nat × List Byte)) : List Byte :=
  fs.flatMap fun f => if bit f.2.1 28 then [] else f.2.2

/-- FLAGS: bit f for a flag field with a nonzero masked byte (R68). -/
def keyFlags (fs : List (Nat × Nat × List Byte)) : Nat :=
  fs.foldl (fun m f => if bit f.2.1 28 && f.2.2.any (· ≠ 0) then m + 2 ^ f.1 else m) 0

/-- The octets that enter the hash (R78). -/
def hashBytes (fs : List (Nat × Nat × List Byte)) : List Byte :=
  fs.flatMap fun f =>
    if !bit f.2.1 29 then []
    else if bit f.2.1 28 then [if f.2.2.any (· ≠ 0) then 1 else 0]
    else f.2.2

/-- The key packed into 15 words, most significant bit first (R69). -/
def keyWords (k : List Byte) : List Word :=
  let n := beNat k * 2 ^ (540 - 8 * k.length)
  (List.range 15).map fun i => w36 (n / 2 ^ (36 * (14 - i)))

/-- The fingerpost index of a hash (R79). -/
def fpIndex (profCtl hash : Nat) : Nat := (bits profCtl 5 12 + hash % 2 ^ min 12 (bits profCtl 1 4)) % 4096

/-- The smallest data length a profile's fields need (R73). -/
def profNeed (fs : List (Nat × Nat × List Byte)) : Nat :=
  fs.foldl (fun m f => max m (bits f.2.1 0 8 + bits f.2.1 8 4 + 1)) 0

/-- Metadata words 0 to 7 (R82). -/
def metaWords (p : Packet) (profile entry : Nat) (hit : Bool) (keyLen flags hash fpi outcome reason table : Nat) :
    List Word :=
  [ w36 (p.ticket + p.port * 2 ^ 24 + bits p.cfg.toNat 8 4 * 2 ^ 32),
    w36 (p.len + p.fcs * 2 ^ 14 + profile * 2 ^ 16 + entry * 2 ^ 22 + (if hit then 2 ^ 28 else 0) + keyLen * 2 ^ 29),
    w36 flags, w36 hash, w36 (p.ts / 2 ^ 36), w36 p.ts, w36 fpi, w36 (outcome + reason * 4 + table * 1024) ]

/-- Words 0 to 27 of an instance record from metadata and key. -/
def recWords (m key : List Word) : List Word := m ++ key ++ List.replicate 5 0

/-- Set OUTCOME and REASON of metadata word 7 (R76, R82). -/
def setOutcome (ws : List Word) (outcome reason : Nat) : List Word :=
  ws.set 7 (w36 (putBits (putBits (ws.getD 7 0).toNat 0 2 outcome) 2 8 reason))

/-- Count a reason of R76 in its HOP counter. -/
def State.countReason (s : State) (d reason : Nat) : State :=
  if reason = rSELECTOR then s.count d ctrHOP 1
  else if reason = rPARSE then s.count d ctrHOP 2
  else if reason = rLOOKUP then s.count d ctrHOP 3
  else s

/-- The queue of FORWARD (R76, R299). -/
def forwardEnq (pdef : Dword) (len : Nat) : Enq :=
  { die := bits pdef.toNat 0 8 / 32, queue := 16 * (bits pdef.toNat 0 8 % 32) + bits pdef.toNat 8 4
    w0 := defaultDesc len, w1 := 0 }

/-- The queue of TO_HOST on the ingress die (R76, R299). -/
def hostEnq (port hq len : Nat) : Enq := { die := port / 32, queue := 384 + hq, w0 := defaultDesc len, w1 := 0 }

/-- The port's default action on a packet (R76), from the configuration recorded with it (R59). RUN_GRAPH gives the
packet back, staged for the graph; a fingerpost entry that it has taken goes on applying, as R79 has DROP, TO_HOST and FORWARD
alone ignore it. -/
def State.defaultAct (s : State) (d : Nat) (st : Staged) (reason : Nat) : State × Option Staged :=
  match s.pkt d st.pid with
  | none => (s, none)
  | some p =>
    let s := s.countReason d reason
    match bits p.cfg.toNat 12 2 with
    | 0 => ((s.count d ctrHOP 8).dropPkt d st.pid reason, none)
    | 1 => ((s.count d ctrHOP 9).resolvePkt d st.pid [hostEnq p.port (bits p.pdef.toNat 12 6) p.len] false reason, none)
    | 2 => ((s.count d ctrHOP 10).resolvePkt d st.pid [forwardEnq p.pdef p.len] false reason, none)
    | _ => (s.count d ctrHOP 11, some { st with words := setOutcome st.words 2 reason, graph := bits p.cfg.toNat 16 8
                                                target := d, isDefault := true })

/-- The default action before dispatch: a RUN_GRAPH default waits for the dispatcher with the admitted frames. -/
def State.defaultStage (s : State) (d : Nat) (st : Staged) (reason : Nat) : State :=
  match s.defaultAct d st reason with
  | (s, some st) => s.modHop d fun h => { h with toInst := h.toInst ++ [st] }
  | (s, none) => s

/-- The extractor's work on a packet (R66 to R70, R73 to R78, R82): the words of its record, and the default action's
reason when one applies. -/
def State.extractOf (s : State) (d pid : Nat) (p : Packet) : Staged × Option Nat :=
  let cfg := p.cfg.toNat
  let off := bits cfg 0 8
  let h := (s.die d).hop
  let value := (h.pktByte p off).toNat * 256 + (h.pktByte p (off + 1)).toNat
  let miss := fun (reason outcome pr e : Nat) (hit : Bool) =>
    ({ pid := pid, words := recWords (metaWords p pr e hit 0 0 0 0 outcome reason 0) (List.replicate 15 0), target := d },
      some reason)
  if off = 255 || p.dataLen < off + 2 then miss rSELECTOR 2 0 0 false
  else match (List.range 64).find? fun e => s.selMatch d e value (bits cfg 8 4) with
    | none => miss rSELECTOR 2 0 0 false
    | some e =>
      let pr := s.fld d .hopSelAct [e] 9 6
      let ctl := s.reg d .hopProfCtl [pr]
      if !bit ctl 0 then miss rSELECTOR 2 0 e false
      else
        let fs := s.profBytes d pr p
        if p.dataLen < profNeed fs then miss rPARSE 2 pr e true
        else
          let key := keyBytes fs
          let hash := crc32c (s.reg d .hopProfSeed [pr]) (hashBytes fs)
          let lw := min 4 (bits ctl 17 3)
          ({ pid := pid
             words := recWords (metaWords p pr e true key.length (keyFlags fs) hash (fpIndex ctl hash)
               (if lw = 0 then 3 else 0) 0 (if lw = 0 then 0 else bits ctl 20 6)) (keyWords key)
             graph := s.fld d .hopProfGraph [pr] 0 8, table := bits ctl 20 6, lookup := lw, target := d }, none)

/-- The fingerpost (R77, R79, R80): a packet whose profile was chosen takes its entry; a die that is to process it gets it by
a hopper move, and otherwise it waits for the dispatcher. -/
def State.fingerpost (s : State) (d : Nat) (st : Staged) : State :=
  let ix := bits (st.words.getD 6 0).toNat 0 12
  let s := s.readUnit d 9 0 (cfgFinger ix) true
  let e := s.reg d .hopFp [ix]
  let kind := if s.cfgBad d (cfgFinger ix) then 3 else bits e 0 2
  let x := bits e 6 3
  let w6 := w36 (ix + 2 ^ 12 + bits e 0 21 * 2 ^ 13)
  let st' := { st with words := st.words.set 6 w6, fp := some (BitVec.ofNat 32 e) }
  let drop := fun (s : State) =>
    (((s.count d ctrHOP 12).journalDrop d rFAULT (match s.pkt d st.pid with | some p => p.port | none => 0) 0)).dropPkt d
      st.pid rFAULT
  if kind = 3 then drop s
  else if kind = 2 && x ≠ d then
    if s.reach d x then s.modHop d fun h => { h with toMove := h.toMove ++ [{ st' with target := x }] } else drop s
  else s.modHop d fun h => { h with toInst := h.toInst ++ [st'] }

/-- EXTRACT: the next admitted frame passes the extractor (R66). -/
def State.extract (s : State) (d : Nat) : State :=
  match (s.die d).hop.admitted with
  | [] => s
  | pid :: rest =>
    let s := s.modHop d fun h => { h with admitted := rest }
    match s.pkt d pid with
    | none => s
    | some p =>
      match s.extractOf d pid p with
      | (st, some reason) => s.defaultStage d st reason
      | (st, none) =>
        if st.lookup = 0 then s.fingerpost d st else s.modHop d fun h => { h with extracted := h.extracted ++ [st] }

/-- EXTRACT. -/
def execExtract (d : Nat) (s : State) : Res := onDieS s d fun s => s.extract d

/-! ### Writes of profiles and selector entries (R70, R71) -/

/-- Bytes that a profile's key would have (R70). -/
def State.profKeyLen (s : State) (d pr : Nat) : Nat :=
  ((List.range 16).map fun f =>
    let v := s.profFld d pr f
    if bit v 30 && !bit v 28 then bits v 8 4 + 1 else 0).sum

/-- A write of HOP.PROF_CTL (R70, R71). -/
def State.profCtlWrite (s : State) (d pr v : Nat) : State :=
  let old := s.reg d .hopProfCtl [pr]
  let new := bits v 0 26
  if bit old 0 then
    if !bit new 0 then s.setReg d .hopProfCtl [pr] (putBit old 0 false)
    else if new = old then s else s.violation d
  else if bit new 0 && 64 < s.profKeyLen d pr then s.violation d
  else s.setReg d .hopProfCtl [pr] new

/-- PROFILE_ENABLE: a write that sets HOP.PROF_CTL.ENABLE. -/
def execProfileEnable (d pr : Nat) (v : Dword) (s : State) : Res :=
  onHostS s d (pr < 64) fun s => s.profCtlWrite d pr (putBit v.toNat 0 true)

/-- PROFILE_DISABLE: a write that clears HOP.PROF_CTL.ENABLE; frames already matched complete with the profile (R72). -/
def execProfileDisable (d pr : Nat) (v : Dword) (s : State) : Res :=
  onHostS s d (pr < 64) fun s => s.profCtlWrite d pr (putBit v.toNat 0 false)

/-- A write of HOP.SEL_ACT: while VALID = 1 only a write that clears VALID acts (R71). -/
def State.selActWrite (s : State) (d e v : Nat) : State :=
  let old := s.reg d .hopSelAct [e]
  let new := bits v 0 15
  if bit old 0 then
    if !bit new 0 then s.setReg d .hopSelAct [e] (putBit old 0 false)
    else if new = old then s else s.violation d
  else s.setReg d .hopSelAct [e] new

/-- SELECTOR_DISABLE: a write that clears HOP.SEL_ACT.VALID. -/
def execSelectorDisable (d e : Nat) (v : Dword) (s : State) : Res :=
  onHostS s d (e < 64) fun s => s.selActWrite d e (putBit v.toNat 0 false)

/-- A write of a register of a profile in use is a violation unless it changes nothing (R10, R71). -/
def State.profWrite (s : State) (d pr : Nat) (r : RegId) (ix : List Nat) (v : Nat) : State :=
  if bit (s.reg d .hopProfCtl [pr]) 0 && v ≠ s.reg d r ix then s.violation d else s.setReg d r ix v

/-- A write of HOP.SEL_MATCH: a violation while the entry is valid (R71). -/
def State.selMatchWrite (s : State) (d e v : Nat) : State :=
  if bit (s.reg d .hopSelAct [e]) 0 && v ≠ s.reg d .hopSelMatch [e] then s.violation d
  else s.setReg d .hopSelMatch [e] v

end Sys2Proof.Machine
end

