-- ==== Sys2Proof/Machine/ThreadOps.lean ====
section
/-! DEFINITION. The shared operations over threads, cores, channels and helper locks (R128 to R133, R146, R154 to R156,
R209 to R212, R226, R227). -/

namespace Sys2Proof.Machine

open Sys2Proof

/-- Key of a thread in its die. -/
def tkey (t : Tid) : Nat := t.core * 16 + t.thr

/-- A thread of a die by its key. -/
def State.thr (s : State) (d k : Nat) : Thread := sgetD (s.die d).threads k {}

/-- Set a thread. -/
def State.setThr (s : State) (d k : Nat) (x : Thread) : State :=
  s.modDie d fun y => { y with threads := sset y.threads k x }

/-- Change a thread. -/
def State.modThr (s : State) (d k : Nat) (f : Thread → Thread) : State := s.setThr d k (f (s.thr d k))

/-- A core of a die. -/
def State.core (s : State) (d c : Nat) : Core := sgetD (s.die d).cores c {}

/-- Set a core. -/
def State.setCore (s : State) (d c : Nat) (x : Core) : State :=
  s.modDie d fun y => { y with cores := sset y.cores c x }

/-- Change a core. -/
def State.modCore (s : State) (d c : Nat) (f : Core → Core) : State := s.setCore d c (f (s.core d c))

/-- The checker of a lockstep pair: the odd core of a pair whose bit is set (R148). -/
def State.checker (s : State) (d c : Nat) : Bool := c % 2 = 1 && bit (s.reg d .cluCfg [c / 4]) (c % 4 / 2)

/-- The core leads a lockstep pair (R148). -/
def State.leader (s : State) (d c : Nat) : Bool := c % 2 = 0 && bit (s.reg d .cluCfg [c / 4]) (c % 4 / 2)

/-- A core register of the CLU window. -/
def State.coreCfg (s : State) (d c : Nat) : Nat := s.reg d .cluCoreCfg [c / 4, c % 4]

/-- Compatibility mode: FAULT_MODE = NOTIFY (R142). -/
def State.compat (s : State) (d c : Nat) : Bool := bit (s.coreCfg d c) 0

/-- Count an event of a core (R153). -/
def State.countCore (s : State) (d c i : Nat) (n : Nat := 1) : State := s.count d (16 + c / 4) (8 * (c % 4) + i) n

/-- Set a bit of CLU.CORE_EVENT with the core vector's message (R380). -/
def State.coreEvent (s : State) (d c i : Nat) : State :=
  s.watch d 10 fun s => s.setReg d .cluCoreEvent [c / 4, c % 4] (putBit (s.reg d .cluCoreEvent [c / 4, c % 4]) i true)

/-- A thread's issue slot gives the latency of its sampled events (R435). -/
def State.sampleNext (s : State) (d k : Nat) : State :=
  if (s.core d (k / 16)).sampleDue.isEmpty then s
  else s.modCore d (k / 16) fun y => { y with sampleDue := y.sampleDue.map fun e =>
    if e.thr = k % 16 && e.next.isNone then { e with next := some s.now } else e }

/-- The next place in the order of attempts and requests (R121, R130). -/
def State.stamp (s : State) : Nat × State := (s.stamps, { s with stamps := s.stamps + 1 })

/-! ### General registers and poison tags (R154, R155, R162) -/

/-- A general register; w0 reads as zero. -/
def Thread.get (x : Thread) (r : Nat) : Word := if r = 0 then 0 else x.w.getD r 0

/-- The poison tag of a general register; w0 is never tagged. -/
def Thread.tagged (x : Thread) (r : Nat) : Bool := r ≠ 0 && x.tags.contains r

/-- Set or clear a tag. -/
def Thread.setTag (x : Thread) (r : Nat) (p : Bool) : Thread :=
  { x with tags := if p then (if x.tags.contains r then x.tags else r :: x.tags) else x.tags.filter (· ≠ r) }

/-- Write a general register with its tag; writes to w0 are discarded. -/
def Thread.put (x : Thread) (r : Nat) (v : Word) (p : Bool := false) : Thread :=
  if r = 0 then x else { x with w := x.w.setIfInBounds r v }.setTag r p

/-- Tag numbers of system registers. -/
def sysTag (n : Nat) : Nat := 32 + n

/-- FL's poison tag. -/
def Thread.flTag (x : Thread) : Bool := x.tags.contains (sysTag 1)

/-- FL as a number (R156). -/
def Thread.fl (x : Thread) : Nat :=
  (if x.z then 1 else 0) + (if x.n then 2 else 0) + (if x.c then 4 else 0) + (if x.v then 8 else 0) + (if x.dz then 16 else 0)

/-- Set FL from a number. -/
def Thread.setFl (x : Thread) (v : Nat) : Thread :=
  { x with z := bit v 0, n := bit v 1, c := bit v 2, v := bit v 3, dz := bit v 4 }

/-- A system register that MTS and SYS may write (R156). -/
def sysWritable (n : Nat) : Bool := n ≤ 3 || (6 ≤ n && n ≤ 8) || n = 10 || n = 11

/-- Write a system register, with the tag of what is written (R156, R162); what tags FL tags DCV too (R189). -/
def Thread.putSys (x : Thread) (n : Nat) (v : Word) (p : Bool) : Thread :=
  let y := match n with
    | 0 => { x with cnt := v }
    | 1 => x.setFl v.toNat
    | 2 => { x with dcv := v.truncate 9 }
    | 3 => { x with tst := w36 (bits v.toNat 0 11) }
    | 6 => { x with timer := v }
    | 7 => { x with rsetLo := v }
    | 8 => { x with rsetHi := bits v.toNat 0 4 }
    | 10 => { x with crcPoly := bits v.toNat 0 32 }
    | 11 => { x with crcW := bits v.toNat 0 6 }
    | _ => x
  let y := y.setTag (sysTag n) p
  if n = 1 && p then y.setTag (sysTag 2) true else y

/-- The scoreboard as system register 9 reads it. -/
def Thread.sb (x : Thread) : Nat := (List.range 8).foldl (fun m i => if x.busy.contains i then m + 2 ^ i else m) 0

/-- The receive set holds a channel (R133). -/
def Thread.inSet (x : Thread) (ch : Nat) : Bool :=
  if ch < 36 then bit x.rsetLo.toNat ch else bit x.rsetHi (ch - 36)

/-- Apply a thread-map entry (R126). The scoreboard bits of unfinished helper work stay busy until it finishes. -/
def applyMap (w0 w1 : Nat) (old : Thread) : Thread :=
  { role := bits w0 0 2, st := if bits w0 0 2 = 0 then .idle else .issuing, pc := bits w0 2 16
    rbase := bits w1 0 18, rlast := bits w1 18 18, busy := old.busy }

/-! ### Channels (R128 to R132) -/

/-- Key of a channel as a thread of core c names it. -/
def chanKey (c n : Nat) : Nat := if n < 32 then c * 32 + n else 1536 + c / 4 * 8 + (n - 32)

/-- A channel. -/
def State.chan (s : State) (d k : Nat) : Chan := sgetD (s.die d).chans k {}

/-- Set a channel. -/
def State.setChan (s : State) (d k : Nat) (x : Chan) : State :=
  s.modDie d fun y => { y with chans := sset y.chans k x }

/-- Message places taken: complete messages and the open one (R129). -/
def Chan.places (x : Chan) : Nat := x.msgs.length + (if x.opened.isSome then 1 else 0)

/-- Whether a thread's push blocks: the channel is reserved to another thread, or the push would open a message with all
places taken (R129). -/
def Chan.blocks (x : Chan) (t : Nat) : Bool :=
  match x.opened with
  | some (u, _) => u ≠ t
  | none => 4 ≤ x.msgs.length

/-- Push one word at a time; the eighth word, or an end, completes the message (R129). -/
def Chan.push (x : Chan) (now t : Nat) (v : Word × Bool) (fin : Bool) : Chan :=
  let ws := (match x.opened with | some (_, ws) => ws | none => []) ++ [v]
  if fin || 8 ≤ ws.length then { msgs := x.msgs ++ [{ at_ := now, words := ws }], opened := none }
  else { x with opened := some (t, ws) }

/-- A channel without a thread's open message. -/
def Chan.discard (x : Chan) (k : Nat) : Chan :=
  match x.opened with
  | some (u, _) => if u = k then { x with opened := none } else x
  | none => x

/-- Discard a thread's open messages, on every channel or on the cluster's only, and release the channels (R144, R145, R152). -/
def State.discardOpen (s : State) (d k : Nat) (cluster : Bool := false) : State :=
  (s.modDie d fun y => { y with chans := y.chans.map fun p =>
    (p.1, if cluster && p.1 < 1536 then p.2 else p.2.discard k) }).modThr d k fun x =>
    { x with openCh := if cluster then x.openCh.filter (· < 32) else none }

/-! ### Core cycles and rounds (R117, R485) -/

/-- The first core cycle that begins at or after a number of ns: cycles of 0.5 ns, or of 0.625 ns at 1.6 GHz. -/
def State.firstCycle (s : State) (t : Nat) : Nat := if s.fuses.speed16 then (8 * t + 4) / 5 else 2 * t

/-- The round in which a number of ns falls: no fabric cycle has core cycles of two rounds. -/
def State.roundsAt (s : State) (t : Nat) : Nat := s.firstCycle t / 4

/-- The rounds between two times. -/
def State.roundsFrom (s : State) (d t now : Nat) : Nat :=
  s.roundsAt (now - (s.die d).coreStart) - s.roundsAt (t - (s.die d).coreStart)

/-- The core cycle of a thread's slot in the present fabric cycle, if it has one (R117, R485). -/
def State.slotCycle (s : State) (d k : Nat) : Option Nat :=
  let t := s.now - (s.die d).coreStart
  let first := s.firstCycle t
  ((List.range (s.firstCycle (t + 1) - first)).map (first + ·)).find? fun n => n % 4 = k % 4

/-- A thread's slot has come: slots of a cluster pass in the order of core cycles and, in one core cycle, of global thread numbers
(R485). -/
def State.slotFree (s : State) (d k : Nat) : Bool :=
  !(s.thr d k).poisonDue && match s.slotCycle d k with
  | none => false
  | some n => (s.die d).threads.all fun p =>
    p.1 / 64 ≠ k / 64 || p.2.slotAt ≤ n || (p.2.slotAt = n + 1 && p.1 < k)

/-- A thread has used its slot: its next one is in a later round, `lag` rounds on. -/
def Thread.useSlot (x : Thread) (n : Option Nat) (lag : Nat) : Thread :=
  { x with slotAt := (n.map (· + 1)).getD x.slotAt, lag := lag }

/-- A message can be taken: from a core channel in a round after its last word, from a cluster channel 2 fabric cycles after it
(R132). -/
def State.msgReady (s : State) (d key : Nat) (m : Msg) : Bool :=
  if key < 1536 then 0 < s.roundsFrom d m.at_ s.now else m.at_ + 2 ≤ s.now

/-- The oldest message of a channel, when it can be taken (R131, R132). -/
def State.oldestMsg (s : State) (d key : Nat) : Option Msg :=
  (s.chan d key).msgs.head?.filter (s.msgReady d key)

/-! ### Cluster store (R127, R157, R162) -/

/-- A cluster-store word and its poison. -/
def State.csRead (s : State) (d cl a : Nat) : Word × Bool :=
  (sgetD (s.die d).cstore (cl * 262144 + a) 0, (s.die d).cstorePoison.contains (cl * 262144 + a))

/-- Write a cluster-store word with its poison; the word gets fresh check bits. -/
def State.csWrite (s : State) (d cl a : Nat) (v : Word) (p : Bool) : State :=
  let k := cl * 262144 + a
  s.modDie d fun y => ({ y with
    cstore := sset y.cstore k v
    cstorePoison := if p then mark y.cstorePoison k else unmark y.cstorePoison k }).freshUnit 2 cl a

/-! ### Helper locks (R209 to R212) -/

/-- A helper by cluster × 3 + kind. -/
def State.helper (s : State) (d h : Nat) : Helper := sgetD (s.die d).helpers h {}

/-- Set a helper. -/
def State.setHelper (s : State) (d h : Nat) (x : Helper) : State :=
  s.modDie d fun y => { y with helpers := sset y.helpers h x }

/-- The lock is free: no holder, no job queued or running (R209). -/
def Helper.free (x : Helper) : Bool := x.holder.isNone && x.jobs.isEmpty

/-- An operation in its slot. -/
def State.op (s : State) (d slot : Nat) : Option Op := sget (s.die d).dsp.ops slot

/-- Set an operation. -/
def State.setOp (s : State) (d slot : Nat) (o : Op) : State := s.modDsp d fun x => { x with ops := sset x.ops slot o }

/-- An instance. -/
def State.inst (s : State) (d i : Nat) : Option Inst := sget (s.die d).dsp.insts i

/-- Set an instance. -/
def State.setInst (s : State) (d i : Nat) (x : Inst) : State := s.modDsp d fun y => { y with insts := sset y.insts i x }

/-- The first carry word of a HELPER operation's descriptor: 0, or 8 with ARG_HALF = 1 (R228). -/
def Op.half (o : Op) : Nat := if bit o.param 2 then 8 else 0

/-- The job of a HELPER operation that has taken the lock (R214, R228): its descriptor is carry words 0 to 7 or 8 to 15 of the
instance; its cluster-store range is looked up when it is checked (R216). -/
def State.engineJob (s : State) (d slot : Nat) : Job :=
  let none' : Job := { who := .op slot, desc := List.replicate 8 0, first := 1, last := 0 }
  match s.op d slot with
  | none => none'
  | some o =>
    match s.inst d o.inst with
    | none => none'
    | some i =>
      { none' with
        desc := (i.words.drop (28 + o.half)).take 8
        poisoned := (List.range 8).any fun j => i.poison.contains (28 + o.half + j)
        pid := i.pid, slot := some slot }

/-- The carry words of a HELPER operation's descriptor are read (R214, R357). -/
def State.readDesc (s : State) (d slot : Nat) : State :=
  match s.op d slot with
  | none => s
  | some o => (List.range 8).foldl (fun s j => s.readUnit d 7 0 (o.inst * 48 + 28 + o.half + j) true) s

/-- A HELPER operation takes a lock: its job is queued and the refused mark cleared (R211, R228). -/
def State.lockToOp (s : State) (d h slot : Nat) : State :=
  let s := s.readDesc d slot
  let x := s.helper d h
  let s := s.setHelper d h { x with
    holder := some (.op slot), jobs := x.jobs ++ [s.engineJob d slot], refused := false, window := none, atCommit := none
    fifo := x.fifo.filter (· ≠ slot) }
  match s.op d slot with
  | some o => s.setOp d slot { o with helper := some h, tStart := some (s.time d) }
  | none => s

/-- A lock that has become free is granted by R211: a thread window when an HLOCK was refused and operations wait, else
the head of the FIFO, else the next HLOCK. -/
def State.grantLock (s : State) (d h : Nat) : State :=
  let x := s.helper d h
  if !x.free || x.window.isSome then s
  else
    let win := s.fld d .hlpCtl [] 0 8
    match x.fifo with
    | [] => s
    | slot :: _ =>
      if x.refused && win ≠ 0 then s.setHelper d h { x with window := some (s.now + win) }
      else s.lockToOp d h slot

/-- The thread window ends: no HLOCK came in it, and the FIFO's head takes the lock (R211). -/
def State.windowEnd (s : State) (d h : Nat) : State :=
  let x := s.helper d h
  match x.window with
  | some t =>
    if s.now < t then s
    else
      let s := s.setHelper d h { x with window := none }
      match x.free, x.fifo with
      | true, slot :: _ => s.lockToOp d h slot
      | _, _ => s
  | none => s

/-- A thread stops being the holder of a lock; the lock is granted again when it is free (R212). -/
def State.dropLock (s : State) (d h : Nat) : State :=
  (s.setHelper d h { s.helper d h with holder := none, atCommit := none }).grantLock d h

/-- The helpers of the thread's cluster whose lock it holds. -/
def State.locksOf (s : State) (d k : Nat) : List Nat :=
  ((List.range 3).map fun n => k / 64 * 3 + n).filter fun h => (s.helper d h).holder = some (.thread k)

/-- Squash the unfinished jobs that a thread started, and end its hold of their locks (R226, R227). -/
def State.squash (s : State) (d k : Nat) : State :=
  (List.range 3).foldl (fun s n =>
    let h := k / 64 * 3 + n
    let x := s.helper d h
    let s := s.setHelper d h { x with
      jobs := x.jobs.map fun j => if j.who = .thread k then { j with squashed := true } else j
      holder := if x.holder = some (.thread k) then none else x.holder
      atCommit := if x.holder = some (.thread k) then none else x.atCommit }
    s.grantLock d h) s

/-- Squash the job of a HELPER operation, or take the operation out of the FIFO (R227, R228). -/
def State.squashOp (s : State) (d slot : Nat) : State :=
  (List.range 36).foldl (fun s h =>
    let x := s.helper d h
    if x.fifo.contains slot || x.holder = some (.op slot) then
      s.setHelper d h { x with
        fifo := x.fifo.filter (· ≠ slot)
        jobs := x.jobs.map fun j => if j.who = .op slot then { j with squashed := true } else j }
    else s) s

/-- The clusters of a core group: those with a core in its mask (R228). -/
def State.groupCores (s : State) (d g : Nat) : List Nat :=
  (maskList (s.reg d .dspGroupLo [g] + s.fld d .dspGroupHi [g] 0 16 * 2 ^ 32) 48).filter fun c => !s.checker d c

/-- A HELPER operation seeks its helper: the lowest cluster of its group with a free lock, else the FIFO of the cluster
with the fewest waiting; a group without cores leaves it in ENGINE (R94, R228). -/
def State.helperPlace (s : State) (d slot : Nat) : State :=
  match s.op d slot with
  | none => s
  | some o =>
    match s.inst d o.inst with
    | none => s
    | some _ =>
      let n := bits o.param 0 2
      let cls := ((s.groupCores d o.group).map (· / 4)).eraseDups
      match cls.find? fun cl => (s.helper d (cl * 3 + n)).free && (s.helper d (cl * 3 + n)).window.isNone with
      | some cl => s.lockToOp d (cl * 3 + n) slot
      | none =>
        match cls with
        | [] => s
        | c0 :: cs =>
          let len := fun cl => (s.helper d (cl * 3 + n)).fifo.length
          let cl := cs.foldl (fun m c => if len c < len m then c else m) c0
          let x := s.helper d (cl * 3 + n)
          (s.setHelper d (cl * 3 + n) { x with fifo := x.fifo ++ [slot] }).setOp d slot { o with helper := some (cl * 3 + n) }

end Sys2Proof.Machine
end

