-- ==== Sys2Proof/Machine/Flags.lean ====
section
/-! DEFINITION. The arithmetic of the cores and every flag rule (R167 to R173, R188 to R199). -/

namespace Sys2Proof.Machine

open Sys2Proof

/-- Flags of a result, as a row of the tables gives them: `none` leaves the flag unchanged. -/
structure FlagSet where
  z : Option Bool := none
  n : Option Bool := none
  c : Option Bool := none
  v : Option Bool := none
  dz : Option Bool := none
  dcv : Option (BitVec 9) := none
deriving DecidableEq, Repr

/-- Bit 35 of a word. -/
def sign (x : Word) : Bool := x.msb

/-- A Bool as a carry in. -/
def carryIn (c : Bool) : Nat := if c then 1 else 0

/-- The carry out of the addition's bit `i − 1`: the carry into bit i (R189). -/
def carryAt (x y : Word) (cin : Bool) (i : Nat) : Bool := 2 ^ i ≤ x.toNat % 2 ^ i + y.toNat % 2 ^ i + carryIn cin

/-- The one 36-bit addition of R188: result, carry out, overflow and digit carries. -/
structure Sum where
  r : Word
  c : Bool
  v : Bool
  dcv : BitVec 9
deriving DecidableEq, Repr

/-- r := x + y + cin (R188, R189). -/
def sum36 (x y : Word) (cin : Bool) : Sum :=
  let r := x + y + (if cin then 1 else 0)
  { r := r, c := carryAt x y cin 36, v := sign x = sign y && sign r ≠ sign x
    dcv := BitVec.ofNat 9 ((List.range 9).foldl (fun m i => if carryAt x y cin (4 * i + 4) then m + 2 ^ i else m) 0) }

/-- Z, N, C and V of an addition. -/
def Sum.flags (s : Sum) : FlagSet := { z := some (s.r = 0), n := some (sign s.r), c := some s.c, v := some s.v }

/-- The flags of a logic result: Z and N, V := 0 (R169). -/
def logicFlags (r : Word) : FlagSet := { z := some (r = 0), n := some (sign r), v := some false }

/-- Leading zero bits of a word, 0 to 36. -/
def clz36 (a : Word) : Nat := (List.range 37).foldl (fun m i => if a.toNat < 2 ^ (36 - i) then max m i else m) 0

/-- One bits of a word. -/
def popc36 (a : Word) : Nat := ((List.range 36).filter fun i => a.getLsbD i).length

/-- Arithmetic and logic of opcode 0o010 (R169, R188, R190): result and flags; CMP and TST write no result. -/
def aluResult (op : AluOp) (a b : Word) (c : Bool) : Option Word × FlagSet :=
  let arith := fun (s : Sum) => (some s.r, { s.flags with dcv := some s.dcv })
  let logic := fun (r : Word) => (some r, logicFlags r)
  match op with
  | .add => arith (sum36 a b false)
  | .adc => arith (sum36 a b c)
  | .sub => arith (sum36 a (~~~b) true)
  | .sbc => arith (sum36 a (~~~b) c)
  | .neg => let s := sum36 0 (~~~a) true; (some s.r, s.flags)
  | .abs => let r := if sign a then 0 - a else a
      (some r, { z := some (r = 0), n := some (sign r), c := some false, v := some (a = BitVec.ofNat 36 (2 ^ 35)) })
  | .cmp => (none, (sum36 a (~~~b) true).flags)
  | .and => logic (a &&& b)
  | .or => logic (a ||| b)
  | .xor => logic (a ^^^ b)
  | .andn => logic (a &&& ~~~b)
  | .not => logic (~~~a)
  | .tst => (none, logicFlags (a &&& b))
  | .mov => (some a, {})
  | .clz => logic (w36 (clz36 a))
  | .popc => logic (w36 (popc36 a))

/-- Shifts and rotates by s places (R170, R191): V unchanged, C the last bit shifted out, with the special cases. -/
def shiftResult (op : ShOp) (a : Word) (s : Nat) : Word × FlagSet :=
  let fl := fun (r : Word) (c : Option Bool) => (r, { z := some (r = 0), n := some (sign r), c := c : FlagSet })
  match op with
  | .shl => if s = 0 then fl a none
      else if s ≤ 36 then fl (a <<< s) (some (a.getLsbD (36 - s))) else fl 0 (some false)
  | .shr => if s = 0 then fl a none
      else if s ≤ 36 then fl (a >>> s) (some (a.getLsbD (s - 1))) else fl 0 (some false)
  | .sar => if s = 0 then fl a none
      else if s < 36 then fl (a.sshiftRight s) (some (a.getLsbD (s - 1)))
      else fl (if sign a then BitVec.allOnes 36 else 0) (some (sign a))
  | .rol => if s % 36 = 0 then fl a none
      else let r := a.rotateLeft (s % 36); fl r (some (r.getLsbD 0))
  | .ror => if s % 36 = 0 then fl a none
      else let r := a.rotateRight (s % 36); fl r (some (r.getLsbD 35))

/-- Result of a multiplication or division: first word, second word of a pair, flags (R171, R172, R192, R193). -/
def mulResult (op : MulOp) (a b : Word) : Word × Option Word × FlagSet :=
  let pair := fun (p : BitVec 72) =>
    (p.extractLsb' 36 36, some (p.extractLsb' 0 36),
      { z := some (p = 0), n := some p.msb, c := some false, v := some false : FlagSet })
  let quot := fun (q r : Word) (v : Bool) (dz : Option Bool) =>
    (q, some r, { z := some (q = 0), n := some (sign q), c := some false, v := some v, dz := dz : FlagSet })
  match op with
  | .mul =>
    let p := a.toInt * b.toInt
    let r := BitVec.ofInt 36 p
    (r, none, { z := some (r = 0), n := some (sign r), c := some false, v := some (r.toInt ≠ p) })
  | .mull => pair (BitVec.ofInt 72 (a.toInt * b.toInt))
  | .mullu => pair (BitVec.ofNat 72 (a.toNat * b.toNat))
  | .divs =>
    if b = 0 then quot 0 a true (some true)
    else quot (BitVec.ofInt 36 (a.toInt.tdiv b.toInt)) (BitVec.ofInt 36 (a.toInt.tmod b.toInt))
      (a = BitVec.ofNat 36 (2 ^ 35) && b = BitVec.allOnes 36) none
  | .divu => if b = 0 then quot 0 a true (some true) else quot (a / b) (a % b) false none

/-- Sign-extended immediate. -/
def immS (i : BitVec 18) : Word := i.signExtend 36

/-- Zero-extended immediate. -/
def immZ (i : BitVec 18) : Word := i.zeroExtend 36

/-- Immediate forms (R173). -/
def immResult (op : ImmOp) (a : Word) (i : BitVec 18) : Option Word × FlagSet :=
  match op with
  | .addi => aluResult .add a (immS i) false
  | .subi => aluResult .sub a (immS i) false
  | .cmpi => aluResult .cmp a (immS i) false
  | .andi => aluResult .and a (immZ i) false
  | .ori => aluResult .or a (immZ i) false
  | .xori => aluResult .xor a (immZ i) false
  | .movi => (some (immZ i), {})
  | .movhi => (some ((immZ i <<< 18) ||| (a &&& 0o777777)), {})

/-- Bits [lsb + w − 1 : lsb] of a, right justified (R173). -/
def extuResult (a : Word) (lsb w : Nat) : Word := (a >>> lsb) &&& BitVec.ofNat 36 (2 ^ w - 1)

/-- Bits [lsb + w − 1 : lsb] of d replaced by bits [w − 1 : 0] of a (R173). -/
def insResult (d a : Word) (lsb w : Nat) : Word :=
  let m := BitVec.ofNat 36 ((2 ^ w - 1) * 2 ^ lsb)
  (d &&& ~~~m) ||| ((a <<< lsb) &&& m)

/-! ### Packed decimal (R194 to R199) -/

/-- Nibble i of a word. -/
def nibble (a : Word) (i : Nat) : Nat := bits a.toNat (4 * i) 4

/-- Some nibble is A to F. -/
def badDigit (a : Word) : Bool := (List.range 9).any fun i => 10 ≤ nibble a i

/-- The decimal adjust after an addition (R195): digits, final k, and the table's V. -/
def adjAdd (a : Word) (dcv : BitVec 9) : Word × Bool × Bool :=
  let step := fun (acc : Nat × Nat × Bool) (i : Nat) =>
    let x := nibble a i + acc.2.1
    let y := if dcv.getLsbD i || 10 ≤ x then x + 6 else x
    (acc.1 + y % 16 * 2 ^ (4 * i), if 10 ≤ x then 1 else 0, acc.2.2 || (dcv.getLsbD i && 4 ≤ x))
  let r := (List.range 9).foldl step (0, 0, false)
  (w36 r.1, r.2.1 = 1, r.2.2)

/-- The decimal adjust after a subtraction (R196): digits and the table's V. -/
def adjSub (a : Word) (dcv : BitVec 9) : Word × Bool :=
  let step := fun (acc : Nat × Bool) (i : Nat) =>
    let x := nibble a i
    if dcv.getLsbD i then (acc.1 + x * 2 ^ (4 * i), acc.2 || 10 ≤ x)
    else (acc.1 + (x + 10) % 16 * 2 ^ (4 * i), acc.2 || x < 6)
  let r := (List.range 9).foldl step (0, false)
  (w36 r.1, r.2)

/-- A fused decimal addition (R197): result and flags. -/
def decAdd (a b : Word) (cin : Bool) : Word × FlagSet :=
  let s := sum36 a b cin
  let r := adjAdd s.r s.dcv
  (r.1, { z := some (r.1 = 0), n := some false, c := some (s.c || r.2.1), v := some (badDigit a || badDigit b) })

/-- A fused decimal subtraction (R197): result and flags. -/
def decSub (a b : Word) (cin : Bool) : Word × FlagSet :=
  let s := sum36 a (~~~b) cin
  let r := adjSub s.r s.dcv
  (r.1, { z := some (r.1 = 0), n := some false, c := some s.c, v := some (badDigit a || badDigit b) })

/-- Nine packed digits of a number below 10^9 (R198). -/
def packDigits (n : Nat) : Word := w36 ((List.range 9).foldl (fun m i => m + n / 10 ^ i % 10 * 16 ^ i) 0)

/-- The value of nine nibbles (R198). -/
def digitsVal (a : Word) : Nat := (List.range 9).foldl (fun m i => m + nibble a i * 10 ^ i) 0

/-- Packed-decimal operations of opcode 0o013 (R174, R195 to R198). -/
def decResult (op : DecOp) (a b : Word) (c : Bool) (dcv : BitVec 9) : Option Word × FlagSet :=
  let val := fun (p : Word × FlagSet) => (some p.1, p.2)
  match op with
  | .dadd => val (decAdd a b false)
  | .dadc => val (decAdd a b c)
  | .dsub => val (decSub a b true)
  | .dsbc => val (decSub a b c)
  | .dcmp => (none, (decSub a b true).2)
  | .dadj => let r := adjAdd a dcv
      (some r.1, { z := some (r.1 = 0), n := some false, c := some (c || r.2.1), v := some r.2.2 })
  | .dsadj => let r := adjSub a dcv
      (some r.1, { z := some (r.1 = 0), n := some false, c := some (dcv.getLsbD 8), v := some r.2 })
  | .bin2d => let r := packDigits (a.toNat % 10 ^ 9)
      (some r, { z := some (r = 0), n := some false, v := some (10 ^ 9 ≤ a.toNat) })
  | .d2bin => let r := w36 (digitsVal a)
      (some r, { z := some (r = 0), n := some false, v := some (badDigit a) })
  | .dshl => let r := a <<< (4 * (b.toNat % 256))
      (some r, { z := some (r = 0), n := some false })
  | .dshr => let r := a >>> (4 * (b.toNat % 256))
      (some r, { z := some (r = 0), n := some false })
  | .dvalid => (none, { z := some (a = 0), n := some false, v := some (badDigit a) })

/-! ### Conditions (R167) -/

/-- A branch condition holds. -/
def condHolds (x : Thread) (cond : BitVec 4) : Bool :=
  match cond.toNat with
  | 0 => x.z | 1 => !x.z | 2 => x.c | 3 => !x.c | 4 => x.n | 5 => !x.n | 6 => x.v | 7 => !x.v
  | 8 => x.c && !x.z | 9 => !x.c || x.z | 10 => x.n = x.v | 11 => x.n ≠ x.v
  | 12 => !x.z && x.n = x.v | 13 => x.z || x.n ≠ x.v | 14 => true | _ => false

/-- Apply flags with the poison tag of what made them (R162). What tags FL tags DCV too; an untagged instruction clears the tag of
DCV only if it writes DCV (R189). -/
def Thread.flags (x : Thread) (f : FlagSet) (p : Bool) : Thread :=
  let y := { x with z := f.z.getD x.z, n := f.n.getD x.n, c := f.c.getD x.c, v := f.v.getD x.v, dz := f.dz.getD x.dz
                    dcv := f.dcv.getD x.dcv }
  if f.z.isNone && f.c.isNone then y
  else let y := y.setTag (sysTag 1) p
       if p || f.dcv.isSome then y.setTag (sysTag 2) p else y

end Sys2Proof.Machine
end

