-- ==== Sys2Proof/Machine/Graph.lean ====
section
/-! DEFINITION. Dataflow graphs: instances, node readiness, operations, ready lists, atomic flows, aborts, dispositions
and replays (R84 to R115), and the tag records of operations (R439 to R441). -/

namespace Sys2Proof.Machine

open Sys2Proof

/-! ### Graph definitions (R84 to R86) -/

/-- A graph-store word. -/
def State.gword (s : State) (d g w : Nat) : Nat := (sgetD (s.die d).dsp.gstore (g * 264 + w) 0).toNat

/-- Word j of a node's definition, as the store now holds it: should software disable a graph and rewrite it under a live
instance, later deliveries and operations follow the new words, of which the manual says nothing; an operation keeps what its
descriptor was given (log entry 92). -/
def State.node (s : State) (d g n j : Nat) : Nat := s.gword d g (8 + 8 * n + j)

/-- NODES of a graph. -/
def State.nodes (s : State) (d g : Nat) : Nat := min 32 (bits (s.gword d g 0) 0 6)

/-- Node m is named in a SUCC mask of node n under outcome o. -/
def State.succ (s : State) (d g n o m : Nat) : Bool := bit (bits (s.node d g n (3 + o)) 0 32) m

/-- Node m is a successor of node n under some outcome. -/
def State.succAny (s : State) (d g n m : Nat) : Bool := (List.range 4).any fun o => s.succ d g n o m

/-- The predecessors of node m (R89). -/
def State.preds (s : State) (d g m : Nat) : List Nat := (List.range (s.nodes d g)).filter fun n => s.succAny d g n m

/-- A graph is enabled. -/
def State.graphOn (s : State) (d g : Nat) : Bool := bit (s.reg d .dspGraphCtl [g]) 0

/-- A graph that can be instantiated: enabled, with no poisoned word (R91, R357). -/
def State.graphLive (s : State) (d g : Nat) : Bool :=
  s.graphOn d g && !(s.die d).dsp.gsPoison.any fun w => w / 264 = g

/-- The dispatcher reads a graph's words for an instantiation (R357, R358). -/
def State.readGraph (s : State) (d g : Nat) : State :=
  ((s.die d).dmg.filter fun p => p.1 / 2 ^ 28 = 128 && p.1 % 2 ^ 28 / 264 = g).foldl
    (fun s p => s.readUnit d 8 0 (p.1 % 2 ^ 28) true) s

/-- The dispatcher has read the poisoned words of a graph (R357, R372). -/
def State.graphPoisonRead (s : State) (d g : Nat) : State :=
  let n := ((s.die d).dsp.gsPoison.filter fun w => w / 264 = g).length
  if n = 0 then s else s.count d ctrECC 2 n

/-- What R88 refuses in the definition of node n. -/
def State.nodeBad (s : State) (d g nodes n : Nat) : Bool :=
  let w0 := s.node d g n 0
  let p := s.node d g n 2
  let kind := bits w0 0 3
  6 ≤ kind || bits w0 16 2 = 3 || bits (s.node d g n 1) 0 16 = 0 ||
  (kind = 2 && bits p 0 2 = 3) ||
  (kind = 1 && (13 < bits p 13 4 || (bits p 8 1 = 1 && 16 < bits p 9 4 + bits p 6 2 + 1))) ||
  (kind = 4 && bits p 0 2 = 3) ||
  (List.range 32).any fun m => s.succAny d g n m && (m ≤ n || nodes ≤ m)

/-- A graph's definition breaks the checks of R88. -/
def State.graphBad (s : State) (d g : Nat) : Bool :=
  let n := bits (s.gword d g 0) 0 6
  let w := bits (s.gword d g 0) 6 6
  n = 0 || 32 < n || w = 0 || 32 < w || (List.range n).any (s.nodeBad d g n)

/-- A write of DSP.GRAPH_CTL (R88). -/
def State.graphCtlWrite (s : State) (d g v : Nat) : State :=
  if bit v 0 && !s.graphOn d g && s.graphBad d g then s.violation d else s.setReg d .dspGraphCtl [g] (bits v 0 1)

/-- GRAPH_ENABLE: a write that sets DSP.GRAPH_CTL.ENABLE. -/
def execGraphEnable (d g : Nat) (s : State) : Res := onHostS s d (g < 256) fun s => s.graphCtlWrite d g 1

/-! ### Tag records (R439, R440) -/

/-- Append a record to the tag queue; a full queue drops it (R439). -/
def State.tagPush (s : State) (d : Nat) (r : TagRec) : State :=
  if (s.die d).tly.tagQueue.length < 64 then
    (s.modDie d fun x => { x with tly := { x.tly with tagQueue := x.tly.tagQueue ++ [r] } }).count d ctrTLY 5
  else (s.count d ctrTLY 6).event d .tly 3

/-- An offset in ns from a base time: saturating, all ones for a station not reached (R440). -/
def tagOff (base : Nat) : Option Nat → Nat
  | none => 2 ^ 32 - 1
  | some t => min (2 ^ 32 - 2) ((t + 2 ^ 72 - base) % 2 ^ 72)

/-- The record of a tagged operation at its commit or abort (R440). -/
def State.tagOp (s : State) (d slot : Nat) (o : Op) (reason : Nat) : State :=
  if !o.tagged then s
  else
    let off := tagOff o.created
    let w0 := o.head.toNat
    s.tagPush d
      [ slot + o.graph * 2 ^ 14 + o.node * 2 ^ 22 + o.kind * 2 ^ 27 + o.replays * 2 ^ 30 + bits w0 0 24 * 2 ^ 32 + 2 ^ 62,
        o.created % 2 ^ 64,
        (if o.atomic then off o.tOwner else 0) + off o.tReady * 2 ^ 32,
        off o.tStart + off o.tEnd * 2 ^ 32,
        off (some (s.time d)) + bits w0 24 8 * 2 ^ 32 + (match o.thread with | some k => k / 16 | none => 63) * 2 ^ 40
          + (match o.thread with | some k => k % 16 | none => 0) * 2 ^ 46 + reason * 2 ^ 50,
        0 ]

/-- One step of the 32-bit Galois LFSR x^32 + x^22 + x^2 + x + 1 (R439). -/
def tagLfsr (x : BitVec 32) : BitVec 32 :=
  if x.getLsbD 0 then (x >>> 1) ^^^ 0x80200003 else x >>> 1

/-- The dispatcher advances its LFSR at a creation and chooses whether to tag the operation (R439). -/
def State.tagDraw (s : State) (d : Nat) : Bool × State :=
  if !bit (s.reg d .tlyTagCfg []) 0 then (false, s)
  else
    let x := tagLfsr (s.die d).dsp.lfsr
    let s := s.modDsp d fun y => { y with lfsr := x }
    if x.toNat % 65536 < 65536 / (s.fld d .tlyTagCfg [] 1 16 + 1) then (true, s.count d ctrTLY 4) else (false, s)

/-! ### Operations (R98 to R103) -/

/-- Key of an atomic flow (R102). -/
def flowKey (o : Op) : Nat := o.domain * 2 ^ 24 + o.key

/-- Put a CORE operation on the ready list of its group, at the tail or, for a replay, at the head (R101). -/
def State.ready (s : State) (d slot : Nat) (o : Op) (head : Bool) : State :=
  (s.setOp d slot { o with st := .ready, thread := none, tReady := some (s.time d) }).modDsp d fun x =>
    let l := sgetD x.lists o.group []
    { x with lists := sset x.lists o.group (if head then slot :: l else l ++ [slot]) }

/-- An operation past ATOMIC_WAIT: a CORE operation becomes READY, another goes to its engine (R98). -/
def State.launch (s : State) (d slot : Nat) : State :=
  match s.op d slot with
  | none => s
  | some o =>
    let o := { o with tOwner := some (s.time d) }
    if o.kind = 0 then s.ready d slot o false
    else
      let s := s.setOp d slot { o with st := .engine, tReady := some (s.time d) }
      if o.kind = 2 then s.helperPlace d slot else s

/-- The core group of a node (R86, R87): the fingerpost's group with a KIND 0 or 2 entry, group 0 without one. -/
def nodeGroup (w0 : Nat) (fp : Option Dword) : Nat :=
  if bit w0 4 then
    match fp with
    | some e => if bits e.toNat 0 2 = 0 || bits e.toNat 0 2 = 2 then bits e.toNat 2 4 else 0
    | none => 0
  else bits w0 5 4

/-- The atomic key of a node (R86). -/
def nodeKey (w0 : Nat) (words : List Word) : Nat :=
  match bits w0 16 2 with
  | 0 => bits (words.getD 3 0).toNat 0 24
  | 1 => bits (words.getD (28 + bits w0 18 4) 0).toNat 0 24
  | _ => bits (words.getD 0 0).toNat 24 8

/-- A ready node becomes an operation in a slot of its instance's reservation (R94, R98), or owner or waiter of its
atomic flow (R102, R103). -/
def State.createOp (s : State) (d i n : Nat) : State :=
  match s.inst d i with
  | none => s
  | some x =>
    let g := x.graph
    let w0 := s.node d g n 0
    let r := s.pick ((s.die d).dsp.ops.map (·.1)) 16384
    let slot := r.1
    let t := r.2.tagDraw d
    let (order, s) : Nat × State := (t.2.stamps, { t.2 with stamps := t.2.stamps + 1 })
    let now := s.time d
    let o : Op :=
      { inst := i, node := n, kind := bits w0 0 3, st := .atomicWait, group := nodeGroup w0 x.fp, domain := bits w0 10 6
        key := nodeKey w0 x.words, atomic := bit w0 9, created := now, born := s.now, order := order
        deadline := (now + bits (s.node d g n 1) 0 16 * 1000) % 2 ^ 72, tagged := t.1
        graph := g, dlUs := bits (s.node d g n 1) 0 16, timeoutOk := bit w0 22, param := s.node d g n 2, pid := x.pid
        head := x.words.getD 0 0 }
    let s := s.setInst d i { x with created := n :: x.created, ops := x.ops ++ [slot], tagged := x.tagged || t.1 }
    let s := s.setOp d slot o
    if !o.atomic then s.launch d slot
    else
      let q := sgetD (s.die d).dsp.flows (flowKey o) []
      let s := s.modDsp d fun y => { y with flows := sset y.flows (flowKey o) (q ++ [slot]) }
      if q.isEmpty then s.launch d slot else s.count d ctrDSP 5

/-- The instance holds fewer operations than it has reserved slots, and a slot is free: operations in COMMIT of aborted
instances, whose reservations have been returned, may still hold theirs (R94). -/
def State.slotFor (s : State) (d : Nat) (x : Inst) : Bool := x.ops.length < x.width && (s.die d).dsp.ops.length < 16384

/-- A ready node finds a slot of its instance, or is parked (R94). -/
def State.nodeReady (s : State) (d i n : Nat) : State :=
  match s.inst d i with
  | none => s
  | some x => if s.slotFor d x then s.createOp d i n else s.setInst d i { x with parked := x.parked ++ [n] }

/-- Record a node's deliveries: live to SUCC[o], void to its other successors; `none` is a skipped node (R89). -/
def State.deliver (s : State) (d : Nat) (x : Inst) (n : Nat) (o : Option Nat) : Inst :=
  let ms := (List.range (s.nodes d x.graph)).filter fun m => s.succAny d x.graph n m
  { x with
    done := n :: x.done
    inputs := x.inputs ++ ms.map fun m => (n, m, match o with | some o => s.succ d x.graph n o m | none => false) }

/-- Test one node for readiness (R89): all predecessors have delivered; ALL needs every input live, ANY at least one. -/
def State.testNode (s : State) (d i m : Nat) : State :=
  match s.inst d i with
  | none => s
  | some x =>
    if x.aborted || x.dropped || x.done.contains m || x.created.contains m || x.parked.contains m then s
    else
      let ps := s.preds d x.graph m
      let ins := x.inputs.filter fun t => t.2.1 = m
      if ins.length < ps.length then s
      else
        let live := if bit (s.node d x.graph m 0) 3 then ins.any (·.2.2) || ps.isEmpty else ins.all (·.2.2)
        if live then s.nodeReady d i m
        else (s.setInst d i (s.deliver d x m none)).count d ctrDSP 4

/-- Test every node in rising order: successors carry higher numbers, so one pass settles the graph (R88, R89). -/
def State.testNodes (s : State) (d i : Nat) : State :=
  match s.inst d i with
  | none => s
  | some x => (List.range (s.nodes d x.graph)).foldl (fun s m => s.testNode d i m) s

/-! ### The end of instances (R90, R113 to R115) -/

/-- End an instance that has no operation left: a finished one resolves its ticket with its enqueue set, a dropped one frees
its packet (R90, R114). -/
def State.endInst (s : State) (d i : Nat) : State :=
  match s.inst d i with
  | none => s
  | some x =>
    let gone := fun (s : State) => s.modDsp d fun y => { y with insts := sdel y.insts i }
    if !x.ops.isEmpty || x.aborted then s
    else if x.dropped then
      match x.pid with
      | some pid => (gone s).unhold d pid
      | none => gone s
    else if (List.range (s.nodes d x.graph)).all x.done.contains then
      let s := (gone s).count d ctrDSP 15
      match x.pid with
      | some pid => s.resolvePkt d pid x.enqs x.tagged
      | none => s
    else s

/-- Give up an operation's flow: the earliest waiter becomes owner in the same cycle (R103). -/
def State.leaveFlow (s : State) (d slot : Nat) (o : Op) : State :=
  if !o.atomic then s
  else
    let q := sgetD (s.die d).dsp.flows (flowKey o) []
    let rest := q.filter (· ≠ slot)
    let s := s.modDsp d fun y => { y with
      flows := if rest.isEmpty then sdel y.flows (flowKey o) else sset y.flows (flowKey o) rest }
    match q.head?, rest.head? with
    | some h, some n => if h = slot then s.launch d n else s
    | _, _ => s

/-- A thread loses the operation it holds. -/
def State.clearThreadOp (s : State) (d : Nat) (o : Op) (slot : Nat) : State :=
  match o.thread with
  | some k => if (s.thr d k).op = some slot then s.modThr d k fun x => { x with op := none, delivered := false } else s
  | none => s

/-- A parked node of an instance takes a slot (R94). -/
def State.unpark (s : State) (d i : Nat) : State :=
  match s.inst d i with
  | none => s
  | some x => match x.parked with
    | n :: ns => if x.aborted || x.dropped || !s.slotFor d x then s else (s.setInst d i { x with parked := ns }).createOp d i n
    | [] => s

/-- The first instance that has a parked node and could hold another operation. -/
def State.parkedInst (s : State) (d : Nat) : Option Nat :=
  ((s.die d).dsp.insts.find? fun p =>
    !p.2.parked.isEmpty && !p.2.aborted && !p.2.dropped && s.slotFor d p.2).map (·.1)

/-- The cells of a dropped packet whose instance was then aborted are freed with the last of its operations in COMMIT (R114). -/
def State.lastFrees (s : State) (d : Nat) (o : Op) : State :=
  match o.pid with
  | some pid => if o.frees && !(s.die d).dsp.ops.any (fun p => p.2.frees && p.2.pid = some pid) then s.unhold d pid else s
  | none => s

/-- Free an operation's slot: its list, its flow, and the slot go; a parked node of the instance takes the slot, or, where none
was free, one of another instance (R94). -/
def State.freeSlot (s : State) (d slot : Nat) : State :=
  match s.op d slot with
  | none => s
  | some o =>
    let s := s.modDsp d fun y => { y with
      ops := sdel y.ops slot
      lists := if o.kind = 0 then sset y.lists o.group ((sgetD y.lists o.group []).filter (· ≠ slot)) else y.lists }
    let s := match s.inst d o.inst with
      | some x => s.setInst d o.inst { x with ops := x.ops.filter (· ≠ slot) }
      | none => s
    let s := ((s.leaveFlow d slot o).lastFrees d o).unpark d o.inst
    match s.parkedInst d with
    | some i => s.unpark d i
    | none => s

/-- Discard the enqueue set, retire the ticket at once with PROGRAM_DROP, and stop further nodes (R114). -/
def State.programDrop (s : State) (d i : Nat) : State :=
  match s.inst d i with
  | none => s
  | some x =>
    if x.dropped || x.aborted then s
    else
      let s := (s.setInst d i { x with dropped := true, enqs := [], parked := [] })
      match x.pid with
      | none => s
      | some pid => match s.pkt d pid with
        | some k => (s.count d ctrDSP 14).resolveFrom d { port := k.port, ticket := k.ticket, enqs := none
                                                          reason := rPROGRAM, holder := d, pid := pid, tagged := x.tagged }
        | none => s

/-- An operation is done: its counts and tag, its slot, and its outcome to the successors (R89, R98). -/
def State.finishOp (s : State) (d slot : Nat) : State :=
  match s.op d slot with
  | none => s
  | some o =>
    let s := (s.count d ctrDSP 3).tagOp d slot o 0
    let s := match s.inst d o.inst with
      | some x => if x.aborted then s else s.setInst d o.inst (s.deliver d x o.node (some o.outcome))
      | none => s
    ((s.freeSlot d slot).testNodes d o.inst).endInst d o.inst

/-! ### Aborts and dispositions (R110 to R112) -/

/-- An operation is removed without commit: its thread loses it, its helper job is squashed (R111, R226). -/
def State.killOp (s : State) (d slot reason : Nat) : State :=
  match s.op d slot with
  | none => s
  | some o =>
    let s := s.tagOp d slot o reason
    let s := match o.thread with
      | some k => if o.st = OpState.service then (s.clearThreadOp d o slot).squash d k else s
      | none => s
    (s.squashOp d slot).freeSlot d slot

/-- The disposition of an aborted instance (R111, R112), taken on its processing die. -/
def State.dispose (s : State) (d reason : Nat) (x : Inst) : State :=
  match x.pid with
  | none => s
  | some pid =>
    match s.pkt d pid with
    | none => s
    | some k =>
      let h := s.gword d x.graph 0
      let st : Staged := { pid := pid, words := setOutcome (x.words.take 28) 2 rFAULT, target := d, fp := x.fp }
      if reason = rPOISON then s.dropPkt d pid rPOISON x.tagged
      else if x.fallback then s.dropPkt d pid rFAULT x.tagged
      else match bits h 12 2 with
        | 0 => match s.defaultAct d st rFAULT with
          | (s, some st) => s.modDsp d fun y => { y with
              fallbacks := y.fallbacks ++ [{ graph := st.graph, staged := st, marked := false }] }
          | (s, none) => s
        | 1 => s.dropPkt d pid rFAULT x.tagged
        | 2 => s.resolvePkt d pid [hostEnq k.port (bits h 22 6) k.len] x.tagged rFAULT
        | _ => s.modDsp d fun y => { y with
            fallbacks := y.fallbacks ++ [{ graph := bits h 14 8, staged := { st with graph := bits h 14 8 }, marked := true }] }

/-- Keep an abort in DSP.LAST_FAULT; REPLAYED says that it followed two replays (R112). -/
def State.lastFault (s : State) (d node reason : Nat) (replayed : Bool) (x : Inst) : State :=
  s.setReg d .dspLastFault [] (x.graph + node * 256 + reason * 2 ^ 13 + (if replayed then 1 else 0) * 2 ^ 21)

/-- Count, signal and journal an abort, and keep it in DSP.LAST_FAULT (R112, R116, R424). -/
def State.noteAbort (s : State) (d slot node reason : Nat) (replayed : Bool) (x : Inst) : State :=
  let rp := if replayed then 1 else 0
  let w0 := (x.words.getD 0 0).toNat
  let s := (s.lastFault d node reason replayed x).journalBy d 0 reason
    (x.graph + node * 256 + slot * 2 ^ 13 + rp * 2 ^ 27) (bits w0 24 8 + bits w0 0 24 * 256)
  if reason = rPOISON then (s.count d ctrDSP 12).event d .dsp 3
  else if reason = rDEADLINE then (s.count d ctrDSP 11).event d .dsp 2
  else (s.count d ctrDSP 10).event d .dsp 1

/-- An operation in COMMIT, which runs on whatever becomes of its instance (R105, R111). -/
def Op.committing (o : Op) : Bool := o.st = .commit || o.st = .tables

/-- The slots of an instance's operations in the order in which an abort ends them: those that wait for their flow first, so
that none becomes its owner on the way; then in the order of creation (log entry 93). -/
def State.abortOrder (s : State) (d : Nat) (x : Inst) : List Nat :=
  let waits := fun (k : Nat) => match s.op d k with | some o => o.st = .atomicWait | none => false
  x.ops.filter waits ++ x.ops.filter fun k => !waits k

/-- The index of no instance record: operations in COMMIT that have outlived their instance. -/
def noInst : Nat := 16384

/-- The record and the reservation of an aborted instance go (R92, R94); its operations in COMMIT run on by themselves, and
where its packet was dropped the last of them frees the cells (R114). -/
def State.orphan (s : State) (d i : Nat) (x : Inst) (frees : Bool) : State :=
  let left := x.ops.filterMap fun k => (s.op d k).bind fun o => if o.inst = i then some (k, o) else none
  let s := left.foldl (fun s p => s.setOp d p.1 { p.2 with inst := noInst, frees := frees }) s
  let s := s.modDsp d fun y => { y with insts := sdel y.insts i }
  match x.pid with
  | some pid => if frees && left.isEmpty then s.unhold d pid else s
  | none => s

/-- Abort an instance for a cause: the operations not yet in COMMIT are aborted, the enqueue set is discarded, the record and
the reservation go, and the disposition is taken once (R92, R94, R111). A quiet abort is that of an unreachable ingress die: no
disposition, no journal record (R486). -/
def State.abortInst (s : State) (d i slot node reason : Nat) (replayed quiet : Bool) : State :=
  match s.inst d i with
  | none => s
  | some x =>
    let s := if quiet then s.lastFault d node reason replayed x else s.noteAbort d slot node reason replayed x
    let s := s.setInst d i { x with aborted := true, enqs := [], parked := [] }
    let s := (s.abortOrder d x).foldl (fun s k => match s.op d k with
      | some o => if o.committing then s else s.killOp d k reason
      | none => s) s
    let s := s.orphan d i x (x.dropped && !quiet)
    if x.dropped && !quiet then s
    else if quiet then (match x.pid with | some pid => s.unhold d pid | none => s)
    else s.dispose d reason x

/-- Abort an operation, and with it its instance (R111). -/
def State.abortOp (s : State) (d slot reason : Nat) : State :=
  match s.op d slot with
  | some o => s.abortInst d o.inst slot o.node reason (o.replays = 2) false
  | none => s

/-- An operation loses its core to a hardware fault or a stop: replayed at the head of its list, or aborted on its third
failure (R109). -/
def State.replayOp (s : State) (d slot : Nat) : State :=
  match s.op d slot with
  | none => s
  | some o =>
    let s := s.clearThreadOp d o slot
    if o.replays < 2 then
      (s.count d ctrDSP 8).ready d slot
        { o with replays := o.replays + 1, log := [], carry := [], deadline := (s.time d + o.dlUs * 1000) % 2 ^ 72
                 tStart := none, tEnd := none } true
    else ((s.count d ctrDSP 9).event d .dsp 0).abortOp d slot rFAULT

/-! ### Instantiation (R91 to R97, R112) -/

/-- Create an instance and its root operations (R89, R92, R94). -/
def State.createInst (s : State) (d : Nat) (x : Inst) : State :=
  let r := s.pick ((s.die d).dsp.insts.map (·.1)) 16384
  (r.2.setInst d r.1 x).testNodes d r.1

/-- The record of a staged packet: metadata, key, a STATUS of 0x00, result, and zero carry words (R92). -/
def stagedWords (st : Staged) : List Word := (st.words.take 28).set 23 0 ++ List.replicate 20 0

/-- A disabled graph was named (R91): the port's default action with reason FAULT, or a drop. -/
def State.disabledGraph (s : State) (d : Nat) (st : Staged) : State × Option Staged :=
  let s := (s.count d ctrDSP 10).event d .dsp 4
  if st.isDefault then (s.dropPkt d st.pid rFAULT, none)
  else match s.defaultAct d st rFAULT with
    | (s, some st') =>
      if s.graphLive d st'.graph then (s, some st')
      else ((s.count d ctrDSP 10).dropPkt d st.pid rFAULT, none)
    | (s, none) => (s, none)

/-- INSTANTIATE: the dispatcher takes the frame at the head of its queue (R93); a waiting fallback goes first (R112). -/
def State.instantiate (s : State) (d : Nat) : State :=
  match (s.die d).hop.toInst with
  | [] => s
  | st :: rest =>
    let s := s.readGraph d st.graph
    if !(s.die d).dsp.fallbacks.isEmpty then s
    else if !s.graphLive d st.graph then
      match ((s.graphPoisonRead d st.graph).modHop d fun h => { h with toInst := rest }).disabledGraph d st with
      | (s, some st') => s.modHop d fun h => { h with toInst := st' :: h.toInst }
      | (s, none) => s
    else if !s.ingressRoom d st.graph then s
    else
      let s := s.modHop d fun h => { h with toInst := rest }
      (s.count d ctrDSP 0).createInst d
        { graph := st.graph, width := (s.die d).dsp.width st.graph, words := stagedWords st, pid := some st.pid
          ingress := true, fp := st.fp }

/-- INSTANTIATE. -/
def execInstantiate (d : Nat) (s : State) : Res := onDieS s d fun s => s.instantiate d

/-- FALLBACK_INSTANTIATE: a fallback or disposition instance takes its slots, ignoring POOL_CFG.LIMIT (R112). -/
def State.fallbackInst (s : State) (d : Nat) : State :=
  match (s.die d).dsp.fallbacks with
  | [] => s
  | f :: rest =>
    let s := s.readGraph d f.graph
    let pop := fun (s : State) => s.modDsp d fun y => { y with fallbacks := rest }
    if !s.graphLive d f.graph then
      match (pop (s.graphPoisonRead d f.graph)).disabledGraph d f.staged with
      | (s, some st) => s.modDsp d fun y => { y with
          fallbacks := { graph := st.graph, staged := st, marked := false } :: y.fallbacks }
      | (s, none) => s
    else if (s.die d).dsp.width f.graph ≤ (s.die d).dsp.free then
      ((pop s).count d ctrDSP 2).createInst d
        { graph := f.graph, width := (s.die d).dsp.width f.graph, words := stagedWords f.staged
          pid := some f.staged.pid, fallback := f.marked, fp := f.staged.fp }
    else s

/-- FALLBACK_INSTANTIATE. -/
def execFallbackInstantiate (d : Nat) (s : State) : Res := onDieS s d fun s => s.fallbackInst d

/-! ### Delivery (R101, R134) -/

/-- A RUNNER thread that can take an operation (R134). -/
def State.canTake (s : State) (d k : Nat) : Bool :=
  let x := s.thr d k
  x.role = 1 && x.st = .waiting && !x.dbg && x.op.isNone && bit x.waitOn 4 && (s.core d (k / 16)).run = .running &&
    !s.checker d (k / 16)

/-- The lowest-numbered waiting RUNNER thread of a core. -/
def State.taker (s : State) (d c : Nat) : Option Nat := ((List.range 16).map (c * 16 + ·)).find? (s.canTake d)

/-- The core takes part in a group: a pair counts as its even core (R100). -/
def State.inGroup (s : State) (d c g : Nat) : Bool := (s.groupCores d g).contains c && !s.checker d c

/-- The list that a thread visits first: round-robin after the group it last took from (R101). -/
def State.nextList (s : State) (d k : Nat) : Option Nat :=
  let start := sgetD (s.die d).dsp.lastGroup k 15 + 1
  ((List.range 16).map fun j => (start + j) % 16).find? fun g =>
    s.inGroup d (k / 16) g && !(sgetD (s.die d).dsp.lists g []).isEmpty && !s.listHeld d g

/-- Deliver the head of a ready list to the next core in round-robin order that can take it (R101, R134). -/
def State.deliverFrom (s : State) (d g : Nat) : State :=
  match sgetD (s.die d).dsp.lists g [] with
  | [] => s
  | slot :: rest =>
    let start := sgetD (s.die d).dsp.lastCore g 47 + 1
    let c := ((List.range 48).map fun j => (start + j) % 48).find? fun c =>
      match s.taker d c with
      | some k => s.nextList d k = some g
      | none => false
    match c, s.op d slot with
    | some c, some o =>
      match s.taker d c with
      | none => s
      | some k =>
        let s := s.setOp d slot { o with st := .service, thread := some k, tStart := some (s.time d) }
        let s := s.modDsp d fun y => { y with
          lists := sset y.lists g rest, lastGroup := sset y.lastGroup k g, lastCore := sset y.lastCore g c }
        (s.modThr d k fun x => { x with op := some slot, delivered := true }).countCore d c 2
    | _, _ => s

/-- DISPATCH_DELIVERY. -/
def execDispatchDelivery (d g : Nat) (s : State) : Res := onPort s d 0 (g < 16) fun s => s.deliverFrom d g

end Sys2Proof.Machine
end

