-- ==== Sys2Proof/Machine/Faults.lean ====
section
/-! DEFINITION. Faults, core stops and restarts, and deadlock (R135 to R149). -/

namespace Sys2Proof.Machine

open Sys2Proof

/-- Fault codes of R139. -/
def fILLEGAL : Nat := 0x01
def fRPT : Nat := 0x02
def fOVERFLOW : Nat := 0x03
def fDEADLOCK : Nat := 0x04
def fDEADLINE : Nat := 0x05
def fPOISON : Nat := 0x06
def fDIVZERO : Nat := 0x07
def fENQUEUE : Nat := 0x08
def fPARITY : Nat := 0x10
def fLOCKSTEP : Nat := 0x11
def fSTUCK : Nat := 0x12

/-- The threads of a core, lowest first. -/
def coreThreads (c : Nat) : List Nat := (List.range 16).map (c * 16 + ·)

/-- The core has a SUPERVISOR thread. -/
def State.hasSup (s : State) (d c : Nat) : Bool := (coreThreads c).any fun k => (s.thr d k).role = 3

/-- Whether a thread may take a core's messages of a channel: in compatibility mode the notices of channel 31 are the lowest
SUPERVISOR's (R142). -/
def State.mayTake (s : State) (d k n : Nat) : Bool :=
  n ≠ 31 || !s.compat d (k / 16) || (coreThreads (k / 16)).find? (fun j => (s.thr d j).role = 3) = some k

/-- Record a fault of a thread in CLU.CORE_STAT and CORE_FAULT, and journal it (R139, R423, R424). -/
def State.noteFault (s : State) (d c thr pc code : Nat) (op : Option Nat) : State :=
  let s := s.modCore d c fun x => { x with
    code := code, faultThread := thr, faultPc := pc, slot := op.getD 0, heldOp := op.isSome }
  s.journalBy d 2 code (c + thr * 64 + pc * 1024)

/-- The core's state follows its debug-stopped threads: DEBUG while there is one, else RUNNING (R146). -/
def State.debugState (s : State) (d c : Nat) : State :=
  if (s.core d c).run = .running || (s.core d c).run = .debug then
    let r := if (coreThreads c).any fun k => (s.thr d k).dbg then CoreRun.debug else CoreRun.running
    s.modCore d c fun y => { y with run := r, deadSince := none }
  else s

/-- Change a core, and the checker that runs with it when it leads a pair (R148). -/
def State.modPair (s : State) (d c : Nat) (f : Core → Core) : State :=
  let s := s.modCore d c f
  if s.leader d c then s.modCore d (c + 1) f else s

/-- A core enters STOPPED (R141, R145): its threads' operations in SERVICE are given to `each` in rising thread number, cluster
channels reserved to its threads are released, its jobs squashed and its pending requests dropped. The checker of a pair stops
with its leader (R148). Operations replayed so each go to the head of their list, the highest thread's first in the end: the
manual does not order them (log entry 99). -/
def State.stopCore (s : State) (d c : Nat) (hw : Bool) (each : State → Nat → State) : State :=
  let s := s.modPair d c fun x => { x with run := .stopped, lastHw := hw, deadSince := none }
  let s := (coreThreads c).foldl (fun s k =>
    let s := (s.discardOpen d k true).squash d k
    let s := match (s.thr d k).op with
      | some slot => each s slot
      | none => s
    s.modThr d k fun x => { x with
      op := none, delivered := false, req := none, dbg := false, stepping := false
      st := if x.st = .blocked || x.st = .waiting then .issuing else x.st }) s
  let s := s.coreEvent d c 0
  (if s.leader d c then s.coreEvent d (c + 1) 0 else s).forceStop d c

/-- A core restarts: it enters RESTARTING and its channels are emptied (R146). -/
def State.restartCore (s : State) (d c : Nat) : State :=
  let s := s.modDie d fun y => { y with chans := y.chans.filter fun p => p.1 / 32 ≠ c || 1536 ≤ p.1 }
  let s := (coreThreads c).foldl (fun s k => (s.discardOpen d k).modThr d k fun x => { x with openCh := none }) s
  s.modPair d c fun x => { x with run := .restarting, notices := [] }

/-- A program fault at an instruction (R141 to R143): in native mode, on a core without a SUPERVISOR, of the SUPERVISOR
itself, the core stops and its operations are aborted; in compatibility mode the thread becomes FAULTED and a notice of
four words is queued for channel 31. -/
def State.progFault (s : State) (d k code : Nat) : State :=
  let c := k / 16
  let x := s.thr d k
  let reason := if code = fPOISON then rPOISON else if code = fDEADLINE then rDEADLINE else rFAULT
  let s := (s.noteFault d c (k % 16) x.pc code x.op).countCore d c 5
  if s.compat d c && x.role ≠ 3 && s.hasSup d c then
    let s := (s.modThr d k fun x => { x with st := .faulted, req := none, dbg := false, stepping := false }).debugState d c
    let s := s.modCore d c fun y => { y with notices := y.notices ++
      [[ w36 (code + k % 16 * 256 + (match x.op with | some i => 2 ^ 12 + i * 2 ^ 13 | none => 0)), w36 x.pc, x.cnt,
         w36 (s.time d) ]] }
    match x.op with
    | some slot =>
      if code = fPOISON || code = fDEADLINE then s.abortOp d slot reason else s
    | none => s
  else
    s.stopCore d c false fun s slot => s.abortOp d slot (if x.op = some slot then reason else rFAULT)

/-- A hardware fault at a thread, found by core c or, for LOCKSTEP, by both cores of its pair: each records it; the core and its
checker stop, their operations are replayed, and AUTO_RESTART may restart them (R141, R147, R148). -/
def State.hwStop (s : State) (d k code : Nat) (by_ : List Nat) : State :=
  let c := k / 16
  let x := s.thr d k
  let prev := (s.core d c).lastHwAt
  let now := s.now
  let s := by_.foldl (fun s c => (s.noteFault d c (k % 16) x.pc code x.op).countCore d c 6) s
  let s := s.stopCore d c true fun s slot => s.replayOp d slot
  let s := s.modPair d c fun y => { y with hwStops := min 255 (y.hwStops + 1), lastHwAt := some now }
  let auto := match prev with
    | none => true
    | some t => decide (t + 1000000000 ≤ now)
  if bit (s.coreCfg d c) 2 && auto then (s.restartCore d c).coreEvent d c 3 else s

/-- A hardware fault of the core of a thread. -/
def State.hwFault (s : State) (d k code : Nat) : State := s.hwStop d k code [k / 16]

/-- A core that a fault can strike: its threads issue (R146). -/
def State.coreLive (s : State) (d c : Nat) : Bool :=
  ((s.core d c).run = .running || (s.core d c).run = .debug) && !s.checker d c

/-- A thread operand within its die and core (R2, R13). -/
def tidOk (t : Tid) (s : State) : Bool := s.has t.die && t.core < 48 && t.thr < 16

/-- A command that names a thread. -/
def onThread (s : State) (t : Tid) (f : State → State) : Res := if tidOk t s then cmd s f else .fault .absent

/-- HARDWARE_FAULT: PARITY or STUCK on a core, at a thread (R139 to R141). A fault of either core of a pair stops both, and the
faulting core records it (R148). -/
def execHardwareFault (t : Tid) (stuck : Bool) (s : State) : Res :=
  onThread s t fun s =>
    let k := if s.checker t.die t.core then (t.core - 1) * 16 + t.thr else (tkey t)
    if s.coreLive t.die (k / 16) then s.hwStop t.die k (if stuck then fSTUCK else fPARITY) [t.core] else s

/-- The hardware fault LOCKSTEP of both cores of a pair (R148). -/
def State.lockstepFault (s : State) (d k : Nat) : State := s.hwStop d k fLOCKSTEP [k / 16, k / 16 + 1]

/-- LOCKSTEP_MISMATCH: a pair's outputs differ (R148). -/
def execLockstepMismatch (t : Tid) (s : State) : Res :=
  onThread s t fun s =>
    if s.leader t.die t.core && s.coreLive t.die t.core then s.lockstepFault t.die (tkey t) else s

/-- FAULT_NOTICE_DELIVER: the oldest notice of a core enters channel 31 once it has room (R142). -/
def execFaultNoticeDeliver (d c : Nat) (s : State) : Res :=
  onPort s d 0 (c < 48) fun s =>
    match (s.core d c).notices with
    | [] => s
    | n :: rest =>
      let ck := chanKey c 31
      let x := s.chan d ck
      if x.places < 4 && s.coreLive d c then
        ((s.setChan d ck { x with msgs := x.msgs ++ [{ at_ := s.now, words := n.map fun w => (w, false) }] }).modCore d c fun y =>
          { y with notices := rest }).coreEvent d c 1
      else s

/-! ### Waiting and sources (R133) -/

/-- The sources of a WAIT word that hold for a thread now, each at its own bit (R133). DISPATCH is ignored while the thread
holds an operation it has already been told of. -/
def State.sources (s : State) (d k src : Nat) : Nat :=
  let x := s.thr d k
  let ready := (List.range 40).any fun n => x.inSet n && (s.oldestMsg d (chanKey (k / 16) n)).isSome
  let h := s.helper d (k / 64 * 3 + bits src 15 2)
  (if bit src 0 && ready then 1 else 0) + (if bit src 1 && x.timerLatch then 2 else 0) +
  (if bit src 2 && x.msLatch then 4 else 0) +
  (if bit src 3 && (maskList (bits src 7 8) 8).any fun i => !x.busy.contains i then 8 else 0) +
  (if bit src 4 && x.delivered then 16 else 0) + (if bit src 5 && x.dbgLatch then 32 else 0) +
  (if bit src 6 && h.free then 64 else 0)

/-- A source word that is illegal: a reserved bit, or LOCK_HLP = 3 (R133, R180). -/
def srcBad (src : Nat) : Bool := 2 ^ 17 ≤ src || bits src 15 2 = 3

/-- A WAIT reports its sources: the destination receives them, the reported latches clear, and PC passes (R133). A
destination of 64 and above marks a result that a tagged source word tags (R162). -/
def Thread.report (x : Thread) (dst set : Nat) : Thread :=
  let y := x.put (dst % 32) (w36 set) (64 ≤ dst)
  { y with st := .issuing, waitOn := 0, pc := (x.pc + 1) % 65536
           timerLatch := x.timerLatch && !bit set 1, msLatch := x.msLatch && !bit set 2
           delivered := x.delivered && !bit set 4, dbgLatch := x.dbgLatch && !bit set 5 }

/-- A thread's slots are running: its core issues, and the debugger does not hold it (R118, R146, R151). -/
def State.slotOn (s : State) (d k : Nat) : Bool :=
  let x := s.thr d k
  s.coreLive d (k / 16) && x.role ≠ 0 && (!x.dbg || (x.stepping && x.steps ≠ 0))

/-- The deadlock conditions of a thread's core and cluster fail while one of its threads goes on: the counts restart (R136,
R137). -/
def State.stir (s : State) (d k : Nat) : State :=
  let s := if (s.core d (k / 16)).deadSince.isSome then s.modCore d (k / 16) fun y => { y with deadSince := none } else s
  if (sget (s.die d).clusterSince (k / 64)).isSome then
    s.modDie d fun y => { y with clusterSince := sdel y.clusterSince (k / 64) }
  else s

/-- WAIT_WAKE: a waiting thread finds a named source holding at its slot (R133). -/
def execWaitWake (t : Tid) (s : State) : Res :=
  onThread s t fun s =>
    let d := t.die
    let k := tkey t
    let x := s.thr d k
    let set := s.sources d k x.waitOn
    if s.slotOn d k && s.slotFree d k && x.st = .waiting && x.req.isNone && set ≠ 0 then
      ((s.sampleNext d k).stir d k).setThr d k { (x.report x.waitDst set).useSlot (s.slotCycle d k) 1 with steps := x.steps - 1 }
    else s

/-- LOCAL_TIMER_EXPIRE: a thread's timer has reached 0 and sets its latch (R133). The round that takes it to 0 makes it due, and
the next one sets the latch if this event has not (log entry 100). -/
def execLocalTimerExpire (t : Tid) (s : State) : Res :=
  onThread s t fun s =>
    let x := s.thr t.die (tkey t)
    if x.timerDue then s.setThr t.die (tkey t) { x with timerDue := false, timerLatch := true } else s

/-! ### Deadlock (R135 to R138) -/

/-- A thread takes part in the deadlock test (R135). -/
def Thread.takesPart (x : Thread) : Bool := x.role ≠ 0 && x.st ≠ .parked && x.st ≠ .faulted

/-- A thread waits only on channels; `core` limits it to core channels (R135, R136). -/
def State.onlyChannels (s : State) (d k : Nat) (core : Bool) : Bool :=
  let x := s.thr d k
  !x.dbg && ((x.st = .blocked && (!core || x.waitOn < 32)) ||
    (x.st = .waiting && x.req.isNone && bits x.waitOn 0 7 = 1 &&
      (!core || (List.range 8).all fun n => !x.inSet (32 + n))))

/-- A blocked or waiting thread's condition is met. -/
def State.condMet (s : State) (d k : Nat) : Bool :=
  let x := s.thr d k
  if x.st = .waiting then s.sources d k x.waitOn ≠ 0
  else
    let ch := s.chan d (chanKey (k / 16) x.waitOn)
    if x.waitDst = 99 then !ch.blocks k else !ch.msgs.isEmpty && s.mayTake d k x.waitOn

/-- A message of a cluster channel of a cluster is still on its way (R132, R137). -/
def State.inTransit (s : State) (d cl : Nat) : Bool :=
  (List.range 8).any fun n =>
    let key := 1536 + cl * 8 + n
    (s.chan d key).msgs.any fun m => !s.msgReady d key m

/-- A thread's local timer is counting, or its end is not yet latched (R133, R136). -/
def Thread.timing (x : Thread) : Bool := x.timer ≠ 0 || x.timerDue

/-- The condition of R136 holds on a core: every thread that takes part waits only on core channels, none is met, and no
timer counts. A core without such a thread is not deadlocked, nor is a checker, whose threads do not count (R148). -/
def State.coreDead (s : State) (d c : Nat) : Bool :=
  let ts := (coreThreads c).filter fun k => (s.thr d k).takesPart
  (s.core d c).run = .running && !ts.isEmpty && !s.checker d c &&
    ts.all (fun k => s.onlyChannels d k true && !s.condMet d k) && (coreThreads c).all fun k => !(s.thr d k).timing

/-- The condition of R137 holds on a cluster. A word in transit is part of a message that a receiver finds, or of one that is open
to a thread that issues; the threads of checkers do not count (R148). -/
def State.clusterDead (s : State) (d cl : Nat) : Bool :=
  let cs := (List.range 4).map (cl * 4 + ·)
  let all := (cs.filter fun c => !s.checker d c).flatMap coreThreads
  let ts := all.filter fun k => (s.thr d k).takesPart
  cs.all (fun c => (s.core d c).run = .running) && !ts.isEmpty &&
    ts.all (fun k => s.onlyChannels d k false && !s.condMet d k) &&
    ts.any (fun k => !s.onlyChannels d k true) && all.all (fun k => !(s.thr d k).timing) && !s.inTransit d cl

/-- DEADLOCK_GRACE of a core in rounds, held between 16 and 1,048,576. -/
def State.grace (s : State) (d c : Nat) : Nat := min 1048576 (max 16 (bits (s.coreCfg d c) 4 21))

/-- Raise DEADLOCK on a core: the lowest thread that takes part is named, and the core stops in both modes (R138, R143). -/
def State.deadlock (s : State) (d c : Nat) : State :=
  let x := (coreThreads c).find? fun k => (s.thr d k).takesPart
  let s := match x with
    | some k => s.noteFault d c (k % 16) (s.thr d k).pc fDEADLOCK (s.thr d k).op
    | none => s.noteFault d c 0 0 fDEADLOCK none
  (((s.countCore d c 5).stopCore d c false fun s slot => s.abortOp d slot rFAULT).coreEvent d c 2)

/-- CORE_DEADLOCK: the core's count of rounds has reached DEADLOCK_GRACE (R136). -/
def execCoreDeadlock (d c : Nat) (s : State) : Res :=
  onPort s d 0 (c < 48) fun s =>
    match (s.core d c).deadSince with
    | some t => if s.coreDead d c && s.grace d c ≤ s.roundsFrom d t s.now then s.deadlock d c else s
    | none => s

/-- CLUSTER_DEADLOCK: the cluster's count has reached the largest grace of its cores (R137). -/
def execClusterDeadlock (d cl : Nat) (s : State) : Res :=
  onPort s d 0 (cl < 12) fun s =>
    let cs := (List.range 4).map (cl * 4 + ·)
    let g := cs.foldl (fun m c => max m (s.grace d c)) 0
    match sget (s.die d).clusterSince cl with
    | some t => if s.clusterDead d cl && g ≤ s.roundsFrom d t s.now then cs.foldl (fun s c => s.deadlock d c) s else s
    | none => s

/-! ### Deadlines (R104, R105) -/

/-- A firing marks, or is due to mark, an operation's MILESTONE_WAIT: it wins over a deadline of the same fabric cycle (R290). -/
def State.waitFired (s : State) (d slot : Nat) (o : Op) : Bool :=
  let m := (s.die d).mls
  m.waits.contains (slot + 16384 * o.order) ||
    (o.kind = 3 && o.st = .engine && o.born ≠ s.now && m.due.any fun f =>
      f.ms = bits o.param 0 10 && bits ((sgetD m.ms f.ms []).getD 0 0).toNat 8 3 = 2)

/-- DEADLINE_MISS: the check finds an operation past its deadline (R105): in SERVICE a program fault, or an abort with FAULT when
its thread stands FAULTED in compatibility mode (R110); a MILESTONE_WAIT with TIMEOUT_OK completes with outcome 1; any other
before COMMIT is aborted. -/
def State.deadlineMiss (s : State) (d slot : Nat) : State :=
  match s.op d slot with
  | none => s
  | some o =>
    if !reached (s.time d) o.deadline || o.st = .commit || o.st = .tables || s.waitFired d slot o then s
    else if o.st = .service then
      match o.thread with
      | some k => if (s.thr d k).st = .faulted then s.abortOp d slot rFAULT else s.progFault d k fDEADLINE
      | none => s.abortOp d slot rDEADLINE
    else
      if o.kind = 3 && o.timeoutOk then
        s.setOp d slot { o with st := .commit, outcome := 1, tEnd := some (s.time d) }
      else s.abortOp d slot rDEADLINE

/-- DEADLINE_MISS. -/
def execDeadlineMiss (d slot : Nat) (s : State) : Res := onPort s d 0 (slot < 16384) fun s => s.deadlineMiss d slot

/-! ### Restart (R146, R147) -/

/-- Helper work of a core's threads is unfinished. -/
def State.helperBusy (s : State) (d c : Nat) : Bool :=
  (List.range 3).any fun n => (s.helper d (c / 4 * 3 + n)).jobs.any fun j =>
    match j.who with
    | .thread k => k / 16 = c
    | .op _ => false

/-- A thread-map entry of a core's thread (R124). -/
def State.mapWord (s : State) (d k w : Nat) : Nat := s.reg d .cluThreadMap [k / 64, k / 16 % 4, k % 16 * 2 + w]

/-- Apply the thread map to a core (R123, R126). -/
def State.applyMaps (s : State) (d c : Nat) : State :=
  (coreThreads c).foldl (fun s k => s.setThr d k (applyMap (s.mapWord d k 0) (s.mapWord d k 1) { s.thr d k with busy := [] })) s

/-- A checker takes its threads' state from its leader (R149). -/
def State.copyLeader (s : State) (d c : Nat) : State :=
  (coreThreads c).foldl (fun s k => s.setThr d (k + 16) (s.thr d k)) s

/-- CORE_RESTART_DONE: a RESTARTING core becomes RUNNING once its threads' helper work has finished (R146). -/
def execCoreRestartDone (d c : Nat) (s : State) : Res :=
  onPort s d 0 (c < 48) fun s =>
    if (s.core d c).run = .restarting && !s.helperBusy d c && !s.checker d c then
      let s := (s.applyMaps d c).modPair d c fun x => { x with run := .running, deadSince := none }
      if s.leader d c then s.copyLeader d c else s
    else s

end Sys2Proof.Machine
end

