-- ==== Sys2Proof/Machine/Operands.lean ====
section
/-! DEFINITION. The operands of core instructions and the spaces that they address (R154 to R162): the effects an instruction
can have on its thread, the cluster store and its banks, the packet window, the operation window, the flow contexts and
the answer memory, with the commit log laid over them (R106). -/

namespace Sys2Proof.Machine

open Sys2Proof

/-- What an instruction comes to: it is done and PC passes to the next word or to a target; it holds its thread, with PC
unchanged; or it is a program fault without effect. -/
inductive Eff where
  | done (s : State) (pc : Option Nat)
  | hold (s : State)
  | trap (code : Nat)

/-- Done, with the thread's new registers. -/
def State.doneThr (s : State) (d k : Nat) (x : Thread) : Eff := .done (s.setThr d k x) none

/-- The value of a register field. -/
def Thread.val (x : Thread) (r : BitVec 5) : Word := x.get r.toNat

/-- The tag of a register field. -/
def Thread.tag (x : Thread) (r : BitVec 5) : Bool := x.tagged r.toNat

/-- An address: the 36-bit sum of a register and a sign-extended displacement (R158). -/
def Thread.addr (x : Thread) (a : BitVec 5) (disp : BitVec 15) : Nat := (x.val a + disp.signExtend 36).toNat

/-! ### Cluster store (R121, R122, R127, R157) -/

/-- A word of the cluster store lies in the thread's region (R124, R127). -/
def Thread.region (x : Thread) (a : Nat) : Bool := x.rbase ≤ a && a ≤ x.rlast

/-- A load of a cluster-store word by a thread: outside the region a violation that reads zero (R127, R158). -/
def State.csLoad (s : State) (d k a : Nat) : State × Word × Bool :=
  if (s.thr d k).region a then
    let cl := k / 64
    let s := s.readUnit d 2 cl a true
    (s, s.csRead d cl a)
  else ((s.violation d).countCore d (k / 16) 7, 0, false)

/-- A store of a cluster-store word by a thread: outside the region a violation that does nothing. -/
def State.csStore (s : State) (d k a : Nat) (v : Word) (p : Bool) : State :=
  if (s.thr d k).region a then s.csWrite d (k / 64) a v p else (s.violation d).countCore d (k / 16) 7

/-- Key of the bank that serves a word of a thread's cluster (R121). -/
def bankKey (k a : Nat) : Nat := k / 64 * 16 + a % 16

/-- Another thread of the cluster waits for a bank. -/
def State.bankWanted (s : State) (d k b : Nat) : Bool :=
  (s.die d).threads.any fun p => p.1 / 64 = k / 64 && p.1 ≠ k && p.2.req = some (.bank b)

/-- A thread has its bank in this fabric cycle: no other thread was granted it, or waits for it (R121). -/
def State.bankOpen (s : State) (d k b : Nat) : Bool :=
  match sget (s.die d).banks b with
  | some (t, k', _) => t ≠ s.now || k' = k
  | none => true

/-- Grant a bank in this fabric cycle. -/
def State.bankTake (s : State) (d k b : Nat) : State :=
  s.modDie d fun y => { y with banks := sset y.banks b (s.now, k, k / 16 % 4) }

/-- Run an access on words of the cluster store: it needs each word's bank, and waits at the first one that it lacks. -/
def State.withBanks (s : State) (d k : Nat) (as : List Nat) (f : State → Eff) : Eff :=
  let bs := (as.filter (s.thr d k).region).map (bankKey k)
  match bs.find? fun b => !s.bankOpen d k b || (s.bankWanted d k b && (s.thr d k).req ≠ some (.bank b)) with
  | some b =>
    let t := s.stamp
    let x := t.2.thr d k
    let x := if x.req.isSome then { x with req := some (.bank b) }
      else { x with req := some (.bank b), stamp := t.1, since := s.now }
    .hold (t.2.setThr d k { x with st := .waiting, waitOn := 0 })
  | none => f (bs.foldl (fun s b => s.bankTake d k b) s)

/-! ### The operation of a thread (R99, R106, R160) -/

/-- The operation that a thread holds: slot, operation, instance. -/
def State.held (s : State) (d k : Nat) : Option (Nat × Op × Inst) :=
  match (s.thr d k).op with
  | none => none
  | some slot => match s.op d slot with
    | none => none
    | some o => match s.inst d o.inst with
      | none => none
      | some i => some (slot, o, i)

/-- The operation descriptor that the dispatcher wrote (R99): word j. -/
def State.descWord (s : State) (d slot : Nat) (o : Op) (i : Inst) (j : Nat) : Word :=
  let b := fun (c : Bool) (n : Nat) => if c then 2 ^ n else 0
  let m0 := (i.words.getD 0 0).toNat
  let k := i.pid.bind (s.pkt d)
  let p := o.param
  w36 (match j with
    | 0 => slot + o.graph * 2 ^ 14 + o.node * 2 ^ 22 + o.kind * 2 ^ 27 + o.replays * 2 ^ 30
    | 1 => (if i.pid.isSome then bits m0 0 24 else 0) + bits m0 24 8 * 2 ^ 24 + b i.spawned 32 + b i.pid.isNone 33
        + b i.fallback 34
    | 2 => o.inst + o.domain * 2 ^ 14 + b o.atomic 20
    | 3 => o.key
    | 4 => bits p 0 16 + o.group * 2 ^ 16
    | 5 => o.dlUs
    | 6 => o.deadline / 2 ^ 36
    | 7 => o.deadline
    | 8 => o.created / 2 ^ 36
    | 9 => o.created
    | 10 => p
    | 11 => match k with | some k => k.cells.headD 0 | none => 0
    | 12 => match k with | some k => k.len | none => 0
    | 13 => ((i.inputs.filter fun t => t.2.1 = o.node && t.2.2).map (·.1)).eraseDups.foldl (fun m n => m + 2 ^ n) 0
    | 14 => i.arg.toNat
    | 15 => if o.tagged then 1 else 0
    | _ => 0)

/-- A word of the operation window with its poison: the descriptor, then the instance record with the carry buffer over
its carry words (R92, R160). -/
def State.opWord (s : State) (d slot : Nat) (o : Op) (i : Inst) (j : Nat) : Word × Bool :=
  if j < 16 then (s.descWord d slot o i j, false)
  else
    let r := j - 16
    match if 28 ≤ r && r < 44 then sget o.carry (r - 28) else none with
    | some v => (v, false)
    | none => (i.words.getD r 0, i.poison.contains r)

/-- Enter a write in an operation's commit log of 64 entries; none is the 65th (R106). -/
def State.logEntry (s : State) (d slot : Nat) (o : Op) (e : LogEntry) : Option State :=
  if o.log.length < 64 then some (s.setOp d slot { o with log := o.log ++ [e] }) else none

/-- A silent violation of a thread's access (R158). -/
def State.thrViol (s : State) (d : Nat) : State := s.violation d

/-- A logged store (R158, R162): a violation without an operation or where it is not allowed, POISON for tagged data, and
COMMIT_OVERFLOW at the 65th entry. `then'` makes what else the instruction does. -/
def State.logged (s : State) (d k : Nat) (allowed : Op → Inst → Bool) (tagged : Bool) (e : LogEntry)
    (then' : State → State) : Eff :=
  match s.held d k with
  | none => .done (then' (s.thrViol d)) none
  | some (slot, o, i) =>
    if !allowed o i then .done (then' (s.thrViol d)) none
    else if tagged then .trap fPOISON
    else match s.logEntry d slot o e with
      | some s => .done (then' s) none
      | none => .trap fOVERFLOW

/-! ### Packet window (R106, R159) -/

/-- The packet of a thread's operation. -/
def State.heldPkt (s : State) (d k : Nat) : Option Packet :=
  match s.held d k with
  | some (_, _, i) => i.pid.bind (s.pkt d)
  | none => none

/-- Bytes of a packet window. -/
def Packet.window (p : Packet) : Nat := 128 * p.cells.length

/-- A byte of the commit log over a packet: the latest store to it. -/
def logByte (log : List LogEntry) (i : Nat) : Option Byte :=
  log.foldl (fun r e => match e with
    | .packet off bs => if off ≤ i && i < off + bs.length then bs[i - off]? else r
    | _ => r) none

/-- A read of the lanes that hold bytes of a packet (R357). -/
def State.readLanes (s : State) (d : Nat) (p : Packet) (off n : Nat) : State :=
  (List.range (n / 8 + 2)).foldl (fun s j =>
    let i := off / 8 * 8 + 8 * j
    if i < off + n then
      match p.cells[i / 128]? with
      | some c => s.readUnit d 1 0 (c * 16 + i % 128 / 8) true
      | none => s
    else s) s

/-- A packet load of n bytes, big-endian, with the operation's own stores over the buffer; a byte outside the window makes
the access a violation that reads zero (R106, R158, R159, R162). -/
def State.pktLoad (s : State) (d k off n : Nat) : State × Word × Bool :=
  match s.heldPkt d k, s.held d k with
  | some p, some (_, o, _) =>
    if off + n ≤ p.window then
      let s := s.readLanes d p off n
      let h := (s.die d).hop
      let bs := (List.range n).map fun i => (logByte o.log (off + i)).getD (h.pktByte p (off + i))
      let bad := (List.range n).any fun i => (logByte o.log (off + i)).isNone &&
        (match p.cells[(off + i) / 128]? with | some c => h.poison.contains c | none => false)
      (if bad then s.count d ctrECC 2 else s, w36 (beNat bs), bad)
    else (s.thrViol d, 0, false)
  | _, _ => (s.thrViol d, 0, false)

/-! ### Flow contexts (R260 to R262) -/

/-- A context word with its poison, with the operation's own logged value over it (R261). -/
def State.ctxLoad (s : State) (d k w : Nat) : State × Word × Bool :=
  let logged := match s.held d k with
    | some (_, o, _) => o.log.foldl (fun r (e : LogEntry) => match e with
        | .context i v => if i = w then some v else r
        | _ => r) none
    | none => none
  let s := s.count d ctrFLC 0
  match logged with
  | some v => (s, v, false)
  | none =>
    let s := s.readUnit d 4 0 w true
    let p := (s.die d).ctxPoison.contains w
    (if p then s.count d ctrFLC 3 else s, sgetD (s.die d).ctx w 0, p)

/-- Write a context word, clearing its poison (R262, R263). -/
def State.ctxStore (s : State) (d w : Nat) (v : Word) : State :=
  s.modDie d fun y => ({ y with ctx := sset y.ctx w v, ctxPoison := unmark y.ctxPoison w }).freshUnit 4 0 w

/-! ### Answer memory (R161, R395) -/

/-- The back copy of an answer word, with the operation's own logged value over it (R106). -/
def State.ansLoad (s : State) (d k w : Nat) : Dword :=
  let logged := match s.held d k with
    | some (_, o, _) => o.log.foldl (fun r (e : LogEntry) => match e with
        | .answer i v => if i = w then some v else r
        | _ => r) none
    | none => none
  logged.getD (sgetD s.ans.back w 0)

/-! ### System registers (R156) -/

/-- The value and tag that MFS reads; TIME_HI latches TIME_LO. -/
def State.sysRead (s : State) (d k n : Nat) : Word × Bool × Thread :=
  let x := s.thr d k
  let v := match n with
    | 0 => x.cnt
    | 1 => w36 x.fl
    | 2 => x.dcv.zeroExtend 36
    | 3 => x.tst
    | 4 => w36 x.rbase
    | 5 => w36 x.rlast
    | 6 => x.timer
    | 7 => x.rsetLo
    | 8 => w36 x.rsetHi
    | 9 => w36 x.sb
    | 10 => w36 x.crcPoly
    | 11 => w36 x.crcW
    | 12 => w36 (k % 16 + k / 16 % 4 * 16 + k / 64 * 64 + d * 1024)
    | 13 => w36 (s.time d / 2 ^ 36)
    | 14 => x.timeLo
    | 15 => w36 (match s.heldPkt d k with | some p => p.cells.length | none => 0)
    | _ => 0
  (v, x.tags.contains (sysTag n), if n = 13 then { x with timeLo := w36 (s.time d) } else x)

/-! ### CRC (R185) -/

/-- One bit of a CRC that is not reflected. -/
def crcBitMsb (w poly reg : Nat) (b : Bool) : Nat :=
  let fb := bit reg (w - 1) != b
  let r := reg * 2 % 2 ^ w
  if fb then r ^^^ poly else r

/-- One byte of a CRC kind: the kind's width, polynomial and bit order (R185). -/
def crcKind (x : Thread) (n reg : Nat) (b : Byte) : Nat :=
  match n with
  | 0 => crcByte 0x82F63B78 (reg % 2 ^ 32) b
  | 1 => crcByte 0x8408 (reg % 2 ^ 16) b
  | 2 => crcByte 0xEDB88320 (reg % 2 ^ 32) b
  | _ =>
    let w := if x.crcW = 0 || 32 < x.crcW then 32 else x.crcW
    (List.range 8).foldl (fun r i => crcBitMsb w (x.crcPoly % 2 ^ w) r (bit b.toNat (7 - i))) (reg % 2 ^ w)

/-- The tag of the sources of a CRC kind besides wd and the bytes: CRCPOLY and CRCW for the programmable kind. -/
def crcSysTag (x : Thread) (n : Nat) : Bool := n = 3 && (x.tags.contains (sysTag 10) || x.tags.contains (sysTag 11))

end Sys2Proof.Machine
end

