-- ==== Sys2Proof/Machine/Effects.lean ====
section
/-! DEFINITION. What the arithmetic, memory, branch, channel, CRC and system instructions do (R167 to R180, R184 to R187):
one effect for each shape of instruction, over the operand and flag functions. -/

namespace Sys2Proof.Machine

open Sys2Proof

/-! ### Arithmetic (R169 to R174) -/

/-- Write a result and its flags, or with SYS only a system register (R164). -/
def Thread.result (x : Thread) (sys : Bool) (d : BitVec 5) (r : Option Word) (f : FlagSet) (p : Bool) : Thread :=
  match r with
  | none => x.flags f p
  | some v => if sys then x.putSys d.toNat v p else (x.flags f p).put d.toNat v p

/-- Arithmetic and logic of opcode 0o010 (R169): ADC and SBC take C, and with it FL's tag. -/
def Thread.alu (x : Thread) (op : AluOp) (sys : Bool) (d a b : BitVec 5) : Thread :=
  let r := aluResult op (x.val a) (x.val b) x.c
  x.result sys d r.1 r.2 (x.tag a || x.tag b || ((op = .adc || op = .sbc) && x.flTag))

/-- Shifts of opcode 0o011 by bits [7:0] of wb (R170). -/
def Thread.shift (x : Thread) (op : ShOp) (d a b : BitVec 5) : Thread :=
  let r := shiftResult op (x.val a) ((x.val b).toNat % 256)
  x.result false d (some r.1) r.2 (x.tag a || x.tag b)

/-- Shifts by an immediate (R173). -/
def Thread.shiftI (x : Thread) (op : ShOp) (d a : BitVec 5) (n : BitVec 8) : Thread :=
  let r := shiftResult op (x.val a) n.toNat
  x.result false d (some r.1) r.2 (x.tag a)

/-- Multiplication and division of opcode 0o012 (R171, R172): one word, or the pair wd, w(d+1). -/
def Thread.mul (x : Thread) (op : MulOp) (d a b : BitVec 5) : Thread :=
  let r := mulResult op (x.val a) (x.val b)
  let p := x.tag a || x.tag b
  let y := x.result false d (some r.1) r.2.2 p
  match r.2.1 with
  | some v => y.put (d.toNat + 1) v p
  | none => y

/-- A division that raises DIVIDE_ZERO: b = 0 with DZ_TRAP = 1 (R172). -/
def State.divTrap (s : State) (d k : Nat) (op : MulOp) (b : BitVec 5) : Bool :=
  (op = .divs || op = .divu) && (s.thr d k).val b = 0 && bit (s.coreCfg d (k / 16)) 1

/-- Immediate forms (R173). -/
def Thread.imm (x : Thread) (op : ImmOp) (d a : BitVec 5) (i : BitVec 18) : Thread :=
  let r := immResult op (x.val a) i
  x.result false d r.1 r.2 (x.tag a)

/-- EXTU (R173). -/
def Thread.extu (x : Thread) (d a : BitVec 5) (lsb wm1 : BitVec 6) : Thread :=
  x.put d.toNat (extuResult (x.val a) lsb.toNat (wm1.toNat + 1)) (x.tag a)

/-- INS (R173). -/
def Thread.ins (x : Thread) (d a : BitVec 5) (lsb wm1 : BitVec 6) : Thread :=
  x.put d.toNat (insResult (x.val d) (x.val a) lsb.toNat (wm1.toNat + 1)) (x.tag d || x.tag a)

/-- Packed decimal of opcode 0o013 (R174): DADC, DSBC and DADJ take C, DADJ and DSADJ take DCV; a tag of FL marks the result
of all four, and one of DCV that of DADJ and DSADJ (R162, R189). -/
def Thread.dec (x : Thread) (op : DecOp) (d a b : BitVec 5) : Thread :=
  let r := decResult op (x.val a) (x.val b) x.c x.dcv
  x.result false d r.1 r.2 (x.tag a || x.tag b || ((op = .dadc || op = .dsbc || op = .dadj || op = .dsadj) && x.flTag) ||
    ((op = .dadj || op = .dsadj) && x.tags.contains (sysTag 2)))

/-! ### Repeatable steps (R175) -/

/-- Increment the pointers of a step; with a = b the register is incremented once (R175). -/
def Thread.stepPtrs (x : Thread) (a b : BitVec 5) : Thread :=
  let y := x.put a.toNat (x.val a + 1)
  if a = b then y else y.put b.toNat (x.val b + 1)

/-- CPW (R175). -/
def State.cpw (s : State) (d k : Nat) (sys : Bool) (r a b : BitVec 5) : Eff :=
  let x := s.thr d k
  if x.tag a || x.tag b then .trap fPOISON
  else
    let pa := (x.val a).toNat
    let pb := (x.val b).toNat
    s.withBanks d k [pa, pb] fun s =>
      let l := s.csLoad d k pa
      let s := l.1.csStore d k pb l.2.1 l.2.2
      s.doneThr d k (((s.thr d k).stepPtrs a b).result sys r (some l.2.1) {} l.2.2)

/-- CMPS (R175). -/
def State.cmps (s : State) (d k : Nat) (a b : BitVec 5) : Eff :=
  let x := s.thr d k
  if x.tag a || x.tag b then .trap fPOISON
  else
    let pa := (x.val a).toNat
    let pb := (x.val b).toNat
    s.withBanks d k [pa, pb] fun s =>
      let l := s.csLoad d k pa
      let m := l.1.csLoad d k pb
      let r := aluResult .cmp l.2.1 m.2.1 false
      m.1.doneThr d k (((m.1.thr d k).stepPtrs a b).flags r.2 (l.2.2 || m.2.2))

/-- DSTEP (R175). -/
def State.dstep (s : State) (d k : Nat) (a b : BitVec 5) : Eff :=
  let x := s.thr d k
  if x.tag a || x.tag b then .trap fPOISON
  else
    let pa := (x.val a).toNat
    let pb := (x.val b).toNat
    s.withBanks d k [pa, pb] fun s =>
      let l := s.csLoad d k pa
      let m := l.1.csLoad d k pb
      let r := decAdd l.2.1 m.2.1 x.c
      let p := l.2.2 || m.2.2 || x.flTag
      let s := m.1.csStore d k pb r.1 p
      s.doneThr d k (((s.thr d k).stepPtrs a b).flags r.2 p)

/-! ### Memory (R158 to R161, R176) -/

/-- The post-increment of P = 1 (R163). -/
def Thread.post (x : Thread) (p : Bool) (a : BitVec 5) (unit : Nat) : Thread :=
  if p then x.put a.toNat (x.val a + BitVec.ofNat 36 unit) else x

/-- LDW (R176). -/
def State.ldw (s : State) (d k : Nat) (r a : BitVec 5) (p : Bool) (disp : BitVec 15) : Eff :=
  let x := s.thr d k
  if x.tag a then .trap fPOISON
  else
    let ad := x.addr a disp
    s.withBanks d k [ad] fun s =>
      let l := s.csLoad d k ad
      l.1.doneThr d k (((l.1.thr d k).post p a 1).put r.toNat l.2.1 l.2.2)

/-- STW (R176): a tagged register writes the word poisoned (R162). -/
def State.stw (s : State) (d k : Nat) (r a : BitVec 5) (p : Bool) (disp : BitVec 15) : Eff :=
  let x := s.thr d k
  if x.tag a then .trap fPOISON
  else
    let ad := x.addr a disp
    s.withBanks d k [ad] fun s =>
      let s := s.csStore d k ad (x.val r) (x.tag r)
      s.doneThr d k ((s.thr d k).post p a 1)

/-- LDP (R176). -/
def State.ldp (s : State) (d k : Nat) (r a : BitVec 5) (p : Bool) (sz : BitVec 2) (disp : BitVec 15) : Eff :=
  let x := s.thr d k
  if x.tag a then .trap fPOISON
  else
    let l := s.pktLoad d k (x.addr a disp) (2 ^ sz.toNat)
    l.1.doneThr d k (((l.1.thr d k).post p a (2 ^ sz.toNat)).put r.toNat l.2.1 l.2.2)

/-- STP (R176): the low bits of wd, big-endian. -/
def State.stp (s : State) (d k : Nat) (r a : BitVec 5) (p : Bool) (sz : BitVec 2) (disp : BitVec 15) : Eff :=
  let x := s.thr d k
  if x.tag a then .trap fPOISON
  else
    let ad := x.addr a disp
    let n := 2 ^ sz.toNat
    let inside := match s.heldPkt d k with | some q => decide (ad + n ≤ q.window) | none => false
    s.logged d k (fun _ _ => inside) (x.tag r) (.packet ad (natBE n (x.val r).toNat))
      fun s => s.modThr d k fun y => y.post p a n

/-- LDF (R176, R261): a flow index above 262,143 is a violation; otherwise the thread waits for the answer. -/
def State.ldf (s : State) (d k : Nat) (r a : BitVec 5) (disp : BitVec 15) : Eff :=
  let x := s.thr d k
  if x.tag a then .trap fPOISON
  else
    let w := (x.val a).toNat * 16 + disp.toNat
    if 262144 ≤ (x.val a).toNat then
      let s := s.thrViol d
      s.doneThr d k ((s.thr d k).put r.toNat 0)
    else
      let t := s.stamp
      .hold (t.2.setThr d k { x with st := .waiting, waitOn := 0, waitDst := r.toNat, stamp := t.1, since := s.now
                                     portAt := none, req := some (.ldf r.toNat w) })

/-- STF (R176). -/
def State.stf (s : State) (d k : Nat) (r a : BitVec 5) (disp : BitVec 15) : Eff :=
  let x := s.thr d k
  if x.tag a then .trap fPOISON
  else
    let i := (x.val a).toNat
    s.logged d k (fun _ _ => i < 262144) (x.tag r) (.context (i * 16 + disp.toNat) (x.val r)) id

/-- LDO (R160, R176). -/
def State.ldo (s : State) (d k : Nat) (r a : BitVec 5) (disp : BitVec 15) : Eff :=
  let x := s.thr d k
  if x.tag a then .trap fPOISON
  else
    let j := x.addr a disp
    match s.held d k with
    | some (slot, o, i) =>
      if j < 64 then
        let s := if 16 ≤ j then s.readUnit d 7 0 (o.inst * 48 + (j - 16)) true else s
        let i := (s.inst d o.inst).getD i
        let v := s.opWord d slot o i j
        s.doneThr d k ((s.thr d k).put r.toNat v.1 v.2)
      else
        let s := s.thrViol d
        s.doneThr d k ((s.thr d k).put r.toNat 0)
    | none =>
      let s := s.thrViol d
      s.doneThr d k ((s.thr d k).put r.toNat 0)

/-- STO (R160, R176): a carry word into the carry buffer, without a commit-log entry (R92). -/
def State.sto (s : State) (d k : Nat) (r a : BitVec 5) (disp : BitVec 15) : Eff :=
  let x := s.thr d k
  if x.tag a then .trap fPOISON
  else
    let j := x.addr a disp
    match s.held d k with
    | some (slot, o, _) =>
      if 44 ≤ j && j < 60 then
        if x.tag r then .trap fPOISON
        else .done (s.setOp d slot { o with carry := sset o.carry (j - 44) (x.val r) }) none
      else .done (s.thrViol d) none
    | none => .done (s.thrViol d) none

/-- LDA (R161, R176): the back copy, zero-extended; allowed on die 0 only. -/
def State.lda (s : State) (d k : Nat) (r a : BitVec 5) (disp : BitVec 15) : Eff :=
  let x := s.thr d k
  if x.tag a then .trap fPOISON
  else
    let j := x.addr a disp
    if d = 0 && j < 16384 then s.doneThr d k (x.put r.toNat ((s.ansLoad d k j).zeroExtend 36))
    else
      let s := s.thrViol d
      s.doneThr d k ((s.thr d k).put r.toNat 0)

/-- STA (R161, R176). -/
def State.sta (s : State) (d k : Nat) (r a : BitVec 5) (disp : BitVec 15) : Eff :=
  let x := s.thr d k
  if x.tag a then .trap fPOISON
  else
    let j := x.addr a disp
    s.logged d k (fun _ _ => d = 0 && j < 16384) (x.tag r) (.answer j ((x.val r).truncate 32)) id

/-- The memory instructions by opcode. -/
def State.memEff (s : State) (d k : Nat) (op : MemOp) (r a : BitVec 5) (p : Bool) (sz : BitVec 2) (disp : BitVec 15) :
    Eff :=
  match op with
  | .ldw => s.ldw d k r a p disp
  | .stw => s.stw d k r a p disp
  | .ldp => s.ldp d k r a p sz disp
  | .stp => s.stp d k r a p sz disp
  | .ldf => s.ldf d k r a disp
  | .stf => s.stf d k r a disp
  | .ldo => s.ldo d k r a disp
  | .sto => s.sto d k r a disp
  | .lda => s.lda d k r a disp
  | .sta => s.sta d k r a disp

/-! ### Branches (R178) -/

/-- Bcc (R162, R178). -/
def State.bcc (s : State) (d k : Nat) (cond : BitVec 4) (off : BitVec 24) : Eff :=
  let x := s.thr d k
  if cond.toNat < 14 && x.flTag then .trap fPOISON
  else if condHolds x cond then .done s (some ((x.pc + off.toNat) % 65536)) else .done s none

/-- JAL (R178). -/
def State.jal (s : State) (d k : Nat) (r : BitVec 5) (t : BitVec 16) : Eff :=
  let x := s.thr d k
  .done (s.setThr d k (x.put r.toNat (w36 ((x.pc + 1) % 65536)))) (some t.toNat)

/-- JR (R162, R178). -/
def State.jr (s : State) (d k : Nat) (a : BitVec 5) : Eff :=
  let x := s.thr d k
  if x.tag a then .trap fPOISON else .done s (some ((x.val a).toNat % 65536))

/-! ### Channels and WAIT (R128 to R133, R179, R180) -/

/-- Threads blocked on a channel, as senders or as receivers that may take from it. -/
def State.blockedOn (s : State) (d key : Nat) (sender : Bool) : List (Nat × Thread) :=
  (s.die d).threads.filter fun p =>
    p.2.st = .blocked && (p.2.waitDst = 99) = sender && chanKey (p.1 / 16) p.2.waitOn = key &&
      (sender || s.mayTake d p.1 p.2.waitOn)

/-- No other thread has been blocked longer on a channel, and no milestone message waits longer for it: the order of first
blocked attempts, then of thread numbers (R130, R131, R289). -/
def State.firstOn (s : State) (d k key : Nat) (sender : Bool) : Bool :=
  let x := s.thr d k
  ((s.blockedOn d key sender).all fun p => p.1 = k ||
    (x.st = .blocked && (x.stamp < p.2.stamp || (x.stamp = p.2.stamp && k < p.1)))) &&
  (!sender || (s.die d).mls.sends.all fun m => m.chan ≠ key || (x.st = .blocked && x.stamp < m.stamp))

/-- A thread blocks at a channel (R129, R131). -/
def State.block (s : State) (d k n dst : Nat) : Eff :=
  let x := s.thr d k
  if x.st = .blocked then .hold s
  else
    let t := s.stamp
    .hold (t.2.setThr d k { x with st := .blocked, waitOn := n, waitDst := dst, stamp := t.1, since := s.now })

/-- CHS and CHE (R129, R130, R139): a word with its tag; channel 31 is illegal in compatibility mode. Of messages open on several
channels the thread shows the one that it last pushed to, and none once that one is complete (log entry 98). -/
def State.chanSend (s : State) (d k : Nat) (a : BitVec 5) (n : Nat) (fin : Bool) : Eff :=
  let x := s.thr d k
  let key := chanKey (k / 16) n
  let ch := s.chan d key
  if n = 31 && s.compat d (k / 16) then .trap fILLEGAL
  else if ch.blocks k || (ch.opened.isNone && !s.firstOn d k key true) then s.block d k n 99
  else
    let ch := ch.push s.now k (x.val a, x.tag a) fin
    let s := s.setChan d key ch
    s.doneThr d k { s.thr d k with openCh := if ch.opened.isSome then some n else none }

/-- Write the words of a message to rising registers with their tags. -/
def Thread.putMsg (x : Thread) (r : Nat) : List (Word × Bool) → Thread
  | [] => x
  | w :: ws => (x.put r w.1 w.2).putMsg (r + 1) ws

/-- CHR (R131, R132): the oldest message, once it can be taken. -/
def State.chanRecv (s : State) (d k : Nat) (r : BitVec 5) (n : Nat) : Eff :=
  let key := chanKey (k / 16) n
  let ch := s.chan d key
  match s.oldestMsg d key with
  | none => s.block d k n r.toNat
  | some m =>
    if !s.firstOn d k key false || !s.mayTake d k n then s.block d k n r.toNat
    else
      let s := s.setChan d key { ch with msgs := ch.msgs.tail }
      s.doneThr d k (((s.thr d k).put r.toNat (w36 m.words.length)).putMsg (r.toNat + 1) m.words)

/-- WAIT and WAITI (R133, R180): an illegal source word faults, no source completes with 0, a source that holds is
reported at once, otherwise the thread waits. -/
def State.waitEff (s : State) (d k : Nat) (r : BitVec 5) (src : Nat) (tag : Bool) : Eff :=
  let x := s.thr d k
  let dst := r.toNat + if tag then 64 else 0
  let set := s.sources d k src
  if srcBad src then .trap fILLEGAL
  else if bits src 0 7 = 0 || set ≠ 0 then s.doneThr d k (x.report dst set)
  else
    let t := s.stamp
    .hold (t.2.setThr d k { x with st := .waiting, waitOn := src, waitDst := dst, stamp := t.1, since := s.now })

/-! ### CRC (R185) -/

/-- The bytes that CRC takes from a word: the least significant first for a reflected kind, the most significant taken
byte first for kind 3. -/
def crcTake (n : Nat) (v : Word) (cnt : Nat) : List Byte :=
  if n = 3 then natBE cnt (v.toNat % 256 ^ cnt) else natLE cnt (v.toNat % 256 ^ cnt)

/-- CRC (R185). -/
def Thread.crc (x : Thread) (r a : BitVec 5) (n : Nat) (cnt : Nat) : Thread :=
  let v := (crcTake n (x.val a) cnt).foldl (crcKind x n) (x.val r).toNat
  x.put r.toNat (w36 v) (x.tag r || x.tag a || crcSysTag x n)

/-- CRCP (R185): a byte outside the window enters as zero, and the access is a violation. In a repeat each iteration rewrites the
destination, so the tag is that of its own load (R204). -/
def State.crcp (s : State) (d k : Nat) (r a : BitVec 5) (n : Nat) : Eff :=
  let x := s.thr d k
  if x.tag a then .trap fPOISON
  else
    let l := s.pktLoad d k (x.val a).toNat 1
    let v := crcKind x n (x.val r).toNat (l.2.1.truncate 8)
    l.1.doneThr d k ((((l.1.thr d k).put a.toNat (x.val a + 1)).put r.toNat (w36 v)
      ((x.tag r && !x.rep) || l.2.2 || crcSysTag x n)))

/-! ### System instructions (R144, R147, R150, R156, R186) -/

/-- MFS (R156). -/
def State.mfs (s : State) (d k : Nat) (r : BitVec 5) (n : Nat) : Eff :=
  let v := s.sysRead d k n
  s.doneThr d k (v.2.2.put r.toNat v.1 v.2.1)

/-- MTS (R156, R162). -/
def State.mts (s : State) (d k : Nat) (n : Nat) (a : BitVec 5) : Eff :=
  let x := s.thr d k
  s.doneThr d k (x.putSys n (x.val a) (x.tag a))

/-- A status in TST with its source, and C (R156, R181). -/
def Thread.status (x : Thread) (code src : Nat) (p : Bool) : Thread :=
  ({ x with tst := w36 (code + src * 256) }.setTag (sysTag 3) p).flags { c := some (code ≠ cDONE) } p

/-- End what a thread was doing with its core's shared state: its open message, its operation and its helper jobs
(R144, R152). -/
def State.disposeThr (s : State) (d k : Nat) : State :=
  let s := (s.discardOpen d k).squash d k
  match (s.thr d k).op with
  | some slot => s.abortOp d slot rFAULT
  | none => s

/-- TCTL (R144, R186). -/
def State.tctl (s : State) (d k : Nat) (a : BitVec 5) (abandon : Bool) : Eff :=
  let x := s.thr d k
  let c := k / 16
  let t := c * 16 + (x.val a).toNat % 16
  if x.role ≠ 3 || !s.compat d c then .trap fILLEGAL
  else if x.tag a then .trap fPOISON
  else if (s.thr d t).st ≠ .faulted then s.doneThr d k (x.flags { c := some true } false)
  else
    let s := s.disposeThr d t
    let s := if abandon then s.modThr d t fun y => { y with st := .parked, op := none }
      else s.modThr d t fun y => applyMap (s.mapWord d t 0) (s.mapWord d t 1) y
    s.doneThr d k ((s.thr d k).flags { c := some false } false)

/-- CORE_STOP on a core (R146, R150): STATE unless it is RUNNING or in DEBUG; its operations are replayed (R109). -/
def State.coreStopCmd (s : State) (d c : Nat) : State × Nat :=
  if 48 ≤ c || s.checker d c then (s, cMALFORMED)
  else if (s.core d c).run = .running || (s.core d c).run = .debug then
    (s.stopCore d c false fun s slot => s.replayOp d slot, cDONE)
  else (s, cSTATE)

/-- CORE_RESTART on a core (R147). -/
def State.coreRestartCmd (s : State) (d c : Nat) : State × Nat :=
  if 48 ≤ c || s.checker d c then (s, cMALFORMED)
  else if (s.core d c).run = .stopped then (s.restartCore d c, cDONE)
  else (s, cSTATE)

/-- CCTL (R186): a command to another core of the die. -/
def State.cctl (s : State) (d k : Nat) (a : BitVec 5) (cmdNo : Nat) : Eff :=
  let x := s.thr d k
  let c := (x.val a).toNat % 64
  if x.tag a then .trap fPOISON
  else
    let r := if cmdNo ≠ 1 && cmdNo ≠ 2 then (s, cMALFORMED)
      else if 48 ≤ c || s.checker d c then (s, cMALFORMED)
      else if c = k / 16 then (s, cSTATE)
      else if cmdNo = 1 then s.coreStopCmd d c else s.coreRestartCmd d c
    r.1.doneThr d k ((r.1.thr d k).status r.2 4 false)

/-- The word after an instruction, when it decodes (R187). -/
def State.nextInstr (s : State) (d k : Nat) : Option CoreInstr :=
  decodeWord (sgetD (s.die d).istore (k / 64 * 65536 + ((s.thr d k).pc + 1) % 65536) 0)

/-- RPT (R187, R201, R206): ILLEGAL_RPT before anything but a repeatable word, then POISON for a tagged count; CNT = 0
passes the repeated instruction. -/
def State.rpt (s : State) (d k : Nat) (a : BitVec 5) : Eff :=
  let x := s.thr d k
  let cnt := if a = 0 then x.cnt else x.val a
  let tag := if a = 0 then x.tags.contains (sysTag 0) else x.tag a
  match s.nextInstr d k with
  | none => .trap fRPT
  | some i =>
    if !repeatable i then .trap fRPT
    else if tag then .trap fPOISON
    else
      let y := { x with cnt := cnt }.setTag (sysTag 0) false
      if cnt = 0 then .done (s.setThr d k y) (some ((x.pc + 2) % 65536))
      else s.doneThr d k { y with rep := true }

end Sys2Proof.Machine
end

