-- ==== Sys2Proof/Machine/OpEffects.lean ====
section
/-! DEFINITION. What the graph, packet, table and helper instructions do (R95, R96, R181 to R184, R209 to R214). -/

namespace Sys2Proof.Machine

open Sys2Proof

/-- OPEND (R108, R114, R181, R212): the operation goes to COMMIT with its outcome; the drop option acts at once, and the locks
that the thread holds are released at the commit. -/
def State.opend (s : State) (d k : Nat) (kk : BitVec 3) : Eff :=
  let x := s.thr d k
  match s.held d k with
  | none => s.doneThr d k (x.flags { c := some true } false)
  | some (slot, o, _) =>
    let drop := kk.getLsbD 2
    let s := s.setOp d slot { o with st := .commit, outcome := kk.toNat % 4, drop := drop, tEnd := some (s.time d) }
    let s := if drop then s.programDrop d o.inst else s
    let s := (s.locksOf d k).foldl (fun s h => s.setHelper d h { s.helper d h with atCommit := some slot }) s
    s.doneThr d k ({ s.thr d k with op := none, delivered := false }.flags { c := some false } false)

/-- The groups that the roots of a graph name, of whatever kind they are, with no fingerpost entry (R95). -/
def State.rootGroups (s : State) (d g : Nat) : List Nat :=
  ((List.range (s.nodes d g)).filter fun n => (s.preds d g n).isEmpty).map fun n => nodeGroup (s.node d g n 0) none

/-- The status of a SPAWN: STATE, RANGE, FULL in that order, else DONE (R95). It is FULL also while a fallback or disposition
instance waits for slots, which goes ahead of it (R112). -/
def State.spawnStatus (s : State) (d g len : Nat) : Nat :=
  let cells := ceilDiv len 128
  let h := (s.die d).hop
  if !s.graphLive d g then cSTATE
  else if 2048 < len then cRANGE
  else if !(s.die d).dsp.fallbacks.isEmpty || (s.die d).dsp.free < (s.die d).dsp.width g ||
      (s.rootGroups d g).any (s.listFull d) ||
      (len ≠ 0 && (s.ticketsFull d || s.fld d .hopPortQuota [31] 0 19 < h.occ 31 + cells || h.free < cells)) then cFULL
  else cDONE

/-- Take the next ticket of a local port for a packet (R18, R23). A ticket that SPAWN takes is no frame of the hopper: it counts
as neither ADMIT nor RX_ADMIT, of which the manual says nothing (log entry 94). -/
def State.takeTicket (s : State) (d p pid : Nat) : Nat × State :=
  let t := sgetD (s.die d).hop.nextTicket p 0
  let now := s.time d
  let s := s.modPkt d pid fun k => { k with ticket := t, ticketed := true, admitAt := now }
  let s := s.modHop d fun h => { h with
    nextTicket := sset h.nextTicket p ((t + 1) % 2 ^ 24), outstanding := h.outstanding + 1 }
  (t, s.setBoard d p (s.board d p ++ [{ number := t, holder := d, pid := pid, ts := now, admitAt := now }]))

/-- Create the spawned instance of a graph (R96): with a packet of zero-filled cells and a ticket of port 31, or without. -/
def State.spawnInst (s : State) (d g len : Nat) (arg : Word) : State :=
  let port := d * 32 + 31
  let carry := arg :: List.replicate 19 0
  let inst := fun (ws : List Word) (pid : Option Nat) =>
    ({ graph := g, width := (s.die d).dsp.width g, words := ws ++ List.replicate 20 0 ++ carry, pid := pid, spawned := true
       arg := arg } : Inst)
  let s := s.count d ctrDSP 1
  if len = 0 then s.createInst d (inst (w36 (port * 2 ^ 24) :: List.replicate 7 0) none)
  else
    let now := s.time d
    let r := s.takeCells d { port := some 31, pri := 0 } (ceilDiv len 128)
    let q := r.2.newPkt d { cells := r.1, len := len, fcs := 0, port := port
                            cfg := BitVec.ofNat 32 (s.reg d .hopPortCfg [31])
                            pdef := BitVec.ofNat 32 (s.reg d .hopPortDef [31]), ts := now }
    let t := q.2.takeTicket d 31 q.1
    t.2.createInst d (inst [w36 (t.1 + port * 2 ^ 24), w36 len, 0, 0, w36 (now / 2 ^ 36), w36 now, 0, 3] (some q.1))

/-- SPAWN (R95, R96, R181). -/
def State.spawn (s : State) (d k : Nat) (a b : BitVec 5) (g : BitVec 8) : Eff :=
  let x := s.thr d k
  if x.tag a || x.tag b then .trap fPOISON
  else
    let s := s.readGraph d g.toNat
    let len := (x.val b).toNat
    let code := s.spawnStatus d g.toNat len
    let s := if code = cDONE then s.spawnInst d g.toNat len (x.val a)
      else if code = cFULL then s.count d ctrDSP 6 else s.graphPoisonRead d g.toNat
    s.doneThr d k ((s.thr d k).status code 0 false)

/-- Enqueues that an operation has logged. -/
def loggedEnqs (log : List LogEntry) : Nat := (log.filter fun e => match e with | .enqueue _ => true | _ => false).length

/-- ENQ (R96, R106, R113, R181). -/
def State.enq (s : State) (d k : Nat) (a : BitVec 5) : Eff :=
  let x := s.thr d k
  let q := (x.val a).toNat
  match s.held d k with
  | none => .done (s.thrViol d) none
  | some (slot, o, i) =>
    if (List.range 3).any fun j => x.tagged (a.toNat + j) then .trap fPOISON
    else if i.pid.isNone || 8 ≤ i.enqs.length + loggedEnqs o.log then .trap fENQUEUE
    else
      let e : Enq := { die := bits q 12 3, queue := bits q 0 12, w0 := x.get (a.toNat + 1), w1 := x.get (a.toNat + 2) }
      match s.logEntry d slot o (.enqueue e) with
      | some s => .done s none
      | none => .trap fOVERFLOW

/-- Who is charged for a packet's further cells: as its own cells are (R60, R182). -/
def State.pktCharge (s : State) (d : Nat) (p : Packet) : Charge :=
  match p.cells with
  | c :: _ => sgetD (s.die d).hop.cellUse c { port := none }
  | [] => { port := none }

/-- The status of a PGROW by wa (R182). -/
def State.growStatus (s : State) (d n : Nat) (p : Packet) : Nat :=
  let h := (s.die d).hop
  if n = 0 || 128 < p.cells.length + n then cRANGE
  else if h.free < n || (p.port / 32 = d && s.fld d .hopPortQuota [p.port % 32] 0 19 < h.occ (p.port % 32) + n) then cFULL
  else cDONE

/-- PGROW (R181, R182). -/
def State.pgrow (s : State) (d k : Nat) (a : BitVec 5) : Eff :=
  let x := s.thr d k
  let n := (x.val a).toNat
  match s.held d k, s.heldPkt d k with
  | some (_, _, i), some p =>
    let code := s.growStatus d n p
    let s := if code = cDONE then
        let r := s.takeCells d (s.pktCharge d p) n
        match i.pid with
        | some pid => r.2.modPkt d pid fun q => { q with cells := q.cells ++ r.1 }
        | none => s
      else s
    s.doneThr d k ((s.thr d k).status code 3 (x.tag a))
  | _, _ => s.doneThr d k (x.status cSTATE 3 (x.tag a))

/-- ANSC (R161, R181, R396): the publish of a page, logged; allowed on die 0 only. -/
def State.ansc (s : State) (d k : Nat) (a : BitVec 5) : Eff :=
  let x := s.thr d k
  if x.tag a then .trap fPOISON
  else s.logged d k (fun _ _ => d = 0) false (.publish ((x.val a).toNat % 16)) id

/-! ### Tables (R183) -/

/-- The four key words of a table request: n registers from wa, then zeros (R183, R234). -/
def Thread.keyRegs (x : Thread) (a : BitVec 5) (n : Nat) : List Word :=
  (List.range 4).map fun j => if j < n then x.get (a.toNat + j) else 0

/-- A key register is tagged. -/
def Thread.keyTag (x : Thread) (a : BitVec 5) (n : Nat) : Bool := (List.range n).any fun j => x.tagged (a.toNat + j)

/-- TBL (R122, R162, R183): the thread waits for the answer. -/
def State.tblEff (s : State) (d k : Nat) (r a : BitVec 5) (n : BitVec 6) (kk : BitVec 2) : Eff :=
  let x := s.thr d k
  if x.keyTag a (kk.toNat + 1) then .trap fPOISON
  else
    let t := s.stamp
    .hold (t.2.setThr d k { x with
      st := .waiting, waitOn := 0, waitDst := r.toNat, stamp := t.1, since := s.now, portAt := none
      req := some (.tbl r.toNat n.toNat (x.keyRegs a (kk.toNat + 1))) })

/-- TBLU (R106, R183, R255): a table update in the commit log, with its operands read at issue. -/
def State.tblu (s : State) (d k : Nat) (r a : BitVec 5) (n : BitVec 6) (kk : BitVec 2) (c : BitVec 3) : Eff :=
  let x := s.thr d k
  let res := c.toNat < 3
  if x.keyTag a (kk.toNat + 1) then .trap fPOISON
  else s.logged d k (fun _ _ => true) (res && (List.range 3).any fun j => x.tagged (r.toNat + j))
    (.table { op := c.toNat + 1, table := n.toNat, key := x.keyRegs a (kk.toNat + 1)
              res := if res then (List.range 3).map fun j => x.get (r.toNat + j) else [] }) id

/-! ### Helpers (R184, R209 to R214) -/

/-- C of a helper instruction. -/
def Thread.setC (x : Thread) (c : Bool) (p : Bool := false) : Thread := x.flags { c := some c } p

/-- The order of threads at a lock that several HLOCKs reach in one fabric cycle: the round of the 4 cores after the one that last
won, then the thread number (R210). -/
def Helper.turn (x : Helper) (k : Nat) : Nat := (k / 16 + 3 - x.lastCore) % 4 * 16 + k % 16

/-- A thread takes a lock. -/
def State.lockToThread (s : State) (d h k : Nat) (x : Helper) : State :=
  s.setHelper d h { x with
    holder := some (.thread k), refused := false, window := none, atCommit := none, won := some (s.now, k / 16 % 4) }

/-- The thread that won the lock in this fabric cycle, when another one's HLOCK of the same cycle goes before it (R210). -/
def State.lateWinner (s : State) (d h k : Nat) : Option Nat :=
  let x := s.helper d h
  match x.holder, x.won with
  | some (.thread w), some (t, _) => if t = s.now && x.jobs.isEmpty && x.turn k < x.turn w then some w else none
  | _, _ => none

/-- HLOCK (R184, R209 to R211): a free lock is taken; a refusal sets the refused mark and is counted. HLOCKs that reach a free
lock in one fabric cycle are decided together: one that goes before the winner so far takes the lock from it, and the other
returns C = 1, before either thread's next slot; they do not set the refused mark, since the lock was free (log entry 101). -/
def State.hlock (s : State) (d k n : Nat) : Eff :=
  let h := k / 64 * 3 + n
  let s := s.windowEnd d h
  let x := s.helper d h
  let together := (match x.won with | some (t, _) => t = s.now | none => false) && x.jobs.isEmpty
  if x.holder = some (.thread k) then s.doneThr d k ((s.thr d k).setC false)
  else if x.free then
    let s := s.lockToThread d h k { x with lastCore := (match x.won with | some (_, c) => c | none => x.lastCore) }
    s.doneThr d k ((s.thr d k).setC false)
  else match s.lateWinner d h k with
    | some w =>
      let s := ((s.lockToThread d h k x).modThr d w fun y => y.setC true).count d ctrHLP 10
      s.doneThr d k ((s.thr d k).setC false)
    | none =>
      let s := (s.setHelper d h { x with refused := x.refused || !together }).count d ctrHLP 10
      s.doneThr d k ((s.thr d k).setC true)

/-- HUNLOCK (R184, R212). -/
def State.hunlock (s : State) (d k n : Nat) : Eff :=
  let h := k / 64 * 3 + n
  if (s.helper d h).holder = some (.thread k) then
    let s := s.dropLock d h
    s.doneThr d k ((s.thr d k).setC false)
  else s.doneThr d k ((s.thr d k).setC true)

/-- The job that HGO starts (R214, R216): the descriptor's words as they stand, with the thread's region and packet. -/
def State.hgoJob (s : State) (d k wa bitNo : Nat) : Job :=
  let x := s.thr d k
  let ws := (List.range 8).map fun j => s.csRead d (k / 64) (wa + j)
  { who := .thread k, sb := bitNo, desc := ws.map (·.1), poisoned := ws.any (·.2)
    badRegion := !(x.region wa && x.region (wa + 7)), addr := wa, first := x.rbase, last := x.rlast
    pid := match s.held d k with | some (_, _, i) => i.pid | none => none
    slot := x.op }

/-- HGO (R184, R213, R214). -/
def State.hgo (s : State) (d k : Nat) (a : BitVec 5) (n bitNo : Nat) : Eff :=
  let x := s.thr d k
  let h := k / 64 * 3 + n
  let y := s.helper d h
  let wa := (x.val a).toNat
  if x.tag a then .trap fPOISON
  else if y.holder ≠ some (.thread k) || x.busy.contains bitNo then s.doneThr d k (x.setC true)
  else
    let s := if x.region wa && x.region (wa + 7) then
        (List.range 8).foldl (fun s j => s.readUnit d 2 (k / 64) (wa + j) true) s
      else s
    let s := s.setHelper d h { y with jobs := y.jobs ++ [s.hgoJob d k wa bitNo] }
    s.doneThr d k { (s.thr d k).setC false with busy := bitNo :: x.busy }

/-- HTEST (R184). -/
def Thread.htest (x : Thread) (r : BitVec 5) (bitNo : Nat) : Thread :=
  if x.busy.contains bitNo then x.setC true
  else
    let st := sgetD x.sbStatus bitNo cDONE
    ({ x with tst := w36 (st + 256) }.setTag (sysTag 3) false).put r.toNat (w36 st) |>.setC false

end Sys2Proof.Machine
end

