-- ==== Sys2Proof/Machine/Issue.lean ====
section
/-! DEFINITION. How a thread runs an instruction (R117 to R122, R141, R165, R166, R187, R201 to R205): fetch and decode, its
effect, PC and the repeat, sampling of issued instructions (R435), and the events that complete an instruction that waits. -/

namespace Sys2Proof.Machine

open Sys2Proof

/-- The effect of an instruction on a thread. -/
def State.effect (s : State) (d k : Nat) : CoreInstr → Eff
  | .alu op sys r a b => s.doneThr d k ((s.thr d k).alu op sys r a b)
  | .sh op r a b => s.doneThr d k ((s.thr d k).shift op r a b)
  | .mul op r a b => if s.divTrap d k op b then .trap fDIVZERO else s.doneThr d k ((s.thr d k).mul op r a b)
  | .imm op r a i => s.doneThr d k ((s.thr d k).imm op r a i)
  | .shi op r a n => s.doneThr d k ((s.thr d k).shiftI op r a n)
  | .extu r a lsb wm1 => s.doneThr d k ((s.thr d k).extu r a lsb wm1)
  | .ins r a lsb wm1 => s.doneThr d k ((s.thr d k).ins r a lsb wm1)
  | .dec op r a b => s.doneThr d k ((s.thr d k).dec op r a b)
  | .cpw sys r a b => s.cpw d k sys r a b
  | .cmps a b => s.cmps d k a b
  | .dstep a b => s.dstep d k a b
  | .mem op r a p sz disp => s.memEff d k op r a p sz disp
  | .bcc cond off => s.bcc d k cond off
  | .jal r t => s.jal d k r t
  | .jr a => s.jr d k a
  | .chs a n => s.chanSend d k a n.toNat false
  | .che a n => s.chanSend d k a n.toNat true
  | .chr r n => s.chanRecv d k r n.toNat
  | .wait r a => s.waitEff d k r ((s.thr d k).val a).toNat ((s.thr d k).tag a)
  | .waiti r src => s.waitEff d k r src.toNat false
  | .opend kk => s.opend d k kk
  | .spawn a b g => s.spawn d k a b g
  | .enq a => s.enq d k a
  | .pgrow a => s.pgrow d k a
  | .ansc a => s.ansc d k a
  | .tbl r a n kk => s.tblEff d k r a n kk
  | .tblu r a n kk c => s.tblu d k r a n kk c
  | .hlock n => s.hlock d k n.toNat
  | .hunlock n => s.hunlock d k n.toNat
  | .hgo a n kk => s.hgo d k a n.toNat kk.toNat
  | .htest r kk => s.doneThr d k ((s.thr d k).htest r kk.toNat)
  | .crc r a n kk => s.doneThr d k ((s.thr d k).crc r a n.toNat (kk.toNat + 1))
  | .crcp r a n => s.crcp d k r a n.toNat
  | .mfs r n => s.mfs d k r n.toNat
  | .mts n a => s.mts d k n.toNat a
  | .rpt a => s.rpt d k a
  | .tctl a ab => s.tctl d k a ab
  | .cctl a c => s.cctl d k a c.toNat

/-- The instructions that can change a port's occupancy or a core of others, after which the sluices are settled. -/
def CoreInstr.settles : CoreInstr → Bool
  | .spawn .. => true
  | .pgrow _ => true
  | .opend _ => true
  | .tctl .. => true
  | .cctl .. => true
  | _ => false

/-! ### Sampling (R435) -/

/-- Count a qualifying event of a thread down; the event that reaches 0 is sampled, and the countdown is reloaded with N
or, with RAND = 1, a value from 1 to 2N − 1 (R435, log entry 21). -/
def State.qualify (s : State) (d k ev pc : Nat) (slot : Option Nat) (at_ : Nat) : State :=
  let c := k / 16
  let cfg := s.reg d .tlySmpCfg [c]
  if bit cfg 0 && bits cfg 1 3 = ev && bit (s.reg d .tlySmpMask [c]) (k % 16) then
    let n := bits cfg 5 16 + 1
    let left := if (s.core d c).countdown = 0 then n else (s.core d c).countdown
    if 1 < left then s.modCore d c fun y => { y with countdown := left - 1 }
    else
      let r := if bit cfg 4 then s.choose (2 * n - 1) else (n - 1, s)
      r.2.modCore d c fun y => { y with
        countdown := r.1 + 1
        sampleDue := y.sampleDue ++ [{ pc := pc, thr := k % 16, ev := ev, slot := slot, t0 := s.time d, at_ := at_ }] }
  else s

/-- The EVENT that an instruction is, besides ISSUE (R435). -/
def CoreInstr.eventOf : CoreInstr → Nat
  | .mem .ldp .. => 1
  | .crcp .. => 1
  | .mem .ldf .. => 3
  | .tbl .. => 3
  | .wait .. => 5
  | .waiti .. => 5
  | .hgo .. => 6
  | .opend _ => 7
  | _ => 0

/-- The EVENT that an instruction was, besides ISSUE, as the state after it shows: HLOCK counts when refused, a channel
instruction when it blocked (R435). -/
def State.eventNow (s : State) (d k : Nat) : CoreInstr → Nat
  | .hlock _ => if (s.thr d k).c then 6 else 0
  | .chs .. => if (s.thr d k).st = .blocked then 4 else 0
  | .che .. => if (s.thr d k).st = .blocked then 4 else 0
  | .chr .. => if (s.thr d k).st = .blocked then 4 else 0
  | i => i.eventOf

/-- The rounds that an instruction takes, its own included; a wait for a bank, a channel or an answer comes on top (R120, R176,
R185, R203). -/
def CoreInstr.rounds : CoreInstr → Nat
  | .mem .ldp .. => 3
  | .mem .lda .. => 4
  | .crcp .. => 3
  | .cpw .. => 2
  | .cmps .. => 2
  | .dstep .. => 3
  | _ => 1

/-- An instruction has issued: its thread's slot is used, ISSUED and the qualifying events are counted (R117, R153, R435). `s0` is
the state before it. -/
def State.issued (s s0 : State) (d k : Nat) (i : CoreInstr) : State :=
  let x := s0.thr d k
  let s := (s.sampleNext d k).modThr d k fun y => { y.useSlot (s0.slotCycle d k) i.rounds with issued := true }
  let s := (s.countCore d (k / 16) 0).qualify d k 0 x.pc x.op s.now
  let ev := s.eventNow d k i
  if ev = 0 then s else s.qualify d k ev x.pc x.op s.now

/-! ### Running an instruction -/

/-- An instruction's thread goes on: PC, the step count, and nothing left to wait for (R119, R150). -/
def Thread.retire (x : Thread) (pc : Nat) : Thread :=
  { x with pc := pc % 65536, st := .issuing, req := none, waitOn := 0, steps := x.steps - 1 }

/-- The end of an iteration of a repeat (R201, R202): CNT falls by 1, and the repeat ends at 0 or with a CMPS that leaves
Z = 0. -/
def Thread.iterate (x : Thread) (i : CoreInstr) : Thread :=
  let cnt := x.cnt - 1
  let stop := cnt = 0 || (match i with | .cmps .. => !x.z | _ => false)
  { x.retire (if stop then x.pc + 1 else x.pc) with cnt := cnt, rep := !stop }

/-- Finish an instruction whose effect is known; `first` when this is its issue slot, not the end of a wait. -/
def State.finish (s : State) (d k : Nat) (i : CoreInstr) (first : Bool) : Eff → State
  | .trap code => (s.progFault d k code).settle d
  | .hold s' => if first then s'.issued s d k i else s'
  | .done s' pc =>
    let x := s.thr d k
    let s1 := (s'.stir d k).modThr d k fun y => if x.rep then y.iterate i else y.retire (pc.getD (x.pc + 1))
    let s1 := if i.settles then s1.settle d else s1
    if first then s1.issued s d k i else s1.modThr d k fun y => { y with lag := max y.lag (i.rounds - 1) }

/-- Run a thread's instruction. -/
def State.run (s : State) (d k : Nat) (i : CoreInstr) (first : Bool) : State := s.finish d k i first (s.effect d k i)

/-- The word that a thread fetches; none when it is uncorrectable (R166). -/
def State.fetch (s : State) (d k : Nat) : Option Word :=
  let pc := (s.thr d k).pc
  if (s.die d).bad (unitKey 3 (k / 64) pc) then none else some (sgetD (s.die d).istore (k / 64 * 65536 + pc) 0)

/-- A thread's slot can issue an instruction: its slot has come, and the rounds of its previous instruction have passed (R117,
R118, R120). -/
def State.canIssue (s : State) (d k : Nat) : Bool :=
  s.slotOn d k && (s.thr d k).st = .issuing && (s.thr d k).req.isNone && (s.thr d k).lag = 0 && s.slotFree d k

/-- A FORCE_FAULT of ILLEGAL_INSTRUCTION waits for this thread (R451), and the journal has room for its record (R446). -/
def State.forced (s : State) (d k : Nat) : Bool :=
  match (s.die d).gritForce with
  | some (k', _) => k' = k && s.journal.length < 64
  | none => false

/-- The forced fault is raised: its command completes, its record first (R446, R451). -/
def State.forceNow (s : State) (d k : Nat) : State :=
  let s := (((s.modDie d fun x => { x with gritForce := none }).count d ctrGRT 6).gritDone d cDONE)
  (s.progFault d k fILLEGAL).settle d

/-- An uncorrectable fetch: the hardware fault PARITY, with its error-ring record (R139, R166, R357). -/
def State.fetchFault (s : State) (d k : Nat) : State :=
  ((s.readUnit d 3 (k / 64) (s.thr d k).pc true).hwFault d k fPARITY).settle d

/-- A thread issues an instruction: the word at its PC must be that instruction, and no repeat may be in progress. A
command that names another instruction finds nothing to do (log entry 5). -/
def State.issue (s : State) (d k : Nat) (i : CoreInstr) : State :=
  if !s.canIssue d k || (s.thr d k).rep then s
  else match s.fetch d k with
    | none => s.fetchFault d k
    | some w =>
      if s.forced d k then s.forceNow d k
      else if decodeWord w = some i then (s.readUnit d 3 (k / 64) (s.thr d k).pc true).run d k i true
      else s

/-- A command that names a thread and the instruction it issues. -/
def onIssue (s : State) (t : Tid) (i : CoreInstr) : Res := onThread s t fun s => s.issue t.die (tkey t) i

/-- REPEAT_ITERATION: one iteration of the repeated instruction (R201 to R206). With CNT = 0, which a THREAD_WRITE can
leave, the repeat ends and PC passes the instruction (R205). -/
def execRepeatIteration (t : Tid) (s : State) : Res :=
  onThread s t fun s =>
    let d := t.die
    let k := tkey t
    let x := s.thr d k
    if !s.canIssue d k || !x.rep then s
    else if x.cnt = 0 then s.setThr d k { x with rep := false, pc := (x.pc + 1) % 65536 }
    else match s.fetch d k with
      | none => s.fetchFault d k
      | some w =>
        if s.forced d k then s.forceNow d k
        else match decodeWord w with
          | some i => (s.readUnit d 3 (k / 64) x.pc true).run d k i true
          | none => (s.progFault d k fILLEGAL).settle d

/-- ILLEGAL_INSTRUCTION: the word at a thread's PC decodes to nothing (R165). -/
def execIllegalInstruction (t : Tid) (s : State) : Res :=
  onThread s t fun s =>
    let d := t.die
    let k := tkey t
    if !s.canIssue d k || (s.thr d k).rep then s
    else match s.fetch d k with
      | none => s.fetchFault d k
      | some w =>
        if s.forced d k then s.forceNow d k
        else if decodeWord w = none then (s.progFault d k fILLEGAL).settle d else s

/-! ### Waits that end -/

/-- Run again the instruction in which a thread waits; a waiting thread's word stands, since its core is not STOPPED
(CLU.IS_DATA). -/
def State.resumeInstr (s : State) (d k : Nat) : State :=
  match s.fetch d k with
  | none => s.fetchFault d k
  | some w => match decodeWord w with
    | some i => s.run d k i false
    | none => s

/-- A blocked thread runs its instruction again, in its slot. -/
def State.retry (s : State) (d k : Nat) : State :=
  (s.resumeInstr d k).modThr d k fun x => x.useSlot (s.slotCycle d k) 1

/-- CHANNEL_SEND_UNBLOCK: the earliest blocked sender of its channel proceeds (R130). -/
def execChannelSendUnblock (t : Tid) (s : State) : Res :=
  onThread s t fun s =>
    let d := t.die
    let k := tkey t
    let x := s.thr d k
    let key := chanKey t.core x.waitOn
    if s.slotOn d k && s.slotFree d k && x.st = .blocked && x.waitDst = 99 && !(s.chan d key).blocks k &&
      s.firstOn d k key true then s.retry d k
    else s

/-- CHANNEL_RECEIVE_UNBLOCK: the earliest blocked receiver of its channel takes a message (R131). -/
def execChannelReceiveUnblock (t : Tid) (s : State) : Res :=
  onThread s t fun s =>
    let d := t.die
    let k := tkey t
    let x := s.thr d k
    let key := chanKey t.core x.waitOn
    if s.slotOn d k && s.slotFree d k && x.st = .blocked && x.waitDst ≠ 99 && (s.oldestMsg d key).isSome &&
      s.firstOn d k key false && s.mayTake d k x.waitOn then s.retry d k
    else s

/-- The thread with the oldest request, and of requests of equal age the lowest (R121). -/
def oldestThread (ws : List (Nat × Thread)) : Option Nat :=
  (ws.foldl (fun m p => match m with
    | none => some p
    | some q => if p.2.stamp < q.2.stamp then some p else some q) none).map (·.1)

/-- The request for a bank that a core presents (R121). -/
def State.bankThread (s : State) (d c b : Nat) : Option Nat :=
  oldestThread ((s.die d).threads.filter fun p => p.1 / 16 = c && p.2.req = some (.bank b) && s.slotOn d p.1)

/-- BANK_GRANT: a bank grants once in a fabric cycle, round-robin over the cluster's 4 cores and 3 helpers after the one last
granted, and the access completes (R121, R122). -/
def State.bankGrant (s : State) (d cl b : Nat) : State :=
  let key := cl * 16 + b
  let last := sgetD (s.die d).banks key (0, 0, 6)
  let free : Bool := match sget (s.die d).banks key with | some (t, _, _) => t ≠ s.now | none => true
  let cores := ((List.range 7).map fun j => (last.2.2 + 1 + j) % 7).filterMap fun r => if r < 4 then some (cl * 4 + r) else none
  match if free then cores.findSome? fun c => s.bankThread d c key else none with
  | none => s
  | some k =>
    let x := s.thr d k
    let s' := (s.bankTake d k key).resumeInstr d k
    if (s'.thr d k).req.isSome then s'
    else
      let s' := s'.countCore d (k / 16) 3 (s.now - x.since)
      if 1 < s.roundsFrom d x.since s.now then s'.qualify d k 2 x.pc x.op x.since else s'

/-- BANK_GRANT. -/
def execBankGrant (d cl b : Nat) (s : State) : Res := onPort s d 0 (cl < 12 && b < 16) fun s => s.bankGrant d cl b

/-- LDF_ANSWER: a flow-context answer arrives, 12 fabric cycles after the grant of the cluster's table-engine port (R261). -/
def execLdfAnswer (t : Tid) (s : State) : Res :=
  onThread s t fun s =>
    let d := t.die
    let k := tkey t
    match (s.thr d k).req with
    | some (.ldf r w) =>
      if s.slotOn d k && ((s.thr d k).portAt.any fun t => decide (t + 12 ≤ s.now)) then
        let l := s.ctxLoad d k w
        (l.1.stir d k).modThr d k fun x => (x.put r l.2.1 l.2.2).retire (x.pc + 1)
      else s
    | _ => s

/-- STEP_COUNT_DONE: a stepped thread has run its count and stops again (R150). -/
def execStepCountDone (t : Tid) (s : State) : Res :=
  onThread s t fun s => s.modThr t.die (tkey t) fun x =>
    if x.dbg && x.stepping && x.steps = 0 then
      { x with stepping := false
               st := if x.st = .blocked || x.st = .waiting then .issuing else x.st
               req := none }
    else x

end Sys2Proof.Machine
end

