-- ==== Sys2Proof/Machine/CoreCtl.lean ====
section
/-! DEFINITION. The core-control commands (R146, R147, R150 to R152, R389), which the core-control ring of a die and the TAP
reach. -/

namespace Sys2Proof.Machine

open Sys2Proof

/-- A thread is held by the debugger and not stepping. -/
def Thread.stopped (x : Thread) : Bool := x.dbg && !x.stepping

/-- A thread stops for the debugger: a blocked or waiting instruction is executed again on resume (R151). -/
def Thread.debugStop (x : Thread) : Thread :=
  { x with dbg := true, stepping := false, req := none
           st := if x.st = .blocked || x.st = .waiting then .issuing else x.st }

/-- A debug-stopped thread goes on; a repeat whose count is 0 ends here, and PC passes its instruction (R205). -/
def Thread.goOn (x : Thread) : Thread :=
  if x.rep && x.cnt = 0 then { x with rep := false, pc := (x.pc + 1) % 65536 } else x

/-- THREAD_READ of a register index (R150). -/
def Thread.debugRead (x : Thread) (i : Nat) : Nat :=
  match i with
  | 32 => x.pc
  | 33 => x.cnt.toNat
  | 34 => x.fl
  | 35 => x.dcv.toNat
  | 36 => x.tst.toNat
  | 37 => x.timer.toNat
  | 38 => x.rsetLo.toNat
  | 39 => x.rsetHi
  | i => (x.get i).toNat

/-- THREAD_WRITE of a register index (R150); a write of PC ends a repeat (R205). -/
def Thread.debugWrite (x : Thread) (i v : Nat) : Thread :=
  match i with
  | 32 => { x with pc := v % 65536, rep := false }
  | 33 => x.putSys 0 (w36 v) false
  | 34 => x.putSys 1 (w36 v) false
  | 35 => x.putSys 2 (w36 v) false
  | 36 => x.putSys 3 (w36 v) false
  | 37 => x.putSys 6 (w36 v) false
  | 38 => x.putSys 7 (w36 v) false
  | 39 => x.putSys 8 (w36 v) false
  | i => x.put i (w36 v)

/-- A core-control command: what it asks, from a descriptor (R389) or the TAP (R475). -/
structure CoreCmd where
  op : Nat
  core : Nat
  thr : Nat
  reg : Nat
  val : Nat
deriving DecidableEq, Repr

/-- The command of a core-control descriptor (R389). -/
def RCmd.coreCmd (c : RCmd) : CoreCmd :=
  { op := c.op, core := bits c.d0 8 6, thr := bits c.d0 14 6, reg := bits c.d0 20 6, val := bits c.d2 0 36 }

/-- What is malformed in a core-control command (R150, R389). -/
def State.coreMalformed (s : State) (d : Nat) (c : CoreCmd) : Bool :=
  c.op = 0 || 9 < c.op || 48 ≤ c.core || s.checker d c.core || 16 ≤ c.thr || (c.op < 3 && c.thr ≠ 0) ||
  (if 8 ≤ c.op then decide (40 ≤ c.reg) else decide (c.reg ≠ 0)) ||
  (if c.op = 5 then decide (c.val = 0 || 65536 ≤ c.val) else if c.op = 9 then false else decide (c.val ≠ 0))

/-- The state in which a command on a thread is legal (R150). -/
def State.threadLegal (s : State) (d : Nat) (c : CoreCmd) : Bool :=
  let x := s.thr d (c.core * 16 + c.thr)
  let live := x.role ≠ 0 && x.st ≠ .parked
  match c.op with
  | 3 => ((s.core d c.core).run = .running || (s.core d c.core).run = .debug) && live && x.st ≠ .faulted && !x.stopped
  | 7 => live
  | _ => x.stopped

/-- A legal command on a thread (R150 to R152): the state, and C1 of the completion. -/
def State.threadCmd (s : State) (d : Nat) (c : CoreCmd) : State × Nat :=
  let k := c.core * 16 + c.thr
  let x := s.thr d k
  match c.op with
  | 3 => ((s.setThr d k x.debugStop).debugState d c.core, 0)
  | 4 => ((s.setThr d k { x.goOn with dbg := false, stepping := false }).debugState d c.core, 0)
  | 5 => (s.setThr d k { x.goOn with stepping := true, steps := c.val }, 0)
  | 6 =>
    let s := s.disposeThr d k
    ((s.modThr d k fun y => { y with st := .parked, op := none, dbg := false, stepping := false }).debugState d c.core, 0)
  | 7 => (s.setThr d k { x with dbgLatch := true }, 0)
  | 8 => (s, x.debugRead c.reg)
  | _ => (s.setThr d k (x.debugWrite c.reg c.val), 0)

/-- A core-control command with its checks in the order MALFORMED, DENIED, STATE (R150, R383): state, code, C1. -/
def State.coreCtl (s : State) (d : Nat) (c : CoreCmd) : State × Nat × Nat :=
  if s.coreMalformed d c then (s, cMALFORMED, 0)
  else if 3 ≤ c.op && !bit s.scope 0 then (s, cDENIED, 0)
  else if c.op = 1 then ((s.coreStopCmd d c.core).1, (s.coreStopCmd d c.core).2, 0)
  else if c.op = 2 then ((s.coreRestartCmd d c.core).1, (s.coreRestartCmd d c.core).2, 0)
  else if s.threadLegal d c then
    let r := s.threadCmd d c
    (r.1, cDONE, r.2)
  else (s, cSTATE, 0)

/-- Die of a command in the DBG register (R475). -/
def dbgDie (v : Nat) : Nat := bits v 26 3

/-- The core-control command in the DBG register (R475). -/
def dbgCmd (v : Nat) : CoreCmd :=
  { op := bits v 0 8, core := bits v 8 6, thr := bits v 14 6, reg := bits v 20 6, val := bits v 32 36 }

/-- A command of the TAP whose turn has come is applied; a die that the variant lacks, or a nonzero reserved bit, is
MALFORMED (R475). -/
def State.tapRun (s : State) : State :=
  match s.tap.dbg with
  | some (v, 0) =>
    let r := if !s.has (dbgDie v) || bits v 29 3 ≠ 0 || bits v 68 28 ≠ 0 then (s, cMALFORMED, 0)
      else s.coreCtl (dbgDie v) (dbgCmd v)
    { r.1 with tap := { s.tap with dbg := none, code := r.2.1, value := r.2.2 } }
  | _ => s

/-- Commands of ring 3 of a die have ended, and the TAP's command there moves up (R475). -/
def State.tapTurn (s : State) (d ended : Nat) : State :=
  match s.tap.dbg with
  | some (v, n) => if dbgDie v = d then { s with tap := { s.tap with dbg := some (v, n - ended) } }.tapRun else s
  | none => s

/-- The core-control ring runs its head command, when it has this code (R386). -/
def State.coreRing (s : State) (d op : Nat) : State :=
  match s.ringCmd d 3 with
  | some c =>
    if c.op = op then
      let r := if bits c.d0 26 6 ≠ 0 || c.d1 ≠ 0 || 2 ^ 36 ≤ c.d2 || c.d3 ≠ 0 then (s, cMALFORMED, 0) else s.coreCtl d c.coreCmd
      let t := r.1.ringDone d 3 r.2.1 0 r.2.2
      (t.tapTurn d ((s.ring d 3).cmds.length - (t.ring d 3).cmds.length)).settle d
    else s
  | none => s

/-- CORE_STOP (R146, R150). -/
def execCoreStop (d : Nat) (s : State) : Res := onDie s d fun s => s.coreRing d 1

/-- CORE_RESTART (R147). -/
def execCoreRestart (d : Nat) (s : State) : Res := onDie s d fun s => s.coreRing d 2

/-- THREAD_STOP (R151). -/
def execThreadStop (d : Nat) (s : State) : Res := onDie s d fun s => s.coreRing d 3

/-- THREAD_RESUME (R150). -/
def execThreadResume (d : Nat) (s : State) : Res := onDie s d fun s => s.coreRing d 4

/-- THREAD_STEP (R150). -/
def execThreadStep (d : Nat) (s : State) : Res := onDie s d fun s => s.coreRing d 5

/-- THREAD_ABANDON (R152). -/
def execThreadAbandon (d : Nat) (s : State) : Res := onDie s d fun s => s.coreRing d 6

/-- THREAD_SIGNAL (R133, R150). -/
def execThreadSignal (d : Nat) (s : State) : Res := onDie s d fun s => s.coreRing d 7

/-- THREAD_READ (R150). -/
def execThreadRead (d : Nat) (s : State) : Res := onDie s d fun s => s.coreRing d 8

/-- THREAD_WRITE (R150). -/
def execThreadWrite (d : Nat) (s : State) : Res := onDie s d fun s => s.coreRing d 9

/-- The end of DEBUG scope resumes every debug-stopped thread of a die (R414). -/
def State.resumeAll (s : State) (d : Nat) : State :=
  (List.range 48).foldl (fun s c =>
    ((coreThreads c).foldl (fun s k =>
      if (s.thr d k).dbg then s.modThr d k fun x => { x.goOn with dbg := false, stepping := false } else s) s).debugState d c) s

end Sys2Proof.Machine
end

