-- ==== Sys2Proof/Machine/Ecc.lean ====
section
/-! DEFINITION. The DRAM's Reed-Solomon code over GF(2^8) and its decoding (R350 to R356). The model holds a granule as the
bytes that the encoder was given and, apart from them, the damage of each codeword; a granule's syndrome is then the syndrome
of its damage, and of the poison mark when it was written as poison. -/

namespace Sys2Proof.Machine

open Sys2Proof

/-- x times a field element (R352: x^8 + x^4 + x^3 + x^2 + 1). -/
def gfX (a : Nat) : Nat := if a < 128 then 2 * a else (2 * a) ^^^ 0x11D

/-- Product in GF(2^8). -/
def gfMul (a b : Nat) : Nat :=
  ((List.range 8).foldl (fun (p : Nat × Nat) i => (if bit b i then p.1 ^^^ p.2 else p.1, gfX p.2)) (0, a)).1

/-- α^n. -/
def gfPow : Nat → Nat
  | 0 => 1
  | n + 1 => gfX (gfPow n)

/-- Inverse in GF(2^8): a^254. -/
def gfInv (a : Nat) : Nat :=
  let a2 := gfMul a a
  let a4 := gfMul a2 a2
  let a8 := gfMul a4 a4
  let a16 := gfMul a8 a8
  let a32 := gfMul a16 a16
  let a64 := gfMul a32 a32
  let a128 := gfMul a64 a64
  gfMul a128 (gfMul a64 (gfMul a32 (gfMul a16 (gfMul a8 (gfMul a4 a2)))))

/-- The symbol at position p of a word of 20 symbols. -/
def symAt (e p : Nat) : Nat := bits e (8 * p) 8

/-- Syndromes S_0 to S_3 of a word: its values at α^0 to α^3 (R352). -/
def syndrome (e : Nat) : List Nat :=
  (List.range 4).map fun j => (List.range 20).foldl (fun a p => a ^^^ gfMul (symAt e p) (gfPow (j * p))) 0

/-- The check symbols of the poison mark, as a word (R356). -/
def poisonWord : Nat := 0x5A963CA5

/-- What a codeword decodes to (R353, R355): the word of errors that the decoder removes, with how many symbols. -/
inductive Codeword where
  | clean
  | corrected (e : Nat) (n : Nat)
  | poison
  | bad
deriving DecidableEq, Repr

/-- The error of one symbol at p and another at q with the first two syndromes, when the other two agree. -/
def solvePair (s : List Nat) (p q : Nat) : Option Nat :=
  let s0 := s.getD 0 0
  let s1 := s.getD 1 0
  let eq := gfMul (s1 ^^^ gfMul s0 (gfPow p)) (gfInv (gfPow p ^^^ gfPow q))
  let ep := s0 ^^^ eq
  let e := ep * 256 ^ p + eq * 256 ^ q
  if ep ≠ 0 && eq ≠ 0 && syndrome e = s then some e else none

/-- Decode by syndrome (R353): one symbol in either mode, two under C2 only. -/
def decodeSyndrome (mode : Nat) (s : List Nat) : Codeword :=
  if s = [0, 0, 0, 0] then .clean
  else if s = syndrome poisonWord then .poison
  else
    let s0 := s.getD 0 0
    match (List.range 20).find? (fun p => syndrome (s0 * 256 ^ p) = s) with
    | some p => .corrected (s0 * 256 ^ p) 1
    | none =>
      if mode = 0 then
        match (List.range 20).findSome? (fun p =>
            ((List.range 20).filter (p < ·)).findSome? fun q => solvePair s p q) with
        | some e => .corrected e 2
        | none => .bad
      else .bad

/-- The device of a symbol position (R352). -/
def symDevice (p : Nat) : Nat :=
  if p < 4 then [8, 9, 18, 19].getD p 0 else if p < 12 then p - 4 else p - 2

/-- The bits that a word of symbol errors inverts in the byte i of the codeword's 16 (R350, R351). -/
def errByte (e i : Nat) : Nat :=
  let beat := i / 8
  let lo := symAt e (4 + 2 * (i % 8))
  let hi := symAt e (5 + 2 * (i % 8))
  bits lo (4 * beat) 4 + bits hi (4 * beat) 4 * 16

/-- How bad an outcome is, in the order of the table of R355. -/
def Codeword.rank : Codeword → Nat
  | .clean => 0
  | .corrected _ _ => 1
  | .poison => 2
  | .bad => 3

/-- The errors removed. -/
def Codeword.err : Codeword → Nat
  | .corrected e _ => e
  | _ => 0

/-- How many symbols were corrected. -/
def Codeword.symbols : Codeword → Nat
  | .corrected _ n => n
  | _ => 0

/-- A decoded granule (R355): 0 CLEAN, 1 CORRECTED, 2 POISON, 3 UNCORRECTABLE; the data; the codewords corrected; the errors
removed by codeword; and the most symbols corrected in one codeword. -/
structure Decoded where
  outcome : Nat
  data : List Byte
  words : Nat := 0
  fixes : List Nat := []
  symbols : Nat := 0
deriving DecidableEq, Repr

/-- Decode the granule at a location from what was written and its damage. The poison mark's syndrome is the same in either
mode (R356); other data of another mode does not decode (log entry 28). -/
def decodeGranule (x : Dram) (mode l : Nat) : Decoded :=
  let isPoison := x.poison.contains l
  let stored := if isPoison then List.replicate 128 0 else Memory.readBytes x.mem (128 * l) 128
  let errs := (List.range 8).map fun k => sgetD x.dmg (8 * l + k) 0
  let words := errs.map fun e =>
    if sgetD x.coded l mode ≠ mode && !isPoison then Codeword.bad
    else decodeSyndrome mode (syndrome (if isPoison then e ^^^ poisonWord else e))
  let fix := words.map Codeword.err
  let ns := words.map Codeword.symbols
  let outcome : Nat := (words.map Codeword.rank).foldl max 0
  let remove := if outcome = 1 then fix else List.replicate 8 0
  let data := (List.range 128).map fun i =>
    let e := errs.getD (i / 16) 0 ^^^ remove.getD (i / 16) 0
    (stored.getD i 0) ^^^ BitVec.ofNat 8 (errByte e (i % 16))
  { outcome := outcome, data := data, words := (ns.filter (0 < ·)).length, fixes := fix, symbols := ns.foldl max 0 }

/-- How many codewords of a granule had a symbol of device j corrected. -/
def Decoded.deviceCount (r : Decoded) (j : Nat) : Nat :=
  (r.fixes.filter fun e => (List.range 20).any fun p => symDevice p = j && symAt e p ≠ 0).length

/-- The device with the most corrected symbols, the lowest-numbered on a tie (R369). -/
def Decoded.device (r : Decoded) : Nat :=
  (List.range 20).foldl (fun m j => if r.deviceCount m < r.deviceCount j then j else m) 0

end Sys2Proof.Machine
end

