-- ==== Sys2Proof/Machine/Dram.lean ====
section
/-! DEFINITION. The DDR5 controller (R323 to R349) and the DRAM side of the bolter (R355, R364 to R371). -/

namespace Sys2Proof.Machine

open Sys2Proof

/-! ### Geometry (R325 to R328) -/

/-- Ranks fitted: DMC.GEOM.RANKS. -/
def State.ranks (s : State) (d : Nat) : Nat := s.fld d .dmcGeom [] 0 2

/-- Number of address bits below the capacity (R325). -/
def State.dramWidth (s : State) (d : Nat) : Nat :=
  35 + s.fld d .dmcGeom [] 2 1 + (if s.ranks d = 2 then 1 else 0)

/-- Bytes of DRAM on a die (R325). -/
def State.capacity (s : State) (d : Nat) : Nat := if s.ranks d = 0 then 0 else 2 ^ s.dramWidth d

/-- The parity of a number below 2^40. -/
def parity (n : Nat) : Nat := (maskList n 40).length % 2

/-- Natural bits of RANK, BG0 to BG2, BA0 and BA1, in the order of the mask registers (R326). -/
def State.naturalBits (s : State) (d : Nat) : List Nat := [s.dramWidth d - 1, 7, 8, 9, 17, 18]

/-- A mask meets R328: mask i of RANK, BG0 to BG2, BA0 and BA1. -/
def State.maskOk (s : State) (d i m : Nat) : Bool :=
  if i = 0 && s.ranks d ≠ 2 then m = 0
  else
    let own := (s.naturalBits d).getD i 0
    let others := ((s.naturalBits d).eraseIdx i).filter fun b => s.ranks d = 2 || b ≠ s.dramWidth d - 1
    bit m own && others.all (fun b => !bit m b) && m % 128 = 0 && m < 2 ^ s.dramWidth d
      && (maskList m 40).length ≤ 8

/-- A mask in force. -/
def State.mapMask (s : State) (d i : Nat) : Nat := s.reg d .dmcMapHi [i] * 2 ^ 32 + s.reg d .dmcMapLo [i]

/-- Every mask meets R328 under the present geometry. -/
def State.masksOk (s : State) (d : Nat) : Bool := (List.range 6).all fun i => s.maskOk d i (s.mapMask d i)

/-- Rank, bank group × 4 + bank, and row of an address (R326, R327). -/
def State.dramPlace (s : State) (d a : Nat) : Nat × Nat × Nat :=
  let p := fun i => parity (a &&& s.mapMask d i)
  (if s.ranks d = 2 then p 0 else 0,
    (p 1 + 2 * p 2 + 4 * p 3) * 4 + p 4 + 2 * p 5, bits a 19 (16 + s.fld d .dmcGeom [] 2 1))

/-- Column of an address: C[10:4] from its bits [16:10], C[3:0] 0 (R326). -/
def dramColumn (a : Nat) : Nat := 16 * bits a 10 7

/-- Location of a granule in the devices (R326, R327): rank, row, bank, column and bank group, from the top. -/
def State.dramLoc (s : State) (d g : Nat) : Nat :=
  let (r, bk, row) := s.dramPlace d (128 * g)
  r * 2 ^ 29 + row * 2 ^ 12 + bk % 4 * 2 ^ 10 + dramColumn (128 * g) / 16 * 8 + bk / 4

/-- The granule that lies at a location: the mapping is one-to-one under R328, so each bank-select bit gives its natural bit. -/
def State.dramGranule (s : State) (d l : Nat) : Nat :=
  let low := bits l 12 17 * 2 ^ 12 + bits l 3 7 * 8
  let nat_ := fun i sel => (sel + parity (128 * low &&& s.mapMask d i)) % 2
  low + nat_ 1 (bits l 0 1) + nat_ 2 (bits l 1 1) * 2 + nat_ 3 (bits l 2 1) * 4 + nat_ 4 (bits l 10 1) * 2 ^ 10
    + nat_ 5 (bits l 11 1) * 2 ^ 11 + (if s.ranks d = 2 then nat_ 0 (bits l 29 1) * 2 ^ (s.dramWidth d - 8) else 0)

/-! ### Who asserts PANIC (R320, R341, R438) -/

/-- Cells that a queue's read-ahead holds. -/
def Queue.ahead (x : Queue) : Nat := ((x.entries.filter (·.back)).map fun e => e.cells - e.spill.length).sum

/-- DMC.PANIC_EN.EGRESS: an RT read-ahead may raise panic (R341). -/
def State.egressPanicOn (s : State) (d : Nat) : Bool := s.fld d .dmcPanicEn [] 0 1 = 1

/-- The read-ahead of an RT queue holds fewer than EGR.WEIR.LEVEL cells (R320), and DMC.PANIC_EN does not turn its panic off
(R341). -/
def State.aheadPanic (s : State) (d q : Nat) : Bool :=
  s.egressPanicOn d && bit (s.reg d .egrQCfg [q]) 5 &&
    decide ((sgetD (s.die d).egr.queues q {}).ahead < max 1 (s.fld d .egrWeir [] 0 6))

/-- The read-ahead of some spilling RT queue asserts PANIC. -/
def State.egressPanic (s : State) (d : Nat) : Bool :=
  (s.die d).egr.queues.any fun p => p.2.spilling && s.aheadPanic d p.1

/-- The sample writer asserts PANIC (R438). -/
def State.samplePanic (s : State) (d : Nat) : Bool :=
  let level := max 1 (s.fld d .tlySmpWeir [] 0 10)
  !bit (s.reg d .tlySmpRing []) 5 && bit (s.reg d .dmcPanicEn []) 1 &&
    (48 ≤ (s.die d).tly.tagQueue.length || (List.range 48).any fun c => level ≤ (sgetD (s.die d).cores c {}).ring.length)

/-- Some requester asserts PANIC (R341). -/
def State.anyPanic (s : State) (d : Nat) : Bool :=
  s.egressPanic d || s.samplePanic d || (s.die d).dram.queue.any fun q => q.panic

/-- Whether a requester's panic is turned on (R341): 1 the RT read-ahead of egress, 5 the sample writer. -/
def State.panicOf (s : State) (d who : Nat) (panic : Bool) : Bool :=
  panic && ((who = 1 && s.egressPanicOn d) || (who = 5 && s.fld d .dmcPanicEn [] 1 1 = 1))

/-! ### Refresh counts (R335, R336) -/

/-- tREFI of a rank in ns. -/
def Dram.trefi (m : Dram) (r : Nat) : Nat := if m.rate2x.contains r then 1950 else 3900

/-- Owed count of bank index b of rank r. -/
def Dram.owes (m : Dram) (r b : Nat) : Nat := sgetD m.owed (r * 4 + b) 0

/-- A rank's debt (R335). -/
def Dram.debt (m : Dram) (r : Nat) : Nat := ((List.range 4).map (m.owes r)).foldl max 0

/-- The index with the highest owed count, then the lowest, among some. -/
def Dram.mostOwed (m : Dram) (r : Nat) (bs : List Nat) : Option Nat :=
  bs.foldl (fun x b => match x with
    | none => some b
    | some c => if m.owes r c < m.owes r b then some b else x) none

/-- The index of a rank whose refresh is forced: above 3 units of debt, the one that owes most (R336). -/
def Dram.forcedIndex (m : Dram) (r : Nat) : Option Nat := if 3 < m.debt r then m.mostOwed r (List.range 4) else none

/-! ### Requests: their order and the banks (R325, R329, R332, R333, R336, R339) -/

/-- An address that the controller serves or holds; any other access is a silent violation (R325). -/
def State.dramOk (s : State) (d a : Nat) : Bool :=
  a < s.capacity d && ((s.die d).dram.trained || (s.die d).dram.st = .training)

/-- A request reaches the controller (R343, R344): besides what a command does, it has self-refresh left and is counted as
SR_LATE, a unit's read of a granule once however often the unit asks. -/
def State.dramTouch (s : State) (d : Nat) (ask : Option Nat := none) : State :=
  let s := s.dramStir d
  let m := (s.die d).dram
  if m.st = .selfRefresh then
    let s := s.modDram d fun m => { m with wake := true, late := m.late ++ ask.toList }
    if ask.toList.any m.late.contains then s else s.count d ctrDMC 10
  else s

/-- PANIC is asserted (R343, R344): the idle count does not run, and the devices leave self-refresh. -/
def State.dramPanic (s : State) (d : Nat) : State :=
  let s := s.dramStir d
  let m := (s.die d).dram
  if m.st = .selfRefresh && !m.wake then (s.modDram d fun m => { m with wake := true }).count d ctrDMC 10 else s

/-- The granule of a request. -/
def DramReq.granule (q : DramReq) : Nat := q.addr / 128

/-- An access to an address meets its row open. -/
def State.rowOpen (s : State) (d a : Nat) : Bool :=
  let (r, bk, row) := s.dramPlace d a
  sget (s.die d).dram.rows (r * 32 + bk) = some row

/-- The state and the bank let a request be served (R329, R335, R336, R339): no REFsb holds the bank; in ACTIVE a normal request
starts no new activation on an index that is being forced; in REFRESH_URGENT panic requests alone are served. -/
def State.bankFree (s : State) (d a : Nat) (panic : Bool) : Bool :=
  let m := (s.die d).dram
  let (r, bk, _) := s.dramPlace d a
  sgetD m.busyTo (r * 4 + bk % 4) 0 ≤ s.now &&
    ((m.st = .urgent && panic) || (m.st = .active && (panic || s.rowOpen d a || m.forcedIndex r ≠ some (bk % 4))))

/-- SET_DELAY holds the data of a request that has been served (R448). -/
def State.dataHeld (s : State) (d : Nat) (q : DramReq) : Bool :=
  q.write.isNone && !q.mark && q.bar.isNone && (match s.heldItem d 1 q.who q.addr with | some e => !e.gone | none => false)

/-- The first request of each granule, in the order of acceptance: requests to one granule keep that order (R332). -/
def firstOfEach : List DramReq → List DramReq → List DramReq
  | _, [] => []
  | before, q :: qs =>
    (if before.any fun x => x.granule = q.granule then [] else [q]) ++ firstOfEach (q :: before) qs

/-- The requests that may be served next, each the first of its granule. -/
def State.dramHeads (s : State) (d : Nat) : List DramReq :=
  (firstOfEach [] (s.die d).dram.queue).filter fun q => !s.dataHeld d q

/-- A request is of the panic class, or one that was accepted later for its granule is, which cannot be served before it (log
entry 91). -/
def State.pressing (s : State) (d : Nat) (q : DramReq) : Bool :=
  (s.die d).dram.queue.any fun x => x.panic && x.granule = q.granule

/-- A panic request that the controller can serve now. -/
def State.panicReady (s : State) (d : Nat) : Option DramReq :=
  (s.dramHeads d).find? fun q => s.pressing d q && s.bankFree d q.addr true

/-- AGE_MAX in ns (R333). -/
def State.ageMax (s : State) (d : Nat) : Nat := max 16 (s.fld d .dmcSched [] 0 16)

/-- The queued request that the controller serves next (R333, R339): the oldest panic request whose bank is free; with none
waiting, in ACTIVE, the oldest request older than AGE_MAX; then one to an open row; then the oldest. -/
def State.dramNext (s : State) (d : Nat) : Option DramReq :=
  let hs := s.dramHeads d
  match s.panicReady d with
  | some q => some q
  | none =>
    if hs.any (s.pressing d) then none
    else
      let free := hs.filter fun q => s.bankFree d q.addr false
      match hs.find? fun q => q.at_ + s.ageMax d < s.now with
      | some q => if s.bankFree d q.addr false then some q else none
      | none => (free.find? fun q => s.rowOpen d q.addr).or free.head?

/-- The controller serves a new request of a unit at once: no rule places a queued request before it, its bank is free, and none
waits for its granule (R332, R333). -/
def State.dramNow (s : State) (d a : Nat) (panic : Bool) : Bool :=
  let hs := s.dramHeads d
  s.bankFree d a panic && !((s.die d).dram.queue.any fun q => q.granule = a / 128) && (s.panicReady d).isNone &&
    (panic || (!hs.any (s.pressing d) && !(hs.any fun q => q.at_ + s.ageMax d < s.now) &&
      (s.rowOpen d a || !(hs.any fun q => s.rowOpen d q.addr && s.bankFree d q.addr false))))

/-- The controller would hold a request of a unit. -/
def State.dramHolds (s : State) (d a : Nat) (panic : Bool) : Bool := s.dramOk d a && !s.dramNow d a panic

/-! ### Granules (R332, R349, R352 to R356, R366) -/

/-- An access opens its row and is a hit or a miss (R349). -/
def State.dramRow (s : State) (d a : Nat) (panic : Bool) : State :=
  let (r, bk, row) := s.dramPlace d a
  let s := if panic then s.count d ctrDMC 2 else s
  if s.rowOpen d a then s.count d ctrDMC 3
  else (s.modDram d fun m => { m with rows := sset m.rows (r * 32 + bk) row }).count d ctrDMC 4

/-- Mode of the code: ECC.CFG.MODE (R353). -/
def State.eccMode (s : State) (d : Nat) : Nat := s.fld d .eccCfg [] 0 1

/-- Writes to a granule cancel the bolter's and the demand reads' writes of it (R366). -/
def State.boltCancel (s : State) (d g : Nat) : State :=
  let n := ((s.die d).dram.bolts.filter (·.granule = g)).length
  if n = 0 then s
  else (s.modDram d fun m => { m with bolts := m.bolts.filter (·.granule ≠ g) }).count d ctrECC 8 n

/-- Fresh check bits for the granule at a location. -/
def Dram.fresh (m : Dram) (l mode : Nat) : Dram :=
  { m with
    dmg := (List.range 8).foldl (fun x k => sdel x (8 * l + k)) m.dmg
    poison := unmark m.poison l, coded := sset m.coded l mode }

/-- A whole granule is written with fresh check bits (R352, R360). -/
def State.granuleWrite (s : State) (d g : Nat) (bytes : List Byte) : State :=
  let mode := s.eccMode d
  let l := s.dramLoc d g
  (s.modDram d fun m =>
    let m := m.fresh l mode
    { m with mem := Memory.writeBytes m.mem (128 * l) bytes }).count d ctrDMC 1

/-- A granule is written as poison (R356). -/
def State.granulePoison (s : State) (d g : Nat) : State :=
  let mode := s.eccMode d
  let l := s.dramLoc d g
  (s.modDram d fun m =>
    let m := m.fresh l mode
    { m with poison := mark m.poison l, mem := Memory.writeBytes m.mem (128 * l) (List.replicate 128 0) }).count d
      ctrDMC 1

/-- Corrected symbols of a granule are counted by device (R370). -/
def State.deviceCounts (s : State) (d rank : Nat) (r : Decoded) : State :=
  (List.range 20).foldl (fun s j =>
    let n := r.deviceCount j
    if n = 0 then s
    else
      let old := s.reg d .eccDevCe [20 * rank + j]
      let new := min 65535 (old + n)
      let level := max 1 (s.fld d .eccDevWarn [] 0 16)
      let s := s.setReg d .eccDevCe [20 * rank + j] new
      if old < level && level ≤ new then s.event d .ecc 2 else s) s

/-- A granule is read and decoded (R355), with the counts and records of R369 to R372 and the writes of R366 that follow:
a demand correction goes to the revisit queue (R368). -/
def State.granuleRead (s : State) (d g : Nat) (demand : Bool) : State × Decoded :=
  let r := decodeGranule (s.die d).dram (s.eccMode d) (s.dramLoc d g)
  let rank := (s.dramPlace d (128 * g)).1
  let s := s.count d ctrDMC 0
  if r.outcome = 0 then (s, r)
  else if r.outcome = 1 then
    let s := (s.count d ctrECC 0 r.words).deviceCounts d rank r
    let s := s.errRecord d { addr := 128 * g, store := 0, kind := 0, demand := demand, rank := rank, device := r.device,
                             symbols := r.symbols }
    if demand then
      let q := (s.die d).dram.revisit
      if q.contains g then (s, r)
      else if q.length < 16 then (s.modDram d fun m => { m with revisit := m.revisit ++ [g] }, r)
      else (s.count d ctrECC 10, r)
    else
      (s.modDram d fun m => { m with bolts := m.bolts.filter (·.granule ≠ g) ++ [⟨g, some r.data, true⟩] }, r)
  else if r.outcome = 2 then (s.count d ctrECC 2, r)
  else
    let s := (s.count d ctrECC 1).errRecord d
      { addr := 128 * g, store := 0, kind := 1, demand := demand, rank := rank }
    ((s.event d .ecc 0).modDram d fun m =>
      { m with bolts := m.bolts.filter (·.granule ≠ g) ++ [⟨g, none, !demand⟩] }, r)

/-- One write of R366. -/
def State.boltWrite (s : State) (d : Nat) (b : BoltWrite) : State :=
  let s := s.dramRow d (128 * b.granule) false
  let s := match b.data with
    | some bytes => s.granuleWrite d b.granule bytes
    | none => s.granulePoison d b.granule
  if b.bolter then s.count d ctrECC 7 else s

/-- The writes of R366 that no later write has cancelled go out as the controller serves them. -/
def State.boltFlush (s : State) (d : Nat) : State :=
  (s.die d).dram.bolts.foldl (fun s b =>
    if s.dramNow d (128 * b.granule) false then
      (s.modDram d fun m => { m with bolts := m.bolts.erase b }).boltWrite d b
    else s) s

/-- Bytes are written within one granule: a whole granule, or a read-modify-write, which writes poison when the granule is
poisoned or uncorrectable (R332, R356, R360). -/
def State.dramPut (s : State) (d a : Nat) (bytes : List Byte) (panic : Bool) : State :=
  let g := a / 128
  let s := s.dramRow d a panic
  if bytes.length = 128 then s.granuleWrite d g bytes
  else
    let (s, r) := s.granuleRead d g true
    let s := s.modDram d fun m => { m with bolts := m.bolts.filter (·.granule ≠ g) }
    if 2 ≤ r.outcome then s.granulePoison d g
    else s.granuleWrite d g (r.data.take (a % 128) ++ bytes ++ r.data.drop (a % 128 + bytes.length))

/-- A granule of a held host read comes; with the last one the read completes, with EP and zeros for a poisoned granule (R363). -/
def State.barPart (s : State) (d id i : Nat) (bytes : List Byte) (poison : Bool) : State :=
  match (s.die d).dram.bars.find? (·.id = id) with
  | none => s
  | some b =>
    let parts := sset b.parts i (if poison then List.replicate 128 0 else bytes, poison)
    if parts.length < b.granules then
      s.modDram d fun m => { m with bars := m.bars.map fun x => if x.id = id then { x with parts := parts } else x }
    else
      let ep := parts.any fun p => p.2.2
      let s := s.modDram d fun m => { m with bars := m.bars.erase b }
      let s := s.emit (.readBytes (((parts.flatMap fun p => p.2.1).drop b.off).take b.n) ep)
      if ep then (s.count d ctrECC 13).event d .ecc 6 else s

/-- A queued read is served: its data returns to the requester (R355); poisoned data carries its mark. -/
def State.dramAnswer (s : State) (d : Nat) (q : DramReq) : State :=
  let (s, r) := (s.dramRow d q.addr q.panic).granuleRead d q.granule true
  match q.bar with
  | some (id, i) => s.barPart d id i r.data (2 ≤ r.outcome)
  | none => s.emit (.dramData d q.who q.addr r.data (2 ≤ r.outcome))

/-- A queued request is served. -/
def State.dramServe (s : State) (d : Nat) (q : DramReq) : State :=
  let s := s.modDram d fun m => { m with queue := m.queue.erase q, idleSince := s.now }
  if q.mark then (s.dramRow d q.addr q.panic).granulePoison d q.granule
  else match q.write with
    | some bytes => s.dramPut d q.addr bytes q.panic
    | none => s.dramAnswer d q

/-- Serve queued writes while the controller's next request is one. -/
def State.drainGo (s : State) (d : Nat) : Nat → State
  | 0 => s
  | n + 1 =>
    match s.dramNext d with
    | some q => if q.write.isSome || q.mark then (s.dramServe d q).drainGo d n else s
    | none => s

/-- The queued writes that the controller can serve go to the devices; reads wait for DRAM_READ_RETURN. -/
def State.dramDrain (s : State) (d : Nat) : State := s.drainGo d (s.die d).dram.queue.length

/-- A request is accepted (R332); an accepted write cancels the bolter's writes of its granule (R366). -/
def State.dramAccept (s : State) (d : Nat) (q : DramReq) : State :=
  let s := s.dramTouch d
  let s := if q.write.isSome || q.mark then s.boltCancel d q.granule else s
  (s.modDram d fun m => { m with queue := m.queue ++ [q] }).dramDrain d

/-- A posted write (R334) is accepted, and is served at once where no rule holds it. -/
def State.dramPost (s : State) (d : Nat) (q : DramReq) : State :=
  if !s.dramOk d q.addr then s.violation d
  else if ((s.dramTouch d).dramNow d q.addr q.panic) then (((s.dramTouch d).boltCancel d q.granule)).dramServe d q
  else s.dramAccept d q

/-- A unit of the part reads a granule: `none` while the controller holds the request, or SET_DELAY holds the data of the
requester `gate` (R448); zeros and no poison beyond the capacity (R325). -/
def State.dramFetch (s : State) (d a : Nat) (panic : Bool := false) (gate : Option Nat := none) :
    State × Option (List Byte × Bool) :=
  if !s.dramOk d a then (s.violation d, some (List.replicate 128 0, false))
  else
    let s := s.dramTouch d (some (a / 128))
    if s.dramNow d a panic then
      let (s, go) := match gate with
        | some who => s.delayGate d 1 who a
        | none => (s, true)
      if go then
        let (s, r) := (s.dramRow d a panic).granuleRead d (a / 128) true
        (s, some (r.data, 2 ≤ r.outcome))
      else (s, none)
    else (s, none)

/-- A unit of the part writes bytes within a granule. -/
def State.dramStore (s : State) (d a : Nat) (bytes : List Byte) (panic : Bool := false) : State :=
  s.dramPost d { who := 0, panic := panic, addr := a, write := some bytes, at_ := s.now }

/-- A unit of the part writes a granule as poison (R359). -/
def State.dramStorePoison (s : State) (d a : Nat) : State :=
  s.dramPost d { who := 0, panic := false, addr := a, mark := true, at_ := s.now }

/-! ### Refresh (R335 to R340) -/

/-- REFRESH_URGENT ends when no owed count is above 4 (R339). -/
def State.urgentEnd (s : State) (d : Nat) : State :=
  let m := (s.die d).dram
  if m.st = .urgent && (List.range (s.ranks d)).all (fun r => m.debt r ≤ 4) then
    (s.modDram d fun m => { m with st := if m.urgentMaint then .maint else .active, idleSince := s.now }).dramDrain d
  else s

/-- Close the rows of a rank's bank index, or of a whole rank. -/
def Dram.closeRows (m : Dram) (r : Nat) (index : Option Nat) : Dram :=
  { m with rows := m.rows.filter fun p => !(p.1 / 32 = r && (match index with | some b => p.1 % 4 = b | none => true)) }

/-- A REFsb is issued (R335, R449): the index is closed and held for tRFCsb and the stretch of grit. -/
def State.refsb (s : State) (d r b : Nat) (forced : Bool) : State :=
  let hold := s.fld d .dmcTiming1 [] 0 10 + s.fld d .grtStretch [] 0 10
  let s := s.modDram d fun m => { (m.closeRows r (some b)) with
    owed := sset m.owed (r * 4 + b) (m.owes r b - 1)
    busyTo := sset m.busyTo (r * 4 + b) (s.now + hold) }
  let s := ((if forced then s.count d ctrDMC 6 else s).count d ctrDMC 5).emit (.dram d "REFsb" r b)
  s.urgentEnd d

/-- A queued request waits for bank index b of rank r. -/
def State.indexWanted (s : State) (d r b : Nat) (panicOnly : Bool) : Bool :=
  (s.die d).dram.queue.any fun q =>
    let (r', bk, _) := s.dramPlace d q.addr
    r' = r && bk % 4 = b && (s.pressing d q || !panicOnly)

/-- Bank index b of rank r has no row open in any bank group. -/
def Dram.indexIdle (m : Dram) (r b : Nat) : Bool := !m.rows.any fun p => p.1 / 32 = r && p.1 % 4 = b

/-- Refresh runs in ACTIVE, MAINT and REFRESH_URGENT (R340). -/
def Dram.refreshes (m : Dram) : Bool := m.st = .active || m.st = .maint || m.st = .urgent

/-- The most that a rank may owe before its tick: forcing has brought the debt to 3 units or less by then, so a tick never takes
it above 4 (R335, R336); in REFRESH_URGENT an owed count stays within the 8 of DMC.REF_STAT. -/
def Dram.tickLimit (m : Dram) : Nat := if m.st = .urgent then 7 else 3

/-- REFRESH_TICK: once every tREFI each owed count of a rank increases by 1. -/
def execRefreshTick (d r : Nat) (s : State) : Res :=
  onDie s d fun s =>
    let m := (s.die d).dram
    if m.refreshes && r < s.ranks d && sgetD m.tickAt r 0 ≤ s.now && m.debt r ≤ m.tickLimit then
      s.modDram d fun m => { m with
        owed := (List.range 4).foldl (fun o b => sset o (r * 4 + b) (m.owes r b + 1)) m.owed
        tickAt := sset m.tickAt r (sgetD m.tickAt r 0 + m.trefi r) }
    else s

/-- The index that a rank's next REFsb goes to, and whether it is forced: in REFRESH_URGENT back to back where no panic request
waits; above 3 units the forced index, after any panic request that can be served; otherwise an idle index that no request
waits for (R333, R335, R336, R339). None is issued after a change of the rank's rate in the same fabric cycle (R338). -/
def State.refsbIndex (s : State) (d r : Nat) : Option (Nat × Bool) :=
  let m := (s.die d).dram
  let free := (List.range 4).filter fun b => 0 < m.owes r b && sgetD m.busyTo (r * 4 + b) 0 ≤ s.now
  if sget m.chgAt r = some s.now then none
  else if m.st = .urgent then
    (m.mostOwed r (free.filter fun b => 4 < m.owes r b && !s.indexWanted d r b true)).map fun b => (b, false)
  else if (s.panicReady d).isSome then none
  else match m.forcedIndex r with
    | some b => if free.contains b then some (b, true) else none
    | none => (m.mostOwed r (free.filter fun b => m.indexIdle r b && !s.indexWanted d r b false)).map fun b => (b, false)

/-- REFSB_ISSUE: the controller issues a REFsb to an index of a rank. -/
def execRefsbIssue (d r : Nat) (s : State) : Res :=
  onDie s d fun s =>
    if (s.die d).dram.refreshes && r < s.ranks d then
      match s.refsbIndex d r with
      | some (b, forced) => s.refsb d r b forced
      | none => s
    else s

/-- Enter REFRESH_URGENT when a rank's debt is above 4 units (R339): such a rank's open banks are closed. -/
def State.urgentCheck (s : State) (d : Nat) : State :=
  let m := (s.die d).dram
  let over4 := (List.range (s.ranks d)).filter fun r => 4 < m.debt r
  if over4.isEmpty then s
  else
    let s := s.modDram d fun m => over4.foldl (fun m r => m.closeRows r none) m
    if m.st = .active || m.st = .maint then
      ((s.modDram d fun m => { m with st := .urgent, urgentMaint := decide (m.st = .maint) }).count d ctrDMC 7).event d
        .dmc 0
    else s

/-- The reading of a rank's hottest MR4 indication (R337, R338). -/
def State.mr4 (s : State) (d r ind : Nat) : State :=
  let limit := s.fld d .dmcTemp [] 9 3
  let overT := if s.fld d .dmcTemp [] 12 3 = 0 then 7 else s.fld d .dmcTemp [] 12 3
  let s := s.setFld d .dmcTemp [] (3 * r) 3 ind
  let s := if overT ≤ ind then s.event d .dmc 1 else s
  let hot : Bool := limit ≤ ind || overT ≤ ind
  let was := (s.die d).dram.rate2x.contains r
  if hot = was then s
  else
    let s := s.modDram d fun m =>
      let m2 := { m with
        owed := (List.range 4).foldl (fun o b =>
          sset o (r * 4 + b) (if hot then 2 * m.owes r b else ceilDiv (m.owes r b) 2)) m.owed
        rate2x := if hot then mark m.rate2x r else unmark m.rate2x r }
      { m2 with tickAt := sset m2.tickAt r (s.now + m2.trefi r), chgAt := sset m2.chgAt r s.now }
    ((s.event d .dmc 3).urgentCheck d).urgentEnd d

/-- MR4_READ: the controller reads the hottest indication of each rank, once every 16 ms (R337). -/
def execMr4Read (d ind0 ind1 : Nat) (s : State) : Res :=
  onDie s d fun s =>
    let m := (s.die d).dram
    if m.refreshes && m.mr4At ≤ s.now then
      let s := s.modDram d fun m => { m with mr4At := s.now + 16000000 }
      (List.range (s.ranks d)).foldl (fun s r => s.mr4 d r (if r = 0 then ind0 else ind1)) s
    else s

/-! ### Training (R329, R330) -/

/-- Refresh starts afresh: no debt, the tick one tREFI later, an MR4 read at once (R340). -/
def State.refreshStart (s : State) (d : Nat) : State :=
  s.modDram d fun m => { m with
    owed := [], busyTo := [], mr4At := s.now, idleSince := s.now
    tickAt := (List.range 2).foldl (fun t r => sset t r (s.now + m.trefi r)) m.tickAt }

/-- Training cannot be started (R330). -/
def State.trainBarred (s : State) (d : Nat) : Bool :=
  let m := (s.die d).dram
  m.running || m.gone || !s.masksOk d || 5 ≤ s.fld d .dmcGeom [] 3 3

/-- A write of DMC.CTL.TRAIN_GO = 1: training starts once after reset (R330). -/
def State.trainGo (s : State) (d : Nat) : State :=
  if s.trainBarred d then s.violation d
  else s.modDram d fun m => { m with gone := true, running := true, retrain := false }

/-- TRAIN_GO. -/
def execTrainGo (d : Nat) (s : State) : Res := onHost s d true fun s => s.trainGo d

/-- Training passes or fails; a RETRAIN's command completes with PASS and the failed devices (R329, R330, R347). -/
def State.trainEnd (s : State) (d : Nat) (pass : Bool) (failed : Nat) : State :=
  let m := (s.die d).dram
  if m.running then
    let s := (s.refreshStart d).modDram d fun m => { m with
      running := false, trained := pass, trainFail := !pass, rows := [], entering := false
      st := if m.retrain || !pass then .maint else .active }
    let s := if pass then s else s.event d .dmc 2
    if m.retrain then s.ringDone d 1 cDONE 0 ((if pass then 1 else 0) + bits failed 0 20 * 2) else s.dramDrain d
  else s

/-- DRAM_TRAINING_END. -/
def execDramTrainingEnd (d : Nat) (pass : Bool) (failed : Nat) (s : State) : Res :=
  onDie s d fun s => s.trainEnd d pass failed

/-! ### Requests (R332, R333) -/

/-- DRAM_READ_REQUEST: a requester's granule read is accepted (R332); an access outside the DRAM returns zeros (R325). -/
def execDramReadRequest (d who addr : Nat) (panic : Bool) (s : State) : Res :=
  onDie s d fun s =>
    if !s.dramOk d addr then (s.violation d).emit (.dramData d who addr (List.replicate 128 0) false)
    else s.dramAccept d { who := who, panic := s.panicOf d who panic, addr := addr, at_ := s.now }

/-- DRAM_WRITE_REQUEST: bytes from an address within a granule are accepted, and go to the devices when the controller
serves them (R332, R342). -/
def execDramWriteRequest (d who addr : Nat) (bytes : List Byte) (panic : Bool) (s : State) : Res :=
  onDie s d fun s =>
    s.dramPost d { who := who, panic := s.panicOf d who panic, addr := addr, write := some (bytes.take (128 - addr % 128)),
                   at_ := s.now }

/-- DRAM_READ_RETURN: the controller serves its next read and the data returns to its requester (R333, R355, R448). -/
def execDramReadReturn (d : Nat) (s : State) : Res :=
  onDie s d fun s =>
    let s := s.dramDrain d
    match s.dramNext d with
    | none => s
    | some q =>
      let (s, go) := if q.bar.isSome then (s, true) else s.delayGate d 1 q.who q.addr
      if go then (s.dramServe d q).dramDrain d else s

/-! ### Self-refresh (R343 to R346) -/

/-- SR_IDLE in ns (DMC.SR_CFG). -/
def State.srIdle (s : State) (d : Nat) : Nat := 1000 * min 1000000 (max 1 (s.fld d .dmcSrCfg [] 0 20))

/-- SR_ENTRY_START: the idle count reaches SR_IDLE (R343): every open bank is precharged. -/
def execSrEntryStart (d : Nat) (s : State) : Res :=
  onDie s d fun s =>
    let m := (s.die d).dram
    if m.st = .active && !m.entering && s.fld d .dmcCtl [] 1 1 = 1 && m.queue.isEmpty && m.bolts.isEmpty && !s.anyPanic d
        && m.idleSince + s.srIdle d ≤ s.now then
      s.modDram d fun m => { m with entering := true, rows := [], srSince := s.now }
    else s

/-- SRE_ISSUE: with nothing owed, SRE goes to both ranks (R343, R344). -/
def execSreIssue (d : Nat) (s : State) : Res :=
  onDie s d fun s =>
    let m := (s.die d).dram
    if m.st = .active && m.entering && (List.range (s.ranks d)).all (fun r => m.debt r = 0) then
      ((s.modDram d fun m => { m with st := .selfRefresh, entering := false, wake := false, late := [], rows := [] }).count d
        ctrDMC 8).emit (.dram d "SRE" 0 0)
    else s

/-- SELF_REFRESH_EXIT: SRX, and after tXS the controller is ACTIVE and serves what waited (R344, R345). -/
def execSelfRefreshExit (d : Nat) (s : State) : Res :=
  onDie s d fun s =>
    let m := (s.die d).dram
    if m.st = .selfRefresh && m.wake then
      (((s.modDram d fun m => { m with st := .active, wake := false, late := [] }).refreshStart d).emit
        (.dram d "SRX" 0 0)).dramDrain d
    else s

/-! ### The DMC ring (R347, R348) -/

/-- Whether ring 1's head is well formed: its own fields in range and every other field 0 (R347, R348). -/
def State.dmcFormed (s : State) (d : Nat) (c : RCmd) : Bool :=
  let two := s.ranks d = 2
  let useRank := c.op = 4 || c.op = 5
  (1 ≤ c.op && c.op ≤ 5) && bits c.d0 9 7 = 0 && bits c.d0 24 8 = 0 && c.d3 = 0
    && (useRank || (bits c.d0 8 1 = 0 && bits c.d0 16 8 = 0))
    && (bits c.d0 8 1 = 0 || two)
    && (if c.op = 5 then c.d1 % 64 = 0 else c.d1 = 0)
    && (if c.op = 4 then c.d2 < 2 ^ 28 else c.d2 = 0)

/-- A DMC command completes with STATE (R348, R349). -/
def State.dmcState (s : State) (d : Nat) : State := ((s.ringDone d 1 cSTATE).count d ctrDMC 11).event d .dmc 4

/-- Run the DMC command at the head of ring 1 if it is the one named: checks, then its effect in a legal state (R348). -/
def State.dmcCommand (s : State) (d op : Nat) (legal : Dram → Bool) (f : State → RCmd → State) : State :=
  match s.ringCmd d 1 with
  | some c =>
    if c.op = op && !c.started then
      let s := s.dramStir d
      if !s.dmcFormed d c then s.ringDone d 1 cMALFORMED
      else
        if legal (s.die d).dram then f s c else s.dmcState d
    else s
  | none => s

/-- ENTER_MAINT: legal in ACTIVE, also during entry, which it aborts (R348). -/
def execEnterMaint (d : Nat) (s : State) : Res :=
  onDie s d fun s => s.dmcCommand d 1 (·.st = .active) fun s _ =>
    (s.modDram d fun m => { m with st := .maint }).ringDone d 1 cDONE

/-- EXIT_MAINT: legal in MAINT with TRAINED = 1 and every mask valid; held requests are served (R348). -/
def execExitMaint (d : Nat) (s : State) : Res :=
  onDie s d fun s => s.dmcCommand d 2 (fun m => m.st = .maint && m.trained && s.masksOk d) fun s _ =>
    ((s.modDram d fun m => { m with st := .active, idleSince := s.now }).dramDrain d).ringDone d 1 cDONE

/-- RETRAIN: legal in MAINT; training starts and the command completes at its end (R348). -/
def execRetrain (d : Nat) (s : State) : Res :=
  onDie s d fun s => s.dmcCommand d 3 (·.st = .maint) fun s c =>
    (s.modDram d fun m => { m with st := .training, running := true, retrain := true, gone := true }).ringSet d 1
      { c with started := true, since := s.now }

/-- Write a value to mode registers by their keys. -/
def Dram.setMode (m : Dram) (keys : List Nat) (v : Nat) : Dram :=
  { m with modeRegs := keys.foldl (fun t k => sset t k v) m.modeRegs }

/-- MRW: legal in MAINT; VALUE goes to mode register MR of the named devices of RANK, all with DEVICES = 0 (R347, R348). -/
def execMrw (d : Nat) (s : State) : Res :=
  onDie s d fun s => s.dmcCommand d 4 (·.st = .maint) fun s c =>
    let devs := if bits c.d2 8 20 = 0 then List.range 20 else maskList (bits c.d2 8 20) 20
    let r := bits c.d0 8 1
    (s.modDram d fun m => m.setMode (devs.map fun j => (r * 20 + j) * 256 + bits c.d0 16 8) (bits c.d2 0 8)).ringDone d 1
      cDONE

/-- MRR: legal in ACTIVE or MAINT; writes mode register MR of every device of RANK, one byte each, to the result block. A
mode register that no MRW of this model has written holds what training or the devices put there, which the manual does not
state: a free value (R347, R348; log entry 4). -/
def execMrr (d : Nat) (s : State) : Res :=
  onDie s d fun s => s.dmcCommand d 5 (fun m => m.st = .active || m.st = .maint) fun s c =>
    let r := bits c.d0 8 1
    let (s, bytes) := (List.range 20).foldl (fun (p : State × List Byte) j =>
      match sget (p.1.die d).dram.modeRegs ((r * 20 + j) * 256 + bits c.d0 16 8) with
      | some v => (p.1, p.2 ++ [BitVec.ofNat 8 v])
      | none =>
        let (v, s) := p.1.freeValue
        (s.modDram d fun m => m.setMode [(r * 20 + j) * 256 + bits c.d0 16 8] (v % 256),
          p.2 ++ [BitVec.ofNat 8 v])) (s, [])
    (s.emit (.hostWrite d c.d1 bytes)).ringDone d 1 cDONE

/-- Registers that only TRAINING before TRAIN_GO and MAINT may write (R331). -/
def State.dmcOpen (s : State) (d : Nat) : Bool :=
  let m := (s.die d).dram
  (m.st = .training && !m.gone && !m.running) || m.st = .maint

/-- A write of a mask's HI register applies the whole mask under R328 and R331; one that changes nothing is no violation
(R10). -/
def State.mapHiWrite (s : State) (d i hi : Nat) : State :=
  let off := regOff .dmcMapLo [i]
  let lo := sgetD (s.die d).lows off (s.reg d .dmcMapLo [i])
  let m := bits hi 0 8 * 2 ^ 32 + lo
  let s := s.modDie d fun x => { x with lows := sdel x.lows off }
  if m = s.mapMask d i then s
  else if s.dmcOpen d && s.maskOk d i m then (s.setReg d .dmcMapLo [i] lo).setReg d .dmcMapHi [i] (bits hi 0 8)
  else s.violation d

/-- MAP_MASK_WRITE. -/
def execMapMaskWrite (d i hi : Nat) (s : State) : Res :=
  onHost s d (i < 6) fun s => s.mapHiWrite d i hi

/-! ### The bolter's DRAM walker (R364 to R368) -/

/-- The bolter may put a request for a granule to the controller: not while self-refresh is entered (R346), and as a normal
request (R365). -/
def State.boltable (s : State) (d g : Nat) : Bool := !(s.die d).dram.entering && s.dramNow d (128 * g) false

/-- The granule of the walker's next step (R364). -/
def State.boltPos (s : State) (d : Nat) : Nat := (s.die d).dram.pos % (s.capacity d / 128)

/-- The walker has steps to make: it is enabled and the DRAM can be read. -/
def State.boltOn (s : State) (d : Nat) : Bool :=
  s.fld d .eccBoltCfg [] 0 1 = 1 && s.ranks d ≠ 0 && (s.die d).dram.trained

/-- The bolter reads a granule (R366); a write of its own goes out as it can. -/
def State.boltRead (s : State) (d g : Nat) : State :=
  ((((s.dramTouch d).dramRow d (128 * g) false).granuleRead d g false).1).boltFlush d

/-- A step of the walker (R364, R366). -/
def State.boltStep (s : State) (d : Nat) : State :=
  let g := s.boltPos d
  let s := (s.count d ctrECC 5).boltRead d g
  if g + 1 = s.capacity d / 128 then
    (s.modDram d fun m => { m with pos := 0, passes := min 65535 (m.passes + 1) }).event d .ecc 4
  else s.modDram d fun m => { m with pos := g + 1 }

/-- BOLTER_DRAM_STEP: the walker's next step falls due; it is put off while the controller does not serve it (R346, R365). -/
def execBolterDramStep (d : Nat) (s : State) : Res :=
  onDie s d fun s =>
    if !s.boltOn d then s
    else if s.boltable d (s.boltPos d) then s.boltStep d
    else s.modDram d fun m => { m with deferred := m.deferred + 1 }

/-- Steps put off are made up, 4 in each µs (R365); after a second of them the bolter has self-refresh left, or its entry
ended (R346). -/
def State.boltMakeUp (s : State) (d : Nat) : State :=
  let m := (s.die d).dram
  if m.deferred = 0 || !s.boltOn d then s
  else if s.boltable d (s.boltPos d) then
    if s.now % 250 = 0 then (s.modDram d fun m => { m with deferred := m.deferred - 1 }).boltStep d else s
  else if (m.entering || m.st = .selfRefresh && !m.wake) && m.srSince + 1000000000 ≤ s.now then s.dramTouch d
  else s

/-- BOLTER_REVISIT: the walker takes the head of the revisit queue (R368). -/
def execBolterRevisit (d : Nat) (s : State) : Res :=
  onDie s d fun s =>
    match (s.die d).dram.revisit with
    | [] => s
    | g :: gs =>
      if s.fld d .eccBoltCfg [] 0 1 = 1 && s.boltable d g then
        ((s.modDram d fun m => { m with revisit := gs }).count d ctrECC 9).boltRead d g
      else s

/-- What a fabric cycle does in the controller: PANIC is seen, and the writes that wait go out. -/
def State.dramCycle (s : State) (d : Nat) : State :=
  let s := if s.anyPanic d then s.dramPanic d else s
  ((s.dramDrain d).boltFlush d).boltMakeUp d

/-- ERROR_RING_POP: a write of ECC.ERR_HI.POP removes the head record (R369). -/
def execErrorRingPop (d : Nat) (s : State) : Res :=
  onHost s d true fun s => s.modDie d fun x => { x with errRing := x.errRing.drop 1 }

/-- DEV_CE_READ: a read of ECC.DEV_CE returns the count of a device of a rank and clears it (R370). -/
def execDevCeRead (d rank dev : Nat) (s : State) : Res :=
  onHostRead s d (rank < 2 && dev < 20) fun s =>
    (s.emit (.readData (s.reg d .eccDevCe [20 * rank + dev]) false)).setReg d .eccDevCe [20 * rank + dev] 0

end Sys2Proof.Machine
end

