-- ==== Sys2Proof/Machine/Tables.lean ====
section
/-! DEFINITION. Exact-match tables and the lay-by store (R232 to R259): bodies, what a lookup and a single-bucket command do at
their access points, the completions of ring 0, and table states. -/

namespace Sys2Proof.Machine

open Sys2Proof

/-! ### Bodies (R232, R233, R236) -/

/-- Change the table engine of a die. -/
def State.modTbl (s : State) (d : Nat) (f : Tables → Tables) : State := s.modDie d fun x => { x with tbl := f x.tbl }

/-- The body that a table names (R232). -/
def State.bodyOf (s : State) (d t : Nat) : Nat := s.fld d .tblTabCtl [t] 8 6

/-- Where a body lies: 0 none, 1 on-chip, 2 DRAM; 3 acts as 0. -/
def State.bodyLoc (s : State) (d b : Nat) : Nat :=
  let l := s.fld d .tblBodyCfg [b] 0 2
  if l = 3 then 0 else l

/-- Buckets of a body. -/
def State.bodySize (s : State) (d b : Nat) : Nat := 2 ^ s.fld d .tblBodyCfg [b] 2 5

/-- First bucket of a body. -/
def State.bodyBase (s : State) (d b : Nat) : Nat := s.reg d .tblBodyBase [b]

/-- A body keeps the limits of R233. -/
def State.bodyFits (s : State) (d b : Nat) : Bool :=
  match s.bodyLoc d b with
  | 0 => true
  | 1 => s.fld d .tblBodyCfg [b] 2 5 ≤ 17 && s.bodyBase d b + s.bodySize d b ≤ 131072
  | _ => s.fld d .tblBodyCfg [b] 2 5 ≤ 22 && s.bodyBase d b + s.bodySize d b ≤ 4194304

/-- The table is ACTIVE (R244). -/
def State.tabActive (s : State) (d t : Nat) : Bool := s.fld d .tblTabCtl [t] 0 1 = 1

/-- A body is mapped by an ACTIVE table. -/
def State.bodyActive (s : State) (d b : Nat) : Bool :=
  (List.range 64).any fun t => s.bodyOf d t = b && s.tabActive d t

/-- The 5 bytes that a key word gives the hash (R236). -/
def keyBytes5 (w : Word) : List Byte :=
  [bits w.toNat 32 4, bits w.toNat 24 8, bits w.toNat 16 8, bits w.toNat 8 8, bits w.toNat 0 8].map (BitVec.ofNat 8)

/-- Home bucket of a key of four padded words (R236). -/
def State.homeBucket (s : State) (d b : Nat) (key : List Word) : Nat :=
  let ws := key.take (if s.bodyLoc d b = 2 then 3 else 4)
  s.bodyBase d b + crc32c (s.reg d .tblBodySeed [b]) (ws.flatMap keyBytes5) % s.bodySize d b

/-! ### Entries and buckets (R234, R235, R238) -/

/-- What one access sees: the four slots of the bucket, the lay-by entries of the same body and home bucket, and whether
the access is poisoned (R238, R240). -/
structure TblView where
  slots : List (List Word)
  lays : List (Nat × List Word)
  poisoned : Bool
deriving DecidableEq, Repr

/-- Where an entry lies. -/
inductive TblLoc where
  | slot (i : Nat)
  | lay (n : Nat)
deriving DecidableEq, Repr

/-- Word 7's fields (R234). -/
def entValid (e : List Word) : Bool := bit (e.getD 7 0).toNat 0
def entHit (e : List Word) : Bool := bit (e.getD 7 0).toNat 1
def entGen (e : List Word) : Nat := bits (e.getD 7 0).toNat 2 4
def entBody (e : List Word) : Nat := bits (e.getD 7 0).toNat 6 6

/-- An entry with its HIT bit set or cleared. -/
def entSetHit (e : List Word) (h : Bool) : List Word := e.set 7 (w36 (putBit (e.getD 7 0).toNat 1 h))

/-- A new entry: HIT = 1 (R239). -/
def entNew (body gen : Nat) (key res : List Word) : List Word :=
  (List.range 4).map (key.getD · 0) ++ (List.range 3).map (res.getD · 0) ++ [w36 (3 + gen * 4 + body * 64)]

/-- The 8 words of entry s of a DRAM granule: its 7 words with KEY3 = 0 (R235). -/
def dramEntry (g s : Nat) : List Word :=
  let w := fun i => w36 (bits g (252 * s + 36 * i) 36)
  [w 0, w 1, w 2, 0, w 3, w 4, w 5, w 6]

/-- The bits of a DRAM granule of four entries (R235). -/
def dramPack (slots : List (List Word)) : Nat :=
  (List.range 4).foldl (fun g s =>
    let e := slots.getD s []
    let ws := [0, 1, 2, 4, 5, 6, 7].map fun i => (e.getD i 0).toNat
    g + ((List.range 7).foldl (fun a i => a + ws.getD i 0 * 2 ^ (36 * i)) 0) * 2 ^ (252 * s)) 0

/-- Byte address of a DRAM bucket (R233). -/
def State.bucketAddr (s : State) (d body bucket : Nat) : Nat := s.reg d .tblBodyDram [body] * 4096 + 128 * bucket

/-- Read a bucket's slots: with whether it is poisoned; none while the DRAM holds the read. `gate` lets SET_DELAY hold a
DRAM read (R448). -/
def State.bucketRead (s : State) (d body bucket : Nat) (gate : Bool) : State × Option (List (List Word) × Bool) :=
  if s.bodyLoc d body = 2 then
    match s.dramFetch d (s.bucketAddr d body bucket) false (if gate then some 0 else none) with
    | (s, none) => (s, none)
    | (s, some (bytes, p)) => (s.count d ctrTBL 15, some ((List.range 4).map (dramEntry (leNat bytes)), p))
  else
    let s := (List.range 32).foldl (fun s i => s.readUnit d 5 0 (bucket * 32 + i) true) s
    let t := (s.die d).tbl
    let p := (List.range 32).any fun i => t.poison.contains (bucket * 32 + i)
    (s, some ((List.range 4).map fun i => (List.range 8).map fun j => sgetD t.store (bucket * 32 + i * 8 + j) 0, p))

/-- The lay-by entries of a body and home bucket. -/
def State.layRead (s : State) (d body bucket : Nat) : State × List (Nat × List Word) × Bool :=
  let mine := (s.die d).tbl.layby.filter fun p => p.2.home = bucket && entBody p.2.words = body
  let s := mine.foldl (fun s p => (List.range 8).foldl (fun s i => s.readUnit d 6 0 (p.1 * 8 + i) true) s) s
  (s, mine.map (fun p => (p.1, p.2.words)), mine.any fun p => (s.die d).tbl.layPoison.contains p.1)

/-- One access to a home bucket and its lay-by entries (R238, R250). -/
def State.tblView (s : State) (d body bucket : Nat) : State × Option TblView :=
  match s.bucketRead d body bucket true with
  | (s, none) => (s, none)
  | (s, some (slots, p)) =>
    let (s, lays, q) := s.layRead d body bucket
    (s, some { slots := slots, lays := lays, poisoned := p || q })

/-- An entry matches a request on a body (R237). -/
def entMatches (body gen : Nat) (check : Bool) (key e : List Word) : Bool :=
  entValid e && entBody e = body && (e.take 4 = key) && (!check || entGen e = gen)

/-- The matching entry of a view (R237). -/
def TblView.find (v : TblView) (body gen : Nat) (check : Bool) (key : List Word) : Option (TblLoc × List Word) :=
  match (List.range 4).find? fun i => entMatches body gen check key (v.slots.getD i []) with
  | some i => some (.slot i, v.slots.getD i [])
  | none => (v.lays.find? fun p => entMatches body gen check key p.2).map fun p => (.lay p.1, p.2)

/-- GEN_CHECK of a body. -/
def State.genCheck (s : State) (d b : Nat) : Bool := s.fld d .tblBodyCfg [b] 7 1 = 1

/-- Write a slot of a bucket with fresh check bits; a DRAM bucket is written whole. -/
def State.slotWrite (s : State) (d body bucket : Nat) (slots : List (List Word)) (i : Nat) (e : List Word) : State :=
  if s.bodyLoc d body = 2 then (s.dramStore d (s.bucketAddr d body bucket) (natLE 128 (dramPack (slots.set i e))))
  else
    s.modDie d fun x => (List.range 8).foldl (fun (x : Die) j =>
      let u := bucket * 32 + i * 8 + j
      { x.freshUnit 5 0 u with tbl := { x.tbl with store := sset x.tbl.store u (e.getD j 0) } }) x

/-- Fresh check bits for a lay-by entry's words. -/
def Die.freshLay (x : Die) (n : Nat) : Die := (List.range 8).foldl (fun x j => x.freshUnit 6 0 (n * 8 + j)) x

/-- Write or free a lay-by entry. -/
def State.layWrite (s : State) (d n bucket : Nat) (e : Option (List Word)) : State :=
  s.modDie d fun x =>
    let x := x.freshLay n
    { x with tbl := { x.tbl with layby := match e with
      | some ws => sset x.tbl.layby n { words := ws, home := bucket }
      | none => sdel x.tbl.layby n } }

/-- Write an entry where it lies; `none` frees it. -/
def State.entWrite (s : State) (d body bucket : Nat) (v : TblView) (l : TblLoc) (e : Option (List Word)) : State :=
  match l with
  | .slot i => s.slotWrite d body bucket v.slots i (e.getD (List.replicate 8 0))
  | .lay n => s.layWrite d n bucket e

/-- Lay-by entries in use, of all bodies or of one. -/
def State.layUsed (s : State) (d : Nat) : Nat := (s.die d).tbl.layby.length
def State.layUsedBy (s : State) (d b : Nat) : Nat := ((s.die d).tbl.layby.filter fun p => entBody p.2.words = b).length

/-! ### Counts and records of an access (R264) -/

/-- An access ends with a code: its counter, event and record of LAST_ERR. -/
def State.tblTally (s : State) (d code t body cmdCode bucket : Nat) (thread : Bool) : State :=
  let s :=
    if code = cSTATE then (s.count d ctrTBL 11).event d .tbl 3
    else if code = cNEEDS_REHASH then (s.count d ctrTBL 6).event d .tbl 0
    else if code = cNOT_FOUND && cmdCode ≠ 0 then s.count d ctrTBL 8
    else if code = cEXISTS then s.count d ctrTBL 7
    else if code = cPOISON then (s.count d ctrTBL 2).event d .tbl 1
    else if code = cACTIVE then s.count d ctrTBL 10
    else s
  if code = cDONE || code = cNOT_FOUND || code = cACTIVE then s
  else
    (s.setReg d .tblLastErr [] (code + t * 2 ^ 8 + body * 2 ^ 14 + cmdCode * 2 ^ 20 + (if thread then 2 ^ 24 else 0))).setReg
      d .tblLastBucket [] (bucket % 2 ^ 22)

/-- A body that no access can find an entry in: no storage, beyond its limits, or under INIT (R240, R246). -/
def State.bodyDead (s : State) (d b : Nat) : Bool :=
  s.bodyLoc d b = 0 || !s.bodyFits d b || (s.die d).tbl.init = some b

/-! ### Lookups (R240) -/

/-- The outcome of a lookup: 0 hit, 1 miss, 2 poisoned; and the three result words. -/
abbrev LookRes := Nat × List Word

/-- A lookup of a source other than the ring takes its access point: a hit sets HIT; `none` while the DRAM holds it. -/
def State.tblLookup (s : State) (d t : Nat) (key : List Word) (thread : Bool) : State × Option LookRes :=
  let b := s.bodyOf d t
  if s.bodyDead d b || (s.bodyLoc d b = 2 && key.getD 3 0 ≠ 0) then (s.count d ctrTBL 1, some (1, [0, 0, 0]))
  else
    let bucket := s.homeBucket d b key
    match s.tblView d b bucket with
    | (s, none) => (s, none)
    | (s, some v) =>
      if v.poisoned then (s.tblTally d cPOISON t b 0 bucket thread, some (2, [0, 0, 0]))
      else match v.find b (s.reg d .tblBodyGen [b]) (s.genCheck d b) key with
        | none => (s.count d ctrTBL 1, some (1, [0, 0, 0]))
        | some (l, e) =>
          let s := s.count d ctrTBL 0
          let s := match l with | .lay _ => s.count d ctrTBL 3 | _ => s
          let s := if entHit e then s else s.entWrite d b bucket v l (some (entSetHit e true))
          (s, some (0, [e.getD 4 0, e.getD 5 0, e.getD 6 0]))

/-! ### Single-bucket commands (R239, R250) -/

/-- The outcome of a single-bucket command: its code, LAYBY, home bucket, and the words that a returned entry shows. -/
structure TblOut where
  code : Nat
  lay : Bool := false
  bucket : Nat := 0
  out : List Word := []
deriving DecidableEq, Repr

/-- INSERT's own outcome (R239). -/
def State.tblInsert (s : State) (d b bucket gen : Nat) (key res : List Word) (v : TblView) : State × TblOut :=
  let e := entNew b gen key res
  match v.find b gen (s.genCheck d b) key with
  | some (l, _) => (s, { code := cEXISTS, bucket := bucket, lay := match l with | .lay _ => true | _ => false })
  | none =>
    match (List.range 4).find? fun i => !entValid (v.slots.getD i []) with
    | some i => ((s.slotWrite d b bucket v.slots i e).count d ctrTBL 4, { code := cDONE, bucket := bucket })
    | none =>
      let used := s.layUsed d
      let n := firstFree ((s.die d).tbl.layby.map (·.1)) 4096 4096 0
      if s.layUsedBy d b < min 4096 (s.fld d .tblBodyCfg [b] 8 13) && used < 4096 then
        let s := ((s.layWrite d n bucket (some e)).count d ctrTBL 4).count d ctrTBL 5
        let s := s.modTbl d fun x => { x with layAt := some (s.now, bucket % 4) }
        let level := s.reg d .tblLaybyWarn []
        let s := if used < level && level ≤ used + 1 then s.event d .tbl 2 else s
        (s, { code := cDONE, lay := true, bucket := bucket })
      else (s, { code := cNEEDS_REHASH, bucket := bucket })

/-- The own outcome of a single-bucket command 0x01 to 0x06 (R250). -/
def State.tblOwn (s : State) (d op b bucket gen : Nat) (key res : List Word) (v : TblView) : State × TblOut :=
  if op = 2 then s.tblInsert d b bucket gen key res v
  else match v.find b gen (s.genCheck d b) key with
    | none => ((if op = 1 then s.count d ctrTBL 1 else s), { code := cNOT_FOUND, bucket := bucket })
    | some (l, e) =>
      let lay : Bool := match l with | .lay _ => true | _ => false
      let o : TblOut := { code := cDONE, lay := lay, bucket := bucket }
      if op = 1 then
        let s := s.count d ctrTBL 0
        (if lay then s.count d ctrTBL 3 else s, { o with out := e.drop 4 })
      else if op = 3 then
        (s.entWrite d b bucket v l (some (e.take 4 ++ (List.range 3).map (res.getD · 0) ++ e.drop 7)), o)
      else if op = 4 then ((s.entWrite d b bucket v l none).count d ctrTBL 9, o)
      else if op = 5 then
        if entHit e then (s.entWrite d b bucket v l (some (entSetHit e false)), { o with code := cACTIVE })
        else ((s.entWrite d b bucket v l none).count d ctrTBL 9, o)
      else (s.entWrite d b bucket v l (some (entSetHit e false)), { o with out := e.drop 4 })

/-- A single-bucket command 0x01 to 0x06 on a die, with the checks of R250 in their order; `active`: it came while its table was
ACTIVE (R245). `none` while the DRAM holds it. -/
def State.tblRun (s : State) (d op t gen : Nat) (key res : List Word) (thread active : Bool) : State × Option TblOut :=
  let b := s.bodyOf d t
  let loc := s.bodyLoc d b
  let bucket := if loc = 0 then 0 else s.homeBucket d b key
  let fin := fun (s : State) (o : TblOut) => (s.tblTally d o.code t b op bucket thread, some o)
  if loc = 2 && key.getD 3 0 ≠ 0 then (s, some { code := cMALFORMED, bucket := bucket })
  else if loc = 0 || (op ≠ 1 && !active) then fin s { code := cSTATE, bucket := bucket }
  else if s.bodyDead d b then
    fin (if op = 1 then s.count d ctrTBL 1 else s) { code := cNOT_FOUND, bucket := bucket }
  else match s.tblView d b bucket with
    | (s, none) => (s, none)
    | (s, some v) =>
      if v.poisoned then fin s { code := cPOISON, bucket := bucket }
      else
        let (s, o) := s.tblOwn d op b bucket gen key res v
        fin s o

/-! ### Ring commands (R247 to R249, R252) -/

/-- Key and result words of an argument block (R248). -/
def argWords (c : RCmd) (first n : Nat) : List Word := (List.range n).map fun i => w36 (c.arg.getD (first + i) 0)

/-- The dies that a command names (R258): a mask of 0 is the ring's die. -/
def RCmd.dies (c : RCmd) (d : Nat) : List Nat :=
  if bits c.d0 16 8 = 0 then [d] else maskList (bits c.d0 16 8) 8

/-- A table command of die d's ring is well formed (R252). The key word 3 is looked at for the body of every die named, since
nothing is to be done on any (log entry 35). -/
def State.tblFormed (s : State) (d : Nat) (c : RCmd) : Bool :=
  let op := c.op
  let bucketCmd := 1 ≤ op && op ≤ 6
  let argZero := fun i n => (List.range n).all fun k => c.arg.getD (i + k) 0 < 2 ^ 36
  (1 ≤ op && op ≤ 9) && bits c.d0 14 2 = 0 && bits c.d0 29 3 = 0
    && (maskList (bits c.d0 16 8) 8).all s.has
    && (op ≠ 8 || bits c.d0 8 6 = 0)
    && (bucketCmd || bits c.d0 24 4 = 0)
    && (op = 7 || bits c.d0 28 1 = 0)
    && (if bucketCmd then c.d1 % 64 = 0 else c.d1 = 0)
    && (if op = 7 then bits c.d2 26 6 = 0 && c.d2 < 2 ^ 48 && c.d3 % 64 = 0
          && (!bit c.d2 24 || bits c.d2 12 12 = 0)
        else if op = 9 then c.d2 < 64 && c.d3 = 0 && c.d2 ≠ bits c.d0 8 6
        else c.d2 = 0 && c.d3 = 0)
    && (!bucketCmd || argZero 0 4) && ((op ≠ 2 && op ≠ 3) || argZero 4 3)
    && (!bucketCmd || c.arg.getD 3 0 = 0 ||
      (c.dies d).all fun x => s.bodyLoc x (s.bodyOf x (bits c.d0 8 6)) ≠ 2)

/-- A completion of die d goes to a ring of die `src`; one that has no route is lost (R486). -/
def State.tblSend (s : State) (d src code tag c0 c1 : Nat) : State :=
  if s.reach d src then s.post src 0 d code tag c0 c1 else s

/-- Post a table completion of a die to a ring, through the delay of R448. -/
def State.tblPost (s : State) (d src : Nat) (c : RCmd) (code c0 c1 : Nat) : State :=
  let (s, go) := s.delayPut d 2 (1000 + src) (c.tag + 2 ^ 32 * s.stamps) [0, src, d, code, c.tag, c0, c1]
  let s := { s with stamps := s.stamps + 1 }
  if go then s.tblSend d src code c.tag c0 c1 else s

/-- Write words as 8-byte slots of host memory (R248). -/
def slotBytes (ws : List Word) : List Byte := ws.flatMap fun w => natLE 8 w.toNat

/-- Remove the command at the head of a ring. -/
def State.ringPop (s : State) (d r : Nat) : State :=
  s.setRing d r { s.ring d r with cmds := (s.ring d r).cmds.tail }

/-- Undefined commands at the head of the table ring complete with MALFORMED (R383). -/
def State.tblSkip (s : State) (d : Nat) : Nat → State
  | 0 => s
  | n + 1 =>
    match s.ringCmd d 0 with
    | some c => if ringKnows 0 c.op then s else ((s.ringPop d 0).tblPost d d c cMALFORMED 0 0).tblSkip d n
    | none => s

/-- Remove the command at the head of the table ring, post its completion, and go on to the next that the engine knows. -/
def State.tblEnd (s : State) (d : Nat) (c : RCmd) (code c0 c1 : Nat) : State :=
  ((s.ringPop d 0).tblPost d d c code c0 c1).tblSkip d (s.ring d 0).cmds.length

end Sys2Proof.Machine
end

