-- ==== Sys2Proof/Machine/Pipes.lean ====
section
/-! DEFINITION. The table engine's lookup pipes and their 16 sources (R121, R242, R243, R254, R256): which request takes its
access point, and what a request takes with it when it reaches the engine. -/

namespace Sys2Proof.Machine

open Sys2Proof

/-! ### The requests (R243) -/

/-- A request at a die's table engine: its source (cluster 0 to 11, 12 the classifier, 13 the dispatcher, 14 the command ring,
15 the replica input), what it is there, its age within the source, the tables it names, whether it is a command or an INSERT,
whether the tables that it names are ACTIVE, and the body and bucket that it reads, none when it reads none or is not yet
presented. -/
structure TblReq where
  src : Nat
  item : Nat
  age : Nat := 0
  tables : List Nat
  command : Bool := false
  insert : Bool := false
  active : Bool := false
  place : Option (Nat × Nat) := none
deriving DecidableEq, Repr

/-- The body and bucket that a request of a table reads for a key (R236, R240). -/
def State.placeOf (s : State) (d t : Nat) (key : List Word) : Option (Nat × Nat) :=
  let b := s.bodyOf d t
  if s.bodyDead d b || (s.bodyLoc d b = 2 && key.getD 3 0 ≠ 0) then none else some (b, s.homeBucket d b key)

/-- The key of a classification lookup: LOOKUP_WORDS key words and zeros (R74). -/
def Staged.key (st : Staged) : List Word :=
  (List.range 4).map fun i => if i < st.lookup then st.words.getD (8 + i) 0 else 0

/-- The key of a LOOKUP operation: words of its instance record, and zeros (R87). -/
def State.nodeKey (s : State) (d : Nat) (o : Op) : List Word :=
  let first := if bit o.param 8 then 28 + bits o.param 9 4 else 8
  let ws := match s.inst d o.inst with | some x => x.words | none => []
  (List.range 4).map fun i => if i ≤ bits o.param 6 2 then ws.getD (first + i) 0 else 0

/-- What a LOOKUP operation is at the engine. -/
def Op.lookItem (o : Op) (slot : Nat) : Nat := slot + 16384 * o.created

/-- What the next table update of an operation is at the engine. -/
def Op.updItem (o : Op) (slot : Nat) : Nat := o.lookItem slot + 2 ^ 128 * o.tables.length

/-- The TBL requests of threads that have passed their cluster's port and not their access point (R121, R183). -/
def State.threadReqs (s : State) (d : Nat) : List TblReq :=
  (s.die d).threads.filterMap fun p =>
    match p.2.req, p.2.portAt with
    | some (.tbl _ t key), some at_ =>
      if (s.heldItem d 2 (p.1 / 64) p.2.stamp).isSome then none
      else some { src := p.1 / 64, item := p.2.stamp, age := at_, tables := [t], place := s.placeOf d t key }
    | _, _ => none

/-- The frames at the classifier (R74). -/
def State.frameReqs (s : State) (d : Nat) : List TblReq :=
  let xs := (s.die d).hop.extracted.filter fun st => (s.heldItem d 2 12 st.pid).isNone
  (xs.zip (List.range xs.length)).map fun p =>
    { src := 12, item := p.1.pid, age := p.2, tables := [p.1.table], place := s.placeOf d p.1.table p.1.key }

/-- An operation's request: a LOOKUP in ENGINE, or the next table update of a commit, which the dispatcher makes (R87, R255, log
entry 96). -/
def State.opReq (s : State) (d slot : Nat) (o : Op) : Option TblReq :=
  match o.st, o.tables with
  | .engine, _ =>
    let t := bits o.param 0 6
    if o.kind = 1 && (s.heldItem d 2 13 (o.lookItem slot)).isNone then
      some { src := 13, item := o.lookItem slot, age := o.order, tables := [t], place := s.placeOf d t (s.nodeKey d o) }
    else none
  | .tables, c :: _ =>
    if (s.heldItem d 2 14 (slot + 2 ^ 20)).isSome then none
    else some { src := 13, item := o.updItem slot, age := o.order, tables := [c.table], command := true, insert := c.op = 2
                active := s.tabActive d c.table, place := s.placeOf d c.table c.key }
  | _, _ => none

/-- The bucket that a WALK under way reads next: none in the lay-by, or where every position finds no entry (R246, R251). -/
def State.walkPlace (s : State) (d : Nat) (w : Walk) : Option (Nat × Nat) :=
  if w.lay || s.now < w.next || s.bodyDead d w.body then none else some (w.body, s.bodyBase d w.body + w.pos / 4)

/-- The bucket that a ring command reads now. -/
def State.cmdPlace (s : State) (d : Nat) (c : RCmd) : Option (Nat × Nat) :=
  match c.walk with
  | some w => s.walkPlace d w
  | none => if c.op ≤ 6 then s.placeOf d (bits c.d0 8 6) (argWords c 0 4) else none

/-- The tables that a ring command names: none for FENCE, both of a SWAP_TABLE, and none for a WALK under way, which keeps its
body so that no swap waits for it or holds it (R251, R253, R254). -/
def RCmd.tables (c : RCmd) : List Nat :=
  if c.op = 8 || c.walk.isSome then [] else if c.op = 9 then [bits c.d0 8 6, bits c.d2 0 6] else [bits c.d0 8 6]

/-- The request that a ring command is, with its source and its order there; `head`: the source presents it. -/
def State.cmdReq (s : State) (d src age : Nat) (head : Bool) (c : RCmd) : TblReq :=
  { src := src, item := c.order, age := age, tables := c.tables, command := true, insert := c.op = 2
    active := c.tables.all (s.tabActive d), place := if head then s.cmdPlace d c else none }

/-- The first replica of a die that waits for no earlier one of its ring (R258). -/
def readyReplica : List Nat → List (Nat × RCmd) → Option (Nat × RCmd)
  | _, [] => none
  | seen, p :: ps => if !seen.contains p.1 && !p.2.started then some p else readyReplica (p.1 :: seen) ps

/-- A command that still has an access point to take: not yet begun, or a WALK. -/
def RCmd.asks (c : RCmd) : Bool := !c.started || c.walk.isSome

/-- The commands of the die's own ring, its head presented; and of other dies' rings, the first that is ready. -/
def State.ringReqs (s : State) (d : Nat) : List TblReq :=
  let own := (s.ring d 0).cmds
  let own := (own.zip (List.range own.length)).filter fun p => p.1.asks
  let ready := match readyReplica [] (s.die d).replicas with
    | some p => if s.routeHeld p.1 d then [] else [s.cmdReq d 15 p.2.order true p.2]
    | none => []
  own.map (fun p => s.cmdReq d 14 p.2 (p.2 = 0) p.1) ++ ready
    ++ ((s.die d).replicas.filter fun p => p.2.walk.isSome).map fun p => s.cmdReq d 15 p.2.order true p.2

/-- Every request at a die's table engine. -/
def State.tblReqs (s : State) (d : Nat) : List TblReq :=
  s.threadReqs d ++ s.frameReqs d ++ ((s.die d).dsp.ops.filterMap fun p => s.opReq d p.1 p.2) ++ s.ringReqs d

/-! ### The order in which requests reached the engine (R245, R254, R256) -/

/-- What the engine noted of a request. -/
def State.tblNoted (s : State) (d : Nat) (r : TblReq) : Option TblWait :=
  (s.die d).tbl.waiting.find? fun w => w.src = r.src && w.item = r.item

/-- The note of a request that has just reached the engine: of one fabric cycle the lookups come first (R256). -/
def State.newNote (s : State) (r : TblReq) : TblWait :=
  { src := r.src, item := r.item, order := s.stamps + (if r.command then 1 else 0), at_ := s.now, active := r.active }

/-- The note of a request, made now if it has none. -/
def State.noteOf (s : State) (d : Nat) (r : TblReq) : TblWait := (s.tblNoted d r).getD (s.newNote r)

/-- The engine notes the requests that have reached it, and forgets those that have gone. -/
def State.tblNote (s : State) (d : Nat) : State :=
  let rs := s.tblReqs d
  if rs.isEmpty && (s.die d).tbl.waiting.isEmpty then s
  else { s.modTbl d fun x => { x with waiting := rs.map (s.noteOf d) } with stamps := s.stamps + 2 }

/-- The SWAP_TABLEs that wait for their access points on a die; `since` is the order at which each reached the engine (R254). -/
def State.swapsWaiting (s : State) (d : Nat) : List RCmd :=
  (((s.ring d 0).cmds.take 1) ++ (s.die d).replicas.map (·.2)).filter fun c => c.started && c.op = 9

/-- A request names a table of a swap (R254). -/
def TblReq.shares (r : TblReq) (c : RCmd) : Bool := r.tables.any c.tables.contains

/-- A request waits behind a swap of its table that reached the engine no later (R254). -/
def State.swapHolds (s : State) (d : Nat) (r : TblReq) : Bool :=
  (s.swapsWaiting d).any fun c => r.shares c && c.since ≤ (s.noteOf d r).order

/-- A request that a swap waits for: of one of its tables, and at the engine before it (R254). -/
def State.beforeSwap (s : State) (d : Nat) (c : RCmd) (r : TblReq) : Bool := r.shares c && (s.noteOf d r).order < c.since

/-- The tables of a request were ACTIVE when it reached the engine, or are now (R245, log entry 95). -/
def State.tblActive (s : State) (d src item : Nat) : Bool :=
  (s.tblReqs d).any fun r => r.src = src && r.item = item && ((s.noteOf d r).active || r.active)

/-! ### Grants (R242, R243) -/

/-- The pipe of a request (R242). -/
def TblReq.pipe (r : TblReq) : Option Nat := r.place.map fun p => p.2 % 4

/-- The DRAM holds the granule that a request reads. -/
def State.placeHeld (s : State) (d : Nat) (r : TblReq) : Bool :=
  match r.place with
  | some (b, k) => s.bodyLoc d b = 2 && s.dramHolds d (s.bucketAddr d b k) false
  | none => false

/-- An INSERT waits while one of a higher pipe has taken a lay-by entry in this cycle (R239). -/
def State.layWaits (s : State) (d : Nat) (r : TblReq) : Bool :=
  r.insert && (match (s.die d).tbl.layAt, r.pipe with | some (t, q), some p => t = s.now && p < q | _, _ => false)

/-- A request can take its access point: it waits for no swap, no DRAM and no lay-by entry. -/
def State.servable (s : State) (d : Nat) (r : TblReq) : Bool :=
  !s.swapHolds d r && !s.placeHeld d r && !s.layWaits d r

/-- A request competes for its pipe: of a lookup and a command that reached it in one cycle, the command waits (R256). -/
def State.competes (s : State) (d : Nat) (rs : List TblReq) (r : TblReq) : Bool :=
  s.servable d r && !(r.command && rs.any fun q =>
    !q.command && q.pipe = r.pipe && (s.noteOf d q).at_ = (s.noteOf d r).at_ && s.servable d q)

/-- The place of a source in the round after the one last granted. -/
def Pipe.turn (p : Pipe) (src : Nat) : Nat := (src + 15 - p.last) % 16

/-- Pipe p of a die. -/
def State.pipeOf (s : State) (d p : Nat) : Pipe := sgetD (s.die d).tbl.pipes p {}

/-- The request that a pipe grants next: round-robin over the sources, and of one source the oldest (R243). -/
def State.pipeNext (s : State) (d p : Nat) : Option TblReq :=
  let rs := s.tblReqs d
  let before := fun (a b : TblReq) =>
    let i := (s.pipeOf d p).turn a.src
    let j := (s.pipeOf d p).turn b.src
    i < j || (i = j && a.age < b.age)
  (rs.filter fun r => r.pipe = some p && s.competes d rs r).foldl (fun m r => match m with
    | some q => if before r q then some r else m
    | none => some r) none

/-- A request may take its access point now: its pipe has made no access in this cycle and grants it; one that reads no bucket
needs no pipe. -/
def State.granted (s : State) (d : Nat) (r : TblReq) : Bool :=
  match r.pipe with
  | none => s.servable d r
  | some p => (s.pipeOf d p).at_ ≠ some s.now && s.pipeNext d p = some r

/-- The request of a source. -/
def State.tblReq (s : State) (d src item : Nat) : Option TblReq :=
  (s.tblReqs d).find? fun r => r.src = src && r.item = item

/-- Whether a request takes its access point now; one that the DRAM holds asks it again (R344). -/
def State.pipeGate (s : State) (d src item : Nat) : State × Bool :=
  match s.tblReq d src item with
  | none => (s, false)
  | some r =>
    if s.granted d r then (s, true)
    else match r.place with
      | some (b, k) => (if s.placeHeld d r then s.dramTouch d (some (s.bucketAddr d b k / 128)) else s, false)
      | none => (s, false)

/-- An access of a source is made: its pipe makes no other in this cycle, and the round goes on after the source. -/
def State.pipeTake (s : State) (d src item : Nat) : State :=
  match (s.tblReq d src item).bind TblReq.pipe with
  | some p => s.modTbl d fun x => { x with pipes := sset x.pipes p { at_ := some s.now, last := src } }
  | none => s

/-- A lookup with the delay of its result (R448): the access point at its own time, the result when it is released. The result's
fourth word is TAB_CLS of its table at the access point (R241). -/
def State.lookupFor (s : State) (d src item t : Nat) (key : List Word) (thread : Bool) : State × Option LookRes :=
  match s.heldItem d 2 src item with
  | some e => if e.gone then (s.dropItem d e, some (e.data.headD 0, e.data.tail.map w36)) else (s, none)
  | none =>
    match s.pipeGate d src item with
    | (s, false) => (s, none)
    | (s, true) =>
      match (s.pipeTake d src item).tblLookup d t key thread with
      | (s, none) => (s, none)
      | (s, some r) =>
        let r : LookRes := (r.1, r.2 ++ [w36 (s.reg d .tblTabCls [t])])
        let (s, go) := s.delayPut d 2 src item (r.1 :: r.2.map BitVec.toNat)
        (s, if go then some r else none)

/-! ### The table-engine port of a cluster (R121, R261) -/

/-- A thread's request waits for the port of its cluster. -/
def Thread.wantsPort (x : Thread) : Bool :=
  x.portAt.isNone && (match x.req with | some (.tbl ..) => true | some (.ldf ..) => true | _ => false)

/-- The oldest request of a core for the port, and of requests of equal age the lowest thread. -/
def State.portThread (s : State) (d c : Nat) : Option Nat :=
  oldestThread ((s.die d).threads.filter fun p => p.1 / 16 = c && p.2.wantsPort && s.slotOn d p.1)

/-- The port of a cluster grants once in a fabric cycle, round-robin over its cores (R121). -/
def State.portGrant (s : State) (d cl : Nat) : State :=
  let last := sgetD (s.die d).tbl.ports cl 3
  match ((List.range 4).map fun j => cl * 4 + (last + 1 + j) % 4).findSome? (s.portThread d) with
  | none => s
  | some k => (s.modThr d k fun x => { x with portAt := some s.now }).modTbl d fun x =>
      { x with ports := sset x.ports cl (k / 16 % 4) }

/-- The table-engine ports of a die in a fabric cycle. -/
def State.portGrants (s : State) (d : Nat) : State :=
  ((((s.die d).threads.filter fun p => p.2.wantsPort).map fun p => p.1 / 64).eraseDups).foldl (fun s cl => s.portGrant d cl) s

end Sys2Proof.Machine
end

