-- ==== Sys2Proof/Machine/Classify.lean ====
section
/-! DEFINITION. Stations 4 and 5 after the extractor, and the other sources of lookups (R26, R79, R87, R122, R183, R240,
R241). -/

namespace Sys2Proof.Machine

open Sys2Proof

/-- What a classification lookup leads to: the result's fourth word is TAB_CLS as it stood at the access point (R241). -/
def State.classified (s : State) (d : Nat) (st : Staged) (r : LookRes) : State :=
  let cls := (r.2.getD 3 0).toNat
  if r.1 = 2 then s.dropPkt d st.pid rPOISON
  else if r.1 = 0 then
    let ws := (((setOutcome st.words 0 0).set 24 (r.2.getD 0 0)).set 25 (r.2.getD 1 0)).set 26 (r.2.getD 2 0)
    s.fingerpost d { st with words := ws
                             graph := if bit cls 8 then bits (r.2.getD 2 0).toNat 28 8 else bits cls 0 8 }
  else if bit cls 9 then
    match s.defaultAct d st rLOOKUP with
    | (s, some st') => s.fingerpost d st'
    | (s, none) => s
  else s.fingerpost d { st with words := setOutcome st.words 1 0 }

/-- The frame at the classifier that goes on next: one whose result is released, else one that its pipe grants, else the oldest
(R243, R448). -/
def State.frameNext (s : State) (d : Nat) : Option Staged :=
  let xs := (s.die d).hop.extracted
  let freed := fun (st : Staged) => match s.heldItem d 2 12 st.pid with | some e => e.gone | none => false
  let taken := fun (st : Staged) => (s.pipeGate d 12 st.pid).2
  ((xs.find? freed).or (xs.find? taken)).or xs.head?

/-- CLASSIFIER_LOOKUP: a frame at the classifier takes its access point, the oldest of those that its pipe serves (R241, R243). -/
def execClassifierLookup (d : Nat) (s : State) : Res :=
  onDieS s d fun s =>
    match s.frameNext d with
    | none => s
    | some st =>
      match s.lookupFor d 12 st.pid st.table st.key false with
      | (s, none) => s
      | (s, some r) => (s.modHop d fun h => { h with extracted := h.extracted.erase st }).classified d st r

/-- Cells of a packet copied to cells of another die, poison bits included (R26, R305, R359). -/
def State.copyCells (s : State) (src dst : Nat) (cells new : List Nat) : State :=
  let s := s.countCells src cells
  let h := (s.die src).hop
  let s := s.modHop dst fun x => { x with
    buf := (cells.zip new).foldl (fun b p => Memory.writeBytes b (p.2 * 128) (Memory.readBytes h.buf (p.1 * 128) 128)) x.buf
    poison := (cells.zip new).foldl (fun l p => if h.poison.contains p.1 then mark l p.2 else l) x.poison }
  s.crossCells src dst cells.length

/-- The lanes of cells with an inverted bit are read (R358). -/
def State.readCells (s : State) (d : Nat) (cells : List Nat) : State :=
  ((s.die d).dmg.filter fun p => p.1 / 2 ^ 28 = 16 && cells.contains (p.1 % 2 ^ 28 / 16)).foldl
    (fun s p => s.readUnit d 1 0 (p.1 % 2 ^ 28) true) s

/-- HOPPER_MOVE: the oldest frame bound for another die moves there once that die's pool has its cells (R26, R60). -/
def execHopperMove (d : Nat) (s : State) : Res :=
  onDieS s d fun s =>
    match (s.die d).hop.toMove with
    | [] => s
    | st :: rest =>
      match s.pkt d st.pid with
      | none => s.modHop d fun h => { h with toMove := rest }
      | some p =>
        let x := st.target
        if !s.canCross d x p.cells.length || !s.linkGrants d x true then s
        else
          let (s, go) := s.delayGate d 0 200 st.pid
          if !go then s
          else
            let s := (s.linkGranted d x true).readCells d p.cells
            let (new, s) := s.takeCells x { port := none } p.cells.length
            let s := s.copyCells d x p.cells new
            let (pid, s) := s.newPkt x { p with cells := new, refs := 0, held := true }
            let s := (s.freeCells d p.cells).modHop d fun h => { h with
              toMove := rest, packets := sdel h.packets st.pid }
            let s := s.setBoard d (p.port % 32)
              (setPending (fun t => { t with holder := x, pid := pid }) p.ticket (s.board d (p.port % 32)))
            s.modHop x fun h => { h with toInst := h.toInst ++ [{ st with pid := pid }] }

/-- TBL_ANSWER: the table engine's answer to a thread's TBL (R122, R183, R240). -/
def execTblAnswer (t : Tid) (s : State) : Res :=
  onThread s t fun s =>
    let d := t.die
    let k := tkey t
    let x := s.thr d k
    match x.req with
    | some (.tbl r tab key) =>
      if s.slotOn d k then
        match s.lookupFor d (k / 64) x.stamp tab key true with
        | (s, none) => s
        | (s, some res) =>
          if res.1 = 2 then
            (s.modThr d k fun x => { x with req := none, st := .issuing }).progFault d k fPOISON
          else
            (s.stir d k).modThr d k fun x =>
              let x := ((x.put r (res.2.getD 0 0) false).put (r + 1) (res.2.getD 1 0) false).put (r + 2) (res.2.getD 2 0)
                false
              (x.status (if res.1 = 0 then cDONE else cNOT_FOUND) 2 false).retire (x.pc + 1)
      else s
    | _ => s

end Sys2Proof.Machine
end

