-- ==== Sys2Proof/Machine/Commit.lean ====
section
/-! DEFINITION. Commit (R106 to R108, R113, R212), the engines of LOOKUP, ENQUEUE and DISCARD nodes (R87, R113, R114), and
the publish of Answer Port pages that a commit makes (R396, R397). -/

namespace Sys2Proof.Machine

open Sys2Proof

/-! ### Stores of whole units and of parts of them -/

/-- Write bytes of a packet's extent. A lane written in part is read first (R358); every lane gets fresh check bits, and a
cell keeps its poison (R360). -/
def State.pktStore (s : State) (d pid off : Nat) (bytes : List Byte) : State :=
  match s.pkt d pid with
  | none => s
  | some p =>
    let n := bytes.length
    let lanes := (List.range (ceilDiv (off % 8 + n) 8)).map (off / 8 + ·)
    let s := lanes.foldl (fun s l =>
      match p.cells[l / 16]? with
      | none => s
      | some c =>
        let u := c * 16 + l % 16
        let s := if off ≤ 8 * l && 8 * l + 8 ≤ off + n then s else s.readUnit d 1 0 u true
        s.modDie d fun x => x.freshUnit 1 0 u) s
    s.modHop d fun h => { h with buf := writeCells h.buf p.cells off bytes }

/-- Store a flow-context word: its poison goes (R262, R360). -/
def State.ctxPut (s : State) (d w : Nat) (v : Word) : State :=
  s.modDie d fun x => { x.freshUnit 4 0 w with ctx := sset x.ctx w v, ctxPoison := unmark x.ctxPoison w }

/-- Write a carry word of an instance; its poison goes (R92, R360). -/
def State.carryPut (s : State) (d i c : Nat) (v : Word) (p : Bool := false) : State :=
  match s.inst d i with
  | none => s
  | some x =>
    let w := 28 + c
    (s.setInst d i { x with words := x.words.set w v, poison := if p then mark x.poison w else unmark x.poison w }).modDie d
      fun y => y.freshUnit 7 0 (i * 48 + w)

/-- A word of an instance record, read by an engine. -/
def State.instWord (s : State) (d i w : Nat) : State × Word :=
  let s := s.readUnit d 7 0 (i * 48 + w) true
  (s, match s.inst d i with | some x => x.words.getD w 0 | none => 0)

/-- Words of an instance record. -/
def State.instWords (s : State) (d i w : Nat) : Nat → State × List Word
  | 0 => (s, [])
  | n + 1 =>
    let (s, v) := s.instWord d i w
    let (s, vs) := s.instWords d i (w + 1) n
    (s, v :: vs)

/-! ### Publishing a page (R396, R397) -/

/-- Copy a page's back words to the front. -/
def Answer.copyPage (a : Answer) (p : Nat) : Answer :=
  let mine := fun (k : Nat) => k / 1024 = p
  { a with
    front := (a.back.filter fun e => mine e.1).foldl (fun f e => sset f e.1 e.2) (a.front.filter fun e => !mine e.1)
    pending := unmark a.pending p }

/-- Publish a page: at once, or waiting in ANS.PENDING while a read sequence on it runs (R397, R399). -/
def State.publish (s : State) (p : Nat) : State :=
  if s.ans.seqPage = some p then
    if s.ans.pending.contains p then s
    else { s with ans := { s.ans with pending := mark s.ans.pending p } }.count 0 ctrANS 4
  else { s with ans := s.ans.copyPage p }.count 0 ctrANS 3

/-! ### Applying a commit (R108) -/

/-- Apply one entry of a commit log to its store. -/
def State.applyEntry (s : State) (d : Nat) (pid : Option Nat) : LogEntry → State
  | .packet off bytes => match pid with | some p => s.pktStore d p off bytes | none => s
  | .context w v => (s.ctxPut d w v).count d ctrFLC 1
  | .answer w v => { s with ans := { s.ans with back := sset s.ans.back w v } }
  | .publish _ => s
  | .enqueue _ => s
  | .table _ => s

/-- Enqueues of a log, in order. -/
def logEnqs (l : List LogEntry) : List Enq := l.filterMap fun e => match e with | .enqueue x => some x | _ => none

/-- Table updates of a log, in order. -/
def logTables (l : List LogEntry) : List TblCmd := l.filterMap fun e => match e with | .table x => some x | _ => none

/-- Pages that a log publishes, in order. -/
def logPages (l : List LogEntry) : List Nat := l.filterMap fun e => match e with | .publish p => some p | _ => none

/-- Release the locks that the thread of a committing operation held at its OPEND and still holds (R212). -/
def State.commitLocks (s : State) (d slot : Nat) : State :=
  (((List.range 36).filter fun h => (s.helper d h).atCommit = some slot)).foldl
    (fun s h => ((s.dropLock d h).count d ctrHLP 9).event d .hlp 3) s

/-- The enqueues of a commit join the instance's set, and so are applied: the instance is neither dropped nor aborted, and the set
would not pass 8 (R113, R114, R116). -/
def State.enqsJoin (s : State) (d : Nat) (o : Op) (es : List Enq) : Bool :=
  match s.inst d o.inst with
  | none => false
  | some x => !x.dropped && !x.aborted && x.enqs.length + es.length ≤ 8

/-- The commit's enqueues join the instance's set: dropped with a dropped or aborted instance, and an abort with FAULT when
the set would pass 8 (R113, R114). -/
def State.joinEnqs (s : State) (d slot : Nat) (o : Op) (es : List Enq) : State :=
  match s.inst d o.inst with
  | none => s
  | some x =>
    if es.isEmpty || x.dropped || x.aborted then s
    else if 8 < x.enqs.length + es.length then s.abortOp d slot rFAULT
    else s.setInst d o.inst { x with enqs := x.enqs ++ es }

/-- Apply an operation's commit: carry buffer, log and publishes at once; then its enqueues; its table updates follow one by
one, and without any the operation is done (R108). -/
def State.commitApply (s : State) (d slot : Nat) : State :=
  match s.op d slot with
  | none => s
  | some o =>
    if o.st = .commit then
      let s := o.carry.foldl (fun s c => s.carryPut d o.inst c.1 c.2) s
      let s := o.log.foldl (fun s e => s.applyEntry d o.pid e) s
      let s := (logPages o.log).foldl (fun s p => s.publish p) s
      let joined := s.enqsJoin d o (logEnqs o.log)
      let s := (s.count d ctrDSP 13 (if joined then o.log.length else o.log.length - (logEnqs o.log).length)).commitLocks d slot
      let tabs := logTables o.log
      let s := s.setOp d slot { o with st := .tables, tables := tabs, log := [], carry := [] }
      let s := s.joinEnqs d slot o (logEnqs o.log)
      if tabs.isEmpty then s.finishOp d slot else s
    else s

/-- COMMIT_APPLY (R108). -/
def execCommitApply (d slot : Nat) (s : State) : Res := onDieS s d fun s => s.commitApply d slot

/-- Record the first non-DONE code of the logged table updates in STATUS (R92, R108). -/
def State.statusCode (s : State) (d i code : Nat) : State :=
  match s.inst d i with
  | none => s
  | some x =>
    let w := (x.words.getD 23 0).toNat
    if code ≠ cDONE && bits w 0 8 = 0 then s.setInst d i { x with words := x.words.set 23 (w36 (putBits w 0 8 code)) } else s

/-- A logged table update completes: its code goes to STATUS, and after the last one the operation is done (R108). -/
def State.tableDone (s : State) (d slot code : Nat) (o : Op) : State :=
  let s := s.statusCode d o.inst code
  let rest := o.tables.tail
  let s := s.setOp d slot { o with tables := rest }
  if rest.isEmpty then s.finishOp d slot else s

/-- TBLU_ENTRY_COMPLETE: the next logged table update of an operation takes its access point and completes (R255). -/
def execTbluEntryComplete (d slot : Nat) (s : State) : Res :=
  onDieS s d fun s =>
    match s.op d slot with
    | none => s
    | some o =>
      match o.st, o.tables with
      | .tables, c :: _ =>
        let item := slot + 2 ^ 20
        match s.heldItem d 2 14 item with
        | some e => if e.gone then (s.dropItem d e).tableDone d slot (e.data.headD 0) o else s
        | none =>
          let active := s.tblActive d 13 (o.updItem slot)
          match s.pipeGate d 13 (o.updItem slot) with
          | (s, false) => s
          | (s, true) =>
            match (s.pipeTake d 13 (o.updItem slot)).tblRun d c.op c.table (s.reg d .tblBodyGen [s.bodyOf d c.table]) c.key
              c.res true active with
            | (s, none) => s
            | (s, some r) =>
              let (s, go) := s.delayPut d 2 14 item [r.code]
              if go then s.tableDone d slot r.code o else s
      | _, _ => s

/-! ### Engines (R87, R98, R113, R114) -/

/-- An engine completes an operation, which goes to COMMIT (R98). -/
def State.engineDone (s : State) (d slot : Nat) (o : Op) (outcome : Nat) : State :=
  s.setOp d slot { o with st := .commit, outcome := outcome, tEnd := some (s.time d)
                          tStart := o.tStart.or (some (s.time d)) }

/-- LOOKUP_NODE: the lookup of a LOOKUP operation (R87, R240). -/
def execLookupNode (d slot : Nat) (s : State) : Res :=
  onDieS s d fun s =>
    match s.op d slot with
    | none => s
    | some o =>
      if o.st = .engine && o.kind = 1 then
        let p := o.param
        let n := bits p 6 2 + 1
        let (s, ws) := s.instWords d o.inst (if bit p 8 then 28 + bits p 9 4 else 8) n
        match s.lookupFor d 13 (o.lookItem slot) (bits p 0 6) (ws ++ List.replicate (4 - n) 0) false with
        | (s, none) => s
        | (s, some r) =>
          if r.1 = 2 then s.abortOp d slot rPOISON
          else if r.1 = 1 then s.engineDone d slot o 1
          else
            let at_ := bits p 13 4
            s.engineDone d slot { o with carry := [(at_, r.2.getD 0 0), (at_ + 1, r.2.getD 1 0), (at_ + 2, r.2.getD 2 0)] } 0
      else s

/-- The queue and descriptor of an ENQUEUE operation (R87). -/
def State.enqueueOf (s : State) (d : Nat) (o : Op) (x : Inst) : State × Enq :=
  let p := o.param
  let (s, q) := s.instWord d o.inst (28 + bits p 21 4)
  let fp := match x.fp with | some e => e.toNat | none => 0
  let (die, queue) : Nat × Nat := match bits p 0 2 with
    | 0 => (bits p 2 3, bits p 5 12)
    | 1 => if bits fp 0 2 = 1 then (bits fp 6 3, bits fp 9 12) else (0, 0)
    | _ => (bits q.toNat 12 3, bits q.toNat 0 12)
  if bits p 17 4 = 15 then
    (s, { die := die, queue := queue, w1 := 0
          w0 := defaultDesc (match x.pid with | some pid => (match s.pkt d pid with | some k => k.len | none => 0) | none => 0) })
  else
    let (s, ws) := s.instWords d o.inst (28 + bits p 17 4) 2
    (s, { die := die, queue := queue, w0 := ws.getD 0 0, w1 := ws.getD 1 0 })

/-- ENQUEUE_NODE: an ENQUEUE operation logs its enqueue; it aborts the instance with FAULT when there is no packet or the
set is full (R96, R113). -/
def execEnqueueNode (d slot : Nat) (s : State) : Res :=
  onDieS s d fun s =>
    match s.op d slot with
    | none => s
    | some o =>
      match s.inst d o.inst with
      | none => s
      | some x =>
        if o.st = .engine && o.kind = 4 then
          if x.pid.isNone || 8 ≤ x.enqs.length then s.abortOp d slot rFAULT
          else
            let (s, e) := s.enqueueOf d o x
            s.engineDone d slot { o with log := [.enqueue e] } 0
        else s

/-- DISCARD_NODE: a DISCARD operation drops the packet (R114). -/
def execDiscardNode (d slot : Nat) (s : State) : Res :=
  onDieS s d fun s =>
    match s.op d slot with
    | none => s
    | some o =>
      if o.st = .engine && o.kind = 5 then (s.programDrop d o.inst).engineDone d slot o 0 else s

end Sys2Proof.Machine
end

