-- ==== Sys2Proof/Machine/Axes.lean ====
section
/-! DEFINITION. The axes on die 0, their records and views (R265 to R279), and the jumps and moves that milestones watch
(R282 to R286). -/

namespace Sys2Proof.Machine

open Sys2Proof

/-! ### Configuration and values -/

/-- Change the axes of the package. -/
def State.modAx (s : State) (f : Axes → Axes) : State := { s with ax := f s.ax }

/-- Change the views and milestones of a die. -/
def State.modMls (s : State) (d : Nat) (f : Mls → Mls) : State := s.modDie d fun x => { x with mls := f x.mls }

/-- A field of MLS.AXIS_CFG of axis n, 1 to 7. -/
def State.axCfg (s : State) (n lo w : Nat) : Nat := s.fld 0 .mlsAxisCfg [n - 1] lo w

/-- The type of an axis: 0 POSITION, 1 ANGLE, 2 PHASE (R265). -/
def State.axType (s : State) (n : Nat) : Nat := s.axCfg n 1 2

/-- STEP in units of 2^−12 (R272). -/
def State.axStep (s : State) (n : Nat) : Nat :=
  s.reg 0 .mlsAxisStep [n - 1] * 4096 + s.reg 0 .mlsAxisFrac [n - 1] % 4096

/-- An axis value of a 36-bit register in units of 2^−12: signed on POSITION. -/
def axOfReg (ty v : Nat) : Int := (if ty = 0 then sext v 36 else ((v % 2 ^ 36 : Nat) : Int)) * 4096

/-- An axis value in its range, in units of 2^−12 (R265). -/
def axNorm (ty : Nat) (v : Int) : Int := if ty = 0 then (v + 2 ^ 47) % 2 ^ 48 - 2 ^ 47 else v % 2 ^ 48

/-- The integer part of an axis value as 36 bits. -/
def axInt (v : Int) : Nat := ((v / 4096) % 2 ^ 36).toNat

/-- Time from one axis 0 time to another, on the 72-bit circle. -/
def since (t te : Nat) : Nat := (t + 2 ^ 72 - te) % 2 ^ 72

/-- The model value of a record at an axis 0 time, rounded down to 2^−12 (R274). -/
def AxisRec.model (r : AxisRec) (ty step t : Nat) : Int :=
  if r.st = 1 then
    match r.p with
    | none => r.ve
    | some p =>
      let stp : Nat := if ty = 2 then 2 ^ 48 else step
      let back := r.down && ty ≠ 2
      let num := stp * since t r.te
      let adv : Nat := if back then ceilDiv num (max 1 p) else num / max 1 p
      let adv : Int := if p ≤ since t r.te then (stp : Int) - 1 else (adv : Int)
      axNorm ty (if back then r.ve - adv else r.ve + adv)
  else r.ve

/-- The view of axis n on die d: its record and the model value last looked at. -/
def State.view (s : State) (d n : Nat) : AxisRec × Int := sgetD (s.die d).mls.views n ({}, 0)

/-- Set a view. -/
def State.setView (s : State) (d n : Nat) (r : AxisRec) (v : Int) : State :=
  s.modMls d fun m => { m with views := sset m.views n (r, v) }

/-- The model value of axis n on die d now. -/
def State.modelNow (s : State) (d n : Nat) : Int := (s.view d n).1.model (s.axType n) (s.axStep n) (s.time d)

/-- The slots AXIS_VAL, AXIS_EDGE and AXIS_RATE of a view, numbered 0 to 2 (R272, R273, R274). -/
def State.axisSlot (s : State) (d n which : Nat) : Nat :=
  let r := (s.view d n).1
  match which with
  | 0 => if r.st = 0 then 0 else axInt (s.modelNow d n)
  | 1 => axInt r.ve
  | _ =>
    match if r.st = 1 then r.p else none with
    | none => 0
    | some p =>
      let stp : Nat := if s.axType n = 2 then 2 ^ 48 else s.axStep n
      let q : Int := (stp * 1000000 / (max 1 p * 4096) : Nat)
      ((if r.down && s.axType n ≠ 2 then -q else q) % 2 ^ 36).toNat

/-- Master record of axis n on die 0. -/
def State.master (s : State) (n : Nat) : AxisMaster := sgetD s.ax.master n {}

/-- Set the master record of an axis. -/
def State.setMaster (s : State) (n : Nat) (m : AxisMaster) : State := s.modAx fun a => { a with master := sset a.master n m }

/-! ### Milestone entries and moves (R280 to R286) -/

/-- A word of a milestone entry. -/
def State.msWord (s : State) (d m w : Nat) : Nat := ((sgetD (s.die d).mls.ms m []).getD w 0).toNat

/-- The present compare value of a milestone: words 1 and 2 as armed, until a repeat has advanced it (R280, R284). -/
def State.msC (s : State) (d m : Nat) : Nat := sgetD (s.die d).mls.cmp m (s.msWord d m 2 * 2 ^ 36 + s.msWord d m 1)

/-- Set words of a milestone entry. -/
def State.msSet (s : State) (d m : Nat) (f : List Word → List Word) : State :=
  s.modMls d fun x => { x with ms := sset x.ms m (f (sgetD x.ms m (List.replicate 8 0))) }

/-- A move of one series of values of an axis (R282, R283): from `p` to `q` in units of `sc` per axis unit, its direction,
whether values wrap, the series (true: edge values), a jump, the crossing time it gives (none: the axis 0 value), and how far
its start lies ahead, in its direction, of the start of the move that is made with it. -/
structure Move where
  axis : Nat
  p : Int
  q : Int
  down : Bool
  wrap : Bool
  sc : Nat
  edges : Bool
  jump : Bool
  time : Option Nat
  lead : Int := 0

/-- The distance from the start of a move to a compare value and the length of the move, when the move crosses the value
(R282): UP is past `p` up to `q`, DOWN from `p` to before `q`. -/
def Move.crosses (m : Move) (c : Int) : Option (Nat × Nat) :=
  let dist := fun (x : Int) =>
    let y := if m.down then m.p - x else x - m.p
    if m.wrap then y % 2 ^ 48 else y
  let span := dist m.q
  let at_ := dist c
  if m.down then if 0 ≤ at_ && at_ < span then some (at_.toNat, span.toNat) else none
  else if 0 < at_ && at_ ≤ span then some (at_.toNat, span.toNat) else none

/-- The compare value of a milestone in the units of a move. -/
def State.msCompare (s : State) (d m : Nat) (v : Move) : Int :=
  if v.axis = 0 then s.msC d m else if v.wrap then (s.msC d m : Int) * 4096 else sext (s.msC d m) 36 * 4096

/-- A milestone watches the series of a move, and its direction accepts it (R282, R283). -/
def State.msWatches (s : State) (d m : Nat) (v : Move) : Bool :=
  let w0 := s.msWord d m 0
  let ty := s.axType v.axis
  bit (s.msWord d m 5) 0 && bits w0 0 3 = v.axis && !s.cfgBad d (cfgMilestone m) &&
    (bits w0 3 2 = 2 || bits w0 3 2 = if v.down then 1 else 0) &&
    (v.axis = 0 || (ty ≠ 2 && !bit w0 7) = v.edges) &&
    (bit w0 6 || (s.die d).mls.due.all fun f => f.ms ≠ m)

/-- Advance the compare value of a repeating milestone by `k` periods (R284). -/
def State.msAdvance (s : State) (d m k : Nat) (v : Move) : State :=
  let per : Int := (k * s.msWord d m 3 : Nat)
  let c : Int := s.msC d m
  let n := ((if bits (s.msWord d m 0) 3 2 = 1 then c - per else c + per) % (if v.axis = 0 then 2 ^ 72 else 2 ^ 36)).toNat
  s.modMls d fun x => { x with cmp := sset x.cmp m n }

/-- Add instances passed to MISSED (R284). -/
def State.msMissed (s : State) (d m k : Nat) : State :=
  if k = 0 then s
  else
    (s.msSet d m fun ws =>
      let w := (ws.getD 5 0).toNat
      ws.set 5 (w36 (putBits w 20 16 (min 65535 (bits w 20 16 + k))))).count d ctrMLS 4 k

/-- Put a firing in its place in the queue of due firings: those of one fabric cycle go by axis (R287). -/
def dueInsert (f : Firing) : List Firing → List Firing
  | [] => [f]
  | g :: gs => if g.at_ = f.at_ && f.axis < g.axis then f :: g :: gs else g :: dueInsert f gs

/-- A milestone crossed by a move fires or is skipped, and a repeating one advances beyond the move (R284, R286). -/
def State.msHit (s : State) (d : Nat) (v : Move) (m : Nat) : State :=
  match v.crosses (s.msCompare d m v) with
  | none => s
  | some (at_, span) =>
    let w0 := s.msWord d m 0
    let c := s.msC d m
    let per := s.msWord d m 3 * v.sc
    let rep := bit w0 6 && s.msWord d m 3 ≠ 0
    let more := if per = 0 then 0 else (if v.down then span - at_ - 1 else span - at_) / per
    if v.jump && bit w0 5 then
      let s := (s.msSet d m fun ws => ws.set 5 (w36 (putBit (ws.getD 5 0).toNat 2 true))).count d ctrMLS 3
      if rep then (s.msMissed d m (more + 1)).msAdvance d m (more + 1) v else s
    else
      let f : Firing := { ms := m, axis := v.axis, c := c, down := v.down, late := false, jump := v.jump
                          time := v.time.getD c, at_ := s.now }
      let s := s.modMls d fun x => { x with due := dueInsert f x.due }
      if rep then (s.msMissed d m more).msAdvance d m (more + 1) v else s

/-- A milestone that a move crosses, and how far along the axis. -/
structure Hit where
  far : Int
  ms : Nat
  move : Move

/-- Insert a crossing in axis order along the move, by number for equal values (R287). -/
def hitInsert (x : Hit) : List Hit → List Hit
  | [] => [x]
  | y :: ys => if x.far < y.far || (x.far = y.far && x.ms < y.ms) then x :: y :: ys else y :: hitInsert x ys

/-- The milestones that a move crosses. -/
def State.msHits (s : State) (d : Nat) (v : Move) : List Hit :=
  (s.die d).mls.ms.filterMap fun e =>
    if s.msWatches d e.1 v then (v.crosses (s.msCompare d e.1 v)).map fun x => ⟨v.lead + x.1, e.1, v⟩ else none

/-- Make moves of one axis together: the milestones that they cross, in axis order along them and by number for equal values
(R286, R287). -/
def State.msMoves (s : State) (d : Nat) (vs : List Move) : State :=
  ((vs.flatMap (s.msHits d)).foldl (fun l x => hitInsert x l) []).foldl (fun s x => s.msHit d x.move x.ms) s

/-- The moves of axis n, 1 to 7, on a die's view: on POSITION in the direction of the difference, else in the direction given; a
direction of 0, and the wrap of POSITION, cross nothing (R265, R282). -/
def State.axMoves (s : State) (n : Nat) (p q : Int) (dir : Int) (edges jump : Bool) (time : Nat) : List Move :=
  let pos := s.axType n = 0
  if p = q || dir = 0 || (pos && !jump && decide (2 ^ 47 ≤ (q - p).natAbs)) then []
  else
    [{ axis := n, p := p, q := q, down := if pos then q < p else dir < 0, wrap := !pos, sc := 4096
       edges := edges, jump := jump, time := some time }]

/-- How far a move starts ahead of another, in its direction. -/
def Move.ahead (v base : Move) : Int :=
  let x := if v.down then base.p - v.p else v.p - base.p
  (x + 2 ^ 47) % 2 ^ 48 - 2 ^ 47

/-- Make the move of the edge values and the move of the model together; two opposite moves of POSITION go one after the other,
the edge values first, which is the part's choice (R283, R286, R287). -/
def State.axMove (s : State) (d : Nat) (edge model : List Move) : State :=
  match edge, model with
  | [a], [b] =>
    if a.down = b.down then s.msMoves d [a, { b with lead := b.ahead a }] else (s.msMoves d [a]).msMoves d [b]
  | _, _ => s.msMoves d (edge ++ model)

/-- The present direction of a record: 1 forward, −1 backward. -/
def State.axDir (s : State) (n : Nat) (r : AxisRec) : Int := if r.down && s.axType n ≠ 2 then -1 else 1

/-- Follow the growth of a view's model up to now. -/
def State.axGrow (s : State) (d n : Nat) : State :=
  let v := s.view d n
  let q := s.modelNow d n
  if q = v.2 then s
  else (s.msMoves d (s.axMoves n v.2 q (s.axDir n v.1) false false (s.time d))).setView d n v.1 q

/-- Evaluate a die's milestones up to now: axis 0 and the models (R283, R287). -/
def State.msEval (s : State) (d : Nat) : State :=
  let p := (s.die d).mls.seen
  let q := s.time d
  let s :=
    if p < q then
      (s.msMoves d [{ axis := 0, p := p, q := q, down := false, wrap := false, sc := 1, edges := false, jump := false
                      time := none }]).modMls d fun m => { m with seen := q }
    else s
  ((s.die d).mls.views.map (·.1)).foldl (fun s n => s.axGrow d n) s

/-- A view takes a record: one that enters HELD is counted (R276, R277, R298). -/
def State.putView (s : State) (d n : Nat) (r : AxisRec) (v : Int) : State :=
  let entered := r.st = 2 && (s.view d n).1.st ≠ 2
  let s := s.setView d n r v
  if entered then (s.count d ctrMLS 12).event d .mls 0 else s

/-- Replace a view's record: a move of the edge values with its crossing time, and one of the model (R283); a record of another
enabling than the view's makes no move (R276). -/
def State.axReplace (s : State) (d n : Nat) (r : AxisRec) (dir : Int) : State :=
  let s := s.axGrow d n
  let old := s.view d n
  let q := r.model (s.axType n) (s.axStep n) (s.time d)
  let dir := if old.1.st = 0 || r.st = 0 || old.1.born ≠ r.born then 0 else dir
  (s.axMove d (s.axMoves n old.1.ve r.ve dir true false r.te) (s.axMoves n old.2 q dir false false (s.time d))).putView d n r q

/-! ### Edges (R268 to R273, R278, R452) -/

/-- The sum of the jumps of an axis whose apply point lies after a time and which have not taken effect. -/
def State.pendingDelta (s : State) (n te : Nat) : Int :=
  ((s.ax.jumps.filter fun j => j.axis = n && 0 < since j.at_ te && since j.at_ te < 2 ^ 71).map (·.delta)).sum

/-- Put a record of axis n on its way to the views. -/
def State.sendRec (s : State) (n : Nat) (r : AxisRec) (dir : Int) : State :=
  let r := { r with ve := axNorm (s.axType n) (r.ve - s.pendingDelta n r.te) }
  s.modAx fun a => { a with recs := a.recs ++ [⟨n, r, dir⟩] }

/-- A force of grit holds the axis. -/
def State.axForced (s : State) (m : AxisMaster) : Bool :=
  match m.forced with | some t => s.now < t | none => false

/-- The enabled axes that an input feeds, of types that a test accepts. -/
def State.axesOf (s : State) (input : Nat) (ok : Nat → Bool) : List Nat :=
  (List.range 8).filter fun n => 1 ≤ n && (s.master n).cur.st ≠ 0 && s.axCfg n 3 4 = input && ok (s.axType n)

/-- A counted edge of axis n (R272, R273): under a force it moves the hidden value alone (R452); an index edge of the same
timestamp stands after it (R271). -/
def State.axEdge (s : State) (n te : Nat) (back : Bool) : State :=
  let m := s.master n
  let down := back != bit (s.reg 0 .mlsAxisCfg [n - 1]) 7
  let ty := s.axType n
  let base := m.hidden.getD m.cur.ve
  let raw := if m.idxAt = some te then base else if down then base - s.axStep n else base + s.axStep n
  let ve := axNorm ty raw
  if s.axForced m then s.setMaster n { m with hidden := some ve, last := some (te, down) }
  else
    let p := match m.last with
      | some (t, d) => if d = down && m.cur.st = 1 then some (since te t) else none
      | none => none
    let r := { m.cur with st := 1, ve := ve, te := te, p := p, down := down }
    (s.setMaster n { m with cur := r, last := some (te, down), hidden := none, forced := none }).sendRec n r
      (if ty = 0 && ve ≠ raw then 0 else if down then -1 else 1)

/-- ENCODER_EDGE: new levels of A and B of an encoder, held for a time in ns (R268, R269). -/
def execEncoderEdge (enc : Nat) (a b : Bool) (held : Nat) (s : State) : Res :=
  if 6 ≤ enc then .fault .absent
  else
    cmd s fun s =>
      let cfg := s.reg 0 .mlsInputCfg [enc]
      let old := sgetD s.ax.enc enc 0
      let da := a ≠ bit old 0
      let db := b ≠ bit old 1
      if !da && !db then s
      else if held < bits cfg 0 6 then s.count 0 ctrMLS 9
      else
        let te := since (s.time 0) (bits cfg 0 6)
        let s := s.modAx fun x => { x with enc := sset x.enc enc ((if a then 1 else 0) + if b then 2 else 0) }
        let mode := bits cfg 6 2
        if da && db then (s.count 0 ctrMLS 10).event 0 .mls 3
        else if db && (mode = 1 || mode = 2) then s
        else if mode = 2 && !a then s
        else
          let back := if da then a = b else a ≠ b
          (s.axesOf enc (· < 2)).foldl (fun s n => s.axEdge n te back) (s.count 0 ctrMLS 8)

/-- An index edge of axis n sets V_e to AXIS_REF under INDEX_MODE; the direction of the move on ANGLE is the part's choice
(R271, R272). One that ends HELD leaves P to the next two counted edges (R278). -/
def State.axIndex (s : State) (n te : Nat) : State :=
  let m := s.master n
  let mode := s.axCfg n 8 2
  if mode = 1 || (mode = 2 && !m.idxDone) then
    let ref := axOfReg (s.axType n) (s.reg 0 .mlsAxisRef [n - 1])
    let ve := axNorm (s.axType n) (ref + s.pendingDelta n te)
    let m := { m with idxDone := true, idxAt := some te }
    if s.axForced m then s.setMaster n { m with hidden := some ve }
    else
      let r := { m.cur with st := 1, ve := ve, te := te, p := if m.cur.st = 1 then m.cur.p else none }
      let (c, s) := s.choose 2
      let last := if m.cur.st = 1 then m.last else none
      (s.setMaster n { m with cur := r, last := last, hidden := none, forced := none }).sendRec n r (if c = 0 then 1 else -1)
  else s

/-- INDEX_EDGE: an index edge of an encoder, held for a time in ns (R268, R271). -/
def execIndexEdge (enc held : Nat) (s : State) : Res :=
  if 6 ≤ enc then .fault .absent
  else
    cmd s fun s =>
      let cfg := s.reg 0 .mlsInputCfg [enc]
      if held < bits cfg 0 6 then s.count 0 ctrMLS 9
      else (s.axesOf enc (· < 2)).foldl (fun s n => s.axIndex n (since (s.time 0) (bits cfg 0 6))) s

/-- Frequency of a supply in tenths of a hertz (R270): 16.7 Hz, 50 Hz, 60 Hz; 3 acts as 1. -/
def supplyDeciHz (nominal : Nat) : Nat := match nominal with | 0 => 167 | 2 => 600 | _ => 500

/-- Less than half a nominal supply period (R270). -/
def zcEarly (nominal dt : Nat) : Bool := 2 * dt * supplyDeciHz nominal < 10000000000

/-- A zero crossing of PHASE axis n (R270, R272, R273, R278). -/
def State.axCross (s : State) (n te : Nat) : State :=
  let m := s.master n
  if s.axForced m then s.setMaster n { m with last := some (te, false) }
  else
    let held := m.cur.st = 2
    let ref := axNorm 2 (axOfReg 2 (s.reg 0 .mlsAxisRef [n - 1]) + s.pendingDelta n te)
    let p := match m.last with | some (t, _) => if held then none else some (since te t) | none => none
    let r := { m.cur with st := 1, ve := if held then m.cur.ve else ref, te := te, p := p, down := false }
    (s.setMaster n { m with cur := r, last := some (te, false), hidden := none, forced := none }).sendRec n r
      (if held then 0 else 1)

/-- ZERO_CROSSING: an edge of a zero-crossing input, 6 to 9, held for a time in ns (R268, R270). -/
def execZeroCrossing (input : Nat) (falling : Bool) (held : Nat) (s : State) : Res :=
  if input < 6 || 10 ≤ input then .fault .absent
  else
    cmd s fun s =>
      let cfg := s.reg 0 .mlsInputCfg [input]
      if held < bits cfg 0 6 then s.count 0 ctrMLS 9
      else if bit cfg 6 ≠ falling then s
      else
        let te := since (s.time 0) (bits cfg 0 6)
        let ns := s.axesOf input (· = 2)
        let early := fun n => match (s.master n).last with
          | some (t, _) => zcEarly (bits cfg 8 2) (since te t)
          | none => false
        if ns.isEmpty then s
        else if ns.all early then s.count 0 ctrMLS 11
        else (ns.filter fun n => !early n).foldl (fun s n => s.axCross n te) (s.count 0 ctrMLS 8)

/-! ### Views (R275 to R278) -/

/-- Axis n of a die's view enters HELD from ACTIVE: the value falls back to V_e and crosses nothing (R277). -/
def State.viewHeld (s : State) (d n : Nat) : State :=
  let s := s.axGrow d n
  let r := (s.view d n).1
  if r.st = 1 then s.putView d n { r with st := 2, p := none } r.ve else s

/-- Change something on every die of the package. -/
def State.eachDie (s : State) (f : State → Nat → State) : State :=
  (List.range 8).foldl (fun s d => if s.has d then f s d else s) s

/-- AXIS_BROADCAST: a broadcast frame reaches every die that die 0 reaches; a lost view returns with it (R275). -/
def execAxisBroadcast (s : State) : Res :=
  cmd s fun s => s.eachDie fun s d =>
    if d = 0 || s.reach 0 d then
      let lost := (s.die d).mls.lost
      let s := s.modMls d fun m => { m with lost := false, frameAt := s.now }
      if lost then (List.range 8).foldl (fun s n =>
        if n = 0 then s
        else s.axReplace d n (s.view 0 n).1 (if s.axType n = 2 then 0 else s.axDir n (s.view 0 n).1)) s
      else s
    else s

/-- BCAST_LOSS: a die has received no broadcast frame for 64 ns (R275). -/
def execBcastLoss (d : Nat) (s : State) : Res :=
  onDie s d fun s =>
    let m := (s.die d).mls
    if d = 0 || m.lost || s.now < m.frameAt + 64 then s
    else
      let s := (List.range 8).foldl (fun s n => s.viewHeld d n) s
      ((s.modMls d fun m => { m with lost := true }).count d ctrMLS 13).event d .mls 5

/-- The view delay of a record has passed, and no jump that comes before it is still to come (R275, R286). -/
def State.recDue (s : State) (x : AxisFlight) : Bool :=
  reached (s.time 0) ((x.recd.te + 48) % 2 ^ 72) &&
    s.ax.jumps.all fun j => j.axis ≠ x.axis || 2 ^ 71 ≤ since x.recd.te j.at_

/-- AXIS_RECORD_EFFECT: the oldest record that is due takes effect on every die at t_e + 48 ns (R275), after a jump that is due
no later. -/
def execAxisRecordEffect (s : State) : Res :=
  cmd s fun s =>
    match s.ax.recs.find? s.recDue with
    | none => s
    | some x =>
      (s.modAx fun a => { a with recs := a.recs.erase x }).eachDie fun s d =>
        if (s.die d).mls.lost then s else s.axReplace d x.axis x.recd x.dir

/-- The whole ns of the extrapolation bound of axis n (R277). -/
def State.holdBound (s : State) (n : Nat) (r : AxisRec) : Nat :=
  let mult := max 1 (s.axCfg n 11 4)
  let cap := 1000 * min 4000 (max 1 (s.axCfg n 15 12))
  if s.axType n = 2 then
    match r.p with
    | some p => mult * p
    | none => mult * 10000000000 / supplyDeciHz (s.fld 0 .mlsInputCfg [s.axCfg n 3 4] 8 2)
  else match r.p with
    | some p => min (mult * p) cap
    | none => cap

/-- Axis n enters HELD on die 0 and in every view (R277, R452). -/
def State.axHold (s : State) (n : Nat) : State :=
  let m := s.master n
  if m.cur.st = 1 then
    (s.setMaster n { m with cur := { m.cur with st := 2, p := none } }).eachDie fun s d => s.viewHeld d n
  else s

/-- AXIS_HELD: an ACTIVE axis has passed its extrapolation bound (R277). -/
def execAxisHeld (n : Nat) (s : State) : Res :=
  if n = 0 || 8 ≤ n then .fault .absent
  else
    cmd s fun s =>
      let r := (s.master n).cur
      if r.st = 1 && s.ax.recs.all (fun x => x.axis ≠ n) && s.holdBound n r < since (s.time 0) r.te then s.axHold n else s

/-! ### Enabling (R276, R279, R296) -/

/-- Words of the journal MRAM. -/
def State.mramWord (s : State) (a : Nat) : Word := sgetD s.mram a 0

/-- CRC-32C over words, as R236 computes it, with a seed of all ones. -/
def crcWords (ws : List Word) : Nat := crc32c 0xFFFFFFFF (ws.flatMap keyBytes5)

/-- The words of an axis record of the journal. -/
def State.axisRecord (s : State) (slot : Nat) : List Word := (List.range 16).map fun w => s.mramWord (6144 + 16 * slot + w)

/-- An axis record whose CRC is valid. -/
def axisRecordOk (ws : List Word) : Bool := (ws.getD 15 0).toNat = crcWords (ws.take 15)

/-- The slot of the valid record with the highest SEQ (R296). -/
def State.lastAxisRecord (s : State) : Option Nat :=
  (List.range 256).foldl (fun best slot =>
    if axisRecordOk (s.axisRecord slot) then
      match best with
      | none => some slot
      | some b => if (s.mramWord (6144 + 16 * b)).toNat < (s.mramWord (6144 + 16 * slot)).toNat then some slot else best
    else best) none

/-- The value that the journal restores for axis n (R296). -/
def State.restoreValue (s : State) (n : Nat) : Option Nat :=
  match s.lastAxisRecord with
  | none => none
  | some slot =>
    let ws := s.axisRecord slot
    let w := (ws.getD 10 0).toNat
    if bits w (2 * n - 2) 2 ≠ 0 && bits w (2 * n + 12) 2 = s.axType n then some (ws.getD (n + 2) 0).toNat else none

/-- Put a record at once into the views of axis n that follow the broadcast. -/
def State.viewsNow (s : State) (n : Nat) (r : AxisRec) : State :=
  s.eachDie fun s d => if (s.die d).mls.lost then s else s.putView d n r r.ve

/-- Enable axis n: it enters HELD at AXIS_INIT or the restored value, and crosses nothing (R276, R296). -/
def State.axEnable (s : State) (n : Nat) : State :=
  let back : Option Nat := if bit (s.reg 0 .mlsAxisCfg [n - 1]) 10 then s.restoreValue n else none
  let ve := axOfReg (s.axType n) (back.getD (s.reg 0 .mlsAxisInit [n - 1]))
  let r : AxisRec := { born := s.now, st := 2, ve := ve, te := s.time 0, restored := back.isSome }
  (s.setMaster n { cur := r }).viewsNow n r

/-- Turn axis n OFF (R276): its records on their way and its jumps go. -/
def State.axDisable (s : State) (n : Nat) : State :=
  ((s.setMaster n {}).modAx fun a => { a with recs := a.recs.filter (·.axis ≠ n), jumps := a.jumps.filter (·.axis ≠ n) }).eachDie
    fun s d => if (s.die d).mls.lost then s else s.setView d n {} 0

/-- A write of AXIS_CFG of axis n (R279): while enabled only a write that clears ENABLE acts; a bad TYPE or SRC makes a write
that sets ENABLE a violation. -/
def State.axisCfgWrite (s : State) (n v : Nat) : State :=
  let old := s.reg 0 .mlsAxisCfg [n - 1]
  let v := bits v 0 27
  if bit old 0 then
    if v = old then s
    else if bit v 0 then s.violation 0
    else (s.setReg 0 .mlsAxisCfg [n - 1] (putBit old 0 false)).axDisable n
  else if bit v 0 then
    let ty := bits v 1 2
    let src := bits v 3 4
    if ty = 3 || 10 ≤ src || (src < 6) = (ty = 2) then s.violation 0
    else (s.setReg 0 .mlsAxisCfg [n - 1] v).axEnable n
  else s.setReg 0 .mlsAxisCfg [n - 1] v

/-- AXIS_ENABLE: a write that sets AXIS_CFG.ENABLE. -/
def execAxisEnable (n : Nat) (v : Dword) (s : State) : Res :=
  cmd s fun s => if n = 0 || 8 ≤ n then s.violation 0 else s.axisCfgWrite n (putBit v.toNat 0 true)

/-- AXIS_DISABLE: a write that clears AXIS_CFG.ENABLE. -/
def execAxisDisable (n : Nat) (v : Dword) (s : State) : Res :=
  cmd s fun s => if n = 0 || 8 ≤ n then s.violation 0 else s.axisCfgWrite n (putBit v.toNat 0 false)

/-- A write of another register of axis n: a violation while the axis is enabled, unless it changes nothing (R10, R279). -/
def State.axisRegWrite (s : State) (n : Nat) (r : RegId) (v : Nat) : State :=
  if bit (s.reg 0 .mlsAxisCfg [n - 1]) 0 && v ≠ s.reg 0 r [n - 1] then s.violation 0 else s.setReg 0 r [n - 1] v

/-- A write of INPUT_CFG: a violation while an enabled axis uses the input, unless it changes nothing (R10, R279). -/
def State.inputCfgWrite (s : State) (i v : Nat) : State :=
  let used := (List.range 8).any fun n => 1 ≤ n && bit (s.reg 0 .mlsAxisCfg [n - 1]) 0 && s.axCfg n 3 4 = i
  if used && bits v 0 10 ≠ s.reg 0 .mlsInputCfg [i] then s.violation 0 else s.setReg 0 .mlsInputCfg [i] (bits v 0 10)

/-! ### Jumps (R286) -/

/-- Shift an axis 0 time by a jump of axis 0. -/
def shiftTime (t : Nat) (delta : Int) : Nat := (((t : Int) + delta) % 2 ^ 72).toNat

/-- The interval between ticks of the tally reader in ns (R431). -/
def State.snapInterval (s : State) (d : Nat) : Nat := 1000 * min 1000000 (max 1 (s.fld d .tlySnapCfg [] 3 20))

/-- A jump of axis 0 on one die (R267, R286, R431). -/
def State.jumpTime (s : State) (d : Nat) (delta : Int) : State :=
  let s := s.msEval d
  let p := s.time d
  let q := shiftTime p delta
  let s := s.modDie d fun x => { x with t0 := q, tly := { x.tly with nextTick := (q / s.snapInterval d + 1) * s.snapInterval d } }
  let s := s.modMls d fun m => { m with seen := q, views := m.views.map fun e =>
    (e.1, ({ e.2.1 with te := shiftTime e.2.1.te delta }, e.2.2)) }
  if delta < 0 then s
  else s.msMoves d [{ axis := 0, p := p, q := p + delta, down := false, wrap := false, sc := 1, edges := false, jump := true
                      time := some q }]

/-- Times of die 0's axis records shifted by a jump of axis 0. -/
def Axes.shift (a : Axes) (delta : Int) : Axes :=
  let rc := fun (r : AxisRec) => { r with te := shiftTime r.te delta }
  let ms := fun (e : Nat × AxisMaster) =>
    (e.1, { e.2 with cur := rc e.2.cur, last := e.2.last.map fun l => (shiftTime l.1 delta, l.2)
                     idxAt := e.2.idxAt.map fun t => shiftTime t delta })
  { a with
    master := a.master.map ms
    recs := a.recs.map fun x => { x with recd := rc x.recd }
    jumps := a.jumps.map fun j => { j with at_ := shiftTime j.at_ delta } }

/-- A jump of axis n, 1 to 7, on one die's view (R286): the edge values and the model move by the offset. -/
def State.jumpView (s : State) (d n : Nat) (delta : Int) : State :=
  let s := s.axGrow d n
  let (r, v) := s.view d n
  let ty := s.axType n
  let r' := { r with ve := axNorm ty (r.ve + delta) }
  let q := axNorm ty (v + delta)
  let dir := s.axDir n r
  (s.setView d n r' q).axMove d (s.axMoves n r.ve r'.ve dir true true (s.time d)) (s.axMoves n v q dir false true (s.time d))

/-- JUMP_EFFECT: a jump takes effect on every die 48 ns after its apply point (R286), once no record of an earlier edge is on
its way. -/
def execJumpEffect (s : State) : Res :=
  cmd s fun s =>
    match s.ax.jumps with
    | [] => s
    | j :: rest =>
      if s.now < j.due || s.ax.recs.any (fun x => x.axis = j.axis && 0 < since j.at_ x.recd.te && since j.at_ x.recd.te < 2 ^ 71)
      then s
      else
        let s := s.modAx fun a => { a with jumps := rest }
        if j.axis = 0 then
          let s := (s.modAx fun a => a.shift j.delta).eachDie fun s d => s.jumpTime d j.delta
          s.modAx fun a => { a with ppsNext := (s.time 0 / 1000000000 + 1) * 1000000000 }
        else s.eachDie fun s d => s.jumpView d j.axis j.delta

/-! ### 1PPS (R267) -/

/-- PPS_OUT_RISE: axis 0 has reached a whole second. -/
def execPpsOutRise (s : State) : Res :=
  cmd s fun s =>
    if bit (s.reg 0 .mlsPpsCfg []) 0 && reached (s.time 0) s.ax.ppsNext then
      (s.modAx fun a => { a with
        ppsNext := (s.time 0 / 1000000000 + 1) * 1000000000 % 2 ^ 72
        ppsFall := some (s.now + 1000000 * min 999 (max 1 (s.fld 0 .mlsPpsCfg [] 1 10))) }).emit (.pps true)
    else s

/-- PPS_OUT_FALL: 1PPS falls after WIDTH ms. -/
def execPpsOutFall (s : State) : Res :=
  cmd s fun s =>
    match s.ax.ppsFall with
    | some t => if t ≤ s.now then (s.modAx fun a => { a with ppsFall := none }).emit (.pps false) else s
    | none => s

/-- PPS_IN_EDGE: a 1PPS input edge of the selected polarity is timestamped. -/
def execPpsInEdge (falling : Bool) (s : State) : Res :=
  cmd s fun s =>
    let cfg := s.reg 0 .mlsPpsCfg []
    if bit cfg 11 && bit cfg 12 = falling then
      (s.setReg 0 .mlsPpsInLo [] (bits (s.time 0) 0 36)).setReg 0 .mlsPpsInHi [] (bits (s.time 0) 36 36)
    else s

/-! ### The axis journal (R295) -/

/-- The words 0 to 14 of an axis record. -/
def State.axisWords (s : State) (seq : Nat) : List Word :=
  let ns := (List.range 8).drop 1
  let w10 := ns.foldl (fun m n => m + (s.master n).cur.st * 2 ^ (2 * n - 2) + s.axType n * 2 ^ (2 * n + 12)) 0
  [w36 seq, w36 (s.time 0 / 2 ^ 36), w36 (s.time 0)] ++ (ns.map fun n => w36 (axInt (s.master n).cur.ve)) ++
    [w36 w10, 0, 0, 0, 0]

/-- AXIS_JOURNAL_RECORD: every 10 ms die 0 writes an axis record to the next slot of the ring (R295). -/
def execAxisJournalRecord (s : State) : Res :=
  cmd s fun s =>
    if s.now < s.ax.jrnNext then s
    else
      let s := s.modAx fun a => { a with jrnNext := (s.now / 10000000 + 1) * 10000000 }
      if bit (s.reg 0 .mlsJrnCtl []) 0 then
        let last := s.lastAxisRecord
        let slot := match last with | some x => (x + 1) % 256 | none => 0
        let seq := match last with | some x => (s.mramWord (6144 + 16 * x)).toNat + 1 | none => 0
        let ws := s.axisWords seq
        let ws := ws ++ [w36 (crcWords ws)]
        let s := { s with mram := (List.range 16).foldl (fun m w => sset m (6144 + 16 * slot + w) (ws.getD w 0)) s.mram }
        (s.setFld 0 .mlsJrnCtl [] 1 8 slot).count 0 ctrMLS 15
      else s

/-! ### Latching reads (R266, R267, R274) -/

/-- Latch a value under a register's offset. -/
def State.setLatch (s : State) (d off v : Nat) : State := s.modDie d fun x => { x with latch := sset x.latch off v }

/-- TIME_READ_LATCH: a read of MLS.TIME_LO latches all 72 bits (R266). -/
def execTimeReadLatch (d : Nat) (s : State) : Res :=
  onHostRead s d true fun s => (s.setLatch d (regOff .mlsTimeLo []) (s.time d)).emit (.readData (bits (s.time d) 0 32) false)

/-- PPS_IN_READ_LATCH: a read of MLS.PPS_IN_LO latches both halves (R267). -/
def execPpsInReadLatch (s : State) : Res :=
  cmd s fun s =>
    let v := s.reg 0 .mlsPpsInLo [] + s.reg 0 .mlsPpsInHi [] * 2 ^ 36
    (s.setLatch 0 (regOff .mlsPpsInLo []) v).emit (.readData (bits v 0 32) false)

/-- The registers of the three slots of a view. -/
def axisSlotReg (which : Nat) : RegId := match which with | 0 => .mlsAxisVal | 1 => .mlsAxisEdge | _ => .mlsAxisRate

/-- AXIS_VALUE_READ_LATCH: a read of the low half of AXIS_VAL, AXIS_EDGE or AXIS_RATE latches the slot (R274). -/
def execAxisValueReadLatch (d n which : Nat) (s : State) : Res :=
  onHostRead s d (1 ≤ n && n < 8 && which < 3) fun s =>
    let v := s.axisSlot d n which
    (s.setLatch d (regOff (axisSlotReg which) [n - 1]) v).emit (.readData (bits v 0 32) false)

end Sys2Proof.Machine
end

