-- ==== Sys2Proof/Machine/Gates.lean ====
section
/-! DEFINITION. Gate lists: the state that a list gives a queue from its axis, what changes it, and the writes of the list
registers (R313 to R316, R318). -/

namespace Sys2Proof.Machine

open Sys2Proof

/-- A queue of a die. -/
def State.queue (s : State) (d q : Nat) : Queue := sgetD (s.die d).egr.queues q {}

/-- Set a queue. -/
def State.setQueue (s : State) (d q : Nat) (x : Queue) : State := s.modEgr d fun e => { e with queues := sset e.queues q x }

/-! ### Gate lists (R313 to R316) -/

/-- The gate index of a port with gates (EGR register map). -/
def gateIndex (p : Nat) : Nat := if p < 10 then p else p - 6

/-- The local port of a gate index. -/
def gatePort (pp : Nat) : Nat := if pp < 10 then pp else pp + 6

/-- A field of a gate list's GL_CFG. -/
def State.glCfg (s : State) (d pp l lo w : Nat) : Nat := s.fld d .egrGlCfg [pp, l] lo w

/-- A word of a gate-list entry. -/
def State.glWord (s : State) (d pp l e w : Nat) : Nat := (sgetD (s.die d).egr.glist (((pp * 8 + l) * 64 + e) * 2 + w) 0).toNat

/-- POINT of an entry. -/
def State.glPoint (s : State) (d pp l e : Nat) : Nat := s.glWord d pp l e 0

/-- ENTRIES of a list. -/
def State.glEntries (s : State) (d pp l : Nat) : Nat := s.glCfg d pp l 7 7

/-- The state of a list at a place x of its cycle and the last entry applied (R314). -/
def State.glAt (s : State) (d pp l : Nat) (x : Nat) : Nat × Nat :=
  let es := (List.range (s.glEntries d pp l)).takeWhile fun e => s.glPoint d pp l e ≤ x
  es.foldl (fun st e =>
    let w := s.glWord d pp l e 1
    let q := bits w 0 16
    (match bits w 16 2 with | 0 => q | 1 => st.1 ||| q | _ => st.1 - (st.1 &&& q), e)) (s.reg d .egrGlInit [pp, l], 0)

/-- The place of a list on its axis: its cycle (none: not periodic), the axis value past BASE, and END past that value. -/
structure GlPlace where
  x : Nat
  cycle : Option Nat
  toEnd : Option Nat
  fromBase : Option Nat

/-- What a list gives at present. -/
inductive GlNow where
  /-- it imposes nothing -/
  | off
  /-- its HOLD setting applies -/
  | hold
  | state (m e : Nat) (g : GlPlace)

/-- The value that keys a list on axes 1 to 7: the model value on PHASE and under PREDICT, else the edge value (R314). -/
def State.glValue (s : State) (d pp l n : Nat) : Int :=
  if s.axType n = 2 || s.glCfg d pp l 6 1 = 1 then s.modelNow d n / 4096 else (s.view d n).1.ve / 4096

/-- A list's place on a line (axis 0, POSITION): none outside BASE to END (R314). -/
def glLine (v base : Int) (fin : Option Int) (cycle : Nat) : Option GlPlace :=
  if v < base || (match fin with | some e => decide (e ≤ v) | none => false) then none
  else
    let x := (v - base).toNat
    some { x := if cycle = 0 then x else x % cycle, cycle := if cycle = 0 then none else some cycle
           toEnd := fin.map fun e => (e - v).toNat, fromBase := some x }

/-- A list that is enabled; one with an uncorrectable entry is not in effect (R357). -/
def State.glOn (s : State) (d pp l : Nat) : Bool :=
  s.glCfg d pp l 0 1 = 1 &&
    !(List.range (s.glEntries d pp l)).any fun e => s.cfgBad d (cfgGate ((pp * 8 + l) * 64 + e))

/-- The axis value of a list on a line (axis 0, POSITION), its BASE, and its END unless it never ends (R314). -/
def State.glWindow (s : State) (d pp l : Nat) : Int × Int × Option Int :=
  let n := s.glCfg d pp l 1 3
  let lo := fun (r : RegId) => s.reg d r [pp, l]
  let forever := lo .egrGlEndLo = 2 ^ 36 - 1 && lo .egrGlEndHi = 2 ^ 36 - 1
  if n = 0 then
    ((s.time d : Int), ((lo .egrGlBaseLo + lo .egrGlBaseHi * 2 ^ 36 : Nat) : Int),
      if forever then none else some ((lo .egrGlEndLo + lo .egrGlEndHi * 2 ^ 36 : Nat) : Int))
  else
    (s.glValue d pp l n, sext (lo .egrGlBaseLo) 36, if forever then none else some (sext (lo .egrGlEndLo) 36))

/-- The present state of an enabled list by R314. -/
def State.glNow (s : State) (d pp l : Nat) : GlNow :=
  let n := s.glCfg d pp l 1 3
  let cycle := s.reg d .egrGlCycle [pp, l]
  let at_ := fun (g : GlPlace) => let r := s.glAt d pp l g.x; GlNow.state r.1 r.2 g
  if !s.glOn d pp l then .off
  else if n ≠ 0 && (s.view d n).1.st ≠ 1 then .hold
  else if n = 0 || s.axType n = 0 then
    let w := s.glWindow d pp l
    match glLine w.1 w.2.1 w.2.2 cycle with
    | some g => at_ g
    | none => .off
  else
    let y := ((s.glValue d pp l n - s.reg d .egrGlBaseLo [pp, l]) % 2 ^ 36).toNat
    at_ { x := if cycle = 0 then y else y % cycle, cycle := some (if cycle = 0 then 2 ^ 36 else cycle), toEnd := none
          fromBase := none }

/-- Where a list on a line that is not in effect next comes into effect: how far along the axis, going up or down, and its
place there. -/
def State.glEnter (s : State) (d pp l : Nat) (down : Bool) : Option (Nat × GlPlace) :=
  let n := s.glCfg d pp l 1 3
  let w := s.glWindow d pp l
  let cycle := s.reg d .egrGlCycle [pp, l]
  if !s.glOn d pp l || (n ≠ 0 && s.axType n ≠ 0) then none
  else if down then
    match w.2.2 with
    | some e => if e ≤ w.1 then (glLine (e - 1) w.2.1 w.2.2 cycle).map fun g => ((w.1 - e + 1).toNat, g) else none
    | none => none
  else if w.1 < w.2.1 then (glLine w.2.1 w.2.1 w.2.2 cycle).map fun g => ((w.2.1 - w.1).toNat, g)
  else none

/-- A list lets a queue (0 to 15) of its port send (R313, R314). -/
def State.glOpen (s : State) (d pp l q : Nat) : Bool :=
  !bit (s.glCfg d pp l 14 16) q ||
    match s.glNow d pp l with
    | .off => true
    | .hold => s.glCfg d pp l 4 1 = 1
    | .state m _ _ => bit m q

/-- The gate of queue q of local port p (R313). -/
def State.gateOpen (s : State) (d p q : Nat) : Bool :=
  bit (s.reg d .egrMgate [p]) q && (List.range 8).all fun l => s.glOpen d (gateIndex p) l q

/-- GL_STAT of a list: state, in effect, holding, last entry. -/
def State.glStat (s : State) (d pp l : Nat) : Nat × Bool × Bool × Nat :=
  match s.glNow d pp l with
  | .off => (0, false, false, 0)
  | .hold => (if s.glCfg d pp l 4 1 = 1 then s.glCfg d pp l 14 16 else 0, true, true, 0)
  | .state m e _ => (m, true, false, e)

/-- Queues of a port whose gate opens are freed from their guard (R317). -/
def State.unguard (s : State) (d p : Nat) (was : List Bool) : State :=
  (List.range 16).foldl (fun s q =>
    let k := 16 * p + q
    if !was.getD q true && s.gateOpen d p q && (s.queue d k).guarded then s.setQueue d k { s.queue d k with guarded := false }
    else s) s

/-- The gates of a port's queues. -/
def State.gates (s : State) (d p : Nat) : List Bool := (List.range 16).map (s.gateOpen d p)

/-- The state that a list last showed changes to what it shows now: an entry into HOLD is counted, and a queue whose gate
opens leaves its guard, as does one of a list that is no longer in effect (R316, R317, R322, log entry 50). -/
def State.gateListChange (s : State) (d pp l : Nat) : State :=
  let old := sgetD (s.die d).egr.glState (pp * 8 + l) (0, false, false, 0)
  let now := s.glStat d pp l
  if now = old then s
  else
    let scope := s.glCfg d pp l 14 16
    let shut := fun (st : Nat × Bool × Bool × Nat) q => st.2.1 && bit scope q && !bit st.1 q
    let s := s.modEgr d fun x => { x with glState := sset x.glState (pp * 8 + l) now }
    let s := if now.2.2.1 && !old.2.2.1 then (s.count d ctrEGR 15).event d .egr 3 else s
    s.unguard d (gatePort pp) ((List.range 16).map fun q => !shut old q && !(old.2.1 && !now.2.1 && bit scope q))

/-- GATE_LIST_CHANGE: an axis has reached a point or boundary of a list (R316). -/
def execGateListChange (d pp l : Nat) (s : State) : Res :=
  onPort s d 0 (pp < 18 && l < 8) fun s => s.gateListChange d pp l

/-- The entries let a list be enabled (R315). -/
def State.glLegal (s : State) (d pp l entries : Nat) : Bool :=
  let cycle := s.reg d .egrGlCycle [pp, l]
  1 ≤ entries && entries ≤ 64 && (List.range entries).all fun e =>
    (e = 0 || s.glPoint d pp l (e - 1) ≤ s.glPoint d pp l e) && (cycle = 0 || s.glPoint d pp l e < cycle) &&
      bits (s.glWord d pp l e 1) 16 2 ≠ 3

/-- A list that is disabled: a GL_END_LO that still waits for its GL_END_HI is the slot's value (R315). -/
def State.glEndKeep (s : State) (d pp l : Nat) : State :=
  let off := regOff .egrGlEndLo [pp, l]
  match sget (s.die d).latch off with
  | some v => (s.setReg d .egrGlEndLo [pp, l] v).modDie d fun x => { x with latch := sdel x.latch off }
  | none => s

/-- A list that is disabled closes nothing more: its change, and the end of its guards (R317). -/
def State.glRelease (s : State) (d pp l : Nat) : State :=
  let scope := s.glCfg d pp l 14 16
  (s.gateListChange d pp l).unguard d (gatePort pp) ((List.range 16).map fun q => !bit scope q)

/-- A write of GL_CFG (R315). -/
def State.glCfgWrite (s : State) (d pp l v : Nat) : State :=
  let old := s.reg d .egrGlCfg [pp, l]
  let v := bits v 0 30
  if bit old 0 then
    if v = old then s
    else if !bit v 0 && v / 2 = old / 2 then ((s.setReg d .egrGlCfg [pp, l] v).glEndKeep d pp l).glRelease d pp l
    else s.violation d
  else if bit v 0 && !(s.glLegal d pp l (bits v 7 7)) then s.violation d
  else (s.setReg d .egrGlCfg [pp, l] v).gateListChange d pp l

/-- A port of the die has gate lists: the MACs, and on dies 0 and 1 the telegram ports (R42, R314). -/
def gateHere (d pp : Nat) : Bool := pp < 10 || (pp < 18 && d < 2)

/-- GATE_LIST_ENABLE: a write that sets GL_CFG.ENABLE (R315). -/
def execGateListEnable (d pp l : Nat) (v : Dword) (s : State) : Res :=
  onHostS s d (gateHere d pp && l < 8) fun s => s.glCfgWrite d pp l (putBit v.toNat 0 true)

/-- GATE_LIST_DISABLE: a write that clears GL_CFG.ENABLE (R315). -/
def execGateListDisable (d pp l : Nat) (v : Dword) (s : State) : Res :=
  onHostS s d (gateHere d pp && l < 8) fun s => s.glCfgWrite d pp l (putBit v.toNat 0 false)

/-- A write of the high half of a list's 8-byte slot, or of GL_INIT: while the list is enabled only END may be written; END
takes effect as one 72-bit value with its GL_END_HI slot (R315). -/
def State.glRegWrite (s : State) (d pp l : Nat) (r : RegId) (v : Nat) : State :=
  let on := s.glCfg d pp l 0 1 = 1
  match r with
  | .egrGlEndLo =>
    if on then s.modDie d fun x => { x with latch := sset x.latch (regOff r [pp, l]) v }
    else (s.setReg d r [pp, l] v).modDie d fun x => { x with latch := sdel x.latch (regOff r [pp, l]) }
  | .egrGlEndHi =>
    let off := regOff .egrGlEndLo [pp, l]
    let lo := sgetD (s.die d).latch off (s.reg d .egrGlEndLo [pp, l])
    (((s.setReg d .egrGlEndHi [pp, l] v).setReg d .egrGlEndLo [pp, l] lo).modDie d fun x =>
      { x with latch := sdel x.latch off }).gateListChange d pp l
  | _ => if on then (if s.reg d r [pp, l] = v then s else s.violation d) else s.setReg d r [pp, l] v

/-- GATE_LIST_END_WRITE: the high half of GL_END_HI is written (R315); the low half comes from the slot's held low dword. -/
def execGateListEndWrite (d pp l : Nat) (hi : Dword) (s : State) : Res :=
  onHostS s d (gateHere d pp && l < 8) fun s =>
    let off := regOff .egrGlEndHi [pp, l]
    let low := sgetD (s.die d).lows off (bits (s.reg d .egrGlEndHi [pp, l]) 0 32)
    (s.modDie d fun x => { x with lows := sdel x.lows off }).glRegWrite d pp l .egrGlEndHi (low + bits hi.toNat 0 4 * 2 ^ 32)

/-- The gate-list entry word that GL_ADDR names, as GL_DATA shows it. -/
def State.glData (s : State) (d : Nat) : Nat :=
  let a := s.reg d .egrGlAddr []
  if 18 ≤ bits a 0 5 then 0 else s.glWord d (bits a 0 5) (bits a 5 3) (bits a 8 6) (bits a 14 1)

/-- Store the gate-list entry word that GL_ADDR names (R315); a write that changes it while the list is enabled is a
violation. -/
def State.glDataWrite (s : State) (d v : Nat) : State :=
  let a := s.reg d .egrGlAddr []
  let pp := bits a 0 5
  let l := bits a 5 3
  let i := (pp * 8 + l) * 64 + bits a 8 6
  let v := if bit a 14 then bits v 0 18 else bits v 0 36
  if 18 ≤ pp then s
  else if s.glCfg d pp l 0 1 = 1 then (if v = s.glData d then s else s.violation d)
  else s.modDie d fun x => { x.freshUnit 9 0 (cfgGate i) with egr := { x.egr with
    glist := sset x.egr.glist (i * 2 + bits a 14 1) (w36 v) } }

/-- GL_DATA_WRITE: the high half of EGR.GL_DATA is written; the low half is the dword held, or else the word's own. -/
def execGlDataWrite (d : Nat) (hi : Dword) (s : State) : Res :=
  onHost s d true fun s =>
    let off := regOff .egrGlData []
    let low := sgetD (s.die d).lows off (bits (s.glData d) 0 32)
    (s.modDie d fun x => { x with lows := sdel x.lows off }).glDataWrite d (low + bits hi.toNat 0 4 * 2 ^ 32)

/-- A change of MGATE, and its effect on guards (R313, R317). -/
def State.mgateSet (s : State) (d p v : Nat) : State :=
  let was := s.gates d p
  (s.setReg d .egrMgate [p] (bits v 0 16)).unguard d p was

/-- What a GATE firing makes of MGATE: the queues of a mask open or close (R288). -/
def gateApply (m : Nat) (f : Nat × Bool) : Nat := if f.2 then m ||| f.1 else m - (m &&& f.1)

/-- The GATE firings on a port in the present fabric cycle. -/
def State.firedNow (s : State) (d p : Nat) : List (Nat × Bool) :=
  match sget (s.die d).egr.fired p with
  | some (t, fs) => if t = s.now then fs else []
  | none => []

/-- A host write of MGATE: firings of the same fabric cycle are applied after it (R313). -/
def State.mgateWrite (s : State) (d p v : Nat) : State := s.mgateSet d p ((s.firedNow d p).foldl gateApply (bits v 0 16))

/-- A GATE firing on a port (R288, R313). -/
def State.mgateFire (s : State) (d p : Nat) (f : Nat × Bool) : State :=
  (s.mgateSet d p (gateApply (s.reg d .egrMgate [p]) f)).modEgr d fun x =>
    { x with fired := sset x.fired p (s.now, s.firedNow d p ++ [f]) }

end Sys2Proof.Machine
end

