-- ==== Sys2Proof/Machine/Milestones.lean ====
section
/-! DEFINITION. Milestones: firing and its actions (R287 to R291, R468), the milestone command ring (R281, R285, R292 to R294),
and the reads and pops of the milestone registers. -/

namespace Sys2Proof.Machine

open Sys2Proof

/-! ### Firing (R284, R287 to R291) -/

/-- A GATE firing writes MGATE bits of a port (R288, R313). -/
def State.gateAction (s : State) (d arg : Nat) : State := s.mgateFire d (bits arg 0 5) (bits arg 5 16, bit arg 21)

/-- A SEND firing queues its message (R289). -/
def State.sendAction (s : State) (d arg : Nat) (f : Firing) : State :=
  let core := bits arg 6 4 * 4 + bits arg 4 2
  let ch := bits arg 10 6
  if 64 ≤ (s.die d).mls.sends.length || (ch = 31 && s.compat d core) then (s.count d ctrMLS 5).event d .mls 2
  else
    let flag := fun (b : Bool) => if b then 1 else 0
    let w0 := f.ms + d * 2 ^ 10 + f.axis * 2 ^ 13 + flag f.down * 2 ^ 16 + flag f.late * 2 ^ 17 + flag f.jump * 2 ^ 18
    let t := s.stamp
    t.2.modMls d fun m => { m with sends := m.sends ++ [
      { chan := chanKey core ch, thread := core * 16 + bits arg 0 4
        words := [w36 w0, w36 f.c, w36 (f.time / 2 ^ 36), w36 f.time], stamp := t.1 }] }

/-- Insert an operation by its order of creation. -/
def orderInsert (x : Nat × Nat) : List (Nat × Nat) → List (Nat × Nat)
  | [] => [x]
  | y :: ys => if x.2 < y.2 then x :: y :: ys else y :: orderInsert x ys

/-- The milestone of a MILESTONE_WAIT operation (R87). -/
def Op.waitsFor (o : Op) : Nat := bits o.param 0 10

/-- A WAIT firing marks the operations that wait on the milestone, in creation order (R290). -/
def State.waitAction (s : State) (d m : Nat) : State :=
  let os := (s.die d).dsp.ops.filter fun p =>
    p.2.kind = 3 && p.2.st = .engine && p.2.born ≠ s.now && p.2.waitsFor = m &&
      !(s.die d).mls.waits.contains (p.1 + 16384 * p.2.order)
  let sorted := (os.map fun p => (p.1, p.2.order)).foldl (fun l x => orderInsert x l) []
  s.modMls d fun x => { x with waits := x.waits ++ sorted.map fun p => p.1 + 16384 * p.2 }

/-- A CAPTURE firing adds a record to the FIFO of 64 (R291). -/
def State.captureAction (s : State) (d : Nat) (f : Firing) : State :=
  if 64 ≤ (s.die d).mls.caps.length then s.count d ctrMLS 7
  else (s.modMls d fun m => { m with caps := m.caps ++ [f] }).event d .mls 1

/-- The action of a firing (R288). -/
def State.msAction (s : State) (d : Nat) (f : Firing) : State :=
  let arg := s.msWord d f.ms 4
  match bits (s.msWord d f.ms 0) 8 3 with
  | 0 => s.gateAction d arg
  | 1 => s.sendAction d arg f
  | 2 => s.waitAction d f.ms
  | 3 => s.modAx fun a => { a with pinQ := a.pinQ ++ [(bits arg 0 3, bits arg 3 2, s.now + 10)] }
  | _ => s.captureAction d f

/-- What a firing writes into its entry's words 5 to 7 (R284, R288). -/
def firedWords (f : Firing) (ws : List Word) : List Word :=
  let w := (ws.getD 5 0).toNat
  let w := putBit (putBit (putBit w 0 (bit w 0 && bit (ws.getD 0 0).toNat 6)) 1 f.late) 3 f.down
  let w := putBits w 4 16 (min 65535 (bits w 4 16 + 1))
  ((ws.set 5 (w36 w)).set 6 (w36 (f.time / 2 ^ 36))).set 7 (w36 f.time)

/-- A firing of a milestone: its words, its counters, and its action (R284, R285, R287, R288). -/
def State.msFire (s : State) (d : Nat) (f : Firing) : State :=
  let s := s.readUnit d 9 0 (cfgMilestone f.ms) true
  let s := (s.msSet d f.ms (firedWords f)).count d ctrMLS 0
  let s := if f.late then (s.count d ctrMLS 1).event d .mls 4 else s
  let s := if f.jump then s.count d ctrMLS 2 else s
  s.msAction d f

/-- A quota of 4 a fabric cycle has room now. -/
def Quota.room (q : Quota) (now : Nat) : Bool := q.at_ ≠ now || q.used < 4

/-- Use one of a quota. -/
def Quota.take (q : Quota) (now : Nat) : Quota := { at_ := now, used := if q.at_ = now then q.used + 1 else 1 }

/-- Fire the first due milestone, one of at most 4 in a fabric cycle (R287). -/
def State.msPop (s : State) (d : Nat) : State :=
  match (s.die d).mls.due with
  | [] => s
  | f :: rest =>
    if (s.die d).mls.fires.room s.now then
      (s.modMls d fun m => { m with due := rest, fires := m.fires.take s.now }).msFire d f
    else s

/-- Fire the due milestones, as many as the cycle lets: firings are evaluated before a command of the same cycle (R287, R294). -/
def State.msFlush (s : State) (d : Nat) : State :=
  let s := s.msEval d
  (s.die d).mls.due.foldl (fun s _ => s.msPop d) s

/-- MILESTONE_FIRE: the first due firing of a die (R287). -/
def execMilestoneFire (d : Nat) (s : State) : Res := onDieS s d fun s => (s.msEval d).msPop d

/-- A channel takes a whole message (R129, R289). -/
def State.sendFits (s : State) (d : Nat) (m : SendMsg) : Bool :=
  let c := s.chan d m.chan
  c.opened.isNone && c.msgs.length < 4 && (s.blockedOn d m.chan true).all fun p => m.stamp < p.2.stamp

/-- The first message that can go: none of its channel waits before it (R289). -/
def State.sendNext (s : State) (d : Nat) : List Nat → List SendMsg → Option SendMsg
  | _, [] => none
  | seen, m :: ms =>
    if !seen.contains m.chan && s.sendFits d m then some m else s.sendNext d (m.chan :: seen) ms

/-- SEND_DELIVERY: a queued message is delivered whole and sets its thread's milestone latch (R133, R289). -/
def execSendDelivery (d : Nat) (s : State) : Res :=
  onDieS s d fun s =>
    match s.sendNext d [] (s.die d).mls.sends with
    | none => s
    | some m =>
      let c := s.chan d m.chan
      let s := s.setChan d m.chan { c with msgs := c.msgs ++ [{ at_ := s.now, words := m.words.map fun w => (w, false) }] }
      (s.modMls d fun x => { x with sends := x.sends.erase m }).modThr d m.thread fun x => { x with msLatch := true }

/-- MILESTONE_WAIT_COMPLETE: the first marked operation enters COMMIT with outcome 0, at most 4 in a fabric cycle (R290); an
operation that has ended otherwise is passed over. -/
def execMilestoneWaitComplete (d : Nat) (s : State) : Res :=
  onDieS s d fun s =>
    match (s.die d).mls.waits with
    | [] => s
    | w :: rest =>
      match s.op d (w % 16384) with
      | some o =>
        if o.order = w / 16384 && o.kind = 3 && o.st = .engine then
          if (s.die d).mls.done.room s.now then
            let s := s.modMls d fun m => { m with waits := rest, done := m.done.take s.now }
            (s.engineDone d (w % 16384) o 0).count d ctrMLS 6
          else s
        else s.modMls d fun m => { m with waits := rest }
      | none => s.modMls d fun m => { m with waits := rest }

/-! ### Event outputs (R288, R468) -/

/-- Drive an event output. -/
def State.drivePin (s : State) (pin : Nat) (level : Bool) : State :=
  if bit s.ax.pins pin = level then s
  else (s.modAx fun a => { a with pins := putBit a.pins pin level }).emit (.eventPin pin level)

/-- EVENT_PIN_CHANGE: an event output changes 10 ns after its firing; a change ends a pulse in progress (R288, R468). -/
def execEventPinChange (s : State) : Res :=
  cmd s fun s =>
    match s.ax.pinQ with
    | [] => s
    | (pin, op, due) :: rest =>
      if s.now < due then s
      else
        let s := s.modAx fun a => { a with pinQ := rest, pulses := sdel a.pulses pin }
        match op with
        | 0 => s.drivePin pin (!bit s.ax.pins pin)
        | 1 => s.drivePin pin true
        | 2 => s.drivePin pin false
        | _ =>
          (s.modAx fun a => { a with
            pulses := sset a.pulses pin (s.now + max 4 (s.fld 0 .mlsPinCfg [] 0 16)) }).drivePin pin true

/-- PIN_PULSE_END: a PULSE has lasted PULSE_NS and its output falls (R288). -/
def execPinPulseEnd (pin : Nat) (s : State) : Res :=
  if 8 ≤ pin then .fault .absent
  else
    cmd s fun s =>
      match sget s.ax.pulses pin with
      | some t => if t ≤ s.now then (s.modAx fun a => { a with pulses := sdel a.pulses pin }).drivePin pin false else s
      | none => s

/-! ### The milestone ring (R281, R285, R292 to R294) -/

/-- The ARG of an entry meets the rules of its action (R288). -/
def msArgOk (d action arg : Nat) : Bool :=
  match action with
  | 0 => arg < 2 ^ 22 && (bits arg 0 5 < 10 || isTgp d (bits arg 0 5))
  | 1 => arg < 2 ^ 16 && bits arg 6 4 < 12 && bits arg 10 6 < 40
  | 3 => d = 0 && arg < 2 ^ 5
  | _ => arg = 0

/-- An entry meets R281 on a die. -/
def State.msEntryOk (s : State) (d : Nat) (w : Nat → Nat) : Bool :=
  let axis := bits (w 0) 0 3
  let dir := bits (w 0) 3 2
  let rep := bit (w 0) 6
  bits (w 0) 11 25 = 0 && dir ≠ 3 && bits (w 0) 8 3 < 5 && msArgOk d (bits (w 0) 8 3) (w 4) &&
    (!rep || dir ≠ 2 || w 3 = 0) &&
    (if axis = 0 then decide (dir = 0) && (!rep || decide (100 ≤ w 3))
     else decide (w 2 = 0) && decide (s.axType axis ≠ 3) && (decide (s.axType axis ≠ 0) || decide (w 3 < 2 ^ 35)))

/-- A milestone command is well formed apart from its entry (R292, R293, R382). -/
def State.msFormed (d : Nat) (c : RCmd) : Bool :=
  let arg := fun i => c.arg.getD i 0
  (1 ≤ c.op && c.op ≤ 4) && bits c.d0 21 11 = 0 && c.d2 = 0 && c.d3 = 0 &&
    (if c.op = 2 then decide (c.d1 = 0) else decide (c.d1 % 64 = 0)) &&
    (if c.op = 4 then decide (bits c.d0 8 10 = 0) && decide (d = 0) && decide (arg 0 < 2 ^ 36) &&
        decide (arg 1 < if bits c.d0 18 3 = 0 then 2 ^ 36 else 1)
     else decide (bits c.d0 18 3 = 0)) &&
    (c.op ≠ 1 || (List.range 5).all fun i => arg i < 2 ^ 36)

/-- MS_ARM in a legal state: the entry is written and armed; one on axis 0 at or below the present time fires late
(R285, R293). -/
def State.msArm (s : State) (d m : Nat) (c : RCmd) : State :=
  let s := ((s.modDie d fun x => x.freshUnit 9 0 (cfgMilestone m)).msSet d m fun _ =>
    (argWords c 0 5) ++ [1, 0, 0]).modMls d fun x => { x with cmp := sdel x.cmp m }
  let now := s.time d
  let at_ := s.msC d m
  if bits (s.msWord d m 0) 0 3 = 0 && at_ ≤ now then
    let per := s.msWord d m 3
    let v : Move := { axis := 0, p := at_, q := now, down := false, wrap := false, sc := 1, edges := false, jump := false
                      time := none }
    let more := if per = 0 then 0 else (now - at_) / per
    let s := (s.modMls d fun x => { x with fires := x.fires.take s.now }).msFire d
      { ms := m, axis := 0, c := at_, down := false, late := true, jump := false, time := now, at_ := s.now }
    if bit (s.msWord d m 0) 6 && per ≠ 0 then (s.msMissed d m more).msAdvance d m (more + 1) v else s
  else s

/-- AXIS_SET (R286): the offset of the jump, which takes effect 48 ns later; the value that it replaces. -/
def State.axisSet (s : State) (n v : Nat) : State × Nat :=
  let jump := fun (delta : Int) (s : State) =>
    s.modAx fun a => { a with jumps := a.jumps ++ [⟨n, delta, s.now + 48, s.time 0⟩] }
  if n = 0 then (jump ((v : Int) - s.time 0) s, s.time 0 % 2 ^ 64)
  else
    let cur := s.modelNow 0 n
    let delta := axOfReg (s.axType n) v - cur
    let s := jump delta s
    let m := s.master n
    let move := fun (x : Int) => axNorm (s.axType n) (x + delta)
    (s.setMaster n { m with cur := { m.cur with ve := move m.cur.ve }, hidden := m.hidden.map move }, axInt cur)

/-- A command that arms or disarms waits behind a firing of its milestone that the limit of 4 a cycle holds, and a late firing of
MS_ARM counts among the 4 (R287, R294). -/
def State.msWaits (s : State) (d op m : Nat) : Bool :=
  ((op = 1 || op = 2) && (s.die d).mls.due.any fun f => f.ms = m) || (op = 1 && !(s.die d).mls.fires.room s.now)

/-- The milestone ring runs its head command, when it has this code (R292, R293, R294). -/
def State.msRing (s : State) (d op : Nat) : State :=
  match s.ringCmd d 2 with
  | none => s
  | some c =>
    if c.op ≠ op then s
    else
      let s := s.msFlush d
      let m := bits c.d0 8 10
      let stat := if op = 1 || op = 2 then s.msWord d m 5 else 0
      if s.msWaits d op m then s
      else if !State.msFormed d c then s.ringDone d 2 cMALFORMED 0 stat
      else
        let armed := bit (s.msWord d m 5) 0
        let refuse := fun (c1 : Nat) => (s.ringDone d 2 cSTATE 0 c1).count d ctrMLS 14
        match op with
        | 1 =>
          if !s.msEntryOk d fun i => c.arg.getD i 0 then s.ringDone d 2 cMALFORMED 0 stat
          else if armed then refuse stat
          else
            let s := s.msArm d m c
            s.ringDone d 2 cDONE 0 (s.msWord d m 5)
        | 2 =>
          if !armed then refuse stat
          else
            let s := s.msSet d m fun ws => ws.set 5 (w36 (putBit (ws.getD 5 0).toNat 0 false))
            s.ringDone d 2 cDONE 0 (s.msWord d m 5)
        | 3 =>
          let s := s.readUnit d 9 0 (cfgMilestone m) true
          (s.emit (.hostWrite d c.d1 (slotBytes ((List.range 8).map fun w => w36 (s.msWord d m w))))).ringDone d 2 cDONE
        | _ =>
          let n := bits c.d0 18 3
          if n ≠ 0 && (s.view 0 n).1.st = 0 then refuse 0
          else
            let r := s.axisSet n (c.arg.getD 0 0 + c.arg.getD 1 0 * 2 ^ 36)
            r.1.ringDone d 2 cDONE 0 r.2

/-- MS_ARM (R281, R285, R293). -/
def execMsArm (d : Nat) (s : State) : Res := onDieS s d fun s => s.msRing d 1

/-- MS_DISARM (R293). -/
def execMsDisarm (d : Nat) (s : State) : Res := onDieS s d fun s => s.msRing d 2

/-- MS_READ (R293). -/
def execMsRead (d : Nat) (s : State) : Res := onDieS s d fun s => s.msRing d 3

/-- AXIS_SET (R286, R293). -/
def execAxisSet (d : Nat) (s : State) : Res := onDieS s d fun s => s.msRing d 4

/-! ### Registers (R280, R291) -/

/-- CAPTURE_POP: a write of CAP_INFO.POP removes the head capture record (R291). -/
def execCapturePop (d : Nat) (s : State) : Res :=
  onHost s d true fun s => s.modMls d fun m => { m with caps := m.caps.drop 1 }

/-- The milestone word that MS_ADDR names. -/
def State.msData (s : State) (d : Nat) : Nat :=
  let a := s.reg d .mlsMsAddr []
  s.msWord d (bits a 0 10) (bits a 10 3)

/-- MS_DATA_READ: a read of MS_DATA's high half gives the word's high bits and advances WORD, from 7 to word 0 of the next
milestone (R280). -/
def execMsDataRead (d : Nat) (s : State) : Res :=
  onHostRead s d true fun s =>
    let a := s.reg d .mlsMsAddr []
    let w := bits a 10 3
    let m := bits a 0 10
    let s := (s.readUnit d 9 0 (cfgMilestone m) true).emit (.readData (bits (s.msData d) 32 4) false)
    s.setReg d .mlsMsAddr [] (if w = 7 then (m + 1) % 1024 else m + (w + 1) * 2 ^ 10)

end Sys2Proof.Machine
end

