-- ==== Sys2Proof/Machine/Tailrace.lean ====
section
/-! DEFINITION. The tailrace: release of tickets and its messages between dies (R20 to R29), and admission to the egress queues
(R299 to R305, R319). -/

namespace Sys2Proof.Machine

open Sys2Proof

/-! ### Descriptors (R299 to R306) -/

/-- FCS_MODE, 3 acting as 2. -/
def Enq.fcsMode (e : Enq) : Nat := min 2 (bits e.w0.toNat 28 2)

/-- A reserved bit is set: the descriptor is treated as LENGTH = 0 (R306). -/
def Enq.reserved (e : Enq) : Bool := bits e.w0.toNat 32 4 ≠ 0 || bits e.w1.toNat 14 22 ≠ 0

/-- The timestamp's size and offset, when one is asked for (R306, R308). -/
def Enq.stamp (e : Enq) : Option (Nat × Nat) :=
  if bit e.w0.toNat 30 then some (if bit e.w0.toNat 31 then 8 else 10, bits e.w1.toNat 0 14) else none

/-- The local port that a descriptor serves (R299): a port of the package's numbering, 30 for host queues, 31 for
recirculation; none for a reserved descriptor and for an extension queue. -/
def queuePort (q : Nat) : Option Nat :=
  if q < 160 then some (q / 16)
  else if 256 ≤ q && q < 384 then some (q / 16)
  else if 384 ≤ q && q < 448 then some 30
  else if 496 ≤ q && q < 512 then some 31
  else none

/-- A die has the port that a descriptor serves (R42, R299). -/
def queueHere (d q : Nat) : Bool :=
  match queuePort q with
  | some p => isMac p || isTgp d p || p = 30 || p = 31
  | none => 512 ≤ q && q < 4096

/-- The port queue of a descriptor: itself, or an extension queue's PARENT (R301). -/
def State.portQueue (s : State) (d q : Nat) : Nat := if 512 ≤ q then s.fld d .egrQCfg [q] 9 9 else q

/-- A descriptor is in use; one whose configuration word is uncorrectable acts as disabled (R300, R357). -/
def State.queueOn (s : State) (d q : Nat) : Bool := bit (s.reg d .egrQCfg [q]) 0 && !s.cfgBad d (cfgQueue q)

/-- The checks of an enqueue descriptor against its packet (R303). -/
def State.enqBad (s : State) (e : Enq) (cells : Nat) : Bool :=
  let p := (queuePort (s.portQueue e.die e.queue)).getD 30
  e.reserved || e.len = 0 || 16000 < e.len || 128 * cells < e.start + e.len ||
    (match e.stamp with | some (n, o) => decide (e.len < o + n) | none => false) ||
    (isTgp e.die p && decide (e.len ≤ s.tgpFcs e.die p)) || (isMac p && e.fcsMode ≠ 0 && decide (e.len < 4))

/-! ### Discards (R305) -/

/-- A die records a discarded enqueue in EGR.LAST_DROP (R305). -/
def State.lastDrop (s : State) (d port queue reason : Nat) : State :=
  s.setReg d .egrLastDrop [] (queue % 4096 + port % 256 * 2 ^ 12 + reason * 2 ^ 20)

/-- Discard with LENGTH, SLUICE or QD_FAULT: counted, with its event (R300, R303, R304). -/
def State.dropLength (s : State) (d port queue : Nat) : State :=
  ((s.count d ctrEGR 3).event d .egr 1).lastDrop d port queue rLENGTH
def State.dropTail (s : State) (d port queue : Nat) : State :=
  ((s.count d ctrEGR 4).event d .egr 0).lastDrop d port queue rSLUICE
def State.dropQueue (s : State) (d port queue : Nat) : State :=
  ((s.count d ctrEGR 13).event d .egr 2).lastDrop d port queue rFAULT

/-- Discard with FAULT for want of a route: journaled (R36, R486). -/
def State.dropRoute (s : State) (d port queue : Nat) : State := (s.journalDrop d rFAULT port queue).lastDrop d port queue rFAULT

/-- The packet record of a tagged instance (R441). -/
def State.tagPkt (s : State) (d port ticket : Nat) (e : Option Enq) (reason : Nat) (t : List Nat) (tx : Option Nat) : State :=
  let admitAt := t.headD 0
  let (q, x) : Nat × Nat := match e with | some e => (e.queue, e.die) | none => (0, 0)
  s.tagPush d
    [ ticket % 2 ^ 24 + port * 2 ^ 24 + q * 2 ^ 32 + x * 2 ^ 44 + reason * 2 ^ 47 + 2 ^ 63,
      admitAt % 2 ^ 64,
      tagOff admitAt t[1]? + tagOff admitAt t[2]? * 2 ^ 32,
      tagOff admitAt tx + (match t[3]? with | some l => min (2 ^ 32 - 2) l | none => 2 ^ 32 - 1) * 2 ^ 32 ]

/-- The packet record of a first enqueue that is discarded: the ingress die writes it (R441). -/
def State.tagLost (s : State) (a : Arrival) (reason : Nat) : State :=
  if a.tag.isEmpty then s else s.tagPkt (a.port / 32) a.port a.ticket (some a.enq) reason a.tag none

/-! ### Release (R20, R21, R27 to R29) -/

/-- Key of a release sequence at a destination die. -/
def seqKey (a : Arrival) : Nat := a.port * 65536 + a.seq

/-- The release sequence that a destination die expects next of a port. The mark of a skipped sequence goes once the port is
half the sequence space past it, before R28 lets its number be stamped again (R27, R28). -/
def Egress.expectAt (x : Egress) (g q : Nat) : Egress :=
  { x with
    expect := sset x.expect g q
    skipped := x.skipped.filter fun k => k / 65536 ≠ g || (q + 65536 - k % 65536) % 65536 ≤ 32768 }

/-- An enqueue has reached its queue's die: after a skip of its sequence it is discarded, else it waits for its turn (R27). -/
def State.arrive (s : State) (d : Nat) (a : Arrival) : State :=
  let key := seqKey a
  let s := s.modEgr d fun x => { x with announced := unmark x.announced key }
  if (s.die d).egr.skipped.contains key then
    let s := s.modEgr d fun x => { x with skipped := unmark x.skipped key }
    if a.void then s else ((s.lastDrop d a.port a.enq.queue rFAULT).dropRef d a.pid).tagLost a rFAULT
  else
    let s := s.modEgr d fun x => { x with arrived := x.arrived ++ [{ a with heldAt := s.now }] }
    if a.remote && a.seq ≠ sgetD (s.die d).egr.expect a.port 0 then s.count d ctrEGR 10 else s

/-- An enqueue whose packet lies on die `d` goes to its queue's die: it waits here for its copy, or it has arrived. The checks
of R303 come before a copy (R305), and the destination die learns that the sequence of an enqueue discarded by them goes on
without it (log entry 46). -/
def State.place (s : State) (d : Nat) (a : Arrival) : State :=
  if a.enq.die = d then s.arrive d a
  else
    let cells := match s.pkt d a.pid with | some p => p.cells.length | none => 0
    if s.enqBad a.enq cells then
      (((s.dropLength d a.port a.enq.queue).dropRef d a.pid).tagLost a rLENGTH).send
        (.enqueue d a.enq.die { a with void := true, tag := [] })
    else s.modEgr d fun x => { x with toCopy := x.toCopy ++ [a] }

/-- What a release does with one enqueue: it is discarded without a release sequence, it waits for a credit, or it goes. -/
def State.releaseOne (s : State) (d p : Nat) (t : Ticket) (e : Enq) (first : Bool) : State × Bool :=
  let g := d * 32 + p
  let tag := if t.tagged && first then [t.admitAt, t.resolvedAt, s.time d] else []
  let a : Arrival := { port := g, ticket := t.number, seq := 0, pid := t.pid, enq := e, ts := t.ts, tag := tag }
  if !s.reach d e.die || !s.reach d t.holder then
    (((s.dropRoute d g e.queue).dropRef t.holder t.pid).tagLost a rFAULT, true)
  else if e.die = d && !s.queueOn d e.queue then
    (((s.dropQueue d g e.queue).dropRef t.holder t.pid).tagLost a rFAULT, true)
  else
    let key := p * 8 + e.die
    if 32768 ≤ sgetD (s.die d).egr.outst key 0 then (s, false)
    else
      let seq := sgetD (s.die d).egr.nextSeq key 0
      let s := s.modEgr d fun x => { x with
        nextSeq := sset x.nextSeq key ((seq + 1) % 65536), outst := sset x.outst key (sgetD x.outst key 0 + 1) }
      let a := { a with seq := seq }
      (if t.holder = d then s.place d a else s.send (.grant d t.holder a), true)

/-- Release the enqueues of a ticket in order; those that wait for a credit are given back. -/
def State.releaseAll (s : State) (d p : Nat) (t : Ticket) (first : Bool) : List Enq → State × List Enq
  | [] => (s, [])
  | e :: es =>
    let r := s.releaseOne d p t e first
    if r.2 then r.1.releaseAll d p t false es else (r.1, e :: es)

/-- TICKET_RELEASE: the ticket at the head of a port's scoreboard, resolved or retired, leaves it (R20, R21, R23, R28). -/
def State.ticketRelease (s : State) (d p : Nat) : State :=
  match s.board d p with
  | [] => s
  | t :: ts =>
    match t.cond with
    | .pending => s
    | .retired =>
      let s := s.setBoard d p ts
      if t.tagged then s.tagPkt d (d * 32 + p) t.number none t.reason [t.admitAt, t.resolvedAt] none else s
    | .resolved es =>
      let r := s.releaseAll d p t (!t.begun) es
      if r.2.isEmpty then
        (r.1.setBoard d p ts).modHop d fun h => { h with outstanding := h.outstanding - 1 }
      else r.1.setBoard d p ({ t with cond := .resolved r.2, begun := t.begun || r.2.length < es.length } :: ts)

/-- TICKET_RELEASE. -/
def execTicketRelease (d p : Nat) (s : State) : Res := onPort s d p (p < 32) fun s => s.ticketRelease d p

/-! ### Messages between dies (R26 to R29) -/

/-- Take the first message that a test accepts, from each source die in order, and that R39 and the delays of grit let go
(R448). -/
def State.takeMsg {α : Type} (s : State) (sel : Flight → Option (Nat × Nat × Nat × α)) :
    List (Nat × Flight) → List Nat → State × Option (Nat × α)
  | [], _ => (s, none)
  | (id, f) :: fs, seen =>
    match sel f with
    | none => s.takeMsg sel fs seen
    | some (src, dst, cls, x) =>
      if seen.contains src || s.routeHeld src dst || !s.reach src dst then s.takeMsg sel fs (src :: seen)
      else
        let g := s.delayGate src 0 (201 + cls) id
        if g.2 then (g.1, some (id, x)) else g.1.takeMsg sel fs (src :: seen)

/-- Receive a message on die `d`, if one can come, and act on it. -/
def State.recvMsg {α : Type} (s : State) (sel : Flight → Option (Nat × Nat × Nat × α)) (f : State → α → State) : State :=
  match s.takeMsg sel s.fab.flight [] with
  | (s, some (id, x)) => f { s with fab := { s.fab with flight := s.fab.flight.filter (·.1 ≠ id) } } x
  | (s, none) => s

/-- RESOLUTION_RECORD: a resolution record reaches the ingress die (R26). -/
def execResolutionRecord (d : Nat) (s : State) : Res :=
  onDieS s d fun s => s.recvMsg
    (fun f => match f with | .resolution a b r => if b = d then some (a, b, 1, r) else none | _ => none)
    fun s r => s.settleTicket r

/-- RELEASE_GRANT: a release grant reaches the die that holds the packet (R29). -/
def execReleaseGrant (d : Nat) (s : State) : Res :=
  onDieS s d fun s => s.recvMsg
    (fun f => match f with | .grant a b r => if b = d then some (a, b, 1, r) else none | _ => none)
    fun s a => s.place d a

/-- A credit reaches the ingress die; at a count of 0 it is ignored (R28, R486). -/
def State.creditIn (s : State) (d port src : Nat) : State :=
  let key := port % 32 * 8 + src
  s.modEgr d fun x => { x with outst := sset x.outst key (sgetD x.outst key 0 - 1) }

/-- CREDIT_RETURN (R28). -/
def execCreditReturn (d : Nat) (s : State) : Res :=
  onDieS s d fun s => s.recvMsg
    (fun f => match f with | .credit a b p => if b = d then some (a, b, 1, (a, p)) else none | _ => none)
    fun s x => s.creditIn d x.2 x.1

/-- A destination die returns a credit: at once to itself, else as a register transaction (R28). -/
def State.creditBack (s : State) (d port : Nat) : State :=
  if port / 32 = d then s.creditIn d port d
  else if s.reach d (port / 32) then s.send (.credit d (port / 32) port) else s

/-- REMOTE_ENQUEUE_ARRIVE (R27). -/
def execRemoteEnqueueArrive (d : Nat) (s : State) : Res :=
  onDieS s d fun s => s.recvMsg
    (fun f => match f with | .enqueue a b r => if b = d then some (a, b, 0, r) else none | _ => none)
    fun s a => s.arrive d a

/-- The sequences that a skip passes: from the one expected, up to the first that has arrived or is announced (R27, R305). -/
def skipRun (stop : Nat → Bool) : Nat → Nat → List Nat
  | 0, _ => []
  | n + 1, q => if stop q then [] else q :: skipRun stop n ((q + 1) % 65536)

/-- The distance from the sequence expected to the oldest one held. -/
def heldDistance (expect : Nat) (as : List Arrival) : Nat :=
  as.foldl (fun m a => min m ((a.seq + 65536 - expect) % 65536)) 65536

/-- RELEASE_SEQUENCE_SKIP: after 100 µs the missing sequences of a port before the oldest one held are skipped: journaled,
recorded, and their credits returned (R27, R28). The queue of an enqueue that never arrived is not known to the die: its
records name queue 0, which the manual leaves open (log entry 87). -/
def State.sequenceSkip (s : State) (d g : Nat) : State :=
  let x := (s.die d).egr
  let as := x.arrived.filter (·.port = g)
  let expect := sgetD x.expect g 0
  let since := as.foldl (fun m a => min m a.heldAt) s.now
  if as.isEmpty || s.now < since + 100000 then s
  else
    let stop := fun q => x.announced.contains (g * 65536 + q)
    let qs := skipRun stop (heldDistance expect as) expect
    let s := s.modEgr d fun x => { x with
      skipped := qs.foldl (fun l q => mark l (g * 65536 + q)) x.skipped }.expectAt g ((expect + qs.length) % 65536)
    qs.foldl (fun s _ => ((s.journalDrop d rFAULT g 0).lastDrop d g 0 rFAULT).creditBack d g) s

/-- RELEASE_SEQUENCE_SKIP: `g` is the global ingress port of the pair. -/
def execReleaseSequenceSkip (d g : Nat) (s : State) : Res := onPort s d 0 (g < 256) fun s => s.sequenceSkip d g

/-! ### Copies between dies (R305, R359) -/

/-- Copy an enqueue's cells to its queue's die and send it there; the source's reference ends (R305). CROSSING of the packet
record is the latency that CROSS_MAX takes: a free value within the bounds of R41 and R321 (log entry 12). -/
def State.copyOut (s : State) (d : Nat) (a : Arrival) (p : Packet) : State :=
  let x := a.enq.die
  let cells := a.enq.copied p.cells
  let s := s.readCells d cells
  let r := s.takeCells x { port := none } cells.length
  let s := r.2.copyCells d x cells r.1
  let n := s.newPkt x { p with cells := r.1, len := min (p.len - a.enq.start / 128 * 128) (128 * cells.length), refs := 1
                               held := false }
  let w0 := putBits a.enq.w0.toNat 14 14 (a.enq.start % 128)
  let lat := r.2.crossLat d x cells.length
  let a' := { a with pid := n.1, enq := { a.enq with w0 := w36 w0 }, remote := true
                     tag := if a.tag.isEmpty then [] else a.tag ++ [lat] }
  ((n.2.count d ctrEGR 9).dropRef d a.pid).send (.enqueue d x a')

/-- The first copy of a die that can go and whose link grants it (R321); one that finds the destination's pool empty announces
its sequence and waits. -/
def State.copyNext (s : State) (d : Nat) : List Arrival → State × Option (Arrival × Packet)
  | [] => (s, none)
  | a :: as =>
    let x := a.enq.die
    match s.pkt d a.pid with
    | none => s.copyNext d as
    | some p =>
      if s.copyReady d a then if s.linkGrants d x false then (s, some (a, p)) else s.copyNext d as
      else if !s.routeHeld d x && s.reach d x && (s.die x).hop.free < (a.enq.copied p.cells).length then
        (s.modEgr x fun y => { y with announced := mark y.announced (seqKey a) }).copyNext d as
      else s.copyNext d as

/-- EGRESS_COPY: a holding die copies the cells of the next enqueue bound for another die (R305). -/
def execEgressCopy (d : Nat) (s : State) : Res :=
  onDieS s d fun s =>
    match s.copyNext d (s.die d).egr.toCopy with
    | (s, none) => s
    | (s, some (a, p)) =>
      ((s.linkGranted d a.enq.die false).modEgr d fun x => { x with toCopy := x.toCopy.erase a }).copyOut d a p

/-! ### Admission (R300, R302 to R305, R319) -/

/-- On-chip cells of a queued packet: all of them, those read back so far, or for a packet longer than the read-ahead those
reserved (R304, R320). -/
def QEntry.onChip (e : QEntry) : Nat :=
  if e.spill.isEmpty then e.cells else if !e.back then 0 else if 64 < e.cells then e.cells else e.cells - e.spill.length

/-- The depth of a queue: on-chip cells of its packets (R304). -/
def Queue.depth (x : Queue) : Nat := (x.entries.map (·.onChip)).sum

/-- Granules of the spill area (R319). -/
def State.spillSize (s : State) (d : Nat) : Nat := s.fld d .egrSpill [] 28 8 * 4096

/-- DRAM byte address of a spill granule. -/
def State.spillAddr (s : State) (d i : Nat) : Nat := s.fld d .egrSpill [] 0 28 * 4096 + 128 * i

/-- Free spill granules, up to a number wanted: the lowest free ones. -/
def spillFree (used : List Nat) (size : Nat) : Nat → Nat → List Nat
  | 0, _ => []
  | n + 1, i =>
    let j := firstFree used (max 1 size) used.length i
    if size ≤ i || j < i || used.contains j then [] else j :: spillFree used size n (j + 1)

/-- Write a packet's cells to spill granules, poisoned ones as poison granules (R319, R359). -/
def State.spillCells (s : State) (d : Nat) : List Nat → List Nat → State
  | c :: cs, g :: gs =>
    let h := (s.die d).hop
    let a := s.spillAddr d g
    let s := if h.poison.contains c then (s.countCells d [c]).dramStorePoison d a else s.dramStore d a (Memory.readBytes h.buf (c * 128) 128)
    s.spillCells d cs gs
  | _, _ => s

/-- The next enqueue taken in: of those whose release sequence is due, the one of the lowest global ingress port (R302). -/
def State.nextArrival (s : State) (d : Nat) : Option Arrival :=
  let x := (s.die d).egr
  (x.arrived.filter fun a => a.seq = sgetD x.expect a.port 0).foldl (fun m a => match m with
    | none => some a
    | some b => if a.port < b.port then some a else some b) none

/-- Put an entry at the tail of a queue: it is admitted (R302). -/
def State.enqueue (s : State) (d q : Nat) (e : QEntry) (spilling : Bool) : State :=
  let x := s.queue d q
  let s := (s.setQueue d q { x with entries := x.entries ++ [e], spilling := spilling }).count d ctrEGR 0
  if e.a.remote then s.count d ctrEGR 8 else s

/-- Admit an enqueue to its queue, or discard it (R300, R303, R304, R319). -/
def State.admitTo (s : State) (d : Nat) (a : Arrival) (p : Packet) : State :=
  let q := a.enq.queue
  let n := p.cells.length
  let x := s.queue d q
  if a.port / 32 ≠ d && !s.queueOn d q then ((s.dropQueue d a.port q).dropRef d a.pid).tagLost a rFAULT
  else if !a.remote && s.enqBad a.enq n then ((s.dropLength d a.port q).dropRef d a.pid).tagLost a rLENGTH
  else if !x.spilling && x.depth + n ≤ s.fld d .egrQLim [q] 0 19 then s.enqueue d q { a := a, cells := n } false
  else if !bit (s.reg d .egrQCfg [q]) 4 then ((s.dropTail d a.port q).dropRef d a.pid).tagLost a rSLUICE
  else
    let gs := spillFree (s.die d).egr.spillUsed (s.spillSize d) n 0
    if gs.length < n || gs.any (fun g => !s.dramOk d (s.spillAddr d g)) then
      ((s.dropTail d a.port q).dropRef d a.pid).tagLost a rSLUICE
    else
      let s := (s.readCells d p.cells).spillCells d p.cells gs
      let s := (s.modEgr d fun e => { e with spillUsed := e.spillUsed ++ gs }).count d ctrEGR 5 n
      (s.enqueue d q { a := a, cells := n, spill := gs, info := some { p with cells := [] } } true).dropRef d a.pid

/-- QUEUE_ADMIT: the tailrace admits one enqueue and returns its credit (R28, R302). -/
def execQueueAdmit (d : Nat) (s : State) : Res :=
  onDieS s d fun s =>
    match s.nextArrival d with
    | none => s
    | some a =>
      let next := fun (s : State) => (s.modEgr d fun x => { x with
        arrived := x.arrived.erase a }.expectAt a.port ((a.seq + 1) % 65536)).creditBack d a.port
      match if a.void then none else s.pkt d a.pid with
      | none => next s
      | some p => next (s.admitTo d a p)

/-! ### Queue configuration (R10, R299, R301) -/

/-- A write of EGR.Q_CFG (R10, R299, R301): the word gets fresh check bits. -/
def State.qCfgWrite (s : State) (d q v : Nat) : State :=
  let old := s.reg d .egrQCfg [q]
  let v := v &&& 0xFFFBFFFF
  let parent := bits v 9 9
  let children := (List.range 3584).any fun i => bit (s.reg d .egrQCfg [512 + i]) 0 && s.fld d .egrQCfg [512 + i] 9 9 = q
  let bad :=
    if bit old 0 then
      (bit v 0 && v ≠ old) || (!bit v 0 && (v / 2 ≠ old / 2 || (q < 512 && children)))
    else bit v 0 && (!queueHere d q || (512 ≤ q && (!queueHere d parent || parent ≥ 512 || (384 ≤ parent && parent < 496) ||
      !bit (s.reg d .egrQCfg [parent]) 0)))
  if bad then s.violation d
  else (s.setReg d .egrQCfg [q] v).modDie d fun x => x.freshUnit 9 0 (cfgQueue q)

/-- QUEUE_ENABLE: a write of Q_CFG that enables or disables a descriptor. -/
def execQueueEnable (d q : Nat) (v : Dword) (s : State) : Res := onHostS s d (q < 4096) fun s => s.qCfgWrite d q v.toNat

end Sys2Proof.Machine
end

