-- ==== Sys2Proof/Machine/Egress.lean ====
section
/-! DEFINITION. Egress: the guard of gate lists (R317), the choice of the next frame (R309 to R312), transmission (R307,
R308, R362) and the read-ahead of a spilling queue (R320). -/

namespace Sys2Proof.Machine

open Sys2Proof

/-! ### The guard (R317) -/

/-- The distance along the axis to the point where a list next shuts a queue, going up or down. -/
def State.glShuts (s : State) (d pp l q : Nat) (g : GlPlace) (down : Bool) : Option Nat :=
  let cs := 0 :: (List.range (s.glEntries d pp l)).map (s.glPoint d pp l)
  let ds := cs.filterMap fun c =>
    let at_ := if down then (if c = 0 then g.cycle.map (· - 1) else some (c - 1)) else some c
    let dist : Option Nat :=
      if down then (if c ≤ g.x then some (g.x - c) else g.cycle.map fun y => g.x + y - c)
      else if g.x < c then some (c - g.x) else g.cycle.map fun y => c + y - g.x
    match at_, dist with
    | some a, some t => if bit (s.glAt d pp l a).1 q then none else some t
    | _, _ => none
  let ds := ds ++ (if down then g.fromBase.toList else g.toEnd.toList)
  ds.foldl (fun m t => match m with | none => some t | some x => some (min x t)) none

/-- The distance along the axis to where a list next closes a queue, going up or down: from its present place, or from where it
next comes into effect (R317). -/
def State.glCloses (s : State) (d pp l q : Nat) (down : Bool) : Option Nat :=
  match s.glNow d pp l with
  | .state _ _ g => s.glShuts d pp l q g down
  | .hold => none
  | .off =>
    match s.glEnter d pp l down with
    | some (t, g) => if bit (s.glAt d pp l g.x).1 q then (s.glShuts d pp l q g down).map (t + ·) else some t
    | none => none

/-- The time in ns, as a fraction, until a guarding list closes a queue: none when no guard applies (R317). -/
def State.glGuard (s : State) (d pp l q : Nat) : Option (Nat × Nat) :=
  let n := s.glCfg d pp l 1 3
  if s.glCfg d pp l 5 1 = 0 || !bit (s.glCfg d pp l 14 16) q then none
  else if n = 0 then (s.glCloses d pp l q false).map fun t => (t, 1)
  else
    let r := (s.view d n).1
    match r.p with
    | none => none
    | some p =>
      let ph := s.axType n = 2
      let step := if ph then 2 ^ 48 else s.axStep n
      if step = 0 || r.st ≠ 1 then none
      else (s.glCloses d pp l q (r.down && !ph)).map fun t => (t * 4096 * p, step)

/-- Octets of a frame on the wire of a MAC, from its first to its FCS (R307, R308, R310). -/
def Enq.macOctets (e : Enq) : Nat :=
  let body := if e.fcsMode = 0 && e.stamp.isNone then e.len else e.len - 4
  max 60 body + 4

/-- A frame of local port p can end before a time given as a fraction of ns (R317). -/
def State.fitsBefore (s : State) (d p : Nat) (e : Enq) (t : Nat × Nat) : Bool :=
  if isMac p then
    let r := s.macRate d p
    ((30 * r + (e.macOctets + 8) * 8000) * t.2) < t.1 * r
  else
    let cfg := s.reg d .tgpCfg [p - 16]
    let n := if bits cfg 0 2 = 1 then ceilDiv (e.len * 48) 5 + 16 else (2 * e.len + 2) * (if bit cfg 4 then 11 else 10)
    ((n + 1) * 1000000000 * t.2) < t.1 * s.fld d .tgpRate [p - 16] 0 25

/-- The guards of a port let a frame of queue q start. -/
def State.guardOk (s : State) (d p q : Nat) (e : Enq) : Bool :=
  (List.range 8).all fun l => match s.glGuard d (gateIndex p) l q with
    | some t => s.fitsBefore d p e t
    | none => true

/-! ### Eligibility and choice (R309 to R312) -/

/-- The first descriptor of a port's queues. -/
def portBase (p : Nat) : Nat := if p = 31 then 496 else 16 * p

/-- A frame at the head of a queue that can start: a spilled one only when all its cells are in the read-ahead (R320). -/
def Queue.head (x : Queue) : Option QEntry := x.entries.head?.bind fun e => if e.spill.isEmpty then some e else none

/-- The queues with packets in the set of a port queue: itself, then its extension queues in rising order (R301, R310). -/
def State.members (s : State) (d k : Nat) : List Nat :=
  ((s.die d).egr.queues.filter fun p => (p.1 = k || (512 ≤ p.1 && s.portQueue d p.1 = k)) && p.2.head.isSome).map (·.1)

/-- Tokens of a port queue's shaper now (R312). -/
def State.tokens (s : State) (d k : Nat) : Int :=
  let x := s.queue d k
  let shape := s.reg d .egrQShape [k]
  min (x.tokens + (bits shape 0 29 * (s.now - x.tokAt) : Nat)) ((2 ^ (11 + bits shape 29 3) * 8000000 : Nat) : Int)

/-- A PAUSE or PFC frame holds a port queue (R311). -/
def State.queuePaused (s : State) (d p k : Nat) : Bool :=
  let live := fun (key : Nat) => match sget (s.die d).hop.pausedTo key with | some t => s.now < t | none => false
  isMac p && (live p || live (32 + 8 * p + s.fld d .egrQCfg [k] 6 3))

/-- A port can send: enabled, with the link up for a MAC (R309); port 31 while its sluice is open (R63). -/
def State.txOn (s : State) (d p : Nat) : Bool :=
  if isMac p || isTgp d p then s.rxOn d p else p = 31 && !(s.die d).hop.closed.contains 31

/-- Port 31 has room for a whole frame (R64). -/
def State.recircRoom (s : State) (d : Nat) (e : Enq) : Bool :=
  let n := ceilDiv e.len 128
  let h := (s.die d).hop
  h.occ 31 + n ≤ s.fld d .hopPortQuota [31] 0 19 && n ≤ h.free

/-- A port queue is eligible (R309), apart from a guard. -/
def State.eligible (s : State) (d p k : Nat) : Bool :=
  s.txOn d p && !(s.members d k).isEmpty && (p = 31 || s.gateOpen d p (k % 16)) && !s.queuePaused d p k &&
    (s.fld d .egrQShape [k] 0 29 = 0 || 0 ≤ s.tokens d k) && !(s.queue d k).guarded

/-- The bytes of a frame for the round robin (R310): LENGTH with the FCS and padding that the port adds. -/
def Enq.drrBytes (e : Enq) (p : Nat) : Nat := if isMac p then e.macOctets else e.len

/-- QUANTUM of a queue in bytes. -/
def State.quantum (s : State) (d q : Nat) : Nat := 64 * max 1 (s.fld d .egrQCfg [q] 19 13)

/-- Order of a member in the round robin: port queue by port queue, and the extension queues after their port queue. -/
def State.rrKey (s : State) (d q : Nat) : Nat := s.portQueue d q * 8192 + (if 512 ≤ q then q else 0)

/-- Insert a member in round-robin order. -/
def State.rrInsert (s : State) (d q : Nat) : List Nat → List Nat
  | [] => [q]
  | x :: xs => if s.rrKey d q < s.rrKey d x then q :: x :: xs else x :: s.rrInsert d q xs

/-- Members in the order in which turns pass, starting at the member served last or the one that follows it (R310). -/
def State.rrFrom (s : State) (d : Nat) (last : Option Nat) (ms : List Nat) : List Nat :=
  let ms := ms.foldl (fun l q => s.rrInsert d q l) []
  match last with
  | none => ms
  | some q =>
    let before := ms.filter fun x => s.rrKey d x < s.rrKey d q
    (ms.filter fun x => s.rrKey d q ≤ s.rrKey d x) ++ before

/-- The deficit round robin (R310): turns pass until a member's deficit covers its head frame. -/
def State.drr (s : State) (d p : Nat) : Nat → List Nat → Store Nat → Option (Nat × Store Nat)
  | 0, _, _ => none
  | _, [], _ => none
  | fuel + 1, q :: qs, df =>
    let need := match (s.queue d q).head with | some e => e.a.enq.drrBytes p | none => 0
    let have_ := sgetD df q (s.queue d q).deficit
    if need ≤ have_ then some (q, sset df q (have_ - need))
    else s.drr d p fuel (qs ++ [q]) (sset df q (have_ + s.quantum d q))

/-- The choice among port queues: the queue of the frame to send, and the new deficits (R310). -/
def State.choosePort (s : State) (d p : Nat) (ks : List Nat) : Option (Nat × Store Nat) :=
  let prio := ks.foldl (fun m k => max m (s.fld d .egrQCfg [k] 1 3)) 0
  let ms := (ks.filter fun k => s.fld d .egrQCfg [k] 1 3 = prio).flatMap (s.members d)
  s.drr d p (300 * ms.length + 1) (s.rrFrom d (sget (s.die d).egr.lastServed (p * 8 + prio)) ms) []

/-- Choose a frame; a frame that its guard holds is counted and its port queue waits until its gate next opens (R317). -/
def State.selectGo (s : State) (d p : Nat) : Nat → List Nat → State × Option (Nat × Store Nat)
  | 0, _ => (s, none)
  | fuel + 1, ks =>
    match s.choosePort d p ks with
    | none => (s, none)
    | some (q, df) =>
      let k := s.portQueue d q
      match (s.queue d q).head with
      | none => (s, none)
      | some e =>
        if p ≠ 31 && !s.guardOk d p (k % 16) e.a.enq then
          let s := (s.setQueue d k { s.queue d k with guarded := true }).count d ctrEGR 7
          s.selectGo d p fuel (ks.filter (· ≠ k))
        else if p = 31 && !s.recircRoom d e.a.enq then (s, none)
        else (s, some (q, df))

/-- Take the head frame of a queue; a queue that becomes empty has its deficit set to 0 (R310). -/
def State.takeHead (s : State) (d q : Nat) : State :=
  let x := s.queue d q
  s.setQueue d q { x with entries := x.entries.tail, deficit := if x.entries.length ≤ 1 then 0 else x.deficit }

/-- A frame goes to a port: the SENT and BYTES counts, and the packet record of a tagged instance (R322, R441). -/
def State.handed (s : State) (d p : Nat) (e : QEntry) : State :=
  let s := (s.count d ctrEGR 1).count d ctrEGR 2 (e.a.enq.drrBytes p)
  if e.a.tag.isEmpty then s else s.tagPkt d e.a.port e.a.ticket (some { e.a.enq with die := d }) 0 e.a.tag (some (s.time d))

/-- TRANSMIT_SELECT: a port that can accept its next frame chooses it (R309, R310). -/
def State.transmitSelect (s : State) (d p : Nat) : State :=
  let x := (s.die d).egr
  if (sget x.chosen p).isSome || (sget x.sending p).isSome then s
  else
    let ks := ((List.range 16).map (portBase p + ·)).filter (s.eligible d p)
    match s.selectGo d p 17 ks with
    | (s, none) => s
    | (s, some (q, df)) =>
      match (s.queue d q).head with
      | none => s
      | some e =>
        let prio := s.fld d .egrQCfg [s.portQueue d q] 1 3
        let s := df.foldl (fun s y => s.setQueue d y.1 { s.queue d y.1 with deficit := y.2 }) s
        let s := (s.takeHead d q).modEgr d fun x => { x with
          lastServed := sset x.lastServed (p * 8 + prio) q, chosen := sset x.chosen p ⟨q, e, s.now⟩ }
        s.handed d p e

/-- TRANSMIT_SELECT. -/
def execTransmitSelect (d p : Nat) (s : State) : Res :=
  onPort s d p (isMac p || isTgp d p || p = 31) fun s => s.transmitSelect d p

/-! ### Transmission (R307, R308, R312, R362) -/

/-- The first poisoned cell of a frame and the octets before it (R362). -/
def State.poisonAt (s : State) (d : Nat) (e : Enq) (cells : List Nat) : Option Nat :=
  let h := (s.die d).hop
  let ks := (e.copied cells).zipIdx
  (ks.find? fun c => h.poison.contains c.1).map fun c => if c.2 = 0 then 0 else c.2 * 128 - e.start % 128

/-- The transmit timestamp: axis 0 corrected by TX_ADJ (R50). -/
def State.txStamp (s : State) (d p : Nat) : Nat :=
  (((s.time d : Int) + sext (s.fld d .macTsadj [p] 16 16) 16) % 2 ^ 72).toNat

/-- A timestamp's octets (R308). -/
def stampBytes (size t : Nat) : List Byte :=
  if size = 8 then natBE 8 t else natBE 6 (t / 1000000000) ++ natBE 4 (t % 1000000000)

/-- Put octets over a frame's from an offset. -/
def overlay (bs : List Byte) (off : Nat) (new : List Byte) : List Byte := bs.take off ++ new ++ bs.drop (off + new.length)

/-- The frame that a MAC sends: timestamp, padding and FCS (R307, R308). -/
def macFrame (e : Enq) (bs : List Byte) (t : Nat) : List Byte :=
  let pad := fun (b : List Byte) => b ++ List.replicate (60 - b.length) 0
  let fresh := fun (b : List Byte) => let b := pad b; b ++ natLE 4 (crc32 b)
  match e.stamp with
  | some (n, o) => let b := overlay bs o (stampBytes n t); fresh (b.take (e.len - 4))
  | none => match e.fcsMode with
    | 0 => fresh bs
    | 1 => fresh (bs.take (e.len - 4))
    | _ => if 64 ≤ e.len then bs else fresh (bs.take (e.len - 4))

/-- The bits of an octet, least significant first. -/
def byteBits (b : Byte) : List Bool := (List.range 8).map fun i => b.getLsbD i

/-- Zero-bit insertion after five ones (R51). -/
def stuffBits : Nat → List Bool → List Bool
  | _, [] => []
  | n, b :: bs => if b then (if n = 4 then b :: false :: stuffBits 0 bs else b :: stuffBits (n + 1) bs) else b :: stuffBits 0 bs

/-- Escaping of an asynchronous line (R51). -/
def escapeByte (ctrl : Bool) (b : Byte) : List Byte :=
  if b = 0x7E || b = 0x7D || (ctrl && b.toNat < 0x20) then [0x7D, b ^^^ 0x20] else [b]

/-- A character on an asynchronous line: start bit, data bits, in 8E1 the even parity bit, stop bit (R51). -/
def charBits (parity : Bool) (b : Byte) : List Bool :=
  [false] ++ byteBits b ++ (if parity then [oddOnes (byteBits b)] else []) ++ [true]

/-- The levels of a bit in Manchester: the line rises in the middle of a 1 (log entry 88). -/
def manchester (b : Bool) : List Bool := [!b, b]

/-- The opening flag of a telegram is the closing flag of the one before: FLAG_SHARE = 1, and that one ended in this cycle. -/
def State.flagShared (s : State) (d p : Nat) : Bool :=
  bit (s.reg d .tgpCfg [p - 16]) 6 && sget (s.die d).egr.tgpEnd p = some s.now

/-- What a telegram port drives for a frame: flags, stuffing or escapes, and an abort after a frame cut short, in the port's
line code or character format (R51 to R53, R362). -/
def State.telegramOut (s : State) (d p : Nat) (bs : List Byte) (abort : Bool) : Out :=
  let cfg := s.reg d .tgpCfg [p - 16]
  let flag : List Byte := if s.flagShared d p then [] else [0x7E]
  if bits cfg 0 2 = 2 then
    .telegramChars d p ((flag ++ bs.flatMap (escapeByte (bit cfg 9)) ++ (if abort then [0x7D, 0x7E] else [0x7E])).map
      (charBits (bit cfg 4))) abort
  else
    let bits := flag.flatMap byteBits ++ stuffBits 0 (bs.flatMap byteBits) ++
      (if abort then List.replicate 7 true else byteBits 0x7E)
    .telegramBits d p (if bit cfg 2 then bits.flatMap manchester else bits) abort

/-- Octets that the shaper takes for a frame (R312): on a telegram port those actually sent, two levels being a bit in
Manchester; on port 31, of whose wire the manual says nothing, the frame's bytes (log entry 89). -/
def shapeBytes (p : Nat) (two : Bool) (o : Out) (n : Nat) : Nat :=
  match o with
  | .telegramBits _ _ bs _ => ceilDiv bs.length (if two then 16 else 8)
  | .telegramChars _ _ cs _ => cs.length
  | _ => if isMac p then n + 20 else n

/-- The shaper of a queue's port queue takes the octets of a frame that starts (R312). -/
def State.shapeTake (s : State) (d q n : Nat) : State :=
  let key := s.portQueue d q
  if s.fld d .egrQShape [key] 0 29 = 0 then s
  else s.setQueue d key { s.queue d key with tokens := s.tokens d key - (8000000 * n : Nat), tokAt := s.now }

/-- A frame of port 31 is written to new cells of the die and waits for admission, which gives it its receive timestamp (R25,
R305, R362). -/
def State.recirculate (s : State) (d : Nat) (e : Enq) (k : Packet) : State :=
  let h := (s.die d).hop
  let bs := h.pktBytes k e.start e.len
  let n := ceilDiv e.len 128
  let bad := fun i => (List.range 128).any fun j => i * 128 + j < e.len &&
    (match k.cells[(e.start + i * 128 + j) / 128]? with | some c => h.poison.contains c | none => false)
  let marks := (List.range n).filter bad
  let s := s.countCells d (e.copied k.cells)
  let r := s.takeCells d { port := some 31 } n
  let s := r.2.modHop d fun x => { x with
    buf := writeCells x.buf r.1 0 bs, poison := marks.foldl (fun l i => mark l (r.1.getD i 0)) x.poison }
  let q := s.newPkt d { cells := r.1, len := e.len, fcs := 0, port := d * 32 + 31
                        cfg := BitVec.ofNat 32 (s.reg d .hopPortCfg [31]), pdef := BitVec.ofNat 32 (s.reg d .hopPortDef [31])
                        ts := 0 }
  (q.2.modHop d fun x => { x with complete := x.complete ++ [q.1] }).countPort d 31 5

/-- PORT_TRANSMIT: the port sends the frame that it has chosen; a poisoned cell stops it before it starts or cuts it short
(R307, R308, R312, R362). Port 31 waits until its new cells are there for the whole frame (R64). TX_BYTES counts the frame's
octets with padding and FCS, and no preamble, flag, stuffing or escape; a frame cut short counts with the octets sent: the
manual says neither (log entry 90). -/
def State.portTransmit (s : State) (d p : Nat) : State :=
  match sget (s.die d).egr.chosen p with
  | none => s
  | some c =>
    let e := c.e.a.enq
    match s.pkt d c.e.a.pid with
    | none => s.modEgr d fun x => { x with chosen := sdel x.chosen p }
    | some k =>
      if p = 31 && !s.recircRoom d e then s
      else
      let s := s.readCells d (e.copied k.cells)
      let s := s.modEgr d fun x => { x with chosen := sdel x.chosen p, sending := sset x.sending p c }
      if p = 31 then ((s.recirculate d e k).shapeTake d c.queue e.len).countPort d 31 6 e.len
      else
        let bs := (s.die d).hop.pktBytes k e.start e.len
        let cut := s.poisonAt d e k.cells
        let s := if cut.isSome then ((s.count d ctrECC 2).count d ctrECC 12).journalDrop d rPOISON c.e.a.port c.queue else s
        if cut = some 0 then s
        else
          let t := s.txStamp d p
          let out := match cut with | some n => bs.take n | none => if isMac p then macFrame e bs t else bs
          let o := if isMac p then Out.frame d p out cut.isSome else s.telegramOut d p out cut.isSome
          let s := s.emit o
          let s := if isMac p && e.stamp.isSome && cut.isNone then s.count d ctrEGR 14 else s
          let two := isTgp d p && s.fld d .tgpCfg [p - 16] 2 1 = 1
          let s := s.shapeTake d c.queue (shapeBytes p two o out.length)
          (s.countPort d p 5).countPort d p 6 out.length

/-- PORT_TRANSMIT. -/
def execPortTransmit (d p : Nat) (s : State) : Res :=
  onPort s d p (isMac p || isTgp d p || p = 31) fun s =>
    if (sget (s.die d).egr.sending p).isSome then s else s.portTransmit d p

/-- ENQUEUE_TRANSMITTED: the port has read the last cell of its frame, whose reference is released (R305); a telegram line is
then between frames (R53). -/
def execEnqueueTransmitted (d p : Nat) (s : State) : Res :=
  onPort s d p (isMac p || isTgp d p || p = 31) fun s =>
    match sget (s.die d).egr.sending p with
    | none => s
    | some c =>
      let s := (s.modEgr d fun x => { x with sending := sdel x.sending p }).dropRef d c.e.a.pid
      if isTgp d p then (s.modEgr d fun x => { x with tgpEnd := sset x.tgpEnd p s.now }).tgpIdle d p else s

/-! ### Read-ahead (R319, R320) -/

/-- A spilled packet starts to return: one longer than 64 cells reserves its whole length first (R320). -/
def State.aheadStart (s : State) (d : Nat) (e : QEntry) : State × Option QEntry :=
  match e.info with
  | none => (s, none)
  | some k =>
    let n := if 64 < e.cells then e.cells else 0
    if (s.die d).hop.free < n then (s, none)
    else
      let r := s.takeCells d { port := none } n
      let q := r.2.newPkt d { k with cells := r.1, refs := 1, held := false }
      (q.2, some { e with a := { e.a with pid := q.1 }, info := none, back := true })

/-- The on-chip cell for the next spilled cell of an entry: the one reserved, or a fresh one. -/
def State.aheadCell (s : State) (d : Nat) (e : QEntry) (k : Packet) : State × Option Nat :=
  match k.cells[e.cells - e.spill.length]? with
  | some c => (s, some c)
  | none =>
    if (s.die d).hop.free = 0 then (s, none)
    else
      let r := s.takeCell d { port := none }
      (r.2.modPkt d e.a.pid fun k => { k with cells := k.cells ++ [r.1] }, some r.1)

/-- Read the next spilled cell of an entry back; none while the pool, the controller or a delay holds it. -/
def State.unspill (s : State) (d q : Nat) (e : QEntry) (panic : Bool) : State × Option QEntry :=
  match e.spill, s.pkt d e.a.pid with
  | g :: gs, some k =>
    if (s.die d).hop.free = 0 && k.cells.length ≤ e.cells - e.spill.length then (s, none)
    else match s.dramFetch d (s.spillAddr d g) panic (some (400 + q)) with
      | (s, none) => (s, none)
      | (s, some (bs, poison)) =>
        match s.aheadCell d e k with
        | (s, none) => (s, none)
        | (s, some c) =>
          let s := s.modHop d fun h => { h with
            buf := Memory.writeBytes h.buf (c * 128) bs, poison := if poison then mark h.poison c else h.poison }
          let s := (s.modEgr d fun x => { x with spillUsed := x.spillUsed.erase g }).count d ctrEGR 6
          (s, some { e with spill := gs })
  | _, _ => (s, none)

/-- Replace the first entry that a test accepts. -/
def replaceFirst {α : Type} (p : α → Bool) (y : α) : List α → List α
  | [] => []
  | x :: xs => if p x then y :: xs else x :: replaceFirst p y xs

/-- A read-ahead is refilled from below 32 cells up to 64 (R320). -/
def Queue.refills (x : Queue) : Bool := x.ahead < 32 || (x.refill && x.ahead < 64)

/-- READ_AHEAD_REFILL: a read-ahead that is refilled takes its next cell back from DRAM, as does a packet longer than it that
has reserved its cells; the queue leaves SPILLING with its last spilled packet (R319, R320). -/
def State.readAhead (s : State) (d q : Nat) : State :=
  let x := s.queue d q
  match x.entries.find? fun e => !e.spill.isEmpty with
  | none => s
  | some e =>
    let s := s.setQueue d q { x with refill := x.refills }
    if !(x.refills || (e.back && 64 < e.cells)) then s
    else
      match if e.back then (s, some e) else s.aheadStart d e with
      | (s, none) => s
      | (s, some e1) =>
        let panic := s.aheadPanic d q
        let y := s.queue d q
        let s := s.setQueue d q { y with entries := replaceFirst (fun y => !y.spill.isEmpty) e1 y.entries }
        match s.unspill d q e1 panic with
        | (s, none) => s
        | (s, some e2) =>
          let s := if panic then s.count d ctrEGR 12 else s
          let y := s.queue d q
          let es := replaceFirst (fun y => !y.spill.isEmpty) e2 y.entries
          s.setQueue d q { y with entries := es, spilling := es.any fun y => !y.spill.isEmpty }

/-- READ_AHEAD_REFILL. -/
def execReadAheadRefill (d q : Nat) (s : State) : Res := onPort s d 0 (q < 4096) fun s => s.readAhead d q

end Sys2Proof.Machine
end

