-- ==== Sys2Proof/Machine/Codec.lean ====
section
/-! DEFINITION. The codec's and the copy helper's functions on octets (R218, R219, R221). -/

namespace Sys2Proof.Machine

open Sys2Proof

/-- The octet of up to eight bits, first bit least significant. -/
def bitsByte (bs : List Bool) : Byte := BitVec.ofNat 8 (bs.foldr (fun b n => 2 * n + if b then 1 else 0) 0)

/-- Octets of a bit string; bits past its end in the last octet come from `fill`. -/
def packBits (fill : Nat) (bs : List Bool) : List Byte :=
  (List.range (ceilDiv bs.length 8)).map fun i =>
    let part := (bs.drop (8 * i)).take 8
    bitsByte (part ++ (List.range (8 - part.length)).map (bit fill))

/-- STUFF: bits with a 0 after each five 1s, and flags around them when asked for (R218). -/
def codecStuff (flags : Bool) (bs : List Byte) : List Bool :=
  let body := stuffBits 0 (bs.flatMap byteBits)
  if flags then byteBits 0x7E ++ body ++ byteBits 0x7E else body

/-- UNSTUFF of bits: the bits kept, and whether they end before seven 1s and before a flag pattern (R218). -/
def codecUnstuff : Nat → List Bool → List Bool × Bool
  | _, [] => ([], true)
  | n, b :: bs =>
    if b then
      if 6 ≤ n then ([], false)
      else let r := codecUnstuff (n + 1) bs; (true :: r.1, r.2)
    else if n = 5 then codecUnstuff 0 bs
    else if 6 ≤ n then ([], false)
    else let r := codecUnstuff 0 bs; (false :: r.1, r.2)

/-- Whole octets of bits. -/
def wholeBytes (bs : List Bool) : List Byte := (List.range (bs.length / 8)).map fun i => bitsByte ((bs.drop (8 * i)).take 8)

/-- UNESCAPE: octets and success; an escape that is last or stands before 0x7E ends it (R218). -/
def codecUnescape : List Byte → List Byte × Bool
  | [] => ([], true)
  | [b] => if b = 0x7D then ([], false) else ([b], true)
  | a :: b :: bs =>
    if a = 0x7D then
      if b = 0x7E then ([], false) else let r := codecUnescape bs; ((b ^^^ 0x20) :: r.1, r.2)
    else let r := codecUnescape (b :: bs); (a :: r.1, r.2)

/-- An FCS in the order in which it is sent: FCS-32 or FCS-16 (R218). -/
def fcsBytes (f32 : Bool) (bs : List Byte) : List Byte := if f32 then natLE 4 (crc32 bs) else natLE 2 (crc16 bs)

/-- Octets of an FCS. -/
def fcsSize (f32 : Bool) : Nat := if f32 then 4 else 2

/-- Octets that end in their FCS: it holds. -/
def fcsHolds (f32 : Bool) (bs : List Byte) : Bool :=
  bs.drop (bs.length - fcsSize f32) = fcsBytes f32 (bs.take (bs.length - fcsSize f32))

/-- MANCH_ENC of bits: 1 as 01 and 0 as 10, or inverted (R218). -/
def manchEncode (invert : Bool) (bs : List Bool) : List Bool := bs.flatMap fun b => [b == invert, b != invert]

/-- MANCH_DEC of symbols: bits up to the first pair that is 00 or 11, and that pair's index. -/
def manchDecode (invert : Bool) : Nat → List Bool → List Bool × Option Nat
  | i, a :: b :: bs =>
    if a = b then ([], some i) else let r := manchDecode invert (i + 1) bs; ((b != invert) :: r.1, r.2)
  | _, _ => ([], none)

/-- The carriage header (R221). -/
def carriageHeader (f32 strip : Bool) (hdrA hdrB : Nat) : List Byte :=
  [BitVec.ofNat 8 (16 + (if strip then 0 else 8) + if f32 then 4 else 0), BitVec.ofNat 8 (bits hdrA 0 8)] ++
    natBE 2 (bits hdrA 8 16) ++ natBE 4 (bits hdrB 0 32)

/-- ENCAP (R221). -/
def codecEncap (f32 strip : Bool) (hdrA hdrB : Nat) (bs : List Byte) : List Byte :=
  carriageHeader f32 strip hdrA hdrB ++ if strip then bs.take (bs.length - fcsSize f32) else bs

/-- DECAP: octets written and success (R218, R221). -/
def codecDecap (bs : List Byte) : List Byte × Bool :=
  let h := (bs.headD 0).toNat
  let f32 := bit h 2
  let t := bs.drop 8
  if bits h 4 4 ≠ 1 then ([], false)
  else if bit h 3 then (if t.length ≤ fcsSize f32 then ([], false) else (t, fcsHolds f32 t))
  else (t ++ fcsBytes f32 t, true)

/-- The offset of the first difference. -/
def firstDiff : Nat → List Byte → List Byte → Option Nat
  | i, a :: as, b :: bs => if a = b then firstDiff (i + 1) as bs else some i
  | _, _, _ => none

end Sys2Proof.Machine
end

