-- ==== Sys2Proof/Machine/Crypto.lean ====
section
/-! DEFINITION. The published algorithms of R207: AES, GCM, CMAC, SHA-256 and ECDSA verification on P-256, over octets as
numbers. -/

namespace Sys2Proof.Machine

open Sys2Proof

/-! ### AES (FIPS 197) -/

/-- Multiplication by x in GF(2^8) of AES. -/
def aesX (a : Nat) : Nat := if a < 128 then 2 * a else (2 * a) ^^^ 0x11B

/-- Multiplication in GF(2^8) of AES. -/
def aesMul (a b : Nat) : Nat :=
  ((List.range 8).foldl (fun (p : Nat × Nat) i => (if bit b i then p.1 ^^^ p.2 else p.1, aesX p.2)) (0, a)).1

/-- The inverse in GF(2^8), 0 for 0: the 254th power. -/
def aesInv (a : Nat) : Nat :=
  let a2 := aesMul a a
  let a3 := aesMul a2 a
  let a6 := aesMul a3 a3
  let a12 := aesMul a6 a6
  let a15 := aesMul a12 a3
  let a30 := aesMul a15 a15
  let a60 := aesMul a30 a30
  let a120 := aesMul a60 a60
  let a126 := aesMul a120 a6
  let a127 := aesMul a126 a
  aesMul a127 a127

/-- Rotate an octet left. -/
def rotl8 (a n : Nat) : Nat := (a * 2 ^ n + a / 2 ^ (8 - n)) % 256

/-- The S-box. -/
def aesSub (a : Nat) : Nat :=
  let x := aesInv a
  x ^^^ rotl8 x 1 ^^^ rotl8 x 2 ^^^ rotl8 x 3 ^^^ rotl8 x 4 ^^^ 0x63

/-- Exclusive or of octet strings, as long as the shorter. -/
def xorBytes (a b : List Nat) : List Nat := a.zipWith (· ^^^ ·) b

/-- Key expansion by one word: the words so far, newest first. -/
def aesExpandStep (nk : Nat) (ws : List (List Nat)) (i : Nat) : List (List Nat) :=
  let prev := ws.headD []
  let t :=
    if i % nk = 0 then
      xorBytes ((prev.drop 1 ++ prev.take 1).map aesSub) [(List.range (i / nk - 1)).foldl (fun r _ => aesX r) 1, 0, 0, 0]
    else if nk = 8 && i % nk = 4 then prev.map aesSub else prev
  xorBytes (ws.getD (nk - 1) []) t :: ws

/-- Split octets into words of four. -/
def words4 : Nat → List Nat → List (List Nat)
  | 0, _ => []
  | n + 1, bs => bs.take 4 :: words4 n (bs.drop 4)

/-- The round keys of a key of 16 or 32 octets. -/
def aesKeys (key : List Nat) : List (List Nat) :=
  let nk := key.length / 4
  let total := 4 * (nk + 7)
  let ws := ((List.range (total - nk)).foldl (fun ws j => aesExpandStep nk ws (nk + j)) (words4 nk key).reverse).reverse
  (List.range (nk + 7)).map fun r => ((ws.drop (4 * r)).take 4).flatten

/-- ShiftRows on a column-major state. -/
def shiftRows (s : List Nat) : List Nat := (List.range 16).map fun i => s.getD ((i + 4 * (i % 4)) % 16) 0

/-- MixColumns of one column. -/
def mixColumn (c : List Nat) : List Nat :=
  (List.range 4).map fun i =>
    aesX (c.getD i 0) ^^^ (aesX (c.getD ((i + 1) % 4) 0) ^^^ c.getD ((i + 1) % 4) 0) ^^^ c.getD ((i + 2) % 4) 0 ^^^
      c.getD ((i + 3) % 4) 0

/-- Encrypt a block of 16 octets. -/
def aesBlock (keys : List (List Nat)) (b : List Nat) : List Nat :=
  let n := keys.length - 1
  let s := xorBytes b (keys.headD [])
  (List.range n).foldl (fun s i =>
    let s := shiftRows (s.map aesSub)
    let s := if i + 1 = n then s else (words4 4 s).flatMap mixColumn
    xorBytes s (keys.getD (i + 1) [])) s

/-! ### Octets and blocks -/

/-- The number that octets spell, most significant first. -/
def natOf (bs : List Nat) : Nat := bs.foldl (fun n b => n * 256 + b) 0

/-- A number as `n` octets, most significant first. -/
def octetsOf (n v : Nat) : List Nat := (List.range n).map fun i => v / 256 ^ (n - 1 - i) % 256

/-- Octets padded with zeros to whole blocks of 16. -/
def blocks16 (bs : List Nat) : List (List Nat) :=
  (List.range (ceilDiv bs.length 16)).map fun i =>
    let b := (bs.drop (16 * i)).take 16
    b ++ List.replicate (16 - b.length) 0

/-! ### GCM (SP 800-38D) -/

/-- Multiplication in GF(2^128) of GCM, on 128-bit numbers whose bit 127 is the first bit. -/
def gcmMul (x y : Nat) : Nat :=
  ((List.range 128).foldl (fun (p : Nat × Nat) i =>
    (if bit x (127 - i) then p.1 ^^^ p.2 else p.1,
     if bit p.2 0 then (p.2 / 2) ^^^ (0xE1 * 2 ^ 120) else p.2 / 2)) (0, y)).1

/-- GHASH of blocks. -/
def ghash (h : Nat) (bs : List (List Nat)) : Nat := bs.foldl (fun y b => gcmMul (y ^^^ natOf b) h) 0

/-- Counter mode over text from a counter block value. -/
def gcmCtr (keys : List (List Nat)) (iv : List Nat) (text : List Nat) : List Nat :=
  let stream := (List.range (ceilDiv text.length 16)).flatMap fun i => aesBlock keys (iv ++ octetsOf 4 (i + 2))
  xorBytes text stream

/-- The 16-octet tag of a ciphertext. -/
def gcmTag (keys : List (List Nat)) (iv aad cipher : List Nat) : List Nat :=
  let h := natOf (aesBlock keys (List.replicate 16 0))
  let s := ghash h (blocks16 aad ++ blocks16 cipher ++ [octetsOf 8 (8 * aad.length) ++ octetsOf 8 (8 * cipher.length)])
  xorBytes (octetsOf 16 s) (aesBlock keys (iv ++ [0, 0, 0, 1]))

/-! ### CMAC (SP 800-38B) -/

/-- Doubling in GF(2^128) of CMAC. -/
def cmacDouble (x : Nat) : Nat := if bit x 127 then (2 * x % 2 ^ 128) ^^^ 0x87 else 2 * x

/-- The 16-octet CMAC of a message that is not empty. -/
def cmac (keys : List (List Nat)) (msg : List Nat) : List Nat :=
  let k1 := cmacDouble (natOf (aesBlock keys (List.replicate 16 0)))
  let n := ceilDiv msg.length 16
  let last := msg.drop (16 * (n - 1))
  let tail := if last.length = 16 then natOf last ^^^ k1
    else natOf (last ++ 0x80 :: List.replicate (15 - last.length) 0) ^^^ cmacDouble k1
  let c := (List.range (n - 1)).foldl (fun c i => aesBlock keys (xorBytes c ((msg.drop (16 * i)).take 16)))
    (List.replicate 16 0)
  aesBlock keys (xorBytes c (octetsOf 16 tail))

/-! ### SHA-256 (FIPS 180-4) -/

/-- The 64 round constants. -/
def shaK : List Nat :=
  [0x428a2f98, 0x71374491, 0xb5c0fbcf, 0xe9b5dba5, 0x3956c25b, 0x59f111f1, 0x923f82a4, 0xab1c5ed5] ++
  [0xd807aa98, 0x12835b01, 0x243185be, 0x550c7dc3, 0x72be5d74, 0x80deb1fe, 0x9bdc06a7, 0xc19bf174] ++
  [0xe49b69c1, 0xefbe4786, 0x0fc19dc6, 0x240ca1cc, 0x2de92c6f, 0x4a7484aa, 0x5cb0a9dc, 0x76f988da] ++
  [0x983e5152, 0xa831c66d, 0xb00327c8, 0xbf597fc7, 0xc6e00bf3, 0xd5a79147, 0x06ca6351, 0x14292967] ++
  [0x27b70a85, 0x2e1b2138, 0x4d2c6dfc, 0x53380d13, 0x650a7354, 0x766a0abb, 0x81c2c92e, 0x92722c85] ++
  [0xa2bfe8a1, 0xa81a664b, 0xc24b8b70, 0xc76c51a3, 0xd192e819, 0xd6990624, 0xf40e3585, 0x106aa070] ++
  [0x19a4c116, 0x1e376c08, 0x2748774c, 0x34b0bcb5, 0x391c0cb3, 0x4ed8aa4a, 0x5b9cca4f, 0x682e6ff3] ++
  [0x748f82ee, 0x78a5636f, 0x84c87814, 0x8cc70208, 0x90befffa, 0xa4506ceb, 0xbef9a3f7, 0xc67178f2]

/-- The initial hash value. -/
def shaInit : List Nat :=
  [0x6a09e667, 0xbb67ae85, 0x3c6ef372, 0xa54ff53a, 0x510e527f, 0x9b05688c, 0x1f83d9ab, 0x5be0cd19]

/-- Rotate a 32-bit number right. -/
def rotr32 (x n : Nat) : Nat := (x / 2 ^ n + x * 2 ^ (32 - n)) % 2 ^ 32

/-- Extend the message schedule by one word, newest first. -/
def shaNext (ws : List Nat) : List Nat :=
  let w15 := ws.getD 14 0
  let w2 := ws.getD 1 0
  let s0 := rotr32 w15 7 ^^^ rotr32 w15 18 ^^^ (w15 / 2 ^ 3)
  let s1 := rotr32 w2 17 ^^^ rotr32 w2 19 ^^^ (w2 / 2 ^ 10)
  (ws.getD 15 0 + s0 + ws.getD 6 0 + s1) % 2 ^ 32 :: ws

/-- One round on the eight working words. -/
def shaRound (v : List Nat) (kw : Nat × Nat) : List Nat :=
  let a := v.getD 0 0
  let b := v.getD 1 0
  let c := v.getD 2 0
  let e := v.getD 4 0
  let f := v.getD 5 0
  let g := v.getD 6 0
  let s1 := rotr32 e 6 ^^^ rotr32 e 11 ^^^ rotr32 e 25
  let ch := (e &&& f) ^^^ ((2 ^ 32 - 1 - e) &&& g)
  let t1 := v.getD 7 0 + s1 + ch + kw.1 + kw.2
  let s0 := rotr32 a 2 ^^^ rotr32 a 13 ^^^ rotr32 a 22
  let maj := (a &&& b) ^^^ (a &&& c) ^^^ (b &&& c)
  [(t1 + s0 + maj) % 2 ^ 32, a, b, c, (v.getD 3 0 + t1) % 2 ^ 32, e, f, g]

/-- Compress one block of 64 octets. -/
def shaBlock (h : List Nat) (b : List Nat) : List Nat :=
  let w := ((List.range 48).foldl (fun ws _ => shaNext ws) ((words4 16 b).map natOf).reverse).reverse
  let v := (shaK.zip w).foldl shaRound h
  (h.zip v).map fun p => (p.1 + p.2) % 2 ^ 32

/-- The SHA-256 digest of a message: 32 octets. -/
def sha256 (msg : List Nat) : List Nat :=
  let pad := msg ++ 0x80 :: List.replicate ((119 - msg.length % 64) % 64) 0 ++ octetsOf 8 (8 * msg.length)
  ((List.range (pad.length / 64)).foldl (fun h i => shaBlock h ((pad.drop (64 * i)).take 64)) shaInit).flatMap (octetsOf 4)

/-! ### ECDSA on P-256 (FIPS 186-5) -/

/-- The field prime, the curve's b, the order and the base point of P-256. -/
def p256p : Nat := 2 ^ 256 - 2 ^ 224 + 2 ^ 192 + 2 ^ 96 - 1
def p256b : Nat := 0x5AC635D8AA3A93E7B3EBBD55769886BC651D06B0CC53B0F63BCE3C3E27D2604B
def p256n : Nat := 0xFFFFFFFF00000000FFFFFFFFFFFFFFFFBCE6FAADA7179E84F3B9CAC2FC632551
def p256g : Nat × Nat :=
  (0x6B17D1F2E12C4247F8BCE6E563A440F277037D812DEB33A0F4A13945D898C296,
   0x4FE342E2FE1A7F9B8EE7EB4A7C0F9E162BCE33576B315ECECBB6406837BF51F5)

/-- A power modulo m, over the bits of the exponent, most significant first. -/
def powMod (m b e : Nat) : Nat :=
  (List.range 256).foldl (fun r i => let q := r * r % m; if bit e (255 - i) then q * b % m else q) 1

/-- The inverse modulo a prime. -/
def invMod (m a : Nat) : Nat := powMod m a (m - 2)

/-- Subtraction modulo the field prime. -/
def subP (a b : Nat) : Nat := (a + p256p - b % p256p) % p256p

/-- The third point of a line of a slope. -/
def p256Line (l : Nat) (a b : Nat × Nat) : Nat × Nat :=
  let x := subP (l * l) (a.1 + b.1)
  (x, subP (l * subP a.1 x) a.2)

/-- Addition of points; none is the point at infinity. -/
def p256Add : Option (Nat × Nat) → Option (Nat × Nat) → Option (Nat × Nat)
  | none, q => q
  | p, none => p
  | some a, some b =>
    if a.1 = b.1 then
      if (a.2 + b.2) % p256p = 0 then none
      else some (p256Line (subP (3 * a.1 * a.1) 3 * invMod p256p (2 * a.2 % p256p) % p256p) a b)
    else some (p256Line (subP b.2 a.2 * invMod p256p (subP b.1 a.1) % p256p) a b)

/-- A multiple of a point. -/
def p256Mul (k : Nat) (q : Nat × Nat) : Option (Nat × Nat) :=
  (List.range 256).foldl (fun r i => let d := p256Add r r; if bit k (255 - i) then p256Add d (some q) else d) none

/-- A signature (r, s) of a digest is valid for the public point Q, which lies on the curve (R217). -/
def ecdsaOk (digest : Nat) (q : Nat × Nat) (r s : Nat) : Bool :=
  let x := q.1
  let y := q.2
  if p256p ≤ x || p256p ≤ y || y * y % p256p ≠ subP (x * x * x + p256b) (3 * x) then false
  else if r = 0 || p256n ≤ r || s = 0 || p256n ≤ s then false
  else
    let w := invMod p256n s
    match p256Add (p256Mul (digest * w % p256n) p256g) (p256Mul (r * w % p256n) q) with
    | none => false
    | some v => v.1 % p256n = r

end Sys2Proof.Machine
end

