-- ==== Sys2Proof/Machine/HelperJobs.lean ====
section
/-! DEFINITION. Helper jobs: their checks (R214 to R222), what each function reads and writes (R217 to R221, R224, R225), and
their completion (R223, R227, R228, R231). -/

namespace Sys2Proof.Machine

open Sys2Proof

/-! ### Descriptor fields (R215, R216) -/

/-- A descriptor word. -/
def Job.word (j : Job) (i : Nat) : Nat := (j.desc.getD i 0).toNat

/-- FUNC, OPT and LEN. -/
def Job.func (j : Job) : Nat := bits (j.word 0) 0 8
def Job.opt (j : Job) : Nat := bits (j.word 0) 8 8
def Job.len (j : Job) : Nat := bits (j.word 2) 0 15

/-- Octets of the tag that OPT selects (R217). -/
def tagLen (opt : Nat) : Nat := match bits opt 1 3 with | 5 => 8 | 6 => 4 | n => 16 - n

/-- A range of octets in a space: cluster-store octets count from word 0 (R208, R216). -/
structure Span where
  space : Nat
  at_ : Nat
  len : Nat

/-- The range of a pointer. -/
def ptrSpan (p len : Nat) : Span :=
  let a := bits p 0 34
  { space := bits p 34 2, at_ := if bits p 34 2 = 0 then 4 * a else a, len := len }

/-- Two ranges share octets. -/
def Span.meets (a b : Span) : Bool :=
  a.space = b.space && 0 < a.len && 0 < b.len && a.at_ < b.at_ + b.len && b.at_ < a.at_ + a.len

/-- Cells of the packet window of a job (R216). -/
def State.jobCells (s : State) (d : Nat) (j : Job) : Nat :=
  match j.pid with
  | some pid => match s.pkt d pid with | some p => p.cells.length | none => 0
  | none => 0

/-- A range lies inside its space (R216). -/
def State.inSpace (s : State) (d : Nat) (j : Job) (x : Span) : Bool :=
  x.len = 0 ||
    if x.space = 0 then decide (4 * j.first ≤ x.at_) && decide (x.at_ + x.len ≤ 4 * (j.last + 1))
    else x.space = 1 && decide (x.at_ + x.len ≤ 128 * s.jobCells d j)

/-! ### The functions' rows (R217 to R219) -/

/-- What a function's row says of its descriptor: the OPT bits and the words that it uses, its ranges, and the rule of R220 that
its destination follows: 0 none, 1 any overlap with the source, 2 a destination at or below the source. -/
structure FuncRow where
  optMask : Nat := 0
  /-- bits of words 1, 3, 4, 5 and 6 that the row names -/
  masks : List Nat
  lenOk : Bool := true
  lens : List Nat
  src : List Span
  dst : List Span
  reads : List Span := []
  overlap : Nat := 0

/-- All 36 bits of a word. -/
def full36 : Nat := 2 ^ 36 - 1

/-- The row of a job's function, none when FUNC is not defined for the kind (R217 to R219). -/
def Job.row (j : Job) (kind : Nat) : Option FuncRow :=
  let n := j.len
  let o := j.opt
  let src := ptrSpan (j.word 1) n
  let dst := fun m => ptrSpan (j.word 3) m
  let par := fun m => ptrSpan (j.word 6) m
  let f := fcsSize (bit o 0)
  let tag : Span := { space := 0, at_ := 4 * (bits (j.word 6) 0 34 + 11), len := tagLen o }
  let key := par (44 + tagLen o)
  match kind, j.func with
  | 0, 1 | 0, 2 => some { optMask := 15, masks := [full36, full36, full36, 2 ^ 11 - 1, full36], lenOk := bits o 1 3 ≠ 7
                          lens := [n, bits (j.word 5) 0 11], src := [src], dst := [dst n]
                          reads := [ptrSpan (j.word 4) (bits (j.word 5) 0 11), key], overlap := 2 }
  | 0, 3 => some { optMask := 15, masks := [full36, 0, 0, 0, full36], lenOk := bits o 1 3 ≠ 7, lens := [n], src := [src]
                   dst := [tag], reads := [par 32] }
  | 0, 4 => some { optMask := 15, masks := [full36, 0, 0, 0, full36], lenOk := bits o 1 3 ≠ 7, lens := [n], src := [src]
                   dst := [], reads := [key] }
  | 0, 5 => some { masks := [full36, full36, 0, 0, 0], lens := [n], src := [src], dst := [dst 32] }
  | 0, 6 => some { masks := [full36, 0, 0, 0, full36], lenOk := n = 32, lens := [n], src := [src], dst := [], reads := [par 128] }
  | 1, 1 => some { optMask := 2, masks := [full36, full36, 0, 0, 0], lens := [n], src := [src]
                   dst := [dst (ceilDiv (6 * n) 5 + 2)] }
  | 1, 2 => some { masks := [full36, full36, 0, 7, 0], lens := [n], src := [src], dst := [dst n], overlap := 2 }
  | 1, 3 => some { optMask := 2, masks := [full36, full36, 0, 0, 0], lens := [n], src := [src], dst := [dst (2 * n)] }
  | 1, 4 => some { masks := [full36, full36, 0, 0, 0], lens := [n], src := [src], dst := [dst n], overlap := 2 }
  | 1, 5 => some { optMask := 1, masks := [full36, full36, 0, 0, 0], lens := [n], src := [src], dst := [dst f] }
  | 1, 6 => some { optMask := 1, masks := [full36, 0, 0, 0, 0], lenOk := f < n, lens := [n], src := [src], dst := [] }
  | 1, 7 => some { optMask := 2, masks := [full36, full36, 0, 0, 0], lens := [n], src := [src], dst := [dst (2 * n)] }
  | 1, 8 => some { optMask := 2, masks := [full36, full36, 0, 0, 0], lenOk := n % 2 = 0, lens := [n], src := [src]
                   dst := [dst (n / 2)], overlap := 2 }
  | 1, 9 => some { optMask := 3, masks := [full36, full36, 2 ^ 24 - 1, 2 ^ 32 - 1, 0], lenOk := f < n, lens := [n], src := [src]
                   dst := [dst (n + 8)], overlap := 1 }
  | 1, 10 => some { masks := [full36, full36, 0, 0, 0], lenOk := 9 ≤ n, lens := [n], src := [src], dst := [dst (n - 4)]
                    overlap := 1 }
  | 2, 1 => some { masks := [full36, full36, 0, 0, 0], lens := [n], src := [src], dst := [dst n], overlap := 1 }
  | 2, 2 => some { masks := [0, full36, 2 ^ 32 - 1, 0, 0], lens := [n], src := [], dst := [dst n] }
  | 2, 3 => some { masks := [0, full36, 0, 15, full36], lenOk := 1 ≤ bits (j.word 5) 0 4 && bits (j.word 5) 0 4 ≤ 8
                   lens := [n], src := [], dst := [dst n], reads := [par (8 * bits (j.word 5) 0 4)] }
  | 2, 4 => some { masks := [full36, 0, full36, 0, 0], lens := [n], src := [src, ptrSpan (j.word 4) n], dst := [] }
  | _, _ => none

/-- Step 2 of R222: OPT, reserved bits and unused words, SPACE of every pointer used, fixed lengths. -/
def FuncRow.formed (r : FuncRow) (j : Job) : Bool :=
  let ws := [1, 3, 4, 5, 6].map j.word
  bits (j.word 0) 16 20 = 0 && bits (j.word 2) 15 21 = 0 && (j.opt &&& r.optMask) = j.opt &&
    (ws.zip r.masks).all (fun p => (p.1 &&& p.2) = p.1) &&
    (r.src ++ r.dst ++ r.reads).all (fun x => x.space < 2) && bits (j.word 6) 34 2 = 0 && r.lenOk

/-- The destination of a job overlaps what it reads only as R220 allows. -/
def FuncRow.overlapOk (r : FuncRow) : Bool :=
  r.dst.all fun d =>
    r.reads.all (fun x => !d.meets x) && r.src.all fun x =>
      !d.meets x || r.overlap = 1 || (r.overlap = 2 && decide (d.at_ ≤ x.at_))

/-- The length limits: LEN to 16,384, and AAD to 1,024 (R215, R217). -/
def FuncRow.lensOk (r : FuncRow) : Bool := r.lens.headD 0 ≤ 16384 && (r.lens.drop 1).all (· ≤ 1024)

/-- Segments of GATHER: pointer and length (R219). -/
def State.segments (s : State) (d h : Nat) (j : Job) : List (Nat × Nat) :=
  let a := bits (j.word 6) 0 34
  (List.range (bits (j.word 5) 0 4)).map fun i =>
    ((s.csRead d (h / 3) (a + 2 * i)).1.toNat, (s.csRead d (h / 3) (a + 2 * i + 1)).1.toNat)

/-- Read cluster-store words in order up to the first poisoned one; true: there was one (R225). -/
def State.wordsRead (s : State) (d cl a : Nat) : Nat → State × Bool
  | 0 => (s, false)
  | n + 1 =>
    let s := s.readUnit d 2 cl a true
    if (s.csRead d cl a).2 then (s, true) else s.wordsRead d cl (a + 1) n

/-- Step 5 of R222: GATHER reads its parameter block. -/
def State.gatherCheck (s : State) (d h : Nat) (j : Job) : State × Option Nat :=
  let (s, bad) := s.wordsRead d (h / 3) (bits (j.word 6) 0 34) (2 * bits (j.word 5) 0 4)
  let segs := s.segments d h j
  let dst := ptrSpan (j.word 3) j.len
  if bad then (s, some cPOISON)
  else if segs.any (fun g => 2 ≤ bits g.1 34 2) || (segs.map (·.2)).sum ≠ j.len then (s, some cMALFORMED)
  else if segs.any (fun g => !s.inSpace d j (ptrSpan g.1 g.2) || dst.meets (ptrSpan g.1 g.2)) then (s, some cRANGE)
  else (s, none)

/-- The checks of R222 in order: the status with which the job ends without running, or none when it runs. -/
def State.jobCheck (s : State) (d h : Nat) (j : Job) : State × Option Nat :=
  if j.badRegion then (s, some cRANGE)
  else if j.poisoned then (s, some cPOISON)
  else match j.row (h % 3) with
    | none => (s, some cMALFORMED)
    | some r =>
      if !r.formed j then (s, some cMALFORMED)
      else if r.lens.all (· = 0) then (s, some cDONE)
      else if !r.lensOk || (r.src ++ r.dst ++ r.reads).any (fun x => !s.inSpace d j x) || !r.overlapOk then (s, some cRANGE)
      else if h % 3 = 2 && j.func = 3 then s.gatherCheck d h j
      else (s, none)

/-- Change the first job of a helper. -/
def State.setJob (s : State) (d h : Nat) (j : Job) : State :=
  let x := s.helper d h
  s.setHelper d h { x with jobs := match x.jobs with | [] => [] | _ :: js => j :: js }

/-- A command about a helper of a die. -/
def onHelper (s : State) (d h : Nat) (f : State → State) : Res := onPort s d 0 (h < 36) f

/-- The cluster-store range of a HELPER operation's job is that of HLP.ENG_BASE and ENG_LAST at its check (R216). -/
def State.withRange (s : State) (d h : Nat) (j : Job) : Job :=
  match j.who with
  | .op _ => { j with first := s.fld d .hlpEngBase [h / 3] 0 18, last := s.fld d .hlpEngLast [h / 3] 0 18 }
  | .thread _ => j

/-- HELPER_JOB_START: the helper's first job is checked, and runs or ends with a status (R213, R222). -/
def execHelperJobStart (d h : Nat) (s : State) : Res :=
  onHelper s d h fun s =>
    match (s.helper d h).jobs with
    | [] => s
    | j :: _ =>
      if j.phase = .queued then
        let j := s.withRange d h j
        match s.jobCheck d h j with
        | (s, none) => s.setJob d h { j with phase := .started }
        | (s, some c) => s.setJob d h { j with phase := .ended c none }
      else s

/-! ### Reads and writes (R208, R224, R225) -/

/-- The cluster-store words of a range. -/
def Span.words (x : Span) : List Nat := (List.range (ceilDiv (x.at_ + x.len) 4 - x.at_ / 4)).map (x.at_ / 4 + ·)

/-- Read octet i of a range: its unit is read at the range's first octet in it; true: it is poisoned (R208, R225). -/
def State.octet (s : State) (d h : Nat) (j : Job) (x : Span) (i : Nat) : State × Byte × Bool :=
  let a := x.at_ + i
  if x.space = 0 then
    let s := if i = 0 || a % 4 = 0 then s.readUnit d 2 (h / 3) (a / 4) true else s
    let w := s.csRead d (h / 3) (a / 4)
    (s, BitVec.ofNat 8 (bits w.1.toNat (24 - 8 * (a % 4)) 8), w.2)
  else match j.pid.bind (s.pkt d) with
    | none => (s, 0, true)
    | some p => match p.cells[a / 128]? with
      | none => (s, 0, false)
      | some c =>
        let s := if i = 0 || a % 8 = 0 then s.readUnit d 1 0 (c * 16 + a % 128 / 8) true else s
        let s := if i = 0 || a % 128 = 0 then s.countCells d [c] else s
        (s, (s.die d).hop.pktByte p a, (s.die d).hop.poison.contains c)

/-- Read n octets of a range from octet i on, up to the first poisoned one. -/
def State.spanGo (s : State) (d h : Nat) (j : Job) (x : Span) : Nat → Nat → State × List Byte × Option Nat
  | 0, _ => (s, [], none)
  | n + 1, i => match s.octet d h j x i with
    | (s, _, true) => (s, [], some i)
    | (s, b, false) =>
      let r := s.spanGo d h j x n (i + 1)
      (r.1, b :: r.2.1, r.2.2)

/-- Read a range: its octets up to the first poisoned one, and the index of that one (R208, R225). -/
def State.spanRead (s : State) (d h : Nat) (j : Job) (x : Span) : State × List Byte × Option Nat := s.spanGo d h j x x.len 0

/-- Write octets to cluster store: bits 35 to 32 become 0, octets of a last word beyond them stay, and a word written whole loses
its poison (R208, R360). -/
def State.csBytes (s : State) (d h : Nat) (at_ : Nat) (bs : List Byte) : State :=
  let x : Span := { space := 0, at_ := at_, len := bs.length }
  x.words.foldl (fun s w =>
    let part := at_ + bs.length < 4 * w + 4 || 4 * w < at_
    let s := if part then s.readUnit d 2 (h / 3) w true else s
    let old := s.csRead d (h / 3) w
    let v := (List.range 4).foldl (fun v m =>
      match if 4 * w + m < at_ then none else bs[4 * w + m - at_]? with
      | some b => putBits v (24 - 8 * m) 8 b.toNat
      | none => v) (bits old.1.toNat 0 32)
    s.csWrite d (h / 3) w (w36 v) (part && old.2)) s

/-- Write octets to a range's start (R224). -/
def State.spanWrite (s : State) (d h : Nat) (j : Job) (x : Span) (bs : List Byte) : State :=
  if bs.isEmpty then s
  else if x.space = 0 then s.csBytes d h x.at_ bs
  else match j.pid with
    | some pid => s.pktStore d pid x.at_ bs
    | none => s

/-! ### Running a job -/

/-- What a function gives: its status, RESULT (none: its row gives no value), and what it writes. -/
structure JobOut where
  status : Nat := cDONE
  result : Option Nat := none
  writes : List (Span × List Byte) := []

/-- End a started job with an outcome; a RESULT that the row does not give is a free value (R215, R223). -/
def State.jobEnd (s : State) (d h : Nat) (j : Job) (o : JobOut) : State :=
  let s := o.writes.foldl (fun s w => s.spanWrite d h j w.1 w.2) s
  let (v, s) := match o.result with | some r => (r, s) | none => s.freeValue
  s.setJob d h { j with phase := .ended o.status (some v) }

/-- A job that reads poison ends with POISON: of the octets that the part read before the poison would give, it has written a
number that the manual leaves open (R225). -/
def State.jobPoison (s : State) (d h : Nat) (j : Job) (x : Span) (before : List Byte) : State :=
  let (n, s) := s.choose (before.length + 1)
  (s.spanWrite d h j x (before.take n)).setJob d h { j with phase := .ended cPOISON none }

/-- The banks of the cluster store in which ranges lie (R121). -/
def spanBanks (h : Nat) (xs : List Span) : List Nat :=
  ((xs.filter fun x => x.space = 0).flatMap fun x => x.words.map fun w => h / 3 * 16 + w % 16).eraseDups

/-- The banks that a job's accesses need: those of what its row and, for GATHER, its segments name. -/
def State.jobBanks (s : State) (d h : Nat) (j : Job) : List Nat :=
  let segs := if h % 3 = 2 && j.func = 3 then (s.segments d h j).map fun g => ptrSpan g.1 g.2 else []
  match j.row (h % 3) with
  | some r => spanBanks h (r.src ++ r.dst ++ r.reads ++ segs)
  | none => []

/-- A helper asks for banks: it has them when none was granted in this fabric cycle to another requester (R121, R122). -/
def State.helperBanks (s : State) (d h : Nat) (bs : List Nat) : Bool :=
  bs.all fun b => match sget (s.die d).banks b with
    | some (t, _, r) => t ≠ s.now || r = 4 + h % 3
    | none => true

/-- Grant banks to a helper in this fabric cycle: requester 4, 5 or 6 of the bank's round (R121). -/
def State.helperTake (s : State) (d h : Nat) (bs : List Nat) : State :=
  s.modDie d fun y => { y with banks := bs.foldl (fun m b => sset m b (s.now, 768, 4 + h % 3)) y.banks }

/-- Run the started first job of a helper of a kind, when its FUNC is the one named and it has its banks; it counts the source
octets that it reads (R231). -/
def State.runJob (s : State) (d h kind func : Nat) (f : State → Job → State) : State :=
  match (s.helper d h).jobs with
  | [] => s
  | j :: _ =>
    if h % 3 = kind && j.func = func && j.phase = .started && s.helperBanks d h (s.jobBanks d h j) then
      f (s.helperTake d h (s.jobBanks d h j)) j
    else s

/-- A function of one source to one destination: what it writes for given octets, and its outcome. -/
def State.simpleJob (s : State) (d h : Nat) (j : Job) (stream : Bool) (f : List Byte → JobOut) : State :=
  let (s, bs, bad) := s.spanRead d h j (ptrSpan (j.word 1) j.len)
  let s := s.count d ctrHLP 3 (bad.getD j.len)
  match bad with
  | none => s.jobEnd d h j (f bs)
  | some i =>
    s.jobPoison d h j (ptrSpan (j.word 3) 0) (if stream then ((f (bs.take i)).writes.flatMap (·.2)) else [])

/-- An outcome that writes octets to DST and gives their number as RESULT. -/
def Job.give (j : Job) (bs : List Byte) (status : Nat := cDONE) : JobOut :=
  { status := status, result := some bs.length, writes := [(ptrSpan (j.word 3) bs.length, bs)] }

/-- STUFF: RESULT has the octets and the valid bits of the last one; the other bits of that octet are free (R218). -/
def stuffOut (j : Job) (fill : Nat) (bs : List Byte) : JobOut :=
  let v := codecStuff (bit j.opt 1) bs
  { j.give (packBits fill v) with result := some (ceilDiv v.length 8 + v.length % 8 * 2 ^ 15) }

/-- STUFF. -/
def execStuff (d h : Nat) (s : State) : Res :=
  onHelper s d h fun s => s.runJob d h 1 1 fun s j =>
    let (fill, s) := s.freeValue
    s.simpleJob d h j true (stuffOut j fill)

/-- UNSTUFF (R218). -/
def unstuffOut (j : Job) (bs : List Byte) : JobOut :=
  let v := bs.flatMap byteBits
  let r := codecUnstuff 0 (v.take (v.length - bits (j.word 5) 0 3))
  j.give (wholeBytes r.1) (if r.2 && r.1.length % 8 = 0 then cDONE else cDENIED)

/-- UNSTUFF. -/
def execUnstuff (d h : Nat) (s : State) : Res :=
  onHelper s d h fun s => s.runJob d h 1 2 fun s j => s.simpleJob d h j true (unstuffOut j)

/-- ESCAPE (R218). -/
def execEscape (d h : Nat) (s : State) : Res :=
  onHelper s d h fun s => s.runJob d h 1 3 fun s j =>
    s.simpleJob d h j true fun bs => j.give (bs.flatMap (escapeByte (bit j.opt 1)))

/-- UNESCAPE: of a DENIED job, how many octets it has written before the error is left open (R218). -/
def execUnescape (d h : Nat) (s : State) : Res :=
  onHelper s d h fun s => s.runJob d h 1 4 fun s j =>
    let (n, s) := s.choose 16385
    s.simpleJob d h j true fun bs =>
      let r := codecUnescape bs
      if r.2 then j.give r.1 else j.give (r.1.take n) cDENIED

/-- FCS_GEN (R218). -/
def execFcsGen (d h : Nat) (s : State) : Res :=
  onHelper s d h fun s => s.runJob d h 1 5 fun s j =>
    s.simpleJob d h j false fun bs => { j.give (fcsBytes (bit j.opt 0) bs) with result := none }

/-- FCS_CHECK (R218). -/
def execFcsCheck (d h : Nat) (s : State) : Res :=
  onHelper s d h fun s => s.runJob d h 1 6 fun s j =>
    s.simpleJob d h j false fun bs => { status := if fcsHolds (bit j.opt 0) bs then cDONE else cDENIED }

/-- MANCH_ENC (R218). -/
def execManchEnc (d h : Nat) (s : State) : Res :=
  onHelper s d h fun s => s.runJob d h 1 7 fun s j =>
    s.simpleJob d h j true fun bs => j.give (wholeBytes (manchEncode (bit j.opt 1) (bs.flatMap byteBits)))

/-- MANCH_DEC: a bad pair gives its octet's offset as RESULT (R218). -/
def manchOut (j : Job) (bs : List Byte) : JobOut :=
  let r := manchDecode (bit j.opt 1) 0 (bs.flatMap byteBits)
  let o := j.give (wholeBytes r.1)
  match r.2 with
  | none => o
  | some i => { o with status := cDENIED, result := some (i / 4) }

/-- MANCH_DEC. -/
def execManchDec (d h : Nat) (s : State) : Res :=
  onHelper s d h fun s => s.runJob d h 1 8 fun s j => s.simpleJob d h j true (manchOut j)

/-- ENCAP (R221). -/
def execEncap (d h : Nat) (s : State) : Res :=
  onHelper s d h fun s => s.runJob d h 1 9 fun s j =>
    s.simpleJob d h j true fun bs => j.give (codecEncap (bit j.opt 0) (bit j.opt 1) (j.word 4) (j.word 5) bs)

/-- DECAP: RESULT has the octets written and the header's SEQUENCE (R218, R221). -/
def decapOut (j : Job) (bs : List Byte) : JobOut :=
  let r := codecDecap bs
  let o := j.give r.1 (if r.2 then cDONE else cDENIED)
  { o with result := some (r.1.length + beNat ((bs.drop 2).take 2) * 2 ^ 15) }

/-- DECAP. -/
def execDecap (d h : Nat) (s : State) : Res :=
  onHelper s d h fun s => s.runJob d h 1 10 fun s j => s.simpleJob d h j false (decapOut j)

/-- COPY (R219, R220). -/
def execCopy (d h : Nat) (s : State) : Res :=
  onHelper s d h fun s => s.runJob d h 2 1 fun s j => s.simpleJob d h j true fun bs => { j.give bs with result := none }

/-- FILL: the pattern repeats from its first octet (R219). -/
def execFill (d h : Nat) (s : State) : Res :=
  onHelper s d h fun s => s.runJob d h 2 2 fun s j =>
    let pat := natBE 4 (bits (j.word 4) 0 32)
    s.jobEnd d h j { j.give ((List.range j.len).map fun i => pat.getD (i % 4) 0) with result := none }

/-- Read the segments of a GATHER in order: octets, and whether poison ended them. -/
def State.gatherRead (s : State) (d h : Nat) (j : Job) : List (Nat × Nat) → State × List Byte × Bool
  | [] => (s, [], false)
  | g :: gs =>
    let (s, bs, bad) := s.spanRead d h j (ptrSpan g.1 g.2)
    match bad with
    | some i => (s, bs.take i, true)
    | none =>
      let (s, cs, bad) := s.gatherRead d h j gs
      (s, bs ++ cs, bad)

/-- GATHER (R219). -/
def execGather (d h : Nat) (s : State) : Res :=
  onHelper s d h fun s => s.runJob d h 2 3 fun s j =>
    let (s, bs, bad) := s.gatherRead d h j (s.segments d h j)
    let s := s.count d ctrHLP 3 bs.length
    if bad then s.jobPoison d h j (ptrSpan (j.word 3) 0) bs else s.jobEnd d h j { j.give bs with result := none }

/-- Compare n octets of two ranges from octet i on: none when they are equal, else where the job stops, at a difference or, with
true, at poison (R219, R225). -/
def State.compareGo (s : State) (d h : Nat) (j : Job) (x y : Span) : Nat → Nat → State × Option (Nat × Bool)
  | 0, _ => (s, none)
  | n + 1, i => match s.octet d h j x i with
    | (s, _, true) => (s, some (i, true))
    | (s, a, false) => match s.octet d h j y i with
      | (s, _, true) => (s, some (i, true))
      | (s, b, false) => if a ≠ b then (s, some (i, false)) else s.compareGo d h j x y n (i + 1)

/-- COMPARE stops at the first difference (R219). -/
def execCompare (d h : Nat) (s : State) : Res :=
  onHelper s d h fun s => s.runJob d h 2 4 fun s j =>
    match s.compareGo d h j (ptrSpan (j.word 1) j.len) (ptrSpan (j.word 4) j.len) j.len 0 with
    | (s, none) => (s.count d ctrHLP 3 j.len).jobEnd d h j { result := some j.len }
    | (s, some (i, false)) => (s.count d ctrHLP 3 (i + 1)).jobEnd d h j { status := cDENIED, result := some i }
    | (s, some (i, true)) => (s.count d ctrHLP 3 i).jobPoison d h j (ptrSpan 0 0) []

/-! ### Crypto jobs (R217) -/

/-- Octets as numbers, and back. -/
def toNats (bs : List Byte) : List Nat := bs.map (·.toNat)
def toBytes (ns : List Nat) : List Byte := ns.map (BitVec.ofNat 8)

/-- The parameter block's octets: `n` of them from word `w`. -/
def State.paramRead (s : State) (d h : Nat) (j : Job) (w n : Nat) : State × List Nat × Bool :=
  let (s, bs, bad) := s.spanRead d h j { space := 0, at_ := 4 * (bits (j.word 6) 0 34 + w), len := n }
  (s, toNats bs, bad.isSome)

/-- The key of a job: 16 octets, or 32 with KEY256. -/
def State.keyRead (s : State) (d h : Nat) (j : Job) : State × List Nat × Bool :=
  s.paramRead d h j 0 (if bit j.opt 0 then 32 else 16)

/-- The tag's place in the parameter block. -/
def Job.tagSpan (j : Job) : Span := { space := 0, at_ := 4 * (bits (j.word 6) 0 34 + 11), len := tagLen j.opt }

/-- The key, IV, tag and AAD of a GCM job, read in this order up to the first poison; true: there was some (R225). -/
def State.gcmRead (s : State) (d h : Nat) (j : Job) (tag : Bool) :
    State × (List Nat × List Nat × List Nat × List Nat) × Bool :=
  match s.keyRead d h j with
  | (s, key, true) => (s, (key, [], [], []), true)
  | (s, key, false) => match s.paramRead d h j 8 12 with
    | (s, iv, true) => (s, (key, iv, [], []), true)
    | (s, iv, false) => match s.paramRead d h j 11 (if tag then tagLen j.opt else 0) with
      | (s, t, true) => (s, (key, iv, t, []), true)
      | (s, t, false) =>
        let (s, aad, bad) := s.spanRead d h j (ptrSpan (j.word 4) (bits (j.word 5) 0 11))
        (s, (key, iv, t, toNats aad), bad.isSome)

/-- GCM_ENC (R217). -/
def execGcmEnc (d h : Nat) (s : State) : Res :=
  onHelper s d h fun s => s.runJob d h 0 1 fun s j =>
    let (s, (key, iv, _, aad), bad) := s.gcmRead d h j false
    if bad then s.jobPoison d h j (ptrSpan (j.word 3) 0) []
    else s.simpleJob d h j true fun bs =>
      let keys := aesKeys key
      let c := gcmCtr keys iv (toNats bs)
      let o := j.give (toBytes c)
      if bs.length = j.len then
        { o with writes := o.writes ++ [(j.tagSpan, toBytes ((gcmTag keys iv aad c).take (tagLen j.opt)))] }
      else o

/-- GCM_DEC: the whole plaintext is written before the tag is compared (R217). -/
def execGcmDec (d h : Nat) (s : State) : Res :=
  onHelper s d h fun s => s.runJob d h 0 2 fun s j =>
    let (s, (key, iv, tag, aad), bad) := s.gcmRead d h j true
    if bad then s.jobPoison d h j (ptrSpan (j.word 3) 0) []
    else s.simpleJob d h j true fun bs =>
      let keys := aesKeys key
      let ok := (gcmTag keys iv aad (toNats bs)).take (tagLen j.opt) = tag
      j.give (toBytes (gcmCtr keys iv (toNats bs))) (if ok then cDONE else cDENIED)

/-- CMAC_GEN (R217). -/
def execCmacGen (d h : Nat) (s : State) : Res :=
  onHelper s d h fun s => s.runJob d h 0 3 fun s j =>
    let (s, key, bad) := s.keyRead d h j
    if bad then s.jobPoison d h j (ptrSpan 0 0) []
    else s.simpleJob d h j false fun bs =>
      { result := some 0, writes := [(j.tagSpan, toBytes ((cmac (aesKeys key) (toNats bs)).take (tagLen j.opt)))] }

/-- CMAC_VER (R217). -/
def execCmacVer (d h : Nat) (s : State) : Res :=
  onHelper s d h fun s => s.runJob d h 0 4 fun s j =>
    let (s, key, bad) := s.keyRead d h j
    let (s, tag, bad) := if bad then (s, [], true) else s.paramRead d h j 11 (tagLen j.opt)
    if bad then s.jobPoison d h j (ptrSpan 0 0) []
    else s.simpleJob d h j false fun bs =>
      { status := if (cmac (aesKeys key) (toNats bs)).take (tagLen j.opt) = tag then cDONE else cDENIED, result := some 0 }

/-- SHA256 (R217). -/
def execSha256 (d h : Nat) (s : State) : Res :=
  onHelper s d h fun s => s.runJob d h 0 5 fun s j =>
    s.simpleJob d h j false fun bs => j.give (toBytes (sha256 (toNats bs)))

/-- ECDSA_VER (R217). -/
def execEcdsaVer (d h : Nat) (s : State) : Res :=
  onHelper s d h fun s => s.runJob d h 0 6 fun s j =>
    let (s, ps, bad) := s.paramRead d h j 0 128
    let num := fun i => natOf ((ps.drop (32 * i)).take 32)
    if bad then s.jobPoison d h j (ptrSpan 0 0) []
    else s.simpleJob d h j false fun bs =>
      { status := if ecdsaOk (natOf (toNats bs)) (num 0, num 1) (num 2) (num 3) then cDONE else cDENIED, result := some 0 }

/-! ### Completion (R212, R223, R225, R227, R228, R231) -/

/-- Count a job's end (R231) and record a status other than DONE. -/
def State.jobCount (s : State) (d h : Nat) (j : Job) (status : Nat) : State :=
  let s := s.count d ctrHLP (h % 3)
  let s := if j.squashed then s.count d ctrHLP 8 else s
  let s :=
    if status = cPOISON then (s.count d ctrHLP 7).event d .hlp 0
    else if j.squashed then s
    else if status = cMALFORMED then (s.count d ctrHLP 4).event d .hlp 1
    else if status = cRANGE then (s.count d ctrHLP 5).event d .hlp 2
    else if status = cDENIED then s.count d ctrHLP 6
    else s
  let engine := match j.who with | .op _ => true | .thread _ => false
  if status = cDONE then s
  else s.setReg d .hlpLastErr [] (h / 3 + h % 3 * 2 ^ 4 + j.func * 2 ^ 6 + status * 2 ^ 14 + (if engine then 2 ^ 22 else 0) +
    if j.squashed then 2 ^ 23 else 0)

/-- The end of an HGO job: RESULT, the status of its bit, and for POISON the fault that its thread takes at its next slot
(R223, R225, R227). -/
def State.threadJobEnd (s : State) (d h k : Nat) (j : Job) (status : Nat) (result : Option Nat) : State :=
  let s := match result with | some v => s.csWrite d (h / 3) (j.addr + 7) (w36 v) false | none => s
  s.modThr d k fun x => { x with
    busy := x.busy.filter (· ≠ j.sb)
    sbStatus := if j.squashed then x.sbStatus else sset x.sbStatus j.sb status
    poisonDue := x.poisonDue || (status = cPOISON && !j.squashed) }

/-- The end of a HELPER operation's job: STATUS, its outcome, RESULT in its carry buffer; POISON aborts it (R87, R223, R225). -/
def State.opJobEnd (s : State) (d slot : Nat) (status : Nat) (result : Option Nat) : State :=
  match s.op d slot with
  | none => s
  | some o =>
    match s.inst d o.inst with
    | none => s
    | some x =>
      let st := putBits (x.words.getD 23 0).toNat 8 8 status
      let s := s.setInst d o.inst { x with words := x.words.set 23 (w36 st) }
      if status = cPOISON then s.abortOp d slot rPOISON
      else
        let carry := match result with | some v => sset o.carry (o.half + 7) (w36 v) | none => o.carry
        s.engineDone d slot { o with carry := carry } (if status = cDONE then 0 else if status = cRANGE then 1 else 2)

/-- A finished job leaves its helper, and the lock is granted again when it is free (R209, R211, R228). -/
def State.jobLeave (s : State) (d h : Nat) : State :=
  let x := s.helper d h
  let engine := match x.holder with | some (.op _) => true | _ => false
  let s := s.setHelper d h { x with jobs := x.jobs.tail, holder := if engine then none else x.holder }
  (match x.jobs.head?.bind Job.pid with | some pid => s.reap d pid | none => s).grantLock d h

/-- HELPER_JOB_COMPLETE: the helper's first job, at its end, completes (R223), when its completion is not delayed (R448). -/
def execHelperJobComplete (d h : Nat) (s : State) : Res :=
  onHelper s d h fun s =>
    match (s.helper d h).jobs with
    | [] => s
    | j :: _ =>
      match j.phase with
      | .ended status result =>
        let bs := match j.who, result with | .thread _, some _ => [h / 3 * 16 + (j.addr + 7) % 16] | _, _ => []
        if !s.helperBanks d h bs then s
        else
        let s := s.helperTake d h bs
        let (s, go) := s.delayGate d 3 h (match j.who with | .thread k => k * 8 + j.sb | .op slot => 65536 + slot)
        if !go then s
        else
          let s := (s.jobCount d h j status).jobLeave d h
          match j.who with
          | .thread k => s.threadJobEnd d h k j status result
          | .op slot => if j.squashed then s else s.opJobEnd d slot status result
      | _ => s

/-- THREAD_WINDOW_EXPIRE (R211). -/
def execThreadWindowExpire (d h : Nat) (s : State) : Res :=
  onHelper s d h fun s => s.windowEnd d h

end Sys2Proof.Machine
end

