-- ==== Sys2Proof/Machine/Twipex.lean ====
section
/-! DEFINITION. The Twipex links: their states, failures and training, and what follows when dies become unreachable from each
other (R36 to R40, R390, R424, R430, R486, R487). -/

namespace Sys2Proof.Machine

open Sys2Proof

/-- The encoding of a link's state in TWX.LINK_STAT (R37). -/
def LinkState.code : LinkState → Nat
  | .training => 0 | .up => 1 | .degraded => 2 | .down => 3

/-- A link state carries traffic. -/
def LinkState.opens (l : LinkState) : Bool := l = .up || l = .degraded

/-- A path from a die to another uses a link: the first route at each die, and any open link in the pair variant (R34). -/
def State.pathUses (s : State) (key dst : Nat) : Nat → Nat → Bool
  | 0, _ => false
  | fuel + 1, cur =>
    cur ≠ dst && match s.routeLinks cur dst with
      | [] => false
      | k :: ks => (k :: ks).any (fun j => linkKey s.fuses.dies cur j = key) ||
          s.pathUses key dst fuel (farEnd s.fuses.dies cur k)

/-- Ordered pairs of dies of the variant. -/
def State.diePairs (s : State) : List (Nat × Nat) :=
  (List.range 8).flatMap fun x => ((List.range 8).filter fun y => x ≠ y && s.has x && s.has y).map fun y => (x, y)

/-! ### Dies that become unreachable (R486) -/

/-- A message that has lost its route is discarded (R486). -/
def State.loseFlight (s : State) : Flight → State
  | .resolution src _ r => (r.enqs.getD []).foldl (fun s _ => s.dropRef src r.pid) s
  | .grant _ dst a => s.dropRef dst a.pid
  | .credit _ _ _ => s
  | .enqueue src dst a =>
    if a.void then s
    else ((((s.modEgr dst fun x => { x with announced := unmark x.announced (seqKey a) }).dropRoute src a.port a.enq.queue).dropRef
      dst a.pid)).tagLost a rFAULT

/-- Source and destination of a message. -/
def Flight.ends : Flight → Nat × Nat
  | .resolution a b _ => (a, b)
  | .grant a b _ => (a, b)
  | .credit a b _ => (a, b)
  | .enqueue a b _ => (a, b)

/-- Discard every message between two dies. -/
def State.loseFlights (s : State) (x y : Nat) : State :=
  let lost := fun (f : Nat × Flight) => f.2.ends = (x, y) || f.2.ends = (y, x)
  let gone := s.fab.flight.filter lost
  gone.foldl (fun s f => s.loseFlight f.2)
    { s with fab := { s.fab with flight := s.fab.flight.filter fun f => !lost f } }

/-- Hopper moves and egress copies of die x bound for die y are discarded at their source (R486). -/
def State.loseWaiting (s : State) (x y : Nat) : State :=
  let moves := (s.die x).hop.toMove.filter (·.target = y)
  let s := s.modHop x fun h => { h with toMove := h.toMove.filter (·.target ≠ y) }
  let s := moves.foldl (fun s st => match s.pkt x st.pid with
    | some p => (s.journalDrop x rFAULT p.port 0).dropPkt x st.pid rFAULT
    | none => s) s
  let copies := (s.die x).egr.toCopy.filter (·.enq.die = y)
  let s := s.modEgr x fun e => { e with toCopy := e.toCopy.filter (·.enq.die ≠ y) }
  copies.foldl (fun s a => ((s.dropRoute x a.port a.enq.queue).dropRef x a.pid).tagLost a rFAULT) s

/-- Ingress die x retires the pending tickets whose packets lie on die y (R486). -/
def State.loseTickets (s : State) (x y : Nat) : State :=
  (List.range 32).foldl (fun s p =>
    ((s.board x p).filter fun t => t.cond = .pending && t.holder = y).foldl (fun s t =>
      (s.journalDrop x rFAULT (x * 32 + p) 0).settleTicket
        { port := x * 32 + p, ticket := t.number, enqs := none, reason := rFAULT, holder := y, pid := t.pid
          tagged := t.tagged }) s) s

/-- Frames and instances that die y processes for ports of die x end without disposition, and their cells are freed (R486). -/
def State.loseWork (s : State) (x y : Nat) : State :=
  let mine := fun (s : State) (pid : Nat) => match s.pkt y pid with | some p => p.port / 32 = x | none => false
  let staged := (s.die y).hop.toInst.filter fun st => mine s st.pid
  let falls := (s.die y).dsp.fallbacks.filter fun f => mine s f.staged.pid
  let insts := ((s.die y).dsp.insts.filter fun i => match i.2.pid with | some pid => mine s pid | none => false).map (·.1)
  let s := s.modHop y fun h => { h with toInst := h.toInst.filter fun st => !mine s st.pid }
  let s := s.modDsp y fun z => { z with fallbacks := z.fallbacks.filter fun f => !mine s f.staged.pid }
  let s := (staged.map (·.pid) ++ falls.map (·.staged.pid)).foldl (fun s pid => s.unhold y pid) s
  insts.foldl (fun s i => s.abortInst y i 0 0 rFAULT false true) s

/-- Die x writes off the credits of every pair with destination y (R486). -/
def State.loseCredits (s : State) (x y : Nat) : State :=
  s.modEgr x fun e => { e with outst := (List.range 32).foldl (fun m p => sset m (p * 8 + y) 0) e.outst }

/-- Table commands of die x's ring that wait to be applied on die y are discarded, and no completion comes for them (R258,
R486). -/
def State.loseReplicas (s : State) (x y : Nat) : State :=
  s.modDie y fun z => { z with replicas := z.replicas.filter fun p => p.1 ≠ x || p.2.started }

/-- Die x finds die y unreachable (R486). -/
def State.unreachable (s : State) (x y : Nat) : State :=
  let s := (((s.loseFlights x y).loseReplicas x y).loseWaiting x y).loseTickets x y
  (((s.loseWork x y).loseCredits x y).event x .twx 3)

/-! ### States of a link (R37, R487) -/

/-- The two ends of a link. -/
def linkEnds (dies d k : Nat) : List Nat := [d, farEnd dies d k]

/-- A field of LINK_CTL holds at both ends. -/
def State.bothEnds (s : State) (d k b : Nat) : Bool := (linkEnds s.fuses.dies d k).all fun e => bit (s.reg e .twxLinkCtl [k]) b

/-- One end's part in a change of state: count, event, journal record, and the end of a LINK_RETRAIN that this die's ring
started (R390, R424, R430). RETRY_RUN keeps its value while the link is DOWN, 8 after an exhausted run, and any other change
clears it: the manual says only that it is the current run (log entry 86). -/
def State.linkEnd (s : State) (e k : Nat) (old new : LinkState) : State :=
  let s := { s with fab := { s.fab with run := if new = LinkState.down then s.fab.run else sdel s.fab.run (e * 3 + k) } }
  let s := ((s.count e ctrTWX (4 * k + 3)).event e .twx k).journalBy e 4 0 (k + new.code * 4)
  match s.ringCmd e 4 with
  | some c => if old = .training && c.started && bits c.d0 8 2 = k then s.ringDone e 4 cDONE 0 new.code else s
  | none => s

/-- A link changes state at both ends: traffic of its routes waits for the reroute, and R486 applies to dies that lose their
last route (R36, R39). -/
def State.setLink (s : State) (d k : Nat) (new : LinkState) : State :=
  let old := s.link d k
  if old = new then s
  else
    let key := linkKey s.fuses.dies d k
    let before := s.diePairs.filter fun p => s.reach p.1 p.2
    let used := if old.opens && !new.opens then s.diePairs.filter fun p => s.pathUses key p.2 8 p.1 else []
    let s := { s with fab := { s.fab with links := sset s.fab.links key new } }
    let s := (linkEnds s.fuses.dies d k).foldl (fun s e => s.linkEnd e k old new) s
    let s := { s with fab := { s.fab with rerouting := used.foldl (fun m p => sset m (p.1 * 8 + p.2) true) s.fab.rerouting } }
    (before.filter fun p => !s.reach p.1 p.2).foldl (fun s p => s.unreachable p.1 p.2) s

/-- A link starts training. -/
def State.train (s : State) (d k : Nat) : State :=
  let s := s.setLink d k .training
  { s with fab := { s.fab with trainedAt := sset s.fab.trainedAt (linkKey s.fuses.dies d k) s.now } }

/-- A write of TWX.LINK_CTL (R37, R487). -/
def State.linkCtlWrite (s : State) (d k v : Nat) : State :=
  let old := s.reg d .twxLinkCtl [k]
  let s := s.setReg d .twxLinkCtl [k] (bits v 0 2)
  if bit old 0 && !bit v 0 then s.setLink d k .down
  else if !bit old 0 && bit v 0 && s.bothEnds d k 0 then s.train d k
  else s

/-- A command about a link of a die. -/
def onLink (s : State) (d k : Nat) (f : State → State) : Res := onPort s d 0 (k < 3) f

/-- LINK_ENABLE: a write that sets LINK_CTL.ENABLE (R487). -/
def execLinkEnable (d k : Nat) (v : Dword) (s : State) : Res :=
  onHostS s d (k < 3) fun s => s.linkCtlWrite d k (putBit v.toNat 0 true)

/-- LINK_DISABLE: a write that clears LINK_CTL.ENABLE (R37). -/
def execLinkDisable (d k : Nat) (v : Dword) (s : State) : Res :=
  onHostS s d (k < 3) fun s => s.linkCtlWrite d k (putBit v.toNat 0 false)

/-- LINK_RETRAIN: the Twipex ring's command, legal for a DEGRADED or DOWN link; it completes when training ends (R40, R390). -/
def execLinkRetrain (d : Nat) (s : State) : Res :=
  onDieS s d fun s =>
    match s.ringCmd d 4 with
    | some c =>
      if c.op ≠ 1 || c.started then s
      else
        let k := bits c.d0 8 2
        if 3 ≤ k || bits c.d0 10 22 ≠ 0 || c.d1 ≠ 0 || c.d2 ≠ 0 || c.d3 ≠ 0 then s.ringDone d 4 cMALFORMED
        else if s.link d k = .degraded || s.link d k = .down then
          (s.ringSet d 4 { c with started := true, since := s.now }).train d k
        else s.ringDone d 4 cSTATE
    | none => s

/-- Training of a link ends with the halves that pass; a link whose ENABLE is 0 at an end goes DOWN (R37, R487). -/
def State.linkTrained (s : State) (d k : Nat) (lowPass highPass : Bool) : State :=
  if s.link d k ≠ .training then s
  else if !s.bothEnds d k 0 then s.setLink d k .down
  else if lowPass && highPass then s.setLink d k .up
  else if (lowPass || highPass) && s.bothEnds d k 1 then s.setLink d k .degraded
  else s.setLink d k .down

/-- LINK_TRAINING_END. Links train from reset, and BOOT, which releases it, finds them trained: no reset holds this back (R487,
log entry 68). -/
def execLinkTrainingEnd (d k : Nat) (lowPass highPass : Bool) (s : State) : Res :=
  if s.has d && k < 3 then cmdAlways s fun s => (s.linkTrained d k lowPass highPass).settle d else .fault .absent

/-- LANE_FAILURE: an UP link goes back to TRAINING (R37). -/
def execLaneFailure (d k : Nat) (s : State) : Res :=
  onLink s d k fun s => if s.link d k = .up then s.train d k else s

/-- FLIT_ERROR: a flit is sent again; the eighth consecutive failed retry takes the link DOWN (R38). -/
def execFlitError (d k : Nat) (failed : Bool) (s : State) : Res :=
  onLink s d k fun s =>
    if !s.linkOpen d k then s
    else
      let run := if failed then sgetD s.fab.run (d * 3 + k) 0 + 1 else 0
      let s := s.count d ctrTWX (4 * k + 2)
      let s := { s with fab := { s.fab with run := sset s.fab.run (d * 3 + k) run } }
      if 8 ≤ run then s.setLink d k .down else s

/-- REROUTE_COMPLETE: rerouting is complete and the traffic held at its sources goes on (R39). -/
def execRerouteComplete (s : State) : Res := cmd s fun s => { s with fab := { s.fab with rerouting := [] } }

end Sys2Proof.Machine
end

