-- ==== Sys2Proof/Machine/Counters.lean ====
section
/-! DEFINITION. Counters seen from outside, the tally reader, the samplers and the tag queue (R426 to R442). -/

namespace Sys2Proof.Machine

open Sys2Proof

/-! ### Counter blocks (R428, R429) -/

/-- Counters of a block; 0 for a block number that is not used. -/
def ctrSize (b : Nat) : Nat :=
  if 16 ≤ b && b ≤ 27 then 32 else [7, 14, 256, 16, 16, 16, 4, 16, 12, 14, 12, 12, 8, 8, 5].getD b 0

/-- The block numbers in the order of a snapshot (R429). -/
def ctrBlocks : List Nat := (List.range 28).filter fun b => 0 < ctrSize b

/-- Bits of TLY.CHAIN word w that name a pair of the block (R427). -/
def chainMask (b w : Nat) : Nat :=
  ((List.range 32).filter fun j => 64 * w + 2 * j + 1 < ctrSize b).foldl (fun m j => m + 2 ^ j) 0

/-- Set every counter of a block. -/
def State.mapBlock (s : State) (d b : Nat) (f : Ctr → Ctr) : State :=
  s.modDie d fun x => { x with ctrs := x.ctrs.map fun p => if p.1 / 256 = b then (p.1, f p.2) else p }

/-- Change the tally reader of a die. -/
def State.modTly (s : State) (d : Nat) (f : Tally → Tally) : State := s.modDie d fun x => { x with tly := f x.tly }

/-- Keep a block's counters as they stood before the first ZERO or OVF_CLR of this fabric cycle, for a capture (R428). -/
def State.keepBlock (s : State) (d b : Nat) : State :=
  match sget (s.die d).tly.was b with
  | some (t, _) => if t = s.now then s else go s
  | none => go s
where
  go (s : State) : State :=
    s.modTly d fun x => { x with was := sset x.was b (s.now, (s.die d).ctrs.filter fun p => p.1 / 256 = b) }

/-- A counter as a capture of this fabric cycle takes it: from before a ZERO or OVF_CLR of the cycle (R428). -/
def State.ctrSeen (s : State) (d b i : Nat) : Ctr :=
  match sget (s.die d).tly.was b with
  | some (t, l) => if t = s.now then sgetD l (b * 256 + i) {} else s.ctr d b i
  | none => s.ctr d b i

/-- A write of TLY.ZERO: the counters become 0, and the cycle's events are discarded (R428). -/
def State.zeroWrite (s : State) (d v : Nat) : State :=
  if bit v 31 then
    let b := bits v 0 5
    ((s.keepBlock d b).mapBlock d b fun _ => {}).modTly d fun x => { x with zeroed := sset x.zeroed b s.now }
  else s

/-- A write of TLY.OVF_CLR (R428). -/
def State.ovfWrite (s : State) (d v : Nat) : State :=
  if !bit v 31 then s
  else if bit v 30 then (s.keepBlock d (bits v 0 5)).mapBlock d (bits v 0 5) fun c => { c with ovf := false }
  else if bits v 5 8 < ctrSize (bits v 0 5) then
    (s.keepBlock d (bits v 0 5)).setCtr d (bits v 0 5) (bits v 5 8)
      { s.ctr d (bits v 0 5) (bits v 5 8) with ovf := false }
  else s

/-- A write of TLY.CHAIN acts from the next fabric cycle (R427). -/
def State.chainWrite (s : State) (d b w v : Nat) : State :=
  let was := s.chainNow d b w
  (s.setReg d .tlyChain [b, w] (v &&& chainMask b w)).modTly d fun x => { x with
    chainWas := sset x.chainWas (regOff .tlyChain [b, w]) (s.now, was) }

/-- COUNTER_ZERO: a write of TLY.ZERO with GO = 1 clears every counter of a block and its OVF bits (R428). -/
def execCounterZero (d b : Nat) (s : State) : Res := onHost s d true fun s => s.zeroWrite d (b % 32 + 2 ^ 31)

/-- OVF_CLEAR: a write of TLY.OVF_CLR with GO = 1 clears OVF of one counter or of a block (R428). -/
def execOvfClear (d b index : Nat) (all : Bool) (s : State) : Res :=
  onHost s d true fun s => s.ovfWrite d (b % 32 + index % 256 * 32 + (if all then 2 ^ 30 else 0) + 2 ^ 31)

/-- The counter that TLY.READ_ADDR names, with OVF in bit 48. -/
def State.readCounter (s : State) (d : Nat) : Nat :=
  let a := s.reg d .tlyReadAddr []
  if bits a 5 8 < ctrSize (bits a 0 5) then
    let c := s.ctr d (bits a 0 5) (bits a 5 8)
    c.val + if c.ovf then 2 ^ 48 else 0
  else 0

/-- A read of TLY.READ_LO latches the counter and its OVF for READ_HI. -/
def State.readLatch (s : State) (d : Nat) : State := s.setLatch d (regOff .tlyReadLo []) (s.readCounter d)

/-- COUNTER_READ_LATCH: a read of TLY.READ_LO (R428). -/
def execCounterReadLatch (d : Nat) (s : State) : Res :=
  onHostRead s d true fun s => (s.readLatch d).emit (.readData (bits (s.readCounter d) 0 32) false)

/-! ### The tally reader (R431 to R434) -/

/-- A write forbidden while an enable bit is set, but for one that clears the bit and changes nothing else (R10). -/
def lockedWrite (old new en : Nat) : Bool := bit old en && new ≠ old && new ≠ putBit old en false

/-- The tick that follows axis 0's present time (R431). -/
def State.nextTickOf (s : State) (d : Nat) : Nat := (s.time d / s.snapInterval d + 1) * s.snapInterval d

/-- A write of TLY.SNAP_CFG (R431, R433). -/
def State.snapCfgWrite (s : State) (d v : Nat) : State :=
  let old := s.reg d .tlySnapCfg []
  let new := bits v 0 23
  let log2 := s.reg d .tlySnapRing []
  if lockedWrite old new 0 then s.violation d
  else if bit new 0 && !bit old 0 then
    if log2 = 0 || 16 < log2 then s.violation d
    else
      let s := (((s.setReg d .tlySnapCfg [] new).setReg d .tlySnapTail [] 0).setReg d .tlySnapHead [] 0).setReg d
        .tlySnapSeq [] 0
      s.modTly d fun t => { t with
        nextTick := s.nextTickOf d, skipped := 0, cap := none, snap := none, written := 0 }
  else s.setReg d .tlySnapCfg [] new

/-- SNAPSHOT_ENABLE: a write of TLY.SNAP_CFG (R433). -/
def execSnapshotEnable (d : Nat) (v : Dword) (s : State) : Res := onHost s d true fun s => s.snapCfgWrite d v.toNat

/-- A captured block: its header, with axis 0 at the capture, and its counters in index order (R433). -/
def State.captureBlock (s : State) (d seq t b : Nat) : List Byte :=
  let slot := fun j =>
    let c := s.ctrSeen d b j
    c.val + (if c.ovf then 2 ^ 48 else 0) + (if j % 2 = 1 && s.chained d b j then 2 ^ 49 else 0)
  natLE 8 (b + ctrSize b * 32 + seq % 2 ^ 32 * 2 ^ 32) ++ natLE 8 (t % 2 ^ 64) ++
    (List.range (ctrSize b)).flatMap fun j => natLE 8 (slot j)

/-- The header of the snapshot of a tick (R433). -/
def State.snapHeader (s : State) (d seq tick : Nat) : List Byte :=
  natLE 8 (seq % 2 ^ 32 + d * 2 ^ 32 + 27 * 2 ^ 40 + 2 ^ 48) ++ natLE 8 (tick % 2 ^ 64) ++ natLE 8 (s.die d).tly.skipped ++
    natLE 8 6896 ++ List.replicate 32 0

/-- Write bytes to DRAM in pieces of `n` from an aligned address. -/
def State.dramWriteAll (s : State) (d n : Nat) (panic : Bool) : Nat → Nat → List Byte → State
  | 0, _, _ => s
  | fuel + 1, a, bs =>
    if bs.isEmpty then s else (s.dramStore d a (bs.take n) panic).dramWriteAll d n panic fuel (a + n) (bs.drop n)

/-- The snapshot of SEQ has been written: TAIL, SEQ and the event (R434). -/
def State.snapDone (s : State) (d seq : Nat) : State :=
  let n := 2 ^ s.reg d .tlySnapRing []
  let s := (s.setReg d .tlySnapTail [] ((s.reg d .tlySnapTail [] + 1) % n)).setReg d .tlySnapSeq [] (seq % 2 ^ 32)
  ((s.modTly d fun t => { t with snap := none, written := t.written + 1 }).count d ctrTLY 0).event d .tly 0

/-- Address of the ring slot at SNAP_TAIL. -/
def State.snapAddr (s : State) (d : Nat) : Nat :=
  s.reg d .tlySnapBaseHi [] * 2 ^ 32 + s.reg d .tlySnapBaseLo [] + 8192 * s.reg d .tlySnapTail []

/-- Write a captured snapshot, header slot 0 last, or hold it while the controller holds its writes (R434). -/
def State.snapWrite (s : State) (d : Nat) (bs : List Byte) : State :=
  let seq := (s.die d).tly.written
  let a := s.snapAddr d % 2 ^ 40
  if s.dramHolds d a false then
    (s.dramTouch d (some (a / 128))).modTly d fun t => { t with snap := some bs }
  else
    let s := s.dramWriteAll d 128 false 53 (a + 128) (bs.drop 128)
    ((s.dramStore d (a + 8) ((bs.take 128).drop 8)).dramStore d a (bs.take 8)).snapDone d seq

/-- A held snapshot is written once the controller serves it. -/
def State.snapFlush (s : State) (d : Nat) : State :=
  match (s.die d).tly.snap with
  | some bs => if s.dramHolds d (s.snapAddr d % 2 ^ 40) false then s else s.snapWrite d bs
  | none => s

/-- A tick is skipped (R434). -/
def State.snapSkip (s : State) (d : Nat) : State :=
  ((s.modTly d fun t => { t with skipped := min 65535 (t.skipped + 1) }).count d ctrTLY 1).event d .tly 1

/-- A tick of the tally reader (R431 to R434): it starts a capture, or is skipped while the previous snapshot is not written, or
finds no room. -/
def State.snapTick (s : State) (d : Nat) : State :=
  let cfg := s.reg d .tlySnapCfg []
  let tick := (s.die d).tly.nextTick
  if !bit cfg 0 || !reached (s.time d) tick then s
  else
    let s := s.snapFlush d
    let s := s.modTly d fun t => { t with nextTick := if tick + s.snapInterval d < 2 ^ 72 then tick + s.snapInterval d else 0 }
    let n := 2 ^ s.reg d .tlySnapRing []
    let full := (s.reg d .tlySnapTail [] + 1) % n = s.reg d .tlySnapHead [] % n && !bit cfg 2
    if (s.die d).tly.cap.isSome || (s.die d).tly.snap.isSome || full then s.snapSkip d
    else s.modTly d fun t => { t with
      cap := some { tick := tick, bytes := s.snapHeader d t.written tick }, skipped := 0 }

/-- A captured snapshot goes to its ring slot, header slot 0 last; a PCIe error stops the tally reader (R434). -/
def State.snapOut (s : State) (d : Nat) (bs : List Byte) : State :=
  let cfg := s.reg d .tlySnapCfg []
  if bit cfg 1 then
    if s.pcieLive then
      ((s.emit (.hostWrite d (s.snapAddr d + 8) (bs.drop 8))).emit (.hostWrite d (s.snapAddr d) (bs.take 8))).snapDone d
        (s.die d).tly.written
    else (s.setReg d .tlySnapCfg [] (putBit cfg 0 false)).event d .tly 4
  else s.snapWrite d bs

/-- A fabric cycle's part of a capture: the next block, after the cycle's events; `t` is axis 0 in the cycle (R432). -/
def State.captureGo (s : State) (d t : Nat) : State :=
  match (s.die d).tly.cap with
  | none => s
  | some c =>
    let bs := c.bytes ++ s.captureBlock d (s.die d).tly.written t (ctrBlocks.getD c.next 0)
    if c.next + 1 < ctrBlocks.length then
      s.modTly d fun x => { x with cap := some { c with bytes := bs, next := c.next + 1 } }
    else (s.modTly d fun x => { x with cap := none }).snapOut d bs

/-- SNAPSHOT_TICK: the tally reader's tick (R431). -/
def execSnapshotTick (d : Nat) (s : State) : Res := onDie s d fun s => s.snapTick d

/-! ### Instruction samples (R435, R436) -/

/-- The record of a sampled event (R436). -/
def State.sampleRec (s : State) (d c : Nat) (e : SampleDue) (next : Nat) : Nat × Nat :=
  let lat := max 1 (s.roundsFrom d e.at_ next)
  (e.pc % 65536 + e.thr * 2 ^ 16 + c % 4 * 2 ^ 20 + c / 4 * 2 ^ 22 + d * 2 ^ 26 + e.ev * 2 ^ 29 +
    (match e.slot with | some n => n * 2 ^ 32 + 2 ^ 46 | none => 0) + min 32767 lat * 2 ^ 47, e.t0 % 2 ^ 64)

/-- The first sampled event whose latency is known. -/
def firstKnown : List SampleDue → Option (SampleDue × Nat)
  | [] => none
  | e :: es => match e.next with
    | some n => some (e, n)
    | none => firstKnown es

/-- INSTRUCTION_SAMPLE: a sampled event whose latency is known is recorded in its core's ring; a full ring drops it (R435,
R436). -/
def execInstructionSample (d c : Nat) (s : State) : Res :=
  onPort s d 0 (c < 48) fun s =>
    match firstKnown (s.core d c).sampleDue with
    | none => s
    | some (e, n) =>
      let s := s.modCore d c fun y => { y with sampleDue := y.sampleDue.erase e }
      if (s.core d c).ring.length < 512 then
        (s.modCore d c fun y => { y with ring := y.ring ++ [s.sampleRec d c e n] }).count d ctrTLY 2
      else (s.count d ctrTLY 3).event d .tly 2

/-! ### The sample writer (R437, R438) -/

/-- The next source from the writer's place, one round: a core with records, or 48 for the tag queue. -/
def State.sampleSource (s : State) (d : Nat) : Option Nat :=
  let from_ := (s.die d).tly.nextRing
  ((List.range 49).map fun j => (from_ + j) % 49).find? fun c =>
    if c = 48 then !(s.die d).tly.tagQueue.isEmpty else !(s.core d c).ring.isEmpty

/-- The slots of the head record of a source. -/
def State.sampleHead (s : State) (d c : Nat) : List Nat :=
  if c = 48 then (s.die d).tly.tagQueue.headD [] else match (s.core d c).ring with
    | [] => []
    | r :: _ => [r.1, r.2]

/-- Take the head record of a source. -/
def State.sampleTake (s : State) (d c : Nat) : State :=
  if c = 48 then s.modTly d fun t => { t with tagQueue := t.tagQueue.drop 1 }
  else s.modCore d c fun y => { y with ring := y.ring.drop 1 }

/-- Write 16-byte units from the buffer's unit `at_`. -/
def State.smpPut (s : State) (d at_ : Nat) (slots : List Nat) : State :=
  let bs := slots.flatMap (natLE 8)
  let a := s.reg d .tlySmpBaseHi [] * 2 ^ 32 + s.reg d .tlySmpBaseLo [] + 16 * at_
  if bit (s.reg d .tlySmpRing []) 5 then s.emit (.hostWrite d a bs)
  else s.dramWriteAll d 16 (s.samplePanic d) (bs.length / 16) (a % 2 ^ 40) bs

/-- The sample writer moves the next record, one in a fabric cycle, with PAD records before it where it would cross the buffer's
end (R437). -/
def State.sampleWrite (s : State) (d : Nat) : State :=
  let cfg := s.reg d .tlySmpRing []
  if !bit cfg 6 || (s.die d).tly.wrote = some s.now then s
  else match s.sampleSource d with
    | none => s
    | some c =>
      let n := 2 ^ bits cfg 0 5
      let tail := s.reg d .tlySmpTail []
      let r := s.sampleHead d c
      let need := r.length / 2
      let pad := if n - tail < need then n - tail else 0
      let free := n - 1 - (tail + n - s.reg d .tlySmpHead [] % n) % n
      let a := (s.reg d .tlySmpBaseHi [] * 2 ^ 32 + s.reg d .tlySmpBaseLo [] + 16 * tail) % 2 ^ 40
      if free < pad + need then s
      else if bit cfg 5 && !s.pcieLive then (s.setReg d .tlySmpRing [] (putBit cfg 6 false)).event d .tly 4
      else if !bit cfg 5 && s.dramHolds d a (s.samplePanic d) then s.dramTouch d (some (a / 128))
      else
        let s := if pad = 0 then s
          else s.smpPut d tail ((List.range (2 * pad)).map fun j => if j % 2 = 0 then 3 * 2 ^ 62 else 0)
        let at_ := (tail + pad) % n
        let s := ((s.smpPut d at_ r).sampleTake d c).setReg d .tlySmpTail [] ((at_ + need) % n)
        s.modTly d fun t => { t with nextRing := (c + 1) % 49, wrote := some s.now }

/-- SAMPLE_WRITE: the sample writer moves one record into the sample buffer (R437). -/
def execSampleWrite (d : Nat) (s : State) : Res := onDie s d fun s => s.sampleWrite d

/-- A write of TLY.SMP_RING (R437). -/
def State.smpRingWrite (s : State) (d v : Nat) : State :=
  let old := s.reg d .tlySmpRing []
  let new := bits v 0 7
  if lockedWrite old new 6 then s.violation d
  else if bit new 6 && !bit old 6 then
    if bits new 0 5 < 8 || 24 < bits new 0 5 then s.violation d
    else ((s.setReg d .tlySmpRing [] new).setReg d .tlySmpTail [] 0).setReg d .tlySmpHead [] 0
  else s.setReg d .tlySmpRing [] new

/-- SAMPLE_WRITER_ENABLE: a write of TLY.SMP_RING (R437). -/
def execSampleWriterEnable (d : Nat) (v : Dword) (s : State) : Res := onHost s d true fun s => s.smpRingWrite d v.toNat

/-- A write of a base or ring register that its enable locks while 1. -/
def State.lockedReg (s : State) (d : Nat) (on : Bool) (r : RegId) (v : Nat) : State :=
  if on && v ≠ s.reg d r [] then s.violation d else s.setReg d r [] v

/-- A write of TLY.TAG_CFG: setting EN loads the LFSR from TAG_SEED, 0 acting as 1 (R439). -/
def State.tagCfgWrite (s : State) (d v : Nat) : State :=
  let old := s.reg d .tlyTagCfg []
  let s := s.setReg d .tlyTagCfg [] (bits v 0 17)
  if bit v 0 && !bit old 0 then
    s.modDsp d fun x => { x with lfsr := BitVec.ofNat 32 (max 1 (s.reg d .tlyTagSeed [])) }
  else s

/-- TAG_ENABLE: a write of TLY.TAG_CFG (R439). -/
def execTagEnable (d : Nat) (v : Dword) (s : State) : Res := onHost s d true fun s => s.tagCfgWrite d v.toNat

/-- A write of TLY.SMP_CFG: enabling a core's sampling starts its countdown at N (R435). -/
def State.smpCfgWrite (s : State) (d c v : Nat) : State :=
  let old := s.reg d .tlySmpCfg [c]
  let s := s.setReg d .tlySmpCfg [c] (bits v 0 21)
  if bit v 0 && !bit old 0 then s.modCore d c fun y => { y with countdown := 0 } else s

end Sys2Proof.Machine
end

