-- ==== Sys2Proof/Machine/Answer.lean ====
section
/-! DEFINITION. The Answer Port of die 0 (R393 to R398): read and write edges, read sequences, publishes, and the host's
access to the answer memory. -/

namespace Sys2Proof.Machine

open Sys2Proof

/-- Change the Answer Port. -/
def State.modAns (s : State) (f : Answer → Answer) : State := { s with ans := f s.ans }

/-- ANS.CFG.ENABLE. -/
def State.ansOn (s : State) : Bool := bit (s.reg 0 .ansCfg []) 0

/-- An edge of ANS_CLK is seen. -/
def State.ansEdge (s : State) : State := s.modAns fun a => { a with lastEdge := some s.now, clkSeen := true }

/-- ANS_READ: a read edge drives the front word, and begins or goes on with a read sequence of its page (R394, R397). -/
def execAnsRead (addr : BitVec 14) (s : State) : Res :=
  cmd s fun s =>
    let s := s.ansEdge
    if !s.ansOn then s
    else
      let s := (s.count 0 ctrANS 0).modAns fun a => { a with seqPage := some (addr.toNat / 1024) }
      s.emit (.ansData (sgetD s.ans.front addr.toNat 0))

/-- The request record of a write edge (R398). -/
def ansRecord (addr : BitVec 14) (be : BitVec 4) (data : Dword) (count t : Nat) : List Byte :=
  natBE 2 addr.toNat ++ natBE 1 be.toNat ++ natBE 1 count ++ natBE 4 data.toNat ++ natBE 8 (t % 2 ^ 64)

/-- A write is dropped (R398). -/
def State.ansDrop (s : State) : State := (s.count 0 ctrANS 2).event 0 .ans 0

/-- A write edge: its record is stored as a frame of port 25, or dropped by WR_EN, a closed sluice or the lack of a cell
(R63, R64, R398). -/
def State.ansWrite (s : State) (addr : BitVec 14) (be : BitVec 4) (data : Dword) : State :=
  let s := s.ansEdge
  if !s.ansOn then s
  else
    let n := (s.ans.wcount + 1) % 256
    let s := s.modAns fun a => { a with seqPage := none, wcount := n }
    if !bit (s.reg 0 .ansCfg []) 1 then s.ansDrop
    else if (s.die 0).hop.shut 25 0 || s.noCell 0 25 then (s.countDiscard 0 25 rSLUICE).ansDrop
    else
      let r := s.takeCells 0 { port := some 25 } 1
      let s := r.2.modHop 0 fun h => { h with buf := writeCells h.buf r.1 0 (ansRecord addr be data n (s.time 0)) }
      let p := s.newPkt 0 { cells := r.1, len := 16, fcs := 0, port := 25, cfg := BitVec.ofNat 32 (s.reg 0 .hopPortCfg [25])
                            pdef := BitVec.ofNat 32 (s.reg 0 .hopPortDef [25]), ts := s.time 0 }
      p.2.modHop 0 fun h => { h with complete := h.complete ++ [p.1] }

/-- ANS_WRITE: a write edge with its byte enables, 1 for a byte written (R398). -/
def execAnsWrite (addr : BitVec 14) (be : BitVec 4) (data : Dword) (s : State) : Res :=
  cmd s fun s => (s.ansWrite addr be data).settle 0

/-- A publish that waited takes effect once no read sequence runs on its page (R397). -/
def State.publishPending (s : State) (p : Nat) : State :=
  if s.ans.pending.contains p && s.ans.seqPage ≠ some p then
    (s.modAns fun a => { a with pending := unmark a.pending p }).publish p
  else s

/-- PAGE_PUBLISH: a pending publish of a page takes effect when the read sequence on it has ended; `idle` tells that an edge
of ANS_CLK without a cycle has ended the sequence in progress (R397). -/
def execPagePublish (page : BitVec 4) (idle : Bool) (s : State) : Res :=
  cmd s fun s =>
    let s := if idle then s.ansEdge.modAns fun a => { a with seqPage := none } else s
    s.publishPending page.toNat

/-- A write of ANS.PUBLISH: each page named is published between commits (R396). -/
def State.ansPublishWrite (s : State) (v : Nat) : State := (maskList v 16).foldl (fun s p => s.publish p) s

/-- ANS_PUBLISH_WRITE: a host write of ANS.PUBLISH. -/
def execAnsPublishWrite (v : Dword) (s : State) : Res := cmd s fun s => s.ansPublishWrite v.toNat

/-- WORD of ANS.HADDR advances by 1 modulo 16,384. -/
def State.hdataNext (s : State) : State := s.setFld 0 .ansHaddr [] 0 14 (s.fld 0 .ansHaddr [] 0 14 + 1)

/-- The word that ANS.HDATA reads. -/
def State.hdata (s : State) : Nat :=
  let w := s.fld 0 .ansHaddr [] 0 14
  (sgetD (if bit (s.reg 0 .ansHaddr []) 14 then s.ans.front else s.ans.back) w 0).toNat

/-- A write of ANS.HDATA: the back word, between commits; while HADDR.FRONT is 1 a write that would change the front word is a
violation (R10). -/
def State.hdataWrite (s : State) (v : Nat) : State :=
  if bit (s.reg 0 .ansHaddr []) 14 then if v % 2 ^ 32 = s.hdata then s.hdataNext else s.violation 0
  else
    (s.modAns fun a => { a with back := sset a.back (s.fld 0 .ansHaddr [] 0 14) (BitVec.ofNat 32 v) }).hdataNext

/-- HDATA_WRITE: a host write of ANS.HDATA. -/
def execHdataWrite (v : Dword) (s : State) : Res := cmd s fun s => s.hdataWrite v.toNat

/-- HDATA_READ: a host read of ANS.HDATA (R395). -/
def execHdataRead (s : State) : Res := cmd s fun s => (s.emit (.readData s.hdata false)).hdataNext

/-- ANS_CLK_LOSS: no edge of ANS_CLK for 1 µs; CLK_SEEN falls, with the event while the port is enabled (R393). -/
def execAnsClkLoss (s : State) : Res :=
  cmd s fun s =>
    let due := match s.ans.lastEdge with | some t => decide (t + 1000 ≤ s.now) | none => true
    if s.ans.clkSeen && due then
      let s := s.modAns fun a => { a with clkSeen := false }
      if s.ansOn then s.event 0 .ans 1 else s
    else s

/-- A write of ANS.CFG; disabling the port ends a read sequence (R393). -/
def State.ansCfgWrite (s : State) (v : Nat) : State :=
  let s := s.setReg 0 .ansCfg [] (bits v 0 2)
  if bit v 0 then s else s.modAns fun a => { a with seqPage := none }

end Sys2Proof.Machine
end

