-- ==== Sys2Proof/Machine/ArithInstr.lean ====
section
/-! DEFINITION. The arithmetic, logic, shift, multiplication and immediate instructions (R169 to R173): each is issued by the
thread that its command names, when the word at the thread's PC is that instruction. -/

namespace Sys2Proof.Machine

open Sys2Proof

/-- ADD (R169). -/
def execAdd (t : Tid) (sys : Bool) (d a b : BitVec 5) (s : State) : Res :=
  onIssue s t (.alu .add sys d a b)

/-- ADC (R169). -/
def execAdc (t : Tid) (sys : Bool) (d a b : BitVec 5) (s : State) : Res :=
  onIssue s t (.alu .adc sys d a b)

/-- SUB (R169). -/
def execSub (t : Tid) (sys : Bool) (d a b : BitVec 5) (s : State) : Res :=
  onIssue s t (.alu .sub sys d a b)

/-- SBC (R169). -/
def execSbc (t : Tid) (sys : Bool) (d a b : BitVec 5) (s : State) : Res :=
  onIssue s t (.alu .sbc sys d a b)

/-- AND (R169). -/
def execAnd (t : Tid) (sys : Bool) (d a b : BitVec 5) (s : State) : Res :=
  onIssue s t (.alu .and sys d a b)

/-- OR (R169). -/
def execOr (t : Tid) (sys : Bool) (d a b : BitVec 5) (s : State) : Res :=
  onIssue s t (.alu .or sys d a b)

/-- XOR (R169). -/
def execXor (t : Tid) (sys : Bool) (d a b : BitVec 5) (s : State) : Res :=
  onIssue s t (.alu .xor sys d a b)

/-- ANDN (R169). -/
def execAndn (t : Tid) (sys : Bool) (d a b : BitVec 5) (s : State) : Res :=
  onIssue s t (.alu .andn sys d a b)

/-- NEG (R169). -/
def execNeg (t : Tid) (sys : Bool) (d a : BitVec 5) (s : State) : Res :=
  onIssue s t (.alu .neg sys d a 0)

/-- ABS (R169). -/
def execAbs (t : Tid) (sys : Bool) (d a : BitVec 5) (s : State) : Res :=
  onIssue s t (.alu .abs sys d a 0)

/-- NOT (R169). -/
def execNot (t : Tid) (sys : Bool) (d a : BitVec 5) (s : State) : Res :=
  onIssue s t (.alu .not sys d a 0)

/-- MOV (R169). -/
def execMov (t : Tid) (sys : Bool) (d a : BitVec 5) (s : State) : Res :=
  onIssue s t (.alu .mov sys d a 0)

/-- CLZ (R169). -/
def execClz (t : Tid) (sys : Bool) (d a : BitVec 5) (s : State) : Res :=
  onIssue s t (.alu .clz sys d a 0)

/-- POPC (R169). -/
def execPopc (t : Tid) (sys : Bool) (d a : BitVec 5) (s : State) : Res :=
  onIssue s t (.alu .popc sys d a 0)

/-- CMP (R164, R169). -/
def execCmp (t : Tid) (a b : BitVec 5) (s : State) : Res :=
  onIssue s t (.alu .cmp false 0 a b)

/-- TST (R164, R169). -/
def execTst (t : Tid) (a b : BitVec 5) (s : State) : Res :=
  onIssue s t (.alu .tst false 0 a b)

/-- SHL (R170). -/
def execShl (t : Tid) (d a b : BitVec 5) (s : State) : Res :=
  onIssue s t (.sh .shl d a b)

/-- SHR (R170). -/
def execShr (t : Tid) (d a b : BitVec 5) (s : State) : Res :=
  onIssue s t (.sh .shr d a b)

/-- SAR (R170). -/
def execSar (t : Tid) (d a b : BitVec 5) (s : State) : Res :=
  onIssue s t (.sh .sar d a b)

/-- ROL (R170). -/
def execRol (t : Tid) (d a b : BitVec 5) (s : State) : Res :=
  onIssue s t (.sh .rol d a b)

/-- ROR (R170). -/
def execRor (t : Tid) (d a b : BitVec 5) (s : State) : Res :=
  onIssue s t (.sh .ror d a b)

/-- MUL (R171, R172). -/
def execMul (t : Tid) (d a b : BitVec 5) (s : State) : Res :=
  onIssue s t (.mul .mul d a b)

/-- MULL (R171, R172). -/
def execMull (t : Tid) (d a b : BitVec 5) (s : State) : Res :=
  onIssue s t (.mul .mull d a b)

/-- MULLU (R171, R172). -/
def execMullu (t : Tid) (d a b : BitVec 5) (s : State) : Res :=
  onIssue s t (.mul .mullu d a b)

/-- DIVS (R171, R172). -/
def execDivs (t : Tid) (d a b : BitVec 5) (s : State) : Res :=
  onIssue s t (.mul .divs d a b)

/-- DIVU (R171, R172). -/
def execDivu (t : Tid) (d a b : BitVec 5) (s : State) : Res :=
  onIssue s t (.mul .divu d a b)

/-- ADDI (R173). -/
def execAddi (t : Tid) (d a : BitVec 5) (imm : BitVec 18) (s : State) : Res :=
  onIssue s t (.imm .addi d a imm)

/-- SUBI (R173). -/
def execSubi (t : Tid) (d a : BitVec 5) (imm : BitVec 18) (s : State) : Res :=
  onIssue s t (.imm .subi d a imm)

/-- ANDI (R173). -/
def execAndi (t : Tid) (d a : BitVec 5) (imm : BitVec 18) (s : State) : Res :=
  onIssue s t (.imm .andi d a imm)

/-- ORI (R173). -/
def execOri (t : Tid) (d a : BitVec 5) (imm : BitVec 18) (s : State) : Res :=
  onIssue s t (.imm .ori d a imm)

/-- XORI (R173). -/
def execXori (t : Tid) (d a : BitVec 5) (imm : BitVec 18) (s : State) : Res :=
  onIssue s t (.imm .xori d a imm)

/-- MOVHI (R173). -/
def execMovhi (t : Tid) (d a : BitVec 5) (imm : BitVec 18) (s : State) : Res :=
  onIssue s t (.imm .movhi d a imm)

/-- CMPI (R173). -/
def execCmpi (t : Tid) (a : BitVec 5) (imm : BitVec 18) (s : State) : Res :=
  onIssue s t (.imm .cmpi 0 a imm)

/-- MOVI (R173). -/
def execMovi (t : Tid) (d : BitVec 5) (imm : BitVec 18) (s : State) : Res :=
  onIssue s t (.imm .movi d 0 imm)

/-- SHLI (R170, R173). -/
def execShli (t : Tid) (d a : BitVec 5) (n : BitVec 8) (s : State) : Res :=
  onIssue s t (.shi .shl d a n)

/-- SHRI (R170, R173). -/
def execShri (t : Tid) (d a : BitVec 5) (n : BitVec 8) (s : State) : Res :=
  onIssue s t (.shi .shr d a n)

/-- SARI (R170, R173). -/
def execSari (t : Tid) (d a : BitVec 5) (n : BitVec 8) (s : State) : Res :=
  onIssue s t (.shi .sar d a n)

/-- ROLI (R170, R173). -/
def execRoli (t : Tid) (d a : BitVec 5) (n : BitVec 8) (s : State) : Res :=
  onIssue s t (.shi .rol d a n)

/-- RORI (R170, R173). -/
def execRori (t : Tid) (d a : BitVec 5) (n : BitVec 8) (s : State) : Res :=
  onIssue s t (.shi .ror d a n)

/-- EXTU (R173). -/
def execExtu (t : Tid) (d a : BitVec 5) (lsb wm1 : BitVec 6) (s : State) : Res :=
  onIssue s t (.extu d a lsb wm1)

/-- INS (R173). -/
def execIns (t : Tid) (d a : BitVec 5) (lsb wm1 : BitVec 6) (s : State) : Res :=
  onIssue s t (.ins d a lsb wm1)

end Sys2Proof.Machine
end

