-- ==== Sys2Proof/Machine/HostRings.lean ====
section
/-! DEFINITION. Command rings seen from the host (R381 to R388), and the host port's transmit and receive rings (R391,
R392). -/

namespace Sys2Proof.Machine

open Sys2Proof

/-! ### The endpoints (R373, R374) -/

/-- DCTL.PART_STATE.RUN. -/
def State.running (s : State) : Bool := bit (s.reg 0 .dctlPartState []) 0

/-- The endpoint that a transfer uses works: die 0's, or die 1's with PATH = 1 (R374). -/
def State.hostLive (s : State) (path : Bool) : Bool := s.pcieLive && (!path || (s.pwr.twoEnds && s.pwr.link1))

/-- The endpoint only sleeps in D3hot: a transfer waits, and is no error (R373). -/
def State.hostSleeps (s : State) : Bool := s.pcieUp && s.pciePower = .d3hot

/-! ### Ring registers (R385 to R388) -/

/-- The registers of a ring: 0 to 6 the command rings, 7 the transmit ring, 8 + h receive queue h. -/
def ringRegs (r : Nat) : List Nat × RegId × RegId × RegId × RegId × RegId :=
  if r < 7 then ([r], .ringCtl, .ringTail, .ringHead, .ringCTail, .ringCHead)
  else if r = 7 then ([], .htxCtl, .htxTail, .htxHead, .htxCTail, .htxHeadAck)
  else ([r - 8], .hrxCtl, .hrxTail, .hrxHead, .hrxCTail, .hrxHeadAck)

/-- The ring exists on the die (R381). -/
def ringHere (d r : Nat) : Bool := r < 72 && (r ≠ 5 || d = 0)

/-- CTL of a ring. -/
def State.ringCtlOf (s : State) (d r : Nat) : Nat := s.reg d (ringRegs r).2.1 (ringRegs r).1

/-- No fetched command is outstanding (R388): none on the ring, none of its replicas, no completion held by a delay. -/
def State.ringIdle (s : State) (d r : Nat) : Bool :=
  if 7 ≤ r then true
  else
    (s.ring d r).cmds.isEmpty && (r ≠ 0 || (List.range 8).all fun x =>
      ((s.die x).replicas.all fun p => p.1 ≠ d) && (s.die x).delayed.all fun e => e.data.take 2 ≠ [0, d])

/-- Entries of a ring's descriptor ring. -/
def State.ringSize (s : State) (d r : Nat) : Nat := 2 ^ bits (s.ringCtlOf d r) 2 5

/-- A log2 of entries that is allowed. -/
def sizeOk (n : Nat) : Bool := 4 ≤ n && n ≤ 16

/-- A write of a ring's CTL (R381, R388). -/
def State.ringCtlWrite (s : State) (d r v : Nat) : State :=
  let (ix, ctl, tail, head, ct, ch) := ringRegs r
  let row := regRow ctl
  let old := s.reg d ctl ix
  let new := putBits (v &&& row.rw) 12 2 (bits old 12 2)
  let sizes := bits new 2 10 ≠ bits old 2 10
  let start := bit new 0 && !bit old 0
  let legal := sizeOk (bits new 2 5) && (7 ≤ r || sizeOk (bits new 7 5))
  if sizes && (bit old 0 || !s.ringIdle d r) then s.violation d
  else if start && (!legal || (r < 7 && !s.running && !(d = 0 && r = 5))) then s.violation d
  else
    let src := if r < 7 then r else if r = 7 then 7 else 8
    s.watch d src fun s =>
      let s := s.setReg d ctl ix new
      if start then
        let s := [tail, head, ct, ch].foldl (fun s x => s.setReg d x ix 0) (s.setReg d ctl ix (putBit new 12 false))
        if r < 7 then s.setRing d r { s.ring d r with phase := true } else s
      else s

/-- RING_ENABLE: a write of a ring's CTL with ENABLE = 1 (R388). -/
def execRingEnable (d r : Nat) (v : Dword) (s : State) : Res :=
  onHostS s d (ringHere d r) fun s => s.ringCtlWrite d r (putBit v.toNat 0 true)

/-- RING_DISABLE: a write of a ring's CTL with ENABLE = 0 (R388). -/
def execRingDisable (d r : Nat) (v : Dword) (s : State) : Res :=
  onHostS s d (ringHere d r) fun s => s.ringCtlWrite d r (putBit v.toNat 0 false)

/-- A write of a base register, only while ENABLE = 0 and IDLE = 1 (R388). -/
def State.ringBaseWrite (s : State) (d r : Nat) (x : RegId) (v : Nat) : State :=
  let ix := (ringRegs r).1
  let new := v &&& (regRow x).rw
  if new ≠ s.reg d x ix && (bit (s.ringCtlOf d r) 0 || !s.ringIdle d r) then s.violation d else s.setReg d x ix new

/-- D_TAIL_WRITE: the host makes descriptors available (R385). -/
def execDTailWrite (d r : Nat) (v : Dword) (s : State) : Res :=
  onHostS s d (ringHere d r && r < 7) fun s => s.setReg d .ringTail [r] (v.toNat % 65536)

/-- A write of C_HEAD consumes completions, and the interrupt is tested again (R380, R387). -/
def State.cHeadWrite (s : State) (d r v : Nat) : State := (s.setReg d .ringCHead [r] (v % 65536)).retest d r

/-- C_HEAD_WRITE. -/
def execCHeadWrite (d r : Nat) (v : Dword) (s : State) : Res :=
  onHostS s d (ringHere d r && r < 7) fun s => s.cHeadWrite d r v.toNat

/-- A PCIe error halts a ring (R387); HTX and HRX have their own bits of DCTL.EVENT. -/
def State.anyHalt (s : State) (d r : Nat) : State :=
  if r < 7 then s.ringHalt d r
  else
    let (ix, ctl, _) := ringRegs r
    (s.setFld d ctl ix 12 1 1).event d .dctl (if r = 7 then 1 else 2)

/-- RING_HALT: a PCIe error on a ring's descriptor read or completion write (R387). -/
def execRingHalt (d r : Nat) (s : State) : Res :=
  onPort s d 0 (ringHere d r) fun s => if bit (s.ringCtlOf d r) 0 then s.anyHalt d r else s

/-- A ring fetches: enabled, not halted, and with entries between HEAD and TAIL (R385, R391, R392). -/
def State.ringReady (s : State) (d r : Nat) : Bool :=
  let (ix, _, tail, head, _, _) := ringRegs r
  let n := s.ringSize d r
  bit (s.ringCtlOf d r) 0 && !bit (s.ringCtlOf d r) 12 && s.reg d head ix % n ≠ s.reg d tail ix % n

/-- HEAD moves past an entry. -/
def State.headNext (s : State) (d r : Nat) : State :=
  let (ix, _, _, head, _, _) := ringRegs r
  s.setReg d head ix ((s.reg d head ix + 1) % s.ringSize d r)

/-- Free entries of a completion ring (R385). -/
def State.ringFree (s : State) (d r : Nat) : Nat :=
  let n := 2 ^ s.fld d .ringCtl [r] 7 5
  n - 1 - (s.reg d .ringCTail [r] + n - s.reg d .ringCHead [r] % n) % n

/-- Fetch the descriptor at D_HEAD, with the argument block that it names: at most one in a fabric cycle (R385). -/
def State.fetchDesc (s : State) (d r : Nat) (c : RCmd) : State :=
  if !s.ringReady d r || (s.ring d r).fetchAt = some s.now || s.ringFree d r < 8 || !(s.running || (d = 0 && r = 5)) || s.hostSleeps then s
  else if !s.hostLive false then s.ringHalt d r
  else
    let s := s.headNext d r
    let s : State := { s.setRing d r { s.ring d r with
      cmds := (s.ring d r).cmds ++ [{ c with order := s.stamps }], fetchAt := some s.now } with
      stamps := s.stamps + 1 }
    if (s.ring d r).cmds.length ≠ 1 then s
    else if r = 0 then s.tblSkip d 1
    else s.skipBad d r 1

/-- DESCRIPTOR_FETCH: slots D0 to D3, and the 64-bit slots of the argument block (R385). -/
def execDescriptorFetch (d r : Nat) (d0 d1 d2 d3 : BitVec 64) (arg : List (BitVec 64)) (s : State) : Res :=
  onPort s d 0 (ringHere d r && r < 7) fun s =>
    s.fetchDesc d r { d0 := d0.toNat, d1 := d1.toNat, d2 := d2.toNat, d3 := d3.toNat, arg := arg.map (·.toNat) }

/-! ### The transmit ring (R391) -/

/-- Address of the entry at HEAD of a transmit or receive ring. -/
def State.entryAddr (s : State) (d r : Nat) : Nat :=
  let (ix, _, _, head, _, _) := ringRegs r
  let (lo, hi) : RegId × RegId := if r = 7 then (.htxDbaseLo, .htxDbaseHi) else (.hrxDbaseLo, .hrxDbaseHi)
  s.reg d hi ix * 2 ^ 32 + s.reg d lo ix + 32 * s.reg d head ix

/-- Complete the transmit entry at HEAD: slot 2, HEAD, and the interrupt (R380, R391). -/
def State.htxDone (s : State) (d code ticket : Nat) : State :=
  let s := s.emit (.hostWrite d (s.entryAddr d 7 + 16) (natLE 8 (code + ticket * 256 + 2 ^ 63)))
  s.watch d 7 fun s => (s.headNext d 7).modDie d fun x => { x with htxDone := true }

/-- Store a host frame in cells of port 24 and take it in with a ticket of that port (R24, R391). -/
def State.htxFrame (s : State) (d : Nat) (bs : List Byte) : State :=
  let r := s.takeCells d { port := some 24 } (ceilDiv bs.length 128)
  let s := r.2.modHop d fun h => { h with buf := writeCells h.buf r.1 0 bs }
  let p := s.newPkt d { cells := r.1, len := bs.length, fcs := 0, port := d * 32 + 24
                        cfg := BitVec.ofNat 32 (s.reg d .hopPortCfg [24]), pdef := BitVec.ofNat 32 (s.reg d .hopPortDef [24])
                        ts := s.time d }
  let t := sgetD (s.die d).hop.nextTicket 24 0
  ((p.2.admitAt d 24 p.1).count d ctrDCTL 3).htxDone d cDONE t

/-- The part takes the transmit entry at HTX_HEAD: its slots 0, 1 and 3, and the buffer's bytes (R63, R64, R391). -/
def State.htxFetch (s : State) (d : Nat) (e1 e3 : Nat) (bytes : List Byte) : State :=
  let n := bits e1 0 14
  let path := bit (s.ringCtlOf d 7) 14
  if !s.ringReady d 7 || (s.die d).hop.closed.contains 24 || s.blocked d || s.hostSleeps then s
  else if !s.hostLive path then s.anyHalt d 7
  else if bits e1 14 50 ≠ 0 || e3 ≠ 0 then s.htxDone d cMALFORMED 0
  else if n = 0 || 16000 < n then s.htxDone d cRANGE 0
  else
    let k := ceilDiv n 128
    if (s.die d).hop.occ 24 + k ≤ s.fld d .hopPortQuota [24] 0 19 && k ≤ (s.die d).hop.free then
      s.htxFrame d ((bytes ++ List.replicate n 0).take n)
    else s

/-- HTX_FETCH: the entry's slots 1 and 3 and the bytes at its buffer address (R391). -/
def execHtxFetch (d : Nat) (e1 e3 : BitVec 64) (bytes : List Byte) (s : State) : Res :=
  onDieS s d fun s => s.htxFetch d e1.toNat e3.toNat bytes

/-- A write of HTX_HEAD_ACK acknowledges the completed entries (R380). -/
def State.htxAckWrite (s : State) (d v : Nat) : State :=
  ((s.setReg d .htxHeadAck [] (v % 65536)).modDie d fun x => { x with htxDone := false }).retest d 7

/-- HTX_HEAD_ACK. -/
def execHtxHeadAck (d : Nat) (v : Dword) (s : State) : Res := onHost s d true fun s => s.htxAckWrite d v.toNat

/-! ### Receive rings (R310, R392) -/

/-- HRX_TAIL_WRITE: the host posts buffers (R392). -/
def execHrxTailWrite (d h : Nat) (v : Dword) (s : State) : Res :=
  onHostS s d (h < 64) fun s => s.setReg d .hrxTail [h] (v.toNat % 65536)

/-- A host queue can be served: its head frame, its shaper and a posted buffer (R309, R392). -/
def State.hostEligible (s : State) (d h : Nat) : Bool :=
  let q := 384 + h
  ((s.queue d q).head).isSome && s.ringReady d (8 + h) && !(s.queue d q).guarded &&
    (s.fld d .egrQShape [q] 0 29 = 0 || 0 ≤ s.tokens d q)

/-- The host queue that is served next, round-robin (R392). -/
def State.hostNext (s : State) (d : Nat) : Option Nat :=
  ((List.range 64).map fun j => ((s.die d).egr.lastHost + 1 + j) % 64).find? (s.hostEligible d)

/-- The bytes of a frame with those of poisoned cells as zero, and whether there were any (R392). -/
def Hopper.cleanBytes (h : Hopper) (e : Enq) (k : Packet) : List Byte × Bool :=
  let bad := fun i => match k.cells[(e.start + i) / 128]? with | some c => h.poison.contains c | none => false
  let bs := h.pktBytes k e.start e.len
  (bs.zipIdx.map fun p => if bad p.2 then 0 else p.1, (List.range bs.length).any bad)

/-- Write a frame to the posted buffer of its host queue and complete the entry (R392): the host interface transmits it, as
port 24 (R83, R305). -/
def State.hostWriteFrame (s : State) (d h buf : Nat) (e : QEntry) (k : Packet) : State :=
  let q := 384 + h
  let s := (s.readCells d (e.a.enq.copied k.cells)).countCells d (e.a.enq.copied k.cells)
  let r := (s.die d).hop.cleanBytes e.a.enq k
  let slot2 := e.a.enq.len + (if r.2 then 2 ^ 14 else 0) + e.a.port * 2 ^ 16 + e.a.ticket % 2 ^ 24 * 2 ^ 32 + 2 ^ 63
  let at_ := s.entryAddr d (8 + h) + 16
  let s := ((s.takeHead d q).emit (.hostWrite d buf r.1)).emit (.hostWrite d at_ (natLE 8 slot2 ++ natLE 8 (e.a.ts % 2 ^ 64)))
  let s := ((s.handed d 30 e).modEgr d fun x => { x with lastHost := h }).dropRef d e.a.pid
  let s := ((s.shapeTake d q r.1.length).countPort d 24 5).countPort d 24 6 r.1.length
  let s := (s.headNext d (8 + h)).count d ctrDCTL 4
  if bit (s.ringCtlOf d (8 + h)) 1 then
    s.watch d 8 fun s => s.setReg d .dctlHqEvent [h / 32] (putBit (s.reg d .dctlHqEvent [h / 32]) (h % 32) true)
  else s

/-- The part serves the next host queue, whose head buffer has this address and length (R392). -/
def State.hostDeliver (s : State) (d h buf bufLen : Nat) : State :=
  if s.hostNext d ≠ some h || s.hostSleeps then s
  else if !s.hostLive (bit (s.ringCtlOf d (8 + h)) 14) then s.anyHalt d (8 + h)
  else match (s.queue d (384 + h)).head with
    | none => s
    | some e => match s.pkt d e.a.pid with
      | none => s.takeHead d (384 + h)
      | some k =>
        if bufLen < e.a.enq.len then
          ((((s.takeHead d (384 + h)).dropLength d e.a.port (384 + h)).count d ctrDCTL 5).dropRef d e.a.pid).tagLost e.a
            rLENGTH
        else s.hostWriteFrame d h buf e k

/-- HOST_RX_DELIVER: host queue h, which the round-robin serves next, and slots 0 and 1 of its head buffer (R392). -/
def execHostRxDeliver (d h : Nat) (e0 e1 : BitVec 64) (s : State) : Res :=
  onPort s d 0 (h < 64) fun s => s.hostDeliver d h e0.toNat (bits e1.toNat 0 15)

/-- A write of HRX_HEAD_ACK: the condition of source 8 is tested again (R380). -/
def State.hrxAckWrite (s : State) (d h v : Nat) : State := (s.setReg d .hrxHeadAck [h] (v % 65536)).retest d 8

end Sys2Proof.Machine
end

