-- ==== Sys2Proof/Machine/HostRead.lean ====
section
/-! DEFINITION. What a host read of a register gives (R9, R10, R375, R378): the fields that the part computes, block by
block, and the effects of a read. -/

namespace Sys2Proof.Machine

open Sys2Proof

/-! ### Absent registers (R42, R378) -/

/-- A register that the common layout gives and this die lacks. -/
def regLacks (d : Nat) (r : RegId) (ix : List Nat) : Bool :=
  let sc := (regRow r).scope
  (sc = 1 && d ≠ 0) || (sc = 2 && 2 ≤ d) ||
  match r with
  | .ringDbaseLo | .ringDbaseHi | .ringCbaseLo | .ringCbaseHi | .ringCtl | .ringTail | .ringHead | .ringCTail
  | .ringCHead => !ringHere d (ix.headD 0)
  | .hopPortCfg | .hopPortDef | .hopPortQuota | .hopPortXoff | .hopPortXon | .hopPortOcc | .egrMgate | .egrGateStat =>
    !hasPort d (ix.headD 0)
  | .egrGlCfg | .egrGlInit | .egrGlBaseLo | .egrGlBaseHi | .egrGlCycle | .egrGlEndLo | .egrGlEndHi | .egrGlStat =>
    10 ≤ ix.headD 0 && 2 ≤ d
  | _ => false

/-! ### Fields that the part computes -/

/-- 1 for true. -/
def b1 (b : Bool) : Nat := if b then 1 else 0

/-- Twipex registers (R37). PEER reads its reset value until the link has ended a training since reset (log entry 85). -/
def State.liveTwx (s : State) (d : Nat) : RegId → List Nat → Option Nat
  | .twxTopology, _ => some ((match s.fuses.dies with | 2 => 0 | 4 => 1 | _ => 2) + s.fuses.dies * 16 + d * 256)
  | .twxLinkStat, [k] =>
    let l := s.link d k
    let trained : Bool := (sget s.fab.links (linkKey s.fuses.dies d k)).isSome
    some (l.code + (if trained then farEnd s.fuses.dies d k * 16 else 0) +
      (match l with | .up => 64 | .degraded => 32 | _ => 0) * 256 +
      min 8 (sgetD s.fab.run (d * 3 + k) 0) * 65536)
  | .twxRoute, [t] => some (s.routeReg d t)
  | _, _ => none

/-- A received PAUSE or PFC stop is running. -/
def State.stopped (s : State) (d key : Nat) : Bool :=
  match sget (s.die d).hop.pausedTo key with
  | some t => s.now < t
  | none => false

/-- Hopper, MAC and telegram registers (R44 to R61). -/
def State.liveHop (s : State) (d : Nat) : RegId → List Nat → Option Nat
  | .hopPortOcc, [p] => some ((s.die d).hop.occ p + b1 ((s.die d).hop.closed.contains p) * 2 ^ 31)
  | .hopStat, _ =>
    some ((s.die d).hop.free + b1 (s.ticketsFull d) * 2 ^ 24 + b1 (s.dspBlocked d) * 2 ^ 25)
  | .hopTickets, _ => some (s.die d).hop.outstanding
  | .macPstat, [p] =>
    let up := (s.die d).hop.linkUp.contains p
    let mode := s.fld d .macPcfg [p] 0 4
    let fec := up && p < 8 && ((s.fld d .macPcfg [p] 4 1 = 1 && [3, 5].contains mode) || [4, 6, 7, 8].contains mode)
    let pfc := (List.range 8).foldl (fun m q => m + b1 (s.stopped d (32 + 8 * p + q)) * 2 ^ q) 0
    some (b1 up + b1 fec * 2 + b1 (s.stopped d p) * 4 + pfc * 8 +
      (if up && 8 ≤ p then sgetD (s.die d).hop.speed p 0 else 0) * 2 ^ 11)
  | .tgpStat, [t] =>
    let p := t + 16
    let on := s.rxOn d p
    let within := match sget (s.die d).hop.lineSeen p with
      | some at_ => decide ((s.now - at_) * s.reg d .tgpRate [t] ≤ 64 * 1000000000)
      | none => false
    let inFrame := match sget (s.die d).hop.rx p with | some f => decide (f.discard = 0) | none => false
    some ((if !on then 0 else if inFrame then 2 else 1) + b1 within * 4 + b1 (sget (s.die d).egr.sending p).isSome * 8)
  | _, _ => none

/-- The graph-store word that GS_ADDR names; words 264 to 511 read as zero, and a poisoned word reads 0 (R363). -/
def State.gsData (s : State) (d : Nat) : Nat :=
  let a := s.reg d .dspGsAddr []
  let u := bits a 9 8 * 264 + bits a 0 9
  if 264 ≤ bits a 0 9 || (s.die d).dsp.gsPoison.contains u then 0 else (sgetD (s.die d).dsp.gstore u 0).toNat

/-- Dispatcher registers (R89, R93, R101). -/
def State.liveDsp (s : State) (d : Nat) : RegId → List Nat → Option Nat
  | .dspPoolStat, _ =>
    let x := (s.die d).dsp
    some (x.free + x.ingressHeld * 2 ^ 15 + b1 (s.dspBlocked d) * 2 ^ 30)
  | .dspInstStat, _ => some ((s.die d).dsp.insts.length + (s.die d).dsp.flows.length * 2 ^ 15)
  | .dspListStat, [g] => some (sgetD (s.die d).dsp.lists g []).length
  | .dspGsData, _ => some (s.gsData d)
  | _, _ => none

/-- State that THREAD_STAT shows: a stopped or restarting core holds its threads, the debugger stops a thread, and else
what the thread does (R146, R150). -/
def State.threadState (s : State) (d k : Nat) : Nat :=
  let x := s.thr d k
  let run := (s.core d (k / 16)).run
  match x.st with
  | .idle => 0
  | .faulted => 5
  | .parked => 6
  | st =>
    if run = .stopped || run = .restarting then 7
    else if x.stopped then 4
    else match st with
      | .waiting => 2
      | .blocked => 3
      | _ => 1

/-- Code of a core's state in CORE_STAT. -/
def CoreRun.code : CoreRun → Nat
  | .running => 0
  | .stopped => 1
  | .debug => 2
  | .restarting => 3

/-- The instruction-store word that IS_ADDR names. -/
def State.isData (s : State) (d cl : Nat) : Nat :=
  (sgetD (s.die d).istore (cl * 65536 + s.fld d .cluIsAddr [cl] 0 16) 0).toNat

/-- The cluster-store word that CS_ADDR names; a poisoned word reads 0. -/
def State.csData (s : State) (d cl : Nat) : Nat :=
  let w := s.csRead d cl (s.fld d .cluCsAddr [cl] 0 18)
  if w.2 then 0 else w.1.toNat

/-- Core registers (R139, R146). -/
def State.liveClu (s : State) (d : Nat) : RegId → List Nat → Option Nat
  | .cluCoreStat, [cl, c] =>
    let x := s.core d (cl * 4 + c)
    some (x.run.code + b1 (s.checker d (cl * 4 + c)) * 4 + b1 x.lastHw * 8 + x.code % 256 * 16 + x.faultThread % 16 * 2 ^ 12
      + x.faultPc % 65536 * 2 ^ 16)
  | .cluCoreFault, [cl, c] =>
    let x := s.core d (cl * 4 + c)
    some (x.slot % 2 ^ 14 + b1 x.heldOp * 2 ^ 14 + min 255 x.hwStops * 2 ^ 16)
  | .cluThreadStat, [cl, c, t] =>
    let k := (if s.checker d (cl * 4 + c) then cl * 4 + c - 1 else cl * 4 + c) * 16 + t
    let x := s.thr d k
    some (s.threadState d k + x.role % 4 * 8 + b1 x.op.isSome * 32 + b1 x.openCh.isSome * 64 + x.openCh.getD 0 % 64 * 128
      + x.pc % 65536 * 2 ^ 16)
  | .cluIsData, [cl] => some (s.isData d cl)
  | .cluCsData, [cl] => some (s.csData d cl)
  | _, _ => none

/-- Helper registers (R209, R211). -/
def State.liveHlp (s : State) (d : Nat) : RegId → List Nat → Option Nat
  | .hlpLock, [cl, n] =>
    let x := s.helper d (cl * 3 + n)
    let eng := match x.holder with | some (.op _) => true | _ => false
    let own := match x.holder with | some (.thread k) => k % 64 | _ => 0
    let squashed := match x.jobs with | [] => false | j :: _ => j.squashed
    some (b1 x.holder.isSome + b1 eng * 2 + own * 4 + min 8 x.jobs.length * 2 ^ 8 + b1 squashed * 2 ^ 12
      + b1 x.window.isSome * 2 ^ 13 + b1 x.refused * 2 ^ 14)
  | .hlpWait, [cl, n] => some (s.helper d (cl * 3 + n)).fifo.length
  | _, _ => none

/-- Valid entries of a body in its buckets (R233, R235). -/
def State.bucketEntries (s : State) (d b : Nat) : Nat :=
  let base := s.bodyBase d b
  let n := s.bodySize d b
  match s.bodyLoc d b with
  | 1 =>
    let t := (s.die d).tbl
    (t.store.filter fun p => p.1 % 8 = 7 && 32 * base ≤ p.1 && p.1 < 32 * (base + n) && bit p.2.toNat 0 &&
      bits p.2.toNat 6 6 = b).length
  | 2 =>
    let first := s.bucketAddr d b base / 128
    let m := (s.die d).dram
    let ls := ((m.mem.map fun c => c.1 / 128).eraseDups).filter fun l =>
      first ≤ s.dramGranule d l && s.dramGranule d l < first + n
    (ls.map fun l =>
      let v := leNat (decodeGranule m (s.eccMode d) l).data
      ((List.range 4).filter fun i => entValid (dramEntry v i) && entBody (dramEntry v i) = b).length).sum
  | _ => 0

/-- Table and flow-context registers (R233, R238, R246, R263). -/
def State.liveTbl (s : State) (d : Nat) : RegId → List Nat → Option Nat
  | .tblBodyStat, [b] =>
    some (if (s.die d).tbl.init = some b then 0 else s.bucketEntries d b + s.layUsedBy d b)
  | .tblBodyLayby, [b] => some (s.layUsedBy d b)
  | .tblInitStat, _ => some (b1 (s.die d).tbl.init.isSome + (s.die d).tbl.lastInit * 2)
  | .tblLaybyStat, _ => some (s.layUsed d)
  | .flcCtxData, _ =>
    let a := s.reg d .flcCtxAddr []
    let w := bits a 0 18 * 16 + bits a 18 4
    some (if (s.die d).ctxPoison.contains w then 0 else (sgetD (s.die d).ctx w 0).toNat)
  | _, _ => none

/-- Axis and milestone registers (R266, R274, R289, R291). -/
def State.liveMls (s : State) (d : Nat) : RegId → List Nat → Option Nat
  | .mlsTimeLo, _ => some (bits (s.time d) 0 36)
  | .mlsTimeHi, _ => some (bits (s.time d) 36 36)
  | .mlsAxisStat, [i] =>
    let r := (s.view d (i + 1)).1
    some (r.st + b1 r.p.isSome * 4 + b1 r.down * 8 + b1 r.restored * 16)
  | .mlsAxisPeriod, [i] => some (min (2 ^ 32 - 1) ((s.view d (i + 1)).1.p.getD 0))
  | .mlsAxisVal, [i] => some (s.axisSlot d (i + 1) 0)
  | .mlsAxisEdge, [i] => some (s.axisSlot d (i + 1) 1)
  | .mlsAxisRate, [i] => some (s.axisSlot d (i + 1) 2)
  | .mlsMsData, _ => some (s.msData d)
  | .mlsCapInfo, _ =>
    let caps := (s.die d).mls.caps
    let head := match caps with
      | [] => 0
      | f :: _ => f.ms + b1 f.down * 2 ^ 10 + b1 f.late * 2 ^ 11 + b1 f.jump * 2 ^ 12 + 2 ^ 30
    some (head + caps.length * 2 ^ 13)
  | .mlsCapTimeLo, _ => some (match (s.die d).mls.caps with | [] => 0 | f :: _ => bits f.time 0 36)
  | .mlsCapTimeHi, _ => some (match (s.die d).mls.caps with | [] => 0 | f :: _ => bits f.time 36 36)
  | .mlsPinCfg, _ => some (s.fld d .mlsPinCfg [] 0 16 + s.ax.pins % 256 * 2 ^ 16)
  | .mlsSendStat, _ => some (s.die d).mls.sends.length
  | _, _ => none

/-- A queue is eligible by R309. -/
def State.queueEligible (s : State) (d q : Nat) : Bool :=
  if 384 ≤ s.portQueue d q && s.portQueue d q < 448 then s.hostEligible d (s.portQueue d q - 384)
  else match queuePort (s.portQueue d q) with
    | some p => s.queueOn d q && s.eligible d p (s.portQueue d q)
    | none => false

/-- The gate of a queue's port queue. -/
def State.queueGate (s : State) (d q : Nat) : Bool :=
  match queuePort (s.portQueue d q) with
  | some p => s.gateOpen d p (s.portQueue d q % 16)
  | none => true

/-- Egress registers (R304, R309, R313, R316, R319). -/
def State.liveEgr (s : State) (d : Nat) : RegId → List Nat → Option Nat
  | .egrQStat, [q] =>
    let x := s.queue d q
    some (x.depth + b1 x.spilling * 2 ^ 19 + b1 (s.queueEligible d q) * 2 ^ 20 + b1 (s.queueGate d q) * 2 ^ 21)
  | .egrGateStat, [p] => some ((List.range 16).foldl (fun m q => m + b1 (s.gateOpen d p q) * 2 ^ q) 0)
  | .egrGlStat, [pp, l] =>
    let g := s.glStat d pp l
    some (g.1 + b1 g.2.1 * 2 ^ 16 + b1 g.2.2.1 * 2 ^ 17 + g.2.2.2 * 2 ^ 18)
  | .egrGlData, _ => some (s.glData d)
  | _, _ => none

/-- Code of the controller's state in DMC.STAT. -/
def DramState.code : DramState → Nat
  | .training => 0
  | .active => 1
  | .selfRefresh => 2
  | .maint => 3
  | .urgent => 4

/-- Controller, code and bolter registers (R329, R335, R364, R369). -/
def State.liveDmc (s : State) (d : Nat) : RegId → List Nat → Option Nat
  | .dmcCtl, _ => some (b1 (s.die d).dram.gone + s.fld d .dmcCtl [] 1 1 * 2)
  | .dmcStat, _ =>
    let m := (s.die d).dram
    some (m.st.code + b1 m.trained * 8 + b1 m.trainFail * 16 + b1 m.entering * 32 + b1 (s.anyPanic d) * 64 +
      b1 (m.rate2x.contains 0) * 128 + b1 (m.rate2x.contains 1) * 256)
  | .dmcRefStat, _ =>
    let m := (s.die d).dram
    some ((List.range 8).foldl (fun n i => n + min 15 (m.owes (i / 4) (i % 4)) * 16 ^ i) 0)
  | .eccBoltPos, _ => some ((s.die d).dram.pos % 2 ^ 30)
  | .eccBoltPass, _ =>
    let m := (s.die d).dram
    some (min 65535 m.passes +
      ((List.range 9).map fun i => sgetD m.sramPasses (i + 1) 0).foldl min 65535 * 65536)
  | .eccRevisit, _ => some (s.die d).dram.revisit.length
  | .eccErrLo, _ => some (match (s.die d).errRing with | [] => 0 | r :: _ => bits r.addr 0 32)
  | .eccErrHi, _ => some (match (s.die d).errRing with | [] => 0 | r :: _ => r.hi % 2 ^ 27 + 2 ^ 30)
  | .eccRingStat, _ => some (s.die d).errRing.length
  | _, _ => none

/-- Seconds left in the unlock's window (DCTL.UNLOCK). -/
def State.unlockRemain (s : State) : Nat :=
  match s.ident.window with
  | some t => ceilDiv (t - s.now) 1000000000
  | none => 0

/-- Die control registers (R379 to R397, R405, R413, R419, R424, R467). -/
def State.liveDctl (s : State) (d : Nat) : RegId → List Nat → Option Nat
  | .dctlPkgId, [i] => some (bits s.fuses.serial (32 * i) 32)
  | .dctlVariant, _ =>
    some (s.fuses.dies % 16 + b1 s.fuses.speed16 * 16 + b1 s.fuses.gradeX * 32 + s.fuses.stepping % 256 * 256)
  | .dctlDieId, _ => some d
  | .ringCtl, [r] => some (putBit (s.reg d .ringCtl [r]) 13 (s.ringIdle d r))
  | .htxCtl, _ => some (putBit (s.reg d .htxCtl []) 13 true)
  | .hrxCtl, [h] => some (putBit (s.reg d .hrxCtl [h]) 13 true)
  | .dctlWmkAddr, _ =>
    let v := s.reg 0 .dctlWmkAddr []
    some (if bit (s.reg 0 .dctlWmkCtl []) 0 then v - bits v 0 6 else v)
  | .dctlBootStat, _ => some (putBit (s.reg 0 .dctlBootStat []) 8 s.pwr.bootSrc)
  | .dctlUnlock, _ => some (s.scope + min (2 ^ 17 - 1) s.unlockRemain * 8 + b1 s.ident.challenge.isSome * 2 ^ 20)
  | .dctlWmkStat, _ =>
    some (putBit (s.reg 0 .dctlWmkStat []) 0 (match s.wmk.lastIn with | some t => decide (s.now < t + 1000) | none => false))
  | .dctlJrnStat, _ => some (putBits (s.reg 0 .dctlJrnStat []) 12 7 s.journal.length)
  | .dctlJrnData, _ => some (s.mramWord (s.fld 0 .dctlJrnAddr [] 0 18)).toNat
  | .dctlClkStat, _ => some (b1 (!s.pwr.causes.contains 3) + b1 (!s.serdesLost) * 2 + b1 (d < 2 && !s.pwr.pcieLost) * 4)
  | _, _ => none

/-- Answer Port, tally and grit registers (R393, R397, R436, R439, R454). -/
def State.liveTly (s : State) (d : Nat) : RegId → List Nat → Option Nat
  | .ansStat, _ =>
    some (b1 s.ans.clkSeen + b1 s.ans.seqPage.isSome * 2 + s.ans.seqPage.getD 0 % 16 * 4 + s.ans.wcount % 256 * 64)
  | .ansPending, _ => some (s.ans.pending.foldl (fun m p => m ||| 2 ^ p) 0)
  | .ansPublish, _ => some (s.ans.pending.foldl (fun m p => m ||| 2 ^ p) 0)
  | .ansHdata, _ => some s.hdata
  | .tlySmpLevel, [c] => some (s.core d c).ring.length
  | .tlyTagStat, _ => some (s.die d).tly.tagQueue.length
  | .tlyReadLo, _ => some (bits (s.readCounter d) 0 32)
  | .tlyReadHi, _ => some (bits (sgetD (s.die d).latch (regOff .tlyReadLo []) 0) 32 17)
  | .grtStat, _ =>
    let forced := d = 0 && (List.range 8).any fun n => s.axForced (s.master n)
    some (b1 (bit s.scope 1) + b1 ((List.range 4).any fun t => s.reg d .grtDelay [t] ≠ 0) * 2 +
      b1 (s.reg d .grtSluice [] ≠ 0) * 4 + b1 (s.reg d .grtHold [] ≠ 0) * 8 + b1 (s.reg d .grtStretch [] ≠ 0) * 16 +
      b1 forced * 32)
  | .grtAxes, _ =>
    some (if d = 0 then (List.range 8).foldl (fun m n => m + b1 (s.axForced (s.master n)) * 2 ^ n) 0 else 0)
  | _, _ => none

/-- A register's present value: 36 bits of a slot, 32 bits of a dword. -/
def State.regNow (s : State) (d : Nat) (r : RegId) (ix : List Nat) : Nat :=
  ((s.liveTwx d r ix).or <| (s.liveHop d r ix).or <| (s.liveDsp d r ix).or <| (s.liveClu d r ix).or <|
    (s.liveHlp d r ix).or <| (s.liveTbl d r ix).or <| (s.liveMls d r ix).or <| (s.liveEgr d r ix).or <|
    (s.liveDmc d r ix).or <| (s.liveDctl d r ix).or <| s.liveTly d r ix).getD (s.reg d r ix)

/-! ### Effects of a read -/

/-- The last segment of CTX_ADDR's walk: WORD 15 is followed by word 0 of the next context. -/
def nextCtx (a : Nat) : Nat :=
  if bits a 18 4 = 15 then (bits a 0 18 + 1) % 2 ^ 18 else bits a 0 18 + (bits a 18 4 + 1) * 2 ^ 18

/-- The access of a data slot as a demand read of its unit (R358). -/
def State.touchData (s : State) (d : Nat) (r : RegId) (ix : List Nat) : State :=
  let cl := ix.headD 0
  match r with
  | .dspGsData =>
    let a := s.reg d .dspGsAddr []
    if bits a 0 9 < 264 then s.readUnit d 8 0 (bits a 9 8 * 264 + bits a 0 9) true else s
  | .cluIsData => s.readUnit d 3 cl (s.fld d .cluIsAddr [cl] 0 16) true
  | .cluCsData => s.readUnit d 2 cl (s.fld d .cluCsAddr [cl] 0 18) true
  | .flcCtxData =>
    let a := s.reg d .flcCtxAddr []
    s.readUnit d 4 0 (bits a 0 18 * 16 + bits a 18 4) true
  | .mlsMsData => s.readUnit d 9 0 (cfgMilestone (s.fld d .mlsMsAddr [] 0 10)) true
  | .egrGlData =>
    let a := s.reg d .egrGlAddr []
    if bits a 0 5 < 18 then s.readUnit d 9 0 (cfgGate ((bits a 0 5 * 8 + bits a 5 3) * 64 + bits a 8 6)) true else s
  | .hopFp => s.readUnit d 9 0 (cfgFinger cl) true
  | .egrQCfg => s.readUnit d 9 0 (cfgQueue cl) true
  | _ => s

/-- What a read does after it returns (R9, R166, R263, R280, R428): the low half of a slot that latches takes its latch,
the high half of a data slot advances its address, and an RC field is cleared. -/
def State.readAfter (s : State) (d : Nat) (r : RegId) (ix : List Nat) (half : Nat) : State :=
  let cl := ix.headD 0
  match r, half with
  | .mlsTimeLo, 0 => s.setLatch d (regOff .mlsTimeLo []) (s.time d)
  | .mlsPpsInLo, 0 =>
    s.setLatch d (regOff .mlsPpsInLo []) (s.reg d .mlsPpsInLo [] + s.reg d .mlsPpsInHi [] * 2 ^ 36)
  | .mlsAxisVal, 0 => s.setLatch d (regOff r ix) (s.axisSlot d (cl + 1) 0)
  | .mlsAxisEdge, 0 => s.setLatch d (regOff r ix) (s.axisSlot d (cl + 1) 1)
  | .mlsAxisRate, 0 => s.setLatch d (regOff r ix) (s.axisSlot d (cl + 1) 2)
  | .dctlWmkTime, 0 =>
    if cl = 0 then (List.range 4).foldl (fun s i => s.setLatch d (regOff r [i]) (s.reg d r [i])) s else s
  | .tlyReadLo, _ => s.readLatch d
  | .cluIsData, 4 => s.setReg d .cluIsAddr [cl] ((s.reg d .cluIsAddr [cl] + 1) % 2 ^ 16)
  | .cluCsData, 4 => s.setReg d .cluCsAddr [cl] ((s.reg d .cluCsAddr [cl] + 1) % 2 ^ 18)
  | .flcCtxData, 4 => (s.count d ctrFLC 2).setReg d .flcCtxAddr [] (nextCtx (s.reg d .flcCtxAddr []))
  | .mlsMsData, 4 =>
    let a := s.reg d .mlsMsAddr []
    s.setReg d .mlsMsAddr [] (if bits a 10 3 = 7 then (bits a 0 10 + 1) % 1024 else a + 2 ^ 10)
  | .dctlJrnData, 4 => s.setFld d .dctlJrnAddr [] 0 18 (s.fld d .dctlJrnAddr [] 0 18 + 1)
  | .ansHdata, _ => s.hdataNext
  | r, _ => let rc := (regRow r).rc; if rc = 0 then s else s.setReg d r ix (s.reg d r ix - (s.reg d r ix &&& rc))

/-- The value that a half of a latching slot returns: the latch, but for the half that takes it (R266, R267, R274). -/
def State.latched (s : State) (d : Nat) (r : RegId) (ix : List Nat) (half : Nat) : Option Nat :=
  let held := fun (x : RegId) (i : List Nat) => sgetD (s.die d).latch (regOff x i) 0
  match r, half with
  | .mlsTimeLo, 4 => some (bits (held .mlsTimeLo []) 0 36)
  | .mlsTimeHi, _ => some (bits (held .mlsTimeLo []) 36 36)
  | .mlsPpsInLo, 4 => some (bits (held .mlsPpsInLo []) 0 36)
  | .mlsPpsInHi, _ => some (bits (held .mlsPpsInLo []) 36 36)
  | .mlsAxisVal, 4 => some (held r ix)
  | .mlsAxisEdge, 4 => some (held r ix)
  | .mlsAxisRate, 4 => some (held r ix)
  | .dctlWmkTime, h => if ix.headD 0 = 0 && h = 0 then none else some (held r ix)
  | _, _ => none

/-- The whole register of `off` reads as zero by its access codes: every field is WO (R10). -/
def regAllWO (row : RegRow) : Bool := row.wo ≠ 0 && row.rw = 0 && row.ro = 0 && row.w1c = 0 && row.w1s = 0 && row.rc = 0

/-- A read of a register that exists: its value, then the effects of the read. -/
def State.regRead (s : State) (d : Nat) (r : RegId) (ix : List Nat) (half : Nat) : Nat × State :=
  let s := s.touchData d r ix
  let v := (s.latched d r ix half).getD (s.regNow d r ix)
  (bits v (8 * half) (if half = 4 then 4 else 32), s.readAfter d r ix half)

/-- A host read of a dword of a die window (R375, R378, R379): 0 for an absent register, and 0 with a violation for an
undefined offset, a missing or unreachable die, and a register whose every field is WO. -/
def State.hostRead (s : State) (d off : Nat) : Nat × State :=
  if !s.reach 0 d then (0, s.violation 8)
  else match regFind off with
    | none => (0, s.violation d)
    | some (r, ix, half) =>
      if regLacks d r ix then (0, s)
      else if regAllWO (regRow r) then (0, s.violation d)
      else s.regRead d r ix half

end Sys2Proof.Machine
end

