-- ==== Sys2Proof/Machine/TableRing.lean ====
section
/-! DEFINITION. The commands of ring 0 and their replicas (R243 to R259): single-bucket commands, WALK, FENCE and SWAP_TABLE, the
states of a table, INIT, and what the table engine does in a fabric cycle. -/

namespace Sys2Proof.Machine

open Sys2Proof

/-! ### WALK (R251) -/

/-- What an access of a walk leads to. -/
inductive WalkStep where
  /-- the walk goes on -/
  | go (w : Walk)
  /-- it completes with a code -/
  | fin (code : Nat) (w : Walk) (ended : Bool)
  /-- the DRAM holds it -/
  | wait
deriving DecidableEq, Repr

/-- CURSOR of a walk that stops at its position (R251). -/
def Walk.cursor (w : Walk) (ended : Bool) : Nat := w.pos + (if w.lay then 2 ^ 24 else 0) + (if ended then 2 ^ 25 else 0)

/-- A walk goes past n positions: the lay-by phase follows the last bucket, and lay-by entry 4,095 ends it (R251). -/
def Walk.pass (w : Walk) (buckets n now : Nat) : WalkStep :=
  let p := w.pos + n
  let w := { w with left := w.left - n, next := now + n }
  let on := fun (w : Walk) => if w.left = 0 then WalkStep.fin cDONE w false else .go w
  if w.lay then if 4096 ≤ p then .fin cDONE { w with pos := 0 } true else on { w with pos := p }
  else if 4 * buckets ≤ p then on { w with pos := 0, lay := true }
  else on { w with pos := p }

/-- A valid entry of the walk's body is written as a record; CLEAR_HIT clears its HIT by the write given (R248, R251). -/
def State.walkRecord (s : State) (d src out : Nat) (clear : Bool) (w : Walk) (e : List Word) (write : State → State) :
    State × Walk :=
  if entValid e && entBody e = w.body then
    let s := if s.reach d src then s.emit (.hostWrite src (out + 64 * w.recs) (slotBytes e)) else s
    let s := s.count d ctrTBL 14
    (if clear && entHit e then write s else s, { w with recs := w.recs + 1 })
  else (s, w)

/-- A lay-by position of a walk. -/
def State.walkLay (s : State) (d src out : Nat) (clear : Bool) (w : Walk) : State × WalkStep :=
  let n := s.bodySize d w.body
  let s := (List.range 8).foldl (fun s i => s.readUnit d 6 0 (w.pos * 8 + i) true) s
  if (s.die d).tbl.layPoison.contains w.pos then (s, .fin cPOISON w false)
  else match sget (s.die d).tbl.layby w.pos with
    | none => (s, w.pass n 1 s.now)
    | some e =>
      let (s, w) := s.walkRecord d src out clear w e.words fun s =>
        s.layWrite d w.pos e.home (some (entSetHit e.words false))
      (s, w.pass n 1 s.now)

/-- The access of a walk to a bucket: its slots from the walk's position on, as far as COUNT goes, are read together (R250,
R251). -/
def State.walkBucket (s : State) (d src out : Nat) (clear : Bool) (w : Walk) : State × WalkStep :=
  let bucket := s.bodyBase d w.body + w.pos / 4
  let k := min w.left (4 - w.pos % 4)
  match s.bucketRead d w.body bucket false with
  | (s, none) => (s, .wait)
  | (s, some (_, true)) => (s, .fin cPOISON { w with pos := w.pos / 4 * 4 } false)
  | (s, some (slots, false)) =>
    let r := (List.range k).foldl (fun (r : State × Walk × List (List Word)) i =>
      let (s, v, slots) := r
      let at_ := w.pos % 4 + i
      let e := slots.getD at_ []
      let e' := entSetHit e false
      let (s, v) := s.walkRecord d src out clear v e fun s => s.slotWrite d w.body bucket slots at_ e'
      (s, v, if clear && entHit e && entValid e && entBody e = w.body then slots.set at_ e' else slots)) (s, w, slots)
    let (s, v, _) := r
    (s, match v.pass (s.bodySize d w.body) k s.now with
      | .go v => .go { v with next := if s.bodyLoc d w.body = 2 then s.now + 1 else v.next }
      | x => x)

/-- The next positions of a walk. Under INIT every position finds no entry (R246); a body that breaks its limits ends the walk
(R240). -/
def State.walkNext (s : State) (d src out : Nat) (clear : Bool) (w : Walk) : State × WalkStep :=
  let n := s.bodySize d w.body
  if s.bodyLoc d w.body = 0 || !s.bodyFits d w.body then (s, .fin cDONE w true)
  else if !w.lay && 4 * n ≤ w.pos then (s, .go { w with pos := 0, lay := true })
  else if (s.die d).tbl.init = some w.body then
    (s, w.pass n (if w.lay then 1 else min w.left (4 - w.pos % 4)) s.now)
  else if w.lay then s.walkLay d src out clear w
  else s.walkBucket d src out clear w

/-- C1 of a walk that completes (R249). -/
def Walk.c1 (w : Walk) (ended : Bool) : Nat := w.cursor ended + w.recs * 2 ^ 32

/-! ### What a command's application leads to (R250, R258) -/

/-- What a command's application on a die leads to. -/
inductive TblStep where
  /-- the DRAM holds it: try again -/
  | wait
  /-- it completes with code, C0 bits and C1 -/
  | fin (code c0 c1 : Nat)
  /-- it has started and completes by a later event (WALK, FENCE, SWAP_TABLE) -/
  | begun (c : RCmd)
deriving DecidableEq, Repr

/-- WALK starts on a die (R251): it keeps the body that its table maps now. -/
def State.walkStart (s : State) (d : Nat) (active : Bool) (c : RCmd) : State × TblStep :=
  let t := bits c.d0 8 6
  let b := s.bodyOf d t
  let cur := bits c.d2 0 26
  if s.bodyLoc d b = 0 || (bit c.d0 28 && !active) then (s.tblTally d cSTATE t b 7 0 false, .fin cSTATE 0 0)
  else if bits c.d2 32 16 = 0 || bit cur 25 then (s, .fin cDONE 0 cur)
  else if !s.bodyFits d b then (s, .fin cDONE 0 (putBit cur 25 true))
  else
    let lay := bit cur 24 || 4 * s.bodySize d b ≤ bits cur 0 24
    let pos := if bit cur 24 then bits cur 0 12 else if lay then 0 else bits cur 0 24
    (s, .begun { c with started := true, since := s.now
                        walk := some { body := b, pos := pos, lay := lay, left := bits c.d2 32 16, next := s.now } })

/-- Apply a well-formed ring command of die `src` on die d (R250, R258): `active`, its tables were ACTIVE when it came; `order`,
when that was. -/
def State.tblApply (s : State) (d src order : Nat) (active : Bool) (c : RCmd) : State × TblStep :=
  let t := bits c.d0 8 6
  let op := c.op
  if op ≤ 6 then
    match s.tblRun d op t (bits c.d0 24 4) (argWords c 0 4) (argWords c 4 3) false active with
    | (s, none) => (s, .wait)
    | (s, some o) =>
      let s := if o.out.isEmpty then s else s.emit (.hostWrite src (c.d1 + 32) (slotBytes o.out))
      (s, .fin o.code (if o.lay then 2 ^ 11 else 0) (o.bucket % 2 ^ 22))
  else if op = 7 then s.walkStart d active c
  else if op = 8 then
    let waits := ((s.die d).delayed.filter fun e => e.target = 2 && e.src < 1000).map fun e => (e.src, e.item)
    (s.modTbl d fun x => { x with fences := x.fences ++ [{ src := src, tag := c.tag, waits := waits }] },
      .begun { c with started := true, since := s.now })
  else if s.bodyLoc d (s.bodyOf d t) = 0 || !active then
    (s.tblTally d cSTATE t (s.bodyOf d t) 9 0 false, .fin cSTATE 0 0)
  else (s, .begun { c with started := true, since := order })

/-- A ring command of a source takes its access point if its pipe grants it (R243). -/
def State.tblAccess (s : State) (d src from_ : Nat) (c : RCmd) : State × TblStep :=
  let s := s.tblNote d
  match s.tblReq d src c.order with
  | none => (s, .wait)
  | some r =>
    let w := s.noteOf d r
    match s.pipeGate d src c.order with
    | (s, false) => (s, .wait)
    | (s, true) => (s.pipeTake d src c.order).tblApply d from_ w.order (w.active || r.active) c

/-- Forward a command to the other dies it names; an unreachable die gets a completion with STATE, which the engine counts (R258,
R264). -/
def State.tblForward (s : State) (d : Nat) (c : RCmd) : State :=
  let t := bits c.d0 8 6
  ((c.dies d).filter (· ≠ d)).foldl (fun s x =>
    if s.reach d x then s.modDie x fun y => { y with replicas := y.replicas ++ [(d, c)] }
    else (s.tblTally d cSTATE t (s.bodyOf d t) c.op 0 false).post d 0 x cSTATE c.tag 0 0) s

/-- Run the table command at the head of ring 0 if it is the one named. -/
def State.tblCommand (s : State) (d op : Nat) : State :=
  match s.ringCmd d 0 with
  | some c =>
    if c.op = op && !c.started then
      if !s.tblFormed d c then s.tblEnd d c cMALFORMED 0 0
      else if (c.dies d).contains d then
        match s.tblAccess d 14 d c with
        | (s, .wait) => s
        | (s, .fin code c0 c1) => (s.tblForward d c).tblEnd d c code c0 c1
        | (s, .begun c') => (s.tblForward d c).ringSet d 0 c'
      else ((s.tblForward d c).ringPop d 0).tblSkip d (s.ring d 0).cmds.length
    else s
  | none => s

/-- LOOKUP (R250). -/
def execLookup (d : Nat) (s : State) : Res := onDie s d fun s => s.tblCommand d 1

/-- INSERT (R239). -/
def execInsert (d : Nat) (s : State) : Res := onDie s d fun s => s.tblCommand d 2

/-- UPDATE (R250). -/
def execUpdate (d : Nat) (s : State) : Res := onDie s d fun s => s.tblCommand d 3

/-- DELETE (R250). -/
def execDelete (d : Nat) (s : State) : Res := onDie s d fun s => s.tblCommand d 4

/-- DELETE_IF_IDLE (R250, R257). -/
def execDeleteIfIdle (d : Nat) (s : State) : Res := onDie s d fun s => s.tblCommand d 5

/-- READ_CLEAR_HIT (R250). -/
def execReadClearHit (d : Nat) (s : State) : Res := onDie s d fun s => s.tblCommand d 6

/-- WALK (R251): its accesses follow in the fabric cycles. -/
def execWalk (d : Nat) (s : State) : Res := onDie s d fun s => s.tblCommand d 7

/-- FENCE (R253). -/
def execFence (d : Nat) (s : State) : Res := onDie s d fun s => s.tblCommand d 8

/-- SWAP_TABLE (R254). -/
def execSwapTable (d : Nat) (s : State) : Res := onDie s d fun s => s.tblCommand d 9

/-! ### Replicas and commands that have begun (R253, R254, R258) -/

/-- Replace the first replica of a source by another, or remove it. -/
def setReplica (src : Nat) (c : Option RCmd) : List (Nat × RCmd) → List (Nat × RCmd)
  | [] => []
  | p :: ps => if p.1 = src then (match c with | some c => (src, c) :: ps | none => ps) else p :: setReplica src c ps

/-- REPLICA_COMMAND: a command that another die's ring forwarded is applied, in that ring's order, and its completion posted
there; register transactions are held during a reroute (R39, R258). -/
def execReplicaCommand (d : Nat) (s : State) : Res :=
  onDie s d fun s =>
    match readyReplica [] (s.die d).replicas with
    | none => s
    | some (src, c) =>
      if s.routeHeld src d || s.routeHeld d src then s
      else
        let (s, go) := s.delayGate src 0 (100 + d) (c.tag + 2 ^ 32 * c.op)
        if !go then s
        else match s.tblAccess d 15 src c with
          | (s, .wait) => s
          | (s, .fin code c0 c1) =>
            (s.modDie d fun x => { x with replicas := setReplica src none x.replicas }).tblPost d src c code c0 c1
          | (s, .begun c') => s.modDie d fun x => { x with replicas := setReplica src (some c') x.replicas }

/-- A command of die `src` that began on die d ends: at the head of the ring, or among the replicas. -/
def State.begunEnd (s : State) (d src : Nat) (c : RCmd) (code c1 : Nat) : State :=
  if src = d then s.tblEnd d c code 0 c1
  else (s.modDie d fun x => { x with replicas := setReplica src none x.replicas }).tblPost d src c code 0 c1

/-- A command of die `src` that began on die d goes on. -/
def State.begunSet (s : State) (d src : Nat) (c : RCmd) : State :=
  if src = d then s.ringSet d 0 c else s.modDie d fun x => { x with replicas := setReplica src (some c) x.replicas }

/-- The commands that have begun on a die, with the ring they came from. -/
def State.begunAll (s : State) (d : Nat) : List (Nat × RCmd) :=
  ((((s.ring d 0).cmds.take 1).map fun c => (d, c)) ++ (s.die d).replicas).filter fun p => p.2.started

/-- The first command of a code that has begun on a die. -/
def State.begun (s : State) (d op : Nat) (ok : Nat → RCmd → Bool) : Option (Nat × RCmd) :=
  (s.begunAll d).find? fun p => p.2.op = op && ok p.1 p.2

/-- FENCE_COMPLETE: every result whose access point came before the fence has been delivered (R253). -/
def execFenceComplete (d : Nat) (s : State) : Res :=
  onDie s d fun s =>
    let clear := fun (f : Fence) => f.waits.all fun w =>
      !(s.die d).delayed.any fun e => e.target = 2 && e.src = w.1 && e.item = w.2
    match (s.die d).tbl.fences.find? clear with
    | none => s
    | some f =>
      match s.begun d 8 fun src c => src = f.src && c.tag = f.tag with
      | none => s
      | some (src, c) =>
        ((s.modTbl d fun x => { x with fences := x.fences.erase f }).begunEnd d src c cDONE 0).count d ctrTBL 13

/-- SWAP_ACCESS_POINT: once every earlier lookup and command of both tables has taken its access point, the swap exchanges the
bodies (R254). -/
def execSwapAccessPoint (d : Nat) (s : State) : Res :=
  onDie s d fun s =>
    match s.begun d 9 fun _ c => !(s.tblReqs d).any (s.beforeSwap d c) with
    | none => s
    | some (src, c) =>
      let t := bits c.d0 8 6
      let u := bits c.d2 0 6
      let bt := s.bodyOf d t
      let bu := s.bodyOf d u
      (((s.setFld d .tblTabCtl [t] 8 6 bu).setFld d .tblTabCtl [u] 8 6 bt).begunEnd d src c cDONE 0).count d ctrTBL 12

/-- The first item of a list that may go, and the list with it marked as released. -/
def releaseFirst (now : Nat) : List Delayed → Option Delayed × List Delayed
  | [] => (none, [])
  | e :: es =>
    if !e.gone && e.until_ ≤ now then (some e, { e with gone := true } :: es)
    else let r := releaseFirst now es; (r.1, e :: r.2)

/-- DELAYED_ITEM_RELEASE: the delay of the die's oldest item that is due ends (R448). A table completion is posted; any
other item goes at its own event. -/
def execDelayedItemRelease (d : Nat) (s : State) : Res :=
  onDie s d fun s =>
    match releaseFirst s.now (s.die d).delayed with
    | (none, _) => s
    | (some e, l) =>
      match e.data with
      | [0, src, die, code, tag, c0, c1] => (s.dropItem d e).tblSend die src code tag c0 c1
      | _ => s.modDie d fun x => { x with delayed := l }

/-! ### The WALKs in a fabric cycle (R250, R251) -/

/-- The source of R243 at which a ring's command is a request: the die's own ring, or the replica input. -/
def cmdSource (d src : Nat) : Nat := if src = d then 14 else 15

/-- A WALK under way makes its next access if its time has come and its pipe grants it. -/
def State.walkCycle (s : State) (d : Nat) (p : Nat × RCmd) : State :=
  match p.2.walk with
  | none => s
  | some w =>
    if s.now < w.next then s
    else match s.pipeGate d (cmdSource d p.1) p.2.order with
      | (s, false) => s
      | (s, true) =>
        let t := bits p.2.d0 8 6
        let taken := s.pipeTake d (cmdSource d p.1) p.2.order
        match taken.walkNext d p.1 p.2.d3 (bit p.2.d0 28) w with
        | (s, .wait) => s
        | (s, .go w) => s.begunSet d p.1 { p.2 with walk := some w }
        | (s, .fin code w ended) =>
          let bucket := if w.lay then 0 else s.bodyBase d w.body + w.pos / 4
          (s.tblTally d code t w.body 7 bucket false).begunEnd d p.1 p.2 code (w.c1 ended)

/-- The WALKs of a die in a fabric cycle. -/
def State.walkTick (s : State) (d : Nat) : State := (s.begunAll d).foldl (fun s p => s.walkCycle d p) s

/-! ### Table states (R244, R245) -/

/-- A write of TAB_CTL: ACTIVE is refused when the body breaks its limits or is under INIT; commands that have reached the engine
complete under ACTIVE rules (R245). -/
def State.tabCtlWrite (s : State) (d t v : Nat) : State :=
  let b := s.bodyOf d t
  if !bit v 0 then (s.tblNote d).setFld d .tblTabCtl [t] 0 1 0
  else if s.tabActive d t then s
  else if s.bodyFits d b && (s.die d).tbl.init ≠ some b then s.setFld d .tblTabCtl [t] 0 1 1
  else s.violation d

/-- TABLE_ACTIVATE: a write of TAB_CTL that sets ACTIVE (R245). -/
def execTableActivate (d t : Nat) (s : State) : Res :=
  onHost s d (t < 64) fun s => s.tabCtlWrite d t 1

/-- TABLE_FREEZE: a write of TAB_CTL that sets FROZEN (R245). -/
def execTableFreeze (d t : Nat) (s : State) : Res :=
  onHost s d (t < 64) fun s => s.tabCtlWrite d t 0

/-! ### INIT (R246) -/

/-- A write of TBL.INIT (R246). -/
def State.initWrite (s : State) (d v : Nat) : State :=
  let b := bits v 0 6
  if !bit v 31 then s
  else if (s.die d).tbl.init.isSome || s.bodyActive d b then s.violation d
  else s.modDie d fun x =>
    let mine := (x.tbl.layby.filter fun p => entBody p.2.words = b).map (·.1)
    let x := mine.foldl (fun x n => x.freshLay n) x
    { x with tbl := { x.tbl with
      init := some b, initPos := 0, lastInit := b
      layby := x.tbl.layby.filter fun p => !mine.contains p.1
      layPoison := x.tbl.layPoison.filter fun n => !mine.contains n } }

/-- INIT_START: a write of TBL.INIT with GO = 1 (R246). -/
def execInitStart (d b : Nat) (s : State) : Res :=
  onHost s d (b < 64) fun s => s.initWrite d (b + 2 ^ 31)

/-- The on-chip slots that INIT rewrites: invalid, of the body, or poisoned (R246). -/
def Tables.initSlot (t : Tables) (b k : Nat) : Bool :=
  let e := (List.range 8).map fun j => sgetD t.store (8 * k + j) 0
  !entValid e || entBody e = b || (List.range 8).any fun j => t.poison.contains (8 * k + j)

/-- INIT of an on-chip bucket: every such slot is written invalid with fresh check bits. A slot that holds nothing, has no poison
and no inverted bit is already what INIT writes. -/
def Die.initChip (x : Die) (b bucket : Nat) : Die :=
  let t := x.tbl
  let hit := fun u => u / 32 = bucket && t.initSlot b (u / 8)
  let key := fun k => k / 2 ^ 28 = 5 * 16 && hit (k % 2 ^ 28)
  { x with
    dmg := x.dmg.filter fun p => !key p.1
    wback := x.wback.filter fun k => !key k
    tbl := { t with store := t.store.filter fun p => !hit p.1, poison := t.poison.filter fun u => !hit u } }

/-- INIT of a DRAM bucket: the granule is rewritten whole; none while the DRAM holds its read. -/
def State.initGranule (s : State) (d b bucket : Nat) : Option State :=
  match s.bucketRead d b bucket false with
  | (_, none) => none
  | (s, some (slots, p)) =>
    let slots := slots.map fun e => if p || !entValid e || entBody e = b then List.replicate 8 0 else e
    some (s.dramStore d (s.bucketAddr d b bucket) (natLE 128 (dramPack slots)))

/-- The buckets that INIT of a body rewrites. -/
def State.initSize (s : State) (d b : Nat) : Nat := if s.bodyLoc d b = 0 || !s.bodyFits d b then 0 else s.bodySize d b

/-- INIT rewrites its next bucket, in a pipe cycle that no access has claimed, or of the DRAM when it answers (R246). -/
def State.initNext (s : State) (d b : Nat) : State :=
  let pos := (s.die d).tbl.initPos
  let bucket := s.bodyBase d b + pos
  if s.initSize d b ≤ pos then s
  else
    let on := fun (s : State) => s.modTbl d fun t => { t with initPos := pos + 1 }
    if s.bodyLoc d b = 1 then
      if (s.pipeOf d (bucket % 4)).at_ = some s.now then s
      else on (s.modDie d fun x => x.initChip b bucket)
    else if (s.pipeOf d (bucket % 4)).at_ = some s.now then s
    else if s.dramHolds d (s.bucketAddr d b bucket) false then s.dramTouch d (some (s.bucketAddr d b bucket / 128))
    else match s.initGranule d b bucket with
      | some s => on s
      | none => s

/-- INIT in a fabric cycle: at most 4 on-chip buckets, one in each pipe; or a DRAM bucket, whose read and write are two of the
channel's 400 M transfers per second, every 5 cycles (R242, R246). -/
def State.initTick (s : State) (d : Nat) : State :=
  match (s.die d).tbl.init with
  | none => s
  | some b =>
    if s.bodyLoc d b = 1 then (List.range 4).foldl (fun s _ => s.initNext d b) s
    else if s.now % 5 = 0 then s.initNext d b
    else s

/-- INIT_COMPLETE: INIT has rewritten the slots of the body's range and BUSY clears (R246). -/
def execInitComplete (d : Nat) (s : State) : Res :=
  onDie s d fun s =>
    match (s.die d).tbl.init with
    | some b => if s.initSize d b ≤ (s.die d).tbl.initPos then s.modTbl d fun t => { t with init := none } else s
    | none => s

/-! ### The table engine in a fabric cycle -/

/-- The table engine of a die in a fabric cycle: the WALKs and INIT make their accesses, the clusters' ports grant, and the
requests that have come are noted. -/
def State.tblCycle (s : State) (d : Nat) : State := (((s.walkTick d).initTick d).portGrants d).tblNote d

end Sys2Proof.Machine
end

