-- ==== Sys2Proof/Machine/HostWrite.lean ====
section
/-! DEFINITION. What a host write of a register does (R9, R10, R375, R378, R380): every register's own rule, block by block,
and the plain rule of the access codes for the rest. -/

namespace Sys2Proof.Machine

open Sys2Proof

/-! ### The plain rule -/

/-- Set the RW fields of a register. -/
def State.setRW (s : State) (d : Nat) (r : RegId) (ix : List Nat) (v : Nat) : State :=
  let rw := (regRow r).rw
  let old := s.reg d r ix
  s.setReg d r ix (old - (old &&& rw) + (v &&& rw))

/-- Clear the W1C bits that a write names. -/
def State.clearW1c (s : State) (d : Nat) (r : RegId) (ix : List Nat) (v : Nat) : State :=
  let old := s.reg d r ix
  s.setReg d r ix (old - (old &&& v &&& (regRow r).w1c))

/-- The plain effect of a write by the access codes (R9). -/
def State.plainWrite (s : State) (d : Nat) (r : RegId) (ix : List Nat) (v : Nat) : State :=
  (s.setRW d r ix v).clearW1c d r ix v

/-- A write that a present state forbids: a violation unless it changes nothing (R10). -/
def State.guardedWrite (s : State) (d : Nat) (ok : Bool) (r : RegId) (ix : List Nat) (v : Nat) : State :=
  if ok || v &&& (regRow r).rw = s.reg d r ix &&& (regRow r).rw then s.setRW d r ix v else s.violation d

/-! ### Events (R380) -/

/-- The block whose EVENT register this is. -/
def eventBlock (r : RegId) : Option EvBlock :=
  [EvBlock.dsp, .tbl, .mls, .dmc, .ecc, .twx, .hlp, .egr, .tly, .grt, .ans, .dctl].find? fun b => (evRegs b).1 = r

/-- The block whose EVENT_EN register this is. -/
def enableBlock (r : RegId) : Option EvBlock :=
  [EvBlock.dsp, .tbl, .mls, .dmc, .ecc, .twx, .hlp, .egr, .tly, .grt, .ans, .dctl].find? fun b => (evRegs b).2 = r

/-- A W1C write of a block's EVENT clears bits, and the source's condition is tested again (R380). -/
def State.eventClear (s : State) (d : Nat) (b : EvBlock) (v : Nat) : State :=
  (s.clearW1c d (evRegs b).1 [] v).retest d (evSource b)

/-- EVENT and EVENT_EN registers. -/
def State.storeEvent (s : State) (d : Nat) (r : RegId) (v : Nat) : Option State :=
  match eventBlock r with
  | some b => some (s.eventClear d b v)
  | none => match enableBlock r with
    | some b => some (s.watch d (evSource b) fun s => s.setRW d r [] v)
    | none => none

/-- A write of CORE_EVENT: its W1C bits, whose clearing tests the condition again, and its enables. -/
def State.coreEventWrite (s : State) (d : Nat) (ix : List Nat) (v : Nat) : State :=
  if bits v 0 4 ≠ 0 then (s.plainWrite d .cluCoreEvent ix v).retest d 10
  else s.watch d 10 fun s => s.plainWrite d .cluCoreEvent ix v

/-! ### Data slots -/

/-- Store a graph-store word with fresh check bits. -/
def State.gsPut (s : State) (d u v : Nat) : State :=
  s.modDie d fun x => { x.freshUnit 8 0 u with
    dsp := { x.dsp with gstore := sset x.dsp.gstore u (w36 v), gsPoison := unmark x.dsp.gsPoison u } }

/-- Store an instruction word with fresh check bits. -/
def State.isPut (s : State) (d cl a v : Nat) : State :=
  s.modDie d fun x => { x.freshUnit 3 cl a with istore := sset x.istore (cl * 65536 + a) (w36 v) }

/-- A write of DSP.GS_DATA (R84, R88): a violation when it would change a word of an enabled graph; words 264 to 511
ignore it; WORD advances. -/
def State.gsDataWrite (s : State) (d v : Nat) : State :=
  let a := s.reg d .dspGsAddr []
  let u := bits a 9 8 * 264 + bits a 0 9
  let next := fun (s : State) => s.setFld d .dspGsAddr [] 0 9 (bits a 0 9 + 1)
  if 264 ≤ bits a 0 9 then next s
  else if s.graphOn d (bits a 9 8) then (if v = s.gsData d then next s else s.violation d)
  else next (s.gsPut d u v)

/-- A write of CLU.IS_DATA: only while all four cores of the cluster are STOPPED. -/
def State.isDataWrite (s : State) (d cl v : Nat) : State :=
  let a := s.fld d .cluIsAddr [cl] 0 16
  let next := fun (s : State) => s.setReg d .cluIsAddr [cl] ((a + 1) % 2 ^ 16)
  if (List.range 4).all fun c => (s.core d (cl * 4 + c)).run = .stopped then
    next (s.isPut d cl a v)
  else if v = s.isData d cl then next s
  else s.violation d

/-- A write of CLU.CS_DATA: the word, without poison. -/
def State.csDataWrite (s : State) (d cl v : Nat) : State :=
  let a := s.fld d .cluCsAddr [cl] 0 18
  (s.csWrite d cl a (w36 v) false).setReg d .cluCsAddr [cl] ((a + 1) % 2 ^ 18)

/-- A write of FLC.CTX_DATA, between commits (R263). -/
def State.ctxDataWrite (s : State) (d v : Nat) : State :=
  let a := s.reg d .flcCtxAddr []
  ((s.ctxPut d (bits a 0 18 * 16 + bits a 18 4) (w36 v)).count d ctrFLC 2).setReg d .flcCtxAddr [] (nextCtx a)

/-- A write of DCTL.JRN_DATA: only in the owner area (R422). -/
def State.jrnDataWrite (s : State) (v : Nat) : State :=
  let a := s.fld 0 .dctlJrnAddr [] 0 18
  if a < 131072 && w36 v ≠ s.mramWord a then s.violation 0
  else
    let s := if a < 131072 then s else { s with mram := sset s.mram a (w36 v) }
    s.setReg 0 .dctlJrnAddr [] ((a + 1) % 2 ^ 18)

/-! ### Registers with rules of their own -/

/-- HOP, MAC and TGP. -/
def State.storeHop (s : State) (d v : Nat) : RegId → List Nat → Option State
  | .twxLinkCtl, [k] => some (s.linkCtlWrite d k v)
  | .hopSelMatch, [e] => some (s.selMatchWrite d e v)
  | .hopSelAct, [e] => some (s.selActWrite d e v)
  | .hopProfCtl, [p] => some (s.profCtlWrite d p v)
  | .hopProfGraph, [p] => some (s.profWrite d p .hopProfGraph [p] (bits v 0 8))
  | .hopProfSeed, [p] => some (s.profWrite d p .hopProfSeed [p] v)
  | .hopProfFld, [p, f] => some (s.profWrite d p .hopProfFld [p, f] (bits v 0 31))
  | .hopFp, [i] => some ((s.setRW d .hopFp [i] v).modDie d fun x => x.freshUnit 9 0 (cfgFinger i))
  | .macPcfg, [p] => some (s.macPortConfig d p v)
  | .macFrm, [p] =>
    let max := if 64 ≤ bits v 0 14 && bits v 0 14 ≤ 16000 then bits v 0 14 else s.fld d .macFrm [p] 0 14
    some (s.setReg d .macFrm [p] (max + bits v 16 16 * 2 ^ 16))
  | .tgpCfg, [t] => some (s.tgpCfgWrite d t v)
  | .tgpRate, [t] => some (s.tgpRateWrite d t v)
  | .tgpGap, [t] => some (s.tgpGapWrite d t v)
  | _, _ => none

/-- Operations that had no helper look for one after a write of a group's cores (R94, R100). -/
def State.placeHelpers (s : State) (d : Nat) : State :=
  let wait := (s.die d).dsp.ops.filter fun p => p.2.st = .engine && p.2.kind = 2 && p.2.helper.isNone
  wait.foldl (fun s p => s.helperPlace d p.1) s

/-- A write of CLU_CFG.PAIR: both cores of a pair that changes must be STOPPED (R149). -/
def State.pairWrite (s : State) (d cl v : Nat) : State :=
  let old := s.reg d .cluCfg [cl]
  let ok := (List.range 2).all fun k => bit v k = bit old k ||
    ((s.core d (cl * 4 + 2 * k)).run = .stopped && (s.core d (cl * 4 + 2 * k + 1)).run = .stopped)
  if ok then s.setRW d .cluCfg [cl] v else s.violation d

/-- DSP, CLU. -/
def State.storeCore (s : State) (d v : Nat) : RegId → List Nat → Option State
  | .dspGroupLo, ix => some ((s.setRW d .dspGroupLo ix v).placeHelpers d)
  | .dspGroupHi, ix => some ((s.setRW d .dspGroupHi ix v).placeHelpers d)
  | .dspGraphCtl, [g] => some (s.graphCtlWrite d g v)
  | .dspGsData, _ => some (s.gsDataWrite d v)
  | .cluCfg, [cl] => some (s.pairWrite d cl v)
  | .cluCoreCfg, [cl, c] =>
    let stopped := (s.core d (cl * 4 + c)).run = .stopped
    some (if stopped || bit v 0 = bit (s.reg d .cluCoreCfg [cl, c]) 0 then s.setRW d .cluCoreCfg [cl, c] v else s.violation d)
  | .cluCoreEvent, ix => some (s.coreEventWrite d ix v)
  | .cluThreadMap, [cl, c, w] =>
    some (s.guardedWrite d ((s.core d (cl * 4 + c)).run = .stopped) .cluThreadMap [cl, c, w] v)
  | .cluIsData, [cl] => some (s.isDataWrite d cl v)
  | .cluCsData, [cl] => some (s.csDataWrite d cl v)
  | _, _ => none

/-- TBL, FLC. -/
def State.storeTbl (s : State) (d v : Nat) : RegId → List Nat → Option State
  | .tblTabCtl, [t] => some (s.tabCtlWrite d t v)
  | .tblTabCls, [t] => some (s.guardedWrite d (!s.tabActive d t) .tblTabCls [t] v)
  | .tblBodyBase, [b] => some (s.guardedWrite d (!s.bodyActive d b) .tblBodyBase [b] v)
  | .tblBodyCfg, [b] => some (s.guardedWrite d (!s.bodyActive d b) .tblBodyCfg [b] v)
  | .tblBodySeed, [b] => some (s.guardedWrite d (!s.bodyActive d b) .tblBodySeed [b] v)
  | .tblBodyDram, [b] => some (s.guardedWrite d (!s.bodyActive d b) .tblBodyDram [b] v)
  | .tblInit, _ => some (s.initWrite d v)
  | .flcCtxData, _ => some (s.ctxDataWrite d v)
  | _, _ => none

/-- MLS. -/
def State.storeMls (s : State) (d v : Nat) : RegId → List Nat → Option State
  | .mlsInputCfg, [i] => some (s.inputCfgWrite i v)
  | .mlsAxisCfg, [i] => some (s.axisCfgWrite (i + 1) v)
  | .mlsAxisFrac, [i] => some (s.axisRegWrite (i + 1) .mlsAxisFrac (bits v 0 12))
  | .mlsAxisStep, [i] => some (s.axisRegWrite (i + 1) .mlsAxisStep (bits v 0 36))
  | .mlsAxisInit, [i] => some (s.axisRegWrite (i + 1) .mlsAxisInit (bits v 0 36))
  | .mlsAxisRef, [i] => some (s.axisRegWrite (i + 1) .mlsAxisRef (bits v 0 36))
  | .mlsCapInfo, _ => some (if bit v 31 then s.modMls d fun m => { m with caps := m.caps.drop 1 } else s)
  | _, _ => none

/-- A write of a queue's shape: the tokens gained so far stay (R312). -/
def State.shapeWrite (s : State) (d q v : Nat) : State :=
  (s.setQueue d q { s.queue d q with tokens := s.tokens d q, tokAt := s.now }).setRW d .egrQShape [q] v

/-- EGR. -/
def State.storeEgr (s : State) (d v : Nat) : RegId → List Nat → Option State
  | .egrQCfg, [q] => some (s.qCfgWrite d q v)
  | .egrQShape, [q] => some (s.shapeWrite d q v)
  | .egrMgate, [p] => some (s.mgateWrite d p v)
  | .egrSpill, _ => some (s.guardedWrite d (!(s.die d).egr.queues.any fun p => p.2.spilling) .egrSpill [] v)
  | .egrGlData, _ => some (s.glDataWrite d v)
  | .egrGlCfg, [pp, l] => some (s.glCfgWrite d pp l v)
  | .egrGlInit, [pp, l] => some (s.glRegWrite d pp l .egrGlInit (bits v 0 16))
  | .egrGlBaseLo, [pp, l] => some (s.glRegWrite d pp l .egrGlBaseLo (bits v 0 36))
  | .egrGlBaseHi, [pp, l] => some (s.glRegWrite d pp l .egrGlBaseHi (bits v 0 36))
  | .egrGlCycle, [pp, l] => some (s.glRegWrite d pp l .egrGlCycle (bits v 0 36))
  | .egrGlEndLo, [pp, l] => some (s.glRegWrite d pp l .egrGlEndLo (bits v 0 36))
  | .egrGlEndHi, [pp, l] => some (s.glRegWrite d pp l .egrGlEndHi (bits v 0 36))
  | _, _ => none

/-- A write of DMC.CTL: one that sets TRAIN_GO where R330 forbids it does nothing else; one that sets SR_EN starts the idle
count (R343). -/
def State.dmcCtlWrite (s : State) (d v : Nat) : State :=
  if bit v 0 && s.trainBarred d then s.violation d
  else
    let s := if s.fld d .dmcCtl [] 1 1 = 0 && bit v 1 then s.modDram d fun m => { m with idleSince := s.now } else s
    let s := s.setRW d .dmcCtl [] v
    if bit v 0 then s.trainGo d else s

/-- DMC, ECC. -/
def State.storeDmc (s : State) (d v : Nat) : RegId → List Nat → Option State
  | .dmcCtl, _ => some (s.dmcCtlWrite d v)
  | .dmcGeom, _ => some (s.guardedWrite d (s.dmcOpen d && bits v 0 2 ≠ 3) .dmcGeom [] v)
  | .dmcTiming0, _ => some (s.guardedWrite d (s.dmcOpen d) .dmcTiming0 [] v)
  | .dmcTiming1, _ => some (s.guardedWrite d (s.dmcOpen d) .dmcTiming1 [] v)
  | .dmcMapLo, [i] => some (s.modDie d fun x => { x with lows := sset x.lows (regOff .dmcMapLo [i]) v })
  | .dmcMapHi, [i] => some (s.mapHiWrite d i v)
  | .eccCfg, _ =>
    some (if bit v 0 = bit (s.reg d .eccCfg []) 0 || s.dmcOpen d then s.setRW d .eccCfg [] v else s.violation d)
  | .eccErrHi, _ => some (if bit v 31 then s.modDie d fun x => { x with errRing := x.errRing.drop 1 } else s)
  | _, _ => none

/-- A write of an MSI-X table entry's dword: a vector that is unmasked with its pending bit set sends its message, as the
PCIe specification gives (R380, log entry 20). -/
def State.msixWrite (s : State) (v w x : Nat) : State :=
  let was := bit (s.reg 0 .dctlMsixTable [v, 3]) 0
  let s := s.setReg 0 .dctlMsixTable [v, w] x
  let pba := s.reg 0 .dctlMsixPba [v / 32]
  if w = 3 && was && !bit x 0 && bit pba (v % 32) then
    (s.setReg 0 .dctlMsixPba [v / 32] (putBit pba (v % 32) false)).sendMsix (v / 32) (v % 32)
  else s

/-- A write of DCTL.WMK_CTL: MASTER and RING change only in the chain state IDLE; TIME frames begin an interval later. -/
def State.wmkCtlWrite (s : State) (v : Nat) : State :=
  let old := s.reg 0 .dctlWmkCtl []
  if bits v 0 2 ≠ bits old 0 2 && s.fld 0 .dctlWmkAddr [] 6 2 ≠ 0 then s.violation 0
  else
    let s := s.setRW 0 .dctlWmkCtl [] v
    if bits v 0 1 + bits v 3 8 * 2 = bits old 0 1 + bits old 3 8 * 2 then s
    else { s with wmk := { s.wmk with timeAt := s.now + 1000000 * bits v 3 8 } }

/-- THERM_ALERT_N: low from the level of THERM.ALERT until every die reads 2 °C below it, and while a trip lasts (R478,
R479). -/
def State.thermAlert (s : State) : State :=
  let level : Int := (min 130 (max 60 (s.fld 0 .dctlTherm [] 0 8)) : Nat)
  let temps := ((List.range 8).filter fun d => s.has d && s.fld d .dctlTemp [] 9 1 = 1).map fun d =>
    sext (s.fld d .dctlTemp [] 0 9) 9
  let trip := s.pwr.causes.contains 4
  let on := trip || temps.any (fun t => decide (level ≤ t)) ||
    (s.pwr.alert && (temps.isEmpty || temps.any fun t => decide (level - 2 < t)))
  if on = s.pwr.alert then s
  else (({ s with pwr := { s.pwr with alert := on } }).setFld 0 .dctlTherm [] 8 1 (b1 on)).emit (.thermAlert (!on))

/-- DCTL and the rings (R385 to R392). -/
def State.storeDctl (s : State) (d v : Nat) : RegId → List Nat → Option State
  | .ringDbaseLo, [r] => some (s.ringBaseWrite d r .ringDbaseLo v)
  | .ringDbaseHi, [r] => some (s.ringBaseWrite d r .ringDbaseHi v)
  | .ringCbaseLo, [r] => some (s.ringBaseWrite d r .ringCbaseLo v)
  | .ringCbaseHi, [r] => some (s.ringBaseWrite d r .ringCbaseHi v)
  | .ringCtl, [r] => some (s.ringCtlWrite d r v)
  | .ringCHead, [r] => some (s.cHeadWrite d r v)
  | .htxDbaseLo, _ => some (s.ringBaseWrite d 7 .htxDbaseLo v)
  | .htxDbaseHi, _ => some (s.ringBaseWrite d 7 .htxDbaseHi v)
  | .htxCbaseLo, _ => some (s.ringBaseWrite d 7 .htxCbaseLo v)
  | .htxCbaseHi, _ => some (s.ringBaseWrite d 7 .htxCbaseHi v)
  | .htxCtl, _ => some (s.ringCtlWrite d 7 v)
  | .htxHeadAck, _ => some (s.htxAckWrite d v)
  | .hrxDbaseLo, [h] => some (s.ringBaseWrite d (8 + h) .hrxDbaseLo v)
  | .hrxDbaseHi, [h] => some (s.ringBaseWrite d (8 + h) .hrxDbaseHi v)
  | .hrxCbaseLo, [h] => some (s.ringBaseWrite d (8 + h) .hrxCbaseLo v)
  | .hrxCbaseHi, [h] => some (s.ringBaseWrite d (8 + h) .hrxCbaseHi v)
  | .hrxCtl, [h] => some (s.ringCtlWrite d (8 + h) v)
  | .hrxHeadAck, [h] => some (s.hrxAckWrite d h v)
  | .dctlHqEvent, ix => some ((s.clearW1c d .dctlHqEvent ix v).retest d 8)
  | .dctlMsixTable, [x, w] => some (s.msixWrite x w v)
  | .dctlWmkCtl, _ => some (s.wmkCtlWrite v)
  | .dctlJrnData, _ => some (s.jrnDataWrite v)
  | .dctlTherm, _ => some (s.setRW 0 .dctlTherm [] v).thermAlert
  | _, _ => none

/-- ANS and TLY. -/
def State.storeTly (s : State) (d v : Nat) : RegId → List Nat → Option State
  | .ansCfg, _ => some (s.ansCfgWrite v)
  | .ansPublish, _ => some (s.ansPublishWrite v)
  | .ansHdata, _ => some (s.hdataWrite v)
  | .tlySnapCfg, _ => some (s.snapCfgWrite d v)
  | .tlySnapBaseLo, _ => some (s.lockedReg d (bit (s.reg d .tlySnapCfg []) 0) .tlySnapBaseLo (v &&& 0xFFFFE000))
  | .tlySnapBaseHi, _ => some (s.lockedReg d (bit (s.reg d .tlySnapCfg []) 0) .tlySnapBaseHi v)
  | .tlySnapRing, _ => some (s.lockedReg d (bit (s.reg d .tlySnapCfg []) 0) .tlySnapRing (bits v 0 5))
  | .tlySmpCfg, [c] => some (s.smpCfgWrite d c v)
  | .tlySmpBaseLo, _ => some (s.lockedReg d (bit (s.reg d .tlySmpRing []) 6) .tlySmpBaseLo (v &&& 0xFFFFF000))
  | .tlySmpBaseHi, _ => some (s.lockedReg d (bit (s.reg d .tlySmpRing []) 6) .tlySmpBaseHi v)
  | .tlySmpRing, _ => some (s.smpRingWrite d v)
  | .tlyTagCfg, _ => some (s.tagCfgWrite d v)
  | .tlyChain, [b, w] => some (s.chainWrite d b w v)
  | .tlyZero, _ => some (s.zeroWrite d v)
  | .tlyOvfClr, _ => some (s.ovfWrite d v)
  | _, _ => none

/-- Store a value into a register: its own rule, or the plain one. -/
def State.regStore (s : State) (d : Nat) (r : RegId) (ix : List Nat) (v : Nat) : State :=
  ((s.storeEvent d r v).or <| (s.storeHop d v r ix).or <| (s.storeCore d v r ix).or <| (s.storeTbl d v r ix).or <|
    (s.storeMls d v r ix).or <| (s.storeEgr d v r ix).or <| (s.storeDmc d v r ix).or <| (s.storeDctl d v r ix).or <|
    s.storeTly d v r ix).getD (s.plainWrite d r ix v)

/-- Every field is RO or reserved: a write is a violation (R10). -/
def regAllRO (row : RegRow) : Bool := row.rw = 0 && row.wo = 0 && row.w1c = 0 && row.w1s = 0 && row.rc = 0

/-- The low dword that goes with a slot's high dword: the one held, or else the slot's own (R375). -/
def State.slotLow (s : State) (d : Nat) (r : RegId) (ix : List Nat) : Nat :=
  sgetD (s.die d).lows (regOff r ix) (bits (s.regNow d r ix) 0 32)

/-- Hold the low dword of a slot (R375). -/
def State.holdLow (s : State) (d : Nat) (r : RegId) (ix : List Nat) (v : Nat) : State :=
  s.modDie d fun x => { x with lows := sset x.lows (regOff r ix) v }

/-- A write of a register that exists: a slot's low dword is held, its high dword stores the slot (R375). -/
def State.regWrite (s : State) (d : Nat) (r : RegId) (ix : List Nat) (half v : Nat) : State :=
  if (regRow r).slot && half = 0 then s.holdLow d r ix v
  else if (regRow r).slot then
    let low := s.slotLow d r ix
    (s.modDie d fun x => { x with lows := sdel x.lows (regOff r ix) }).regStore d r ix (low + bits v 0 4 * 2 ^ 32)
  else s.regStore d r ix v

/-- A host write of a dword of a die window (R375, R378, R379). -/
def State.hostWrite (s : State) (d off v : Nat) : State :=
  if !s.reach 0 d then s.violation 8
  else match regFind off with
    | none => s.violation d
    | some (r, ix, half) =>
      if regLacks d r ix || regAllRO (regRow r) then
        (if (regRow r).slot && half = 0 then s else s.violation d)
      else (s.regWrite d r ix half v).settle d

end Sys2Proof.Machine
end

