-- ==== Sys2Proof/Machine/HostAccess.lean ====
section
/-! DEFINITION. Host accesses as commands: register reads and writes through BAR0, data slots, BAR2 (R372 to R379), and the
bolter's SRAM walkers (R364, R367). -/

namespace Sys2Proof.Machine

open Sys2Proof

/-! ### BAR0 (R375 to R379) -/

/-- A host write of a dword with its byte enables: unless all four are set it is a violation and does nothing (R375). -/
def State.barWrite (s : State) (d off v be : Nat) : State :=
  if be = 15 then s.hostWrite d off v else s.violation (if s.reach 0 d then d else 8)

/-- REGISTER_WRITE: a host write of a dword of a die window (R10). -/
def execRegisterWrite (d off : Nat) (v : Dword) (be : BitVec 4) (s : State) : Res :=
  cmd s fun s => s.barWrite d off v.toNat be.toNat

/-- SLOT_LOW_DWORD_WRITE: a write of a slot's low dword is held (R375); `off` is the slot's offset. -/
def execSlotLowDwordWrite (d off : Nat) (v : Dword) (s : State) : Res :=
  cmd s fun s =>
    match regFind off with
    | some (r, _, 0) => if (regRow r).slot then s.hostWrite d off v.toNat else s
    | _ => s

/-- EVENT_W1C_CLEAR: a W1C write of a block's EVENT register (R380); the Answer Port's is absent on dies 1 to 7. -/
def execEventW1cClear (d : Nat) (b : EvBlock) (v : Dword) (s : State) : Res :=
  onHost s d (b ≠ .ans || d = 0) fun s => s.eventClear d b v.toNat

/-- A read that returns its value to the host. -/
def readOut (r : Nat × State) : State := r.2.emit (.readData r.1 false)

/-- CROSS_MAX_READ: a read of TWX.CROSS_MAX clears it (R9). -/
def execCrossMaxRead (d : Nat) (s : State) : Res :=
  onHostRead s d true fun s => readOut (s.regRead d .twxCrossMax [] 0)

/-- WMK_DROPS_READ: a read of DCTL.WMK_STAT clears DROPS (R9). -/
def execWmkDropsRead (s : State) : Res := cmd s fun s => readOut (s.regRead 0 .dctlWmkStat [] 0)

/-- JRN_DROPS_READ: a read of DCTL.JRN_STAT clears DROPS (R9). -/
def execJrnDropsRead (s : State) : Res := cmd s fun s => readOut (s.regRead 0 .dctlJrnStat [] 0)

/-- HOP_REGISTER_READ: a read of the HOP block returns once the frames admitted before it have left the extractor (R72);
until then nothing happens. -/
def execHopRegisterRead (d off : Nat) (s : State) : Res :=
  onHostRead s d true fun s =>
    if 0x10000 ≤ off && off < 0x20000 && (s.die d).hop.admitted.isEmpty then readOut (s.hostRead d off) else s

/-- A read of the HOP block waits for the frames admitted before it (R72). -/
def State.hopWaits (s : State) (d off : Nat) : Bool :=
  0x10000 ≤ off && off < 0x20000 && s.reach 0 d && !(s.die d).hop.admitted.isEmpty

/-- TWIPEX_REGISTER_TRANSACTION: a register access of another die is applied there; `write` gives the dword to write
(R33, R376). A read of the HOP block waits (R72). -/
def execTwipexRegisterTransaction (d off : Nat) (write : Option Dword) (be : BitVec 4) (s : State) : Res :=
  cmd s fun s =>
    if d = 0 then s
    else match write with
      | some v => s.barWrite d off v.toNat be.toNat
      | none =>
        if be.toNat = 15 then (if s.hopWaits d off then s else readOut (s.hostRead d off))
        else (s.violation (if s.reach 0 d then d else 8)).emit (.readData 0 false)

/-! ### Data slots: the high half -/

/-- GS_DATA_WRITE: the high half of DSP.GS_DATA is written (R84, R88). -/
def execGsDataWrite (d : Nat) (hi : Dword) (s : State) : Res :=
  onHostS s d true fun s => s.regWrite d .dspGsData [] 4 hi.toNat

/-- IS_DATA_WRITE: the high half of CLU.IS_DATA is written (R166). -/
def execIsDataWrite (d cl : Nat) (hi : Dword) (s : State) : Res :=
  onHostS s d (cl < 12) fun s => s.regWrite d .cluIsData [cl] 4 hi.toNat

/-- IS_DATA_READ: the high half of CLU.IS_DATA is read, and WORD advances (R166). -/
def execIsDataRead (d cl : Nat) (s : State) : Res :=
  onHostRead s d (cl < 12) fun s => (readOut (s.regRead d .cluIsData [cl] 4)).settle d

/-- CS_DATA_WRITE: the high half of CLU.CS_DATA is written (R360). -/
def execCsDataWrite (d cl : Nat) (hi : Dword) (s : State) : Res :=
  onHostS s d (cl < 12) fun s => s.regWrite d .cluCsData [cl] 4 hi.toNat

/-- CS_DATA_READ: the high half of CLU.CS_DATA is read, and WORD advances (R127, R363). -/
def execCsDataRead (d cl : Nat) (s : State) : Res :=
  onHostRead s d (cl < 12) fun s => (readOut (s.regRead d .cluCsData [cl] 4)).settle d

/-- CTX_DATA_WRITE: the high half of FLC.CTX_DATA is written (R263). -/
def execCtxDataWrite (d : Nat) (hi : Dword) (s : State) : Res :=
  onHost s d true fun s => s.regWrite d .flcCtxData [] 4 hi.toNat

/-- CTX_DATA_READ: the high half of FLC.CTX_DATA is read, and the address advances (R263). -/
def execCtxDataRead (d : Nat) (s : State) : Res :=
  onHostRead s d true fun s => readOut (s.regRead d .flcCtxData [] 4)

/-- JRN_DATA_WRITE: the high half of DCTL.JRN_DATA is written (R422). -/
def execJrnDataWrite (hi : Dword) (s : State) : Res := cmd s fun s => s.regWrite 0 .dctlJrnData [] 4 hi.toNat

/-- JRN_DATA_READ: the high half of DCTL.JRN_DATA is read, and WORD advances (R422). -/
def execJrnDataRead (s : State) : Res := cmd s fun s => readOut (s.regRead 0 .dctlJrnData [] 4)

/-- WMK_TIME_READ_LATCH: a read of WMK_TM_LO latches the four halves of the time pair (R407). -/
def execWmkTimeReadLatch (s : State) : Res := cmd s fun s => readOut (s.regRead 0 .dctlWmkTime [0] 0)

/-! ### BAR2 (R363, R374, R377) -/

/-- Local offset of the packet buffer in a die's BAR2 window. -/
def barBuffer : Nat := 2 ^ 37 - 2 ^ 25

/-- The lanes of the packet buffer that a range of bytes touches. -/
def laneRange (at_ n : Nat) : List Nat := (List.range (ceilDiv (at_ % 8 + n) 8)).map (at_ / 8 + ·)

/-- A host read of the packet buffer: poisoned cells read as zeros with EP. -/
def State.bufRead (s : State) (d at_ n : Nat) : State :=
  let s := (laneRange at_ n).foldl (fun s l => s.readUnit d 1 0 l true) s
  let h := (s.die d).hop
  let bad := fun a => h.poison.contains (a / 128)
  let bs := (List.range n).map fun i => if bad (at_ + i) then 0 else Memory.read h.buf (at_ + i)
  let ep := (List.range n).any fun i => bad (at_ + i)
  let s := s.countCells d ((laneRange at_ n).map (· / 16)).eraseDups
  let s := s.emit (.readBytes bs ep)
  if ep then (s.count d ctrECC 13).event d .ecc 6 else s

/-- Read the granules of a range: their bytes, poisoned ones as zeros, and whether one was poisoned. -/
def State.granulesRead (s : State) (d : Nat) : List Nat → State × List Byte × Bool
  | [] => (s, [], false)
  | g :: gs =>
    let r := s.dramFetch d (128 * g)
    let x := r.2.getD (List.replicate 128 0, false)
    let rest := r.1.granulesRead d gs
    (rest.1, (if x.2 then List.replicate 128 0 else x.1) ++ rest.2.1, x.2 || rest.2.2)

/-- A host read that the controller holds: its granules wait in the queue, in rising address; one beyond the capacity is a
violation and reads zeros (R325, R329). -/
def State.barHold (s : State) (d a n : Nat) (gs : List Nat) : State :=
  let parts := (gs.zipIdx.filter fun g => !s.dramOk d (128 * g.1)).map fun g => (g.2, (List.replicate 128 (0 : Byte), false))
  let asks : List DramReq := (gs.zipIdx.filter fun g => s.dramOk d (128 * g.1)).map fun g =>
    { who := 0, panic := false, addr := 128 * g.1, bar := some (s.stamps, g.2), at_ := s.now }
  let read : BarRead := { id := s.stamps, off := a % 128, n := n, granules := gs.length, parts := parts }
  let s := { s with stamps := s.stamps + 1 }.modDram d fun m => { m with bars := m.bars ++ [read], queue := m.queue ++ asks }
  if parts.isEmpty then s else s.violation d

/-- A host read of DRAM: served at once, or held until the controller serves all of it (R329). -/
def State.barDramRead (s : State) (d a n : Nat) : State :=
  let gs := (List.range (ceilDiv (a % 128 + n) 128)).map (a / 128 + ·)
  if !s.dramOk d a then (s.violation d).emit (.readBytes (List.replicate n 0) false)
  else if gs.any fun g => (s.dramTouch d).dramHolds d (128 * g) false then (s.dramTouch d).barHold d a n gs
  else
    let r := s.granulesRead d gs
    let s := r.1.emit (.readBytes ((r.2.1.drop (a % 128)).take n) r.2.2)
    if r.2.2 then (s.count d ctrECC 13).event d .ecc 6 else s

/-- BAR2_READ: a host read of n bytes through die 0's endpoint, or through die 1's (R374). -/
def execBar2Read (second : Bool) (x n : Nat) (s : State) : Res :=
  cmd s fun s =>
    let d := x / 2 ^ 37
    let a := x % 2 ^ 37
    if second && !s.hostLive true then s
    else if !s.reach 0 d then (s.violation 8).emit (.readBytes (List.replicate n 0) false)
    else if barBuffer ≤ a then s.bufRead d (a - barBuffer) n
    else s.barDramRead d a n

/-- A host write of the packet buffer: its bytes, with the poison bits as they are (R360, R377). -/
def State.bufWrite (s : State) (d at_ : Nat) (bs : List Byte) : State :=
  let n := bs.length
  let s := (laneRange at_ n).foldl (fun s l =>
    let s := if at_ ≤ 8 * l && 8 * l + 8 ≤ at_ + n then s else s.readUnit d 1 0 l true
    s.modDie d fun x => x.freshUnit 1 0 l) s
  s.modHop d fun h => { h with buf := Memory.writeBytes h.buf at_ bs }

/-- Write bytes to DRAM granule by granule. -/
def State.granulesWrite (s : State) (d : Nat) : Nat → Nat → List Byte → State
  | 0, _, _ => s
  | fuel + 1, a, bs =>
    if bs.isEmpty then s
    else
      let k := 128 - a % 128
      (s.dramStore d a (bs.take k)).granulesWrite d fuel (a + k) (bs.drop k)

/-- BAR2_WRITE: a host write of bytes. -/
def execBar2Write (second : Bool) (x : Nat) (bytes : List Byte) (s : State) : Res :=
  cmd s fun s =>
    let d := x / 2 ^ 37
    let a := x % 2 ^ 37
    if second && !s.hostLive true then s
    else if !s.reach 0 d then s.violation 8
    else if barBuffer ≤ a then s.bufWrite d (a - barBuffer) bytes
    else if !s.dramOk d a then s.violation d
    else s.granulesWrite d 33 a bytes

/-! ### The bolter's SRAM walkers (R364, R367) -/

/-- Units of a store in one cluster or, for a store of the die, in all; and its clusters (R357). -/
def sramUnits (store : Nat) : Nat × Nat :=
  match store with
  | 1 => (262144 * 16, 1)
  | 2 => (262144, 12)
  | 3 => (65536, 12)
  | 4 => (262144 * 16, 1)
  | 5 => (131072 * 32, 1)
  | 6 => (4096 * 8, 1)
  | 7 => (16384 * 48, 1)
  | 8 => (256 * 264, 1)
  | _ => (18432, 1)

/-- BOLTER_SRAM_STEP: the walker of a store reads its next unit; at the end of a pass it starts again at 0 (R364, R367). -/
def execBolterSramStep (d store : Nat) (s : State) : Res :=
  onPort s d 0 (1 ≤ store && store ≤ 9) fun s =>
    if s.fld d .eccBoltCfg [] 1 1 = 1 then
      let u := sramUnits store
      let n := u.1 * u.2
      let at_ := sgetD (s.die d).dram.sramPos store 0 % n
      let s := (s.count d ctrECC 6).readUnit d store (at_ / u.1) (at_ % u.1) false
      if at_ + 1 = n then
        (s.modDram d fun m => { m with
          sramPos := sset m.sramPos store 0
          sramPasses := sset m.sramPasses store (min 65535 (sgetD m.sramPasses store 0 + 1)) }).event d .ecc 4
      else s.modDram d fun m => { m with sramPos := sset m.sramPos store (at_ + 1) }
    else s

end Sys2Proof.Machine
end

