-- ==== Sys2Proof/Machine/Grit.lean ====
section
/-! DEFINITION. Grit (R446 to R454): the commands of ring 6, forces, and the end of the unlock window. -/

namespace Sys2Proof.Machine

open Sys2Proof

/-! ### Operands (R447) -/

/-- The bits of D0, D1, D2 and D3 that a grit command does not name are 0; D0's CMD and TAG are common. -/
def RCmd.within (c : RCmd) (m0 m1 m2 : Nat) : Bool :=
  c.d0 % 2 ^ 32 &&& (m0 + 255) = c.d0 % 2 ^ 32 && c.d1 &&& m1 = c.d1 && c.d2 &&& m2 = c.d2 && c.d3 = 0

/-- Units of a store within one cluster, and the bits of a unit (R450). -/
def flipBits (store : Nat) : Nat := if store = 1 then 72 else 44

/-- A grit command is well formed (R447). -/
def State.gritFormed (s : State) (d : Nat) (c : RCmd) : Bool :=
  match c.op with
  | 1 => c.within 0xF00 0 0xFFFF && bits c.d0 8 3 < 4
  | 2 => c.within 0 0 0xFFFFFFFF && (maskList c.d2 32).all (hasPort d)
  | 3 => c.within 0 0 0xFFFF
  | 4 => c.within 0 0 0x3FF && bits c.d2 0 10 ≤ 1000
  | 5 =>
    c.within 0 (2 ^ 40 - 1) (2 ^ 31 - 1) && c.d1 % 128 = 0 && c.d1 < s.capacity d && bits c.d2 0 20 ≠ 0 && bits c.d2 20 8 ≠ 0
  | 6 =>
    let store := bits c.d0 8 4
    let cl := bits c.d0 12 4
    c.within 0xFF00 (2 ^ 27 - 1) 0xFFFF && 1 ≤ store && store ≤ 9 && cl < (sramUnits store).2 &&
      c.d1 < (sramUnits store).1 && bits c.d2 0 7 < flipBits store && (!bit c.d2 15 || bits c.d2 8 7 < flipBits store)
  | 7 =>
    c.within 0x3FF00 0 0xFF && bits c.d0 8 6 < 48 && !s.checker d (bits c.d0 8 6) &&
      [fILLEGAL, fPARITY, fLOCKSTEP, fSTUCK].contains (bits c.d2 0 8)
  | 8 => c.within 0x700 0 0xFFFFFFFF && bits c.d0 8 3 ≠ 0 && bits c.d2 0 32 ≤ 60000000
  | 9 => c.within 0 0 0
  | 10 => c.within 0 0 0xFFFFFFFF
  | _ => false

/-- A grit command is legal in the present state (R447, R451). -/
def State.gritLegal (s : State) (d : Nat) (c : RCmd) : Bool :=
  match c.op with
  | 5 => (s.die d).dram.st = .active
  | 7 =>
    let k := bits c.d0 8 6
    s.coreLive d k && (bits c.d2 0 8 ≠ fLOCKSTEP || s.leader d k)
  | 8 => d = 0 && (s.master (bits c.d0 8 3)).cur.st ≠ 0
  | _ => true

/-! ### Effects -/

/-- A symbol pattern at every position of a mask (R450). -/
def symbolMask (symbols pattern : Nat) : Nat := (maskList symbols 20).foldl (fun m p => m + pattern * 2 ^ (8 * p)) 0

/-- Damage of a granule's codeword (R450). -/
def State.flipDram (s : State) (d g cw e : Nat) : State :=
  let s := (s.boltCancel d g).dramTouch d
  let k := 8 * s.dramLoc d g + cw
  (s.modDram d fun m =>
    let v := sgetD m.dmg k 0 ^^^ e
    { m with dmg := if v = 0 then sdel m.dmg k else sset m.dmg k v }).count d ctrGRT 5

/-- Inverted bits of an SRAM unit (R450). -/
def State.flipSram (s : State) (d store cl unit e : Nat) : State :=
  (s.modDie d fun x =>
    let key := unitKey store cl unit
    let v := x.flips key ^^^ e
    { x with dmg := if v = 0 then sdel x.dmg key else sset x.dmg key v }).count d ctrGRT 5

/-- The force on an axis begins or ends (R452): the axis is HELD, its rate is cleared, and its records under way hold it. -/
def State.forceAxis (s : State) (n us : Nat) : State :=
  if us = 0 then s.setMaster n { s.master n with forced := none }
  else
    let s := s.axHold n
    let s := s.modAx fun a => { a with recs := a.recs.map fun x =>
      if x.axis = n then { x with recd := { x.recd with st := 2, p := none } } else x }
    let m := s.master n
    s.setMaster n { m with cur := { m.cur with p := none }, forced := some (s.now + 1000 * us) }

/-- The settings of codes 0x01 to 0x04 and the forces that a die has in force. -/
def State.gritInForce (s : State) (d : Nat) : Bool :=
  (List.range 4).any (fun t => s.reg d .grtDelay [t] ≠ 0) || s.reg d .grtSluice [] ≠ 0 || s.reg d .grtHold [] ≠ 0 ||
    s.reg d .grtStretch [] ≠ 0 || (d = 0 && (List.range 8).any fun n => s.axForced (s.master n))

/-- Remove every effect of codes 0x01 to 0x04 and 0x08 of a die (R447, R453). -/
def State.gritClear (s : State) (d : Nat) : State :=
  let s := (List.range 4).foldl (fun s t => s.setReg d .grtDelay [t] 0) s
  let s := ((s.setReg d .grtSluice [] 0).setReg d .grtHold [] 0).setReg d .grtStretch [] 0
  let s := if d = 0 then (List.range 8).foldl (fun s n => if s.axForced (s.master n) then s.forceAxis n 0 else s) s else s
  s.settle d

/-- The end of a window with GRIT, on one die (R453, R454, R455). -/
def State.gritWindowEnd (s : State) (d : Nat) : State :=
  let had := s.gritInForce d
  let s := (s.journalBy d 5 0 0xFF).setReg d .grtLast [] 0xFF
  let s := s.gritClear d
  if had then (s.count d ctrGRT 7).event d .grt 2 else s

/-- The effect of a command that is well formed, allowed and legal. -/
def State.gritEffect (s : State) (d : Nat) (c : RCmd) : State :=
  match c.op with
  | 1 =>
    let ns := bits c.d2 0 16
    s.setReg d .grtDelay [bits c.d0 8 3] (if ns = 0 then 0 else ns + b1 (bit c.d0 11) * 2 ^ 16)
  | 2 => (s.setReg d .grtSluice [] (bits c.d2 0 32)).settle d
  | 3 => (s.setReg d .grtHold [] (bits c.d2 0 16)).settle d
  | 4 => s.setReg d .grtStretch [] (bits c.d2 0 10)
  | 5 => s.flipDram d (c.d1 / 128) (bits c.d2 28 3) (symbolMask (bits c.d2 0 20) (bits c.d2 20 8))
  | 6 =>
    let two := if bit c.d2 15 then 2 ^ bits c.d2 8 7 else 0
    s.flipSram d (bits c.d0 8 4) (bits c.d0 12 4) c.d1 (2 ^ bits c.d2 0 7 ^^^ two)
  | 8 => s.forceAxis (bits c.d0 8 3) (bits c.d2 0 32)
  | 9 => s.gritClear d
  | 10 => s.setReg d .grtLfsr [] (max 1 (bits c.d2 0 32))
  | _ => s

/-- FORCE_FAULT begins: ILLEGAL_INSTRUCTION waits for its thread's next instruction, a hardware fault for its core's next round
boundary (R451). -/
def State.forceArm (s : State) (d : Nat) (c : RCmd) : State :=
  let k := bits c.d0 8 6 * 16 + bits c.d0 14 4
  let code := bits c.d2 0 8
  (s.ringSet d 6 { c with started := true, since := s.now }).modDie d fun x =>
    if code = fILLEGAL then { x with gritForce := some (k, s.now) } else { x with gritHw := some (k, code) }

/-- A round boundary raises the hardware fault that FORCE_FAULT has armed, once the journal has room for its record, which goes
first; a core that no longer runs ends the command with STATE (R446, R451). -/
def State.forceStrike (s : State) (d : Nat) : State :=
  match (s.die d).gritHw, s.ringCmd d 6 with
  | some (k, code), some c =>
    if 64 ≤ s.journal.length then s
    else
      let s := s.modDie d fun x => { x with gritHw := none }
      if !s.coreLive d (k / 16) then s.gritDone d cSTATE
      else
        let s := (s.gritNote d c.op cDONE c.d0 c.d1 c.d2).count d ctrGRT 6
        (if code = fLOCKSTEP then s.lockstepFault d k else s.hwFault d k code).ringDone d 6 cDONE
  | _, _ => s

/-- A command at the head of ring 6 (R446): it waits for room in the journal's queue; its record goes before what it causes;
FORCE_FAULT waits for the fault to be raised (R451). -/
def State.gritRing (s : State) (d op : Nat) : State :=
  match s.ringCmd d 6 with
  | none => s
  | some c =>
    if c.op ≠ op || c.started || 64 ≤ s.journal.length then s
    else if !s.gritFormed d c then s.gritDone d cMALFORMED
    else if !bit s.scope 1 then s.gritDone d cDENIED
    else if !s.gritLegal d c then s.gritDone d cSTATE
    else if op = 7 then s.forceArm d c
    else (((s.gritNote d op cDONE c.d0 c.d1 c.d2).gritEffect d c).ringDone d 6 cDONE)

/-- SET_DELAY (R448). -/
def execSetDelay (d : Nat) (s : State) : Res := onDie s d fun s => s.gritRing d 1

/-- SET_SLUICE (R449). -/
def execSetSluice (d : Nat) (s : State) : Res := onDie s d fun s => s.gritRing d 2

/-- SET_LIST_HOLD (R449). -/
def execSetListHold (d : Nat) (s : State) : Res := onDie s d fun s => s.gritRing d 3

/-- SET_REF_STRETCH (R449). -/
def execSetRefStretch (d : Nat) (s : State) : Res := onDie s d fun s => s.gritRing d 4

/-- FLIP_DRAM (R450). -/
def execFlipDram (d : Nat) (s : State) : Res := onDie s d fun s => s.gritRing d 5

/-- FLIP_SRAM (R450). -/
def execFlipSram (d : Nat) (s : State) : Res := onDie s d fun s => s.gritRing d 6

/-- FORCE_FAULT (R451). -/
def execForceFault (d : Nat) (s : State) : Res := onDie s d fun s => s.gritRing d 7

/-- FORCE_HELD (R452). -/
def execForceHeld (d : Nat) (s : State) : Res := onDie s d fun s => s.gritRing d 8

/-- CLEAR_ALL (R447). -/
def execClearAll (d : Nat) (s : State) : Res := onDie s d fun s => s.gritRing d 9

/-- SEED (R447). -/
def execSeed (d : Nat) (s : State) : Res := onDie s d fun s => s.gritRing d 10

/-- FORCE_FAULT_TIMEOUT: the thread has issued nothing for 1 ms, and the command ends with NOT_FOUND; a core found stopped
ends it with STATE (R451). -/
def execForceFaultTimeout (d : Nat) (s : State) : Res :=
  onDie s d fun s =>
    match (s.die d).gritForce with
    | none => s
    | some (k, t) =>
      if 64 ≤ s.journal.length then s
      else
        let off := s.modDie d fun x => { x with gritForce := none }
        if (s.core d (k / 16)).run = .stopped then off.gritDone d cSTATE
        else if t + 1000000 ≤ s.now then off.gritDone d cNOT_FOUND
        else s

/-- FORCE_HELD_EXPIRE: the force on axis n ends after its duration (R452). -/
def execForceHeldExpire (n : Nat) (s : State) : Res :=
  if n = 0 || 8 ≤ n then .fault .absent
  else
    cmd s fun s =>
      match (s.master n).forced with
      | some t => if t ≤ s.now then s.forceAxis n 0 else s
      | none => s

end Sys2Proof.Machine
end

