-- ==== Sys2Proof/Machine/Identity.lean ====
section
/-! DEFINITION. The identity block (R408 to R415): the control block of the MRAM, signatures, the unlock and its window, and the
commands of ring 5 that concern this part alone. -/

namespace Sys2Proof.Machine

open Sys2Proof

/-! ### The journal MRAM (R421, R425) -/

/-- Write a word of the MRAM. -/
def State.mramPut (s : State) (a : Nat) (v : Nat) : State := { s with mram := sset s.mram a (w36 v) }

/-- Write bytes from a word upward, 4 bytes per word, the first byte uppermost (R208, R421). -/
def State.mramBytes (s : State) (a : Nat) (bs : List Nat) : State :=
  (List.range (ceilDiv bs.length 4)).foldl (fun s i =>
    s.mramPut (a + i) (natOf ((List.range 4).map fun j => bs.getD (4 * i + j) 0))) s

/-- Bytes of the MRAM from a word upward. -/
def State.mramRead (s : State) (a n : Nat) : List Nat :=
  ((List.range (ceilDiv n 4)).flatMap fun i => octetsOf 4 (s.mramWord (a + i)).toNat).take n

/-- A value of two words of the control block: the larger of its two copies (R425). -/
def State.ctlPair (s : State) (w : Nat) : Nat :=
  let v := fun (a : Nat) => (s.mramWord a).toNat * 2 ^ 36 + (s.mramWord (a + 1)).toNat
  max (v w) (v (w + 512))

/-- Write both copies of a value of two words. -/
def State.ctlPairPut (s : State) (w n : Nat) : State :=
  [w, w + 512].foldl (fun s a => (s.mramPut a (n / 2 ^ 36)).mramPut (a + 1) (n % 2 ^ 36)) s

/-- BOOT_COUNT. -/
def State.bootCount (s : State) : Nat := s.ctlPair 0

/-- MIN_VERSION. -/
def State.minVersion (s : State) : Nat := max ((s.mramWord 4).toNat % 2 ^ 32) ((s.mramWord 516).toNat % 2 ^ 32)

/-- Length in bytes of a certificate, 0 when absent. -/
def State.certLen (s : State) (i : Nat) : Nat := (s.mramWord (5 + i)).toNat

/-! ### Ring 5 (R415) -/

/-- The first n bytes of a command's argument. -/
def RCmd.argBytes (c : RCmd) (n : Nat) : List Nat :=
  (List.range n).map fun i => c.arg.getD (i / 8) 0 / 256 ^ (i % 8) % 256

/-- The fields that a command of ring 5 names are 0 elsewhere: a mask of D0's bits, whether ARG and OUT are used, a mask of
D2's. ARG_ADDR and OUT_ADDR are 64-byte aligned. -/
def RCmd.named (c : RCmd) (m0 : Nat) (arg out : Bool) (m2 : Nat) : Bool :=
  c.d0 % 2 ^ 32 &&& (m0 + 255) = c.d0 % 2 ^ 32 && (if arg then c.d1 % 64 = 0 else c.d1 = 0) && c.d2 &&& m2 = c.d2 &&
    (if out then c.d3 % 64 = 0 else c.d3 = 0)

/-- Write bytes to host memory at OUT_ADDR. -/
def State.hostOut (s : State) (addr : Nat) (bs : List Nat) : State :=
  if s.pcieLive then s.emit (.hostWrite 0 addr (toBytes bs)) else s

/-- Run a command of ring 5 when it stands at the head and has not begun. -/
def State.identRing (s : State) (op : Nat) (f : State → RCmd → State) : State :=
  match s.ringCmd 0 5 with
  | none => s
  | some c => if c.op = op && !c.started then f s c else s

/-- Complete the command at the head of ring 5. -/
def State.identDone (s : State) (code : Nat) (c1 : Nat := 0) : State := s.ringDone 0 5 code 0 c1

/-- Journal an identity action: KIND 6 (R424). -/
def State.identNote (s : State) (op code scope window : Nat) : State :=
  s.journalBy 0 6 code (op % 256 + scope % 8 * 256) window

/-! ### Signing (R412): ECDSA P-256 with the deterministic k of RFC 6979 -/

/-- HMAC-SHA-256. -/
def hmac (key msg : List Nat) : List Nat :=
  let k := key ++ List.replicate (64 - key.length) 0
  sha256 (k.map (· ^^^ 0x5C) ++ sha256 (k.map (· ^^^ 0x36) ++ msg))

/-- The private key of the device. -/
def deviceKey : Nat := Config.deviceKey % (p256n - 1) + 1

/-- r and s of a signature under a k, when both are nonzero. -/
def signWith (d z k : Nat) : Option (Nat × Nat) :=
  match p256Mul k p256g with
  | none => none
  | some v =>
    let r := v.1 % p256n
    let t := invMod p256n k * (z + r * d) % p256n
    if r = 0 || t = 0 then none else some (r, t)

/-- Try the candidates of RFC 6979 3.2 h in turn. -/
def signGo (d z : Nat) : Nat → List Nat → List Nat → Nat × Nat
  | 0, _, _ => (0, 0)
  | n + 1, kk, v =>
    let v := hmac kk v
    let k := natOf v
    match if 1 ≤ k && k < p256n then signWith d z k else none with
    | some r => r
    | none => let kk := hmac kk (v ++ [0]); signGo d z n kk (hmac kk v)

/-- The signature of a SHA-256 digest under a private key. -/
def ecdsaSign (d : Nat) (digest : List Nat) : Nat × Nat :=
  let z := natOf digest
  let x := octetsOf 32 d ++ octetsOf 32 (z % p256n)
  let v0 := List.replicate 32 1
  let k1 := hmac (List.replicate 32 0) (v0 ++ 0 :: x)
  let v1 := hmac k1 v0
  let k2 := hmac k1 (v1 ++ 1 :: x)
  signGo d z 64 k2 (hmac k2 v1)

/-! ### Reports (R412) -/

/-- Bytes 0 to 159 of an attestation report. -/
def State.reportBody (s : State) (nonce : List Nat) : List Nat :=
  let addr := s.regNow 0 .dctlWmkAddr [] % 64
  let st := b1 s.running + s.scope % 8 * 2 + b1 s.ident.slotB * 16
  [0, 1, addr, st] ++ octetsOf 8 s.fuses.serial ++ nonce ++ octetsOf 32 s.ident.mImage ++ octetsOf 32 s.ident.mThread ++
    octetsOf 32 s.ident.mConfig ++ octetsOf 4 (if s.running then s.ident.version else 0) ++ octetsOf 4 s.bootCount ++
    octetsOf 9 (s.time 0) ++ [0, 0, 0]

/-- A signed report of 224 bytes. -/
def State.report (s : State) (nonce : List Nat) : List Nat :=
  let body := s.reportBody nonce
  let g := ecdsaSign deviceKey (sha256 body)
  body ++ octetsOf 32 g.1 ++ octetsOf 32 g.2

/-! ### Certificates (R410) -/

/-- The bytes are one DER SEQUENCE of their own length. -/
def derSequence (bs : List Nat) : Bool :=
  match bs with
  | 0x30 :: 0x82 :: a :: b :: _ => 256 ≤ a * 256 + b && bs.length = a * 256 + b + 4
  | 0x30 :: 0x81 :: a :: _ => 128 ≤ a && bs.length = a + 3
  | 0x30 :: a :: _ => a < 128 && bs.length = a + 2
  | _ => false

/-- First word of a certificate's area. -/
def certWord (i : Nat) : Nat := 1024 + 1024 * i

/-- READ_CERT. -/
def execReadCert (s : State) : Res :=
  cmd s fun s => s.identRing 2 fun s c =>
    let i := bits c.d0 16 8
    if !c.named 0xFF0000 false true 0 || 4 < i then s.identDone cMALFORMED
    else
      let n := s.certLen i
      if n = 0 then s.identDone cNOT_FOUND else (s.hostOut c.d3 (s.mramRead (certWord i) n)).identDone cDONE n

/-- INSTALL_CERT (R410): the certificate reads as absent while its bytes are written (R425). -/
def execInstallCert (s : State) : Res :=
  cmd s fun s => s.identRing 3 fun s c =>
    let i := bits c.d0 16 8
    let n := bits c.d2 0 32
    let bs := c.argBytes n
    if !c.named 0xFF0000 true false (2 ^ 32 - 1) || i = 0 || 4 < i || 4096 < n then s.identDone cMALFORMED
    else if n ≠ 0 && !derSequence bs then s.identDone cMALFORMED
    else if !bit s.scope 2 then (s.identNote 3 cDENIED s.scope 0).identDone cDENIED
    else
      let s := ((s.mramPut (5 + i) 0).mramBytes (certWord i) bs).mramPut (5 + i) n
      (s.identNote 3 cDONE s.scope 0).identDone cDONE

/-! ### The unlock (R413, R414) -/

/-- A new scope takes the place of the one in force: the ends of GRIT and of DEBUG act on every die (R414, R453). -/
def State.setScope (s : State) (new : Nat) : State :=
  let old := s.scope
  let s := s.setFld 0 .dctlUnlock [] 0 3 new
  let s := if bit old 0 && !bit new 0 then s.eachDie fun s d => s.resumeAll d else s
  if bit old 1 && !bit new 1 then s.eachDie fun s d => s.gritWindowEnd d else s

/-- Set the unlock's window. -/
def State.setWindow (s : State) (t : Option Nat) : State := { s with ident := { s.ident with window := t } }

/-- 32 bytes from the part's random source, which are free values. -/
def State.randomBytes (s : State) : Nat → List Nat × State
  | 0 => ([], s)
  | n + 1 =>
    let r := s.freeValue
    let rest := r.2.randomBytes n
    (octetsOf 8 r.1 ++ rest.1, rest.2)

/-- UNLOCK_CHALLENGE: a new challenge of 48 bytes (R413). -/
def execUnlockChallenge (s : State) : Res :=
  cmd s fun s => s.identRing 4 fun s c =>
    if !c.named 0 false true 0 then s.identDone cMALFORMED
    else
      let r := s.randomBytes 4
      let ch := r.1 ++ octetsOf 8 s.fuses.serial ++ octetsOf 8 s.bootCount
      let s := { r.2 with ident := { r.2.ident with challenge := some (toBytes ch, s.now) } }
      (s.hostOut c.d3 ch).identDone cDONE

/-- The signature of an UNLOCK_RESPONSE holds: the owner's key, the signed challenge, SCOPE and WINDOW, and an age of at
most 60 s (R413). -/
def State.responseOk (s : State) (a : List Nat) (ch : List Byte × Nat) : Bool :=
  let key := a.take 64
  let n := fun (i : Nat) => natOf ((a.drop (32 * i)).take 32)
  s.ident.owner = some (natOf (sha256 key)) && s.now ≤ ch.2 + 60000000000 &&
    ecdsaOk (natOf (sha256 (toNats ch.1 ++ (a.drop 128).take 4))) (n 0, n 1) (n 2) (n 3)

/-- UNLOCK_RESPONSE (R413): it consumes the challenge whatever the outcome. -/
def execUnlockResponse (s : State) : Res :=
  cmd s fun s => s.identRing 5 fun s c =>
    let a := c.argBytes 132
    let scope := a.getD 128 0
    let window := natOf ((a.drop 129).take 3)
    let used := { s with ident := { s.ident with challenge := none } }
    if !c.named 0 true false 0 || scope = 0 || 8 ≤ scope || window = 0 || 86400 < window then used.identDone cMALFORMED
    else match s.ident.challenge with
      | none => s.identDone cSTATE
      | some ch =>
        if s.responseOk a ch then
          let s := used.identNote 5 cDONE scope window
          ((s.setScope scope).setWindow (some (s.now + window * 1000000000))).identDone cDONE
        else (used.identNote 5 cDENIED scope window).identDone cDENIED

/-- LOCK: the unlock ends (R414). -/
def execLock (s : State) : Res :=
  cmd s fun s => s.identRing 6 fun s c =>
    if !c.named 0 false false 0 then s.identDone cMALFORMED
    else (((s.identNote 6 cDONE s.scope 0).setScope 0).setWindow none).identDone cDONE

/-- UNLOCK_EXPIRE: the window has passed (R414); CMD reads 0 in its record. -/
def execUnlockExpire (s : State) : Res :=
  cmd s fun s =>
    match s.ident.window with
    | some t => if t ≤ s.now then ((s.identNote 0 cDONE s.scope 0).setScope 0).setWindow none else s
    | none => s

/-! ### Ownership and version (R409, R415) -/

/-- OWNER_CLAIM: the owner key hash is programmed once. -/
def execOwnerClaim (s : State) : Res :=
  cmd s fun s => s.identRing 7 fun s c =>
    if !c.named 0 true false 0 then s.identDone cMALFORMED
    else if s.ident.owner.isSome then s.identDone cSTATE
    else
      let s := { s with ident := { s.ident with owner := some (natOf (c.argBytes 32)) } }
      (s.identNote 7 cDONE s.scope 0).identDone cDONE

/-- SET_MIN_VERSION. -/
def execSetMinVersion (s : State) : Res :=
  cmd s fun s => s.identRing 8 fun s c =>
    let v := bits c.d2 0 32
    if !c.named 0 false false (2 ^ 32 - 1) then s.identDone cMALFORMED
    else if !bit s.scope 2 then (s.identNote 8 cDENIED s.scope 0).identDone cDENIED
    else if !s.running then s.identDone cSTATE
    else if v < s.minVersion || s.ident.version < v then s.identDone cRANGE
    else
      let s := (s.mramPut 4 v).mramPut 516 v
      (s.identNote 8 cDONE s.scope 0).identDone cDONE

/-! ### The fault journal (R423, R424) -/

/-- JOURNAL_WRITE: die 0 writes the oldest queued record at JRN_STAT.NEXT, with the SEQ after the record before it; word 7 is
the CRC of the others. Commands of ring 6 that waited for room may go on. -/
def execJournalWrite (s : State) : Res :=
  cmd s fun s =>
    match s.journal with
    | [] => s
    | r :: rest =>
      let next := s.fld 0 .dctlJrnStat [] 0 12
      let prev := (next + 4095) % 4096
      let old := (List.range 8).map fun i => s.mramWord (10240 + 8 * prev + i)
      let seq := if (old.getD 7 0).toNat = crcWords (old.take 7) then ((old.getD 0 0).toNat + 1) % 2 ^ 32 else 0
      let ws := [seq + r.kind % 16 * 2 ^ 32, bits r.time 36 36, bits r.time 0 36,
        r.die % 8 + r.reason % 256 * 8 + min 255 s.journalLost * 2 ^ 11, r.w4, r.w5, r.w6].map w36
      let s := ws.zipIdx.foldl (fun s p => s.mramPut (10240 + 8 * next + p.2) p.1.toNat) s
      let s := s.mramPut (10240 + 8 * next + 7) (crcWords ws)
      let s := { s with journal := rest, journalLost := 0 }.setFld 0 .dctlJrnStat [] 0 12 ((next + 1) % 4096)
      s.eachDie fun s d => s.skipBad d 6 (s.ring d 6).cmds.length

end Sys2Proof.Machine
end

