-- ==== Sys2Proof/Machine/Waymark.lean ====
section
/-! DEFINITION. The Waymark chain (R400 to R407): frames received, forwarded and sent, the chain's states, and the commands of
ring 5 that use it (R415). -/

namespace Sys2Proof.Machine

open Sys2Proof

/-! ### Frames (R400, R401) -/

/-- A Waymark frame: DEST, SRC, TYPE, HOPS and the payload. -/
structure WFrame where
  dest : Nat
  src : Nat
  type : Nat
  hops : Nat
  payload : List Nat

/-- The octets of a frame without its FCS. -/
def WFrame.bytes (f : WFrame) : List Byte := toBytes ([f.dest, f.src, f.type, f.hops] ++ f.payload)

/-- Time of a frame on the line in ns: two flags, the stuffed bits with the FCS-32, 20 ns a bit (R400). -/
def WFrame.time (f : WFrame) : Nat :=
  20 * (16 + (stuffBits 0 ((f.bytes ++ fcsBytes true f.bytes).flatMap byteBits)).length)

/-- The levels of a frame on the line: its flags, and between them its octets and FCS-32 with zero-bit insertion, in Manchester
code (R400, log entry 88). -/
def WFrame.line (f : WFrame) : List Bool :=
  (byteBits 0x7E ++ stuffBits 0 ((f.bytes ++ fcsBytes true f.bytes).flatMap byteBits) ++ byteBits 0x7E).flatMap manchester

/-- DCTL.WMK_CTL.MASTER. -/
def State.wmkMaster (s : State) : Bool := bit (s.reg 0 .dctlWmkCtl []) 0

/-- The part's Waymark address and chain state: 0 IDLE, 1 ENUMERATING, 2 ADDRESSED. -/
def State.wmkAddr (s : State) : Nat := s.fld 0 .dctlWmkAddr [] 0 6
def State.wmkState (s : State) : Nat := s.fld 0 .dctlWmkAddr [] 6 2

/-- Set the address and the chain state. -/
def State.wmkSet (s : State) (addr st : Nat) : State := s.setReg 0 .dctlWmkAddr [] (addr % 64 + st % 4 * 64)

/-- A frame is dropped and counted in WMK_STAT.DROPS. -/
def State.wmkDrop (s : State) : State :=
  s.setFld 0 .dctlWmkStat [] 8 16 (min 65535 (s.fld 0 .dctlWmkStat [] 8 16 + 1))

/-- WMK_IN has shown transitions. -/
def State.wmkSeen (s : State) : State := { s with wmk := { s.wmk with lastIn := some s.now } }

/-- Send a frame: it starts when the line is free and after the part's own delay; a frame that finds four waiting is dropped
(R403). The frame is built from the model's clock at its opening flag. -/
def State.wmkSend (s : State) (delay : Nat) (f : Nat → WFrame) : State :=
  let waiting := s.wmk.starts.filter (s.now < ·)
  if 4 ≤ waiting.length then s.wmkDrop
  else
    let start := max (s.now + delay) s.wmk.lineFree
    let x := f start
    { s with wmk := { s.wmk with starts := waiting ++ [start], lineFree := start + x.time } }.emit (.waymark x.line)

/-- The part's own delay in forwarding, at most 1 µs: a free choice (R403). -/
def State.wmkForward (s : State) (f : Nat → WFrame) : State :=
  let r := s.choose 1001
  r.2.wmkSend r.1 f

/-- What a frame's receiver does with it (R403): a master consumes, another package drops, consumes, or forwards with HOPS
one up; `act` is what consuming does, `onward` the frame that goes on. -/
def State.wmkReceive (s : State) (f : WFrame) (act : State → State) (onward : State → WFrame → Nat → WFrame) : State :=
  let s := s.wmkSeen
  if s.wmkMaster then act s
  else
    let f := { f with hops := (f.hops + 1) % 256 }
    if 63 ≤ f.hops || f.hops = 0 || (f.src = s.wmkAddr && s.wmkAddr ≠ 0) then s.wmkDrop
    else
      let mine := f.dest = s.wmkAddr && s.wmkAddr ≠ 0
      let s := if mine then s else s.wmkForward (onward s f)
      if mine || f.dest = 63 then act s else s

/-- A frame that goes on as it is. -/
def sameFrame (_ : State) (f : WFrame) (_ : Nat) : WFrame := f

/-- The answer of a package to a frame's sender. -/
def State.wmkAnswer (s : State) (f : WFrame) (type : Nat) (payload : List Nat) : State :=
  s.wmkSend 0 fun _ => { dest := f.src, src := s.wmkAddr, type := type, hops := 0, payload := payload }

/-! ### Enumeration (R404, R405) -/

/-- The chain command of ring 5 that has begun and waits for an answer. -/
def State.chainWaits (s : State) (op : Nat) : Option RCmd :=
  match s.ringCmd 0 5 with
  | some c => if c.started && c.op = op then some c else none
  | none => none

/-- The master's enumeration has returned with a COUNT (R405). -/
def State.enumReturn (s : State) (count : Nat) : State :=
  if s.wmkState = 1 && bit (s.reg 0 .dctlWmkCtl []) 1 && (s.chainWaits 9).isSome then
    let s := (s.wmkSet 0 2).setFld 0 .dctlWmkStat [] 1 7 (count % 64 + b1 (count = 62) * 64)
    s.identDone (if count = 62 then cFULL else cDONE) (count % 64)
  else s

/-- ENUMERATE consumed: an IDLE package takes the next address (R404). -/
def State.enumTake (s : State) (count : Nat) : State :=
  if s.wmkMaster then s.enumReturn count
  else if s.wmkState = 0 && count < 62 then s.wmkSet (count + 1) 2
  else s

/-- The COUNT that an ENUMERATE goes on with, from the state before it was consumed (R404). -/
def State.enumCount (s : State) (count : Nat) : Nat :=
  if s.wmkState = 0 then (if count < 62 then count + 1 else count) else s.wmkAddr

/-- ENUMERATE. -/
def execEnumerate (dest src : BitVec 6) (hops count : Byte) (s : State) : Res :=
  cmd s fun s =>
    let next := if dest.toNat = 63 then s.enumCount count.toNat else count.toNat
    s.wmkReceive { dest := dest.toNat, src := src.toNat, type := 0x01, hops := hops.toNat, payload := [count.toNat] }
      (fun s => s.enumTake count.toNat) fun _ f _ => { f with payload := [next] }

/-- RELEASE: a package that is not a master returns to IDLE (R404). -/
def execRelease (dest src : BitVec 6) (hops : Byte) (s : State) : Res :=
  cmd s fun s =>
    s.wmkReceive { dest := dest.toNat, src := src.toNat, type := 0x02, hops := hops.toNat, payload := [] }
      (fun s => if s.wmkMaster then s else s.wmkSet 0 0) sameFrame

/-! ### Register frames (R406) -/

/-- A chain register access of this package: DENIED without REG_EN, STATE in BOOT_HOLD, else a BAR0 access. -/
def State.chainAccess (s : State) (off : Nat) (write : Option Nat) : State × Nat × Nat :=
  if !bit (s.reg 0 .dctlWmkCtl []) 2 then (s, cDENIED, 0)
  else if !s.running then (s, cSTATE, 0)
  else
    let d := bits off 23 3
    match write with
    | some v => (s.hostWrite d (bits off 0 23) v, cDONE, 0)
    | none => let r := s.hostRead d (bits off 0 23); (r.2, cDONE, r.1)

/-- Make a chain register access and answer it with REG_RESP; a master leaves such a frame alone. -/
def State.chainReg (s : State) (f : WFrame) (off seq : Nat) (write : Option Nat) : State :=
  if s.wmkMaster then s
  else
    let r := s.chainAccess off write
    r.1.wmkAnswer f 0x12 ([seq, r.2.1] ++ octetsOf 4 r.2.2)

/-- REG_READ. -/
def execRegRead (dest src : BitVec 6) (hops : Byte) (off : Dword) (seq : Byte) (s : State) : Res :=
  cmd s fun s =>
    let f : WFrame := { dest := dest.toNat, src := src.toNat, type := 0x10, hops := hops.toNat
                        payload := octetsOf 4 off.toNat ++ [seq.toNat] }
    s.wmkReceive f (fun s => s.chainReg f off.toNat seq.toNat none) sameFrame

/-- REG_WRITE. -/
def execRegWrite (dest src : BitVec 6) (hops : Byte) (off data : Dword) (seq : Byte) (s : State) : Res :=
  cmd s fun s =>
    let f : WFrame := { dest := dest.toNat, src := src.toNat, type := 0x11, hops := hops.toNat
                        payload := octetsOf 4 off.toNat ++ octetsOf 4 data.toNat ++ [seq.toNat] }
    s.wmkReceive f (fun s => s.chainReg f off.toNat seq.toNat (some data.toNat)) sameFrame

/-- REG_RESP: at the master it completes the WMK_REG whose SEQ it carries (R415). -/
def execRegResp (dest src : BitVec 6) (hops seq code : Byte) (data : Dword) (s : State) : Res :=
  cmd s fun s =>
    s.wmkReceive { dest := dest.toNat, src := src.toNat, type := 0x12, hops := hops.toNat
                   payload := [seq.toNat, code.toNat] ++ octetsOf 4 data.toNat }
      (fun s => if s.wmkMaster && seq.toNat = s.wmk.seq && (s.chainWaits 11).isSome then s.identDone code.toNat data.toNat
        else s) sameFrame

/-! ### Attestation over the chain (R406, R415) -/

/-- ATTEST_REQ: a package answers with its signed report in any part state; `nonce` is 32 bytes. -/
def execAttestReq (dest src : BitVec 6) (hops : Byte) (nonce : List Byte) (s : State) : Res :=
  cmd s fun s =>
    let f : WFrame := { dest := dest.toNat, src := src.toNat, type := 0x20, hops := hops.toNat, payload := toNats nonce }
    s.wmkReceive f (fun s => if s.wmkMaster then s else s.wmkAnswer f 0x21 (s.report (toNats nonce))) sameFrame

/-- ATTEST_RESP: at the master it completes a remote ATTEST; `report` is 224 bytes. -/
def execAttestResp (dest src : BitVec 6) (hops : Byte) (report : List Byte) (s : State) : Res :=
  cmd s fun s =>
    s.wmkReceive { dest := dest.toNat, src := src.toNat, type := 0x21, hops := hops.toNat, payload := toNats report }
      (fun s => match if s.wmkMaster then s.chainWaits 1 else none with
        | some c => (s.hostOut c.d3 (toNats report)).identDone cDONE
        | none => s) sameFrame

/-! ### Time (R407) -/

/-- The consumer of a TIME frame latches master time + CORRECTION, and its own axis 0 at the opening flag. -/
def State.timeTake (s : State) (f : WFrame) (master corr : Nat) : State :=
  let tm := (master + corr) % 2 ^ 72
  let tl := (s.time 0 + 2 ^ 72 - f.time % 2 ^ 72) % 2 ^ 72
  [(0, bits tm 0 36), (1, bits tm 36 36), (2, bits tl 0 36), (3, bits tl 36 36)].foldl
    (fun s p => s.setReg 0 .dctlWmkTime [p.1] p.2) s

/-- A TIME frame. -/
def timeFrame (dest src hops master corr : Nat) : WFrame :=
  { dest := dest, src := src, type := 0x30, hops := hops, payload := octetsOf 9 master ++ octetsOf 4 corr }

/-- TIME: latched by its consumer, and forwarded with its residence added to CORRECTION: from the start of the received
opening flag, one frame time before now, to the start of the sent one. -/
def execTime (dest src : BitVec 6) (hops : Byte) (master : BitVec 72) (corr : Dword) (s : State) : Res :=
  cmd s fun s =>
    let f := timeFrame dest.toNat src.toNat hops.toNat master.toNat corr.toNat
    s.wmkReceive f (fun s => s.timeTake f master.toNat corr.toNat) fun s g start =>
      timeFrame g.dest g.src g.hops master.toNat ((corr.toNat + (start + f.time - s.now)) % 2 ^ 32)

/-- TIME_FRAME_SEND: a master with TIME_INT ≠ 0 sends a TIME frame every TIME_INT ms, with axis 0 at its opening flag. -/
def execTimeFrameSend (s : State) : Res :=
  cmd s fun s =>
    let n := s.fld 0 .dctlWmkCtl [] 3 8
    if s.wmkMaster && n ≠ 0 && s.wmk.timeAt ≤ s.now then
      let s := { s with wmk := { s.wmk with timeAt := s.wmk.timeAt + 1000000 * n } }
      s.wmkSend 0 fun start => timeFrame 63 0 0 ((s.time 0 + (start - s.now)) % 2 ^ 72) 0
    else s

/-- WMK_BAD_FRAME: a frame with a bad FCS, a stuffing error, an abort, another type or another length is dropped (R400,
R402). -/
def execWmkBadFrame (s : State) : Res := cmd s fun s => s.wmkSeen.wmkDrop

/-! ### Chain commands of ring 5 (R405, R415) -/

/-- The command has begun at this time. -/
def State.chainStart (s : State) (c : RCmd) : State := s.ringSet 0 5 { c with started := true, since := s.now }

/-- A frame of the master. -/
def masterFrame (dest type : Nat) (payload : List Nat) : WFrame :=
  { dest := dest, src := 0, type := type, hops := 0, payload := payload }

/-- ATTEST: this part's report, or another package's over the chain (R412, R415). -/
def execAttest (s : State) : Res :=
  cmd s fun s => s.identRing 1 fun s c =>
    let dest := bits c.d0 8 6
    if !c.named 0x3F00 true true 0 then s.identDone cMALFORMED
    else if dest = 0 then (s.hostOut c.d3 (s.report (c.argBytes 32))).identDone cDONE
    else if !s.wmkMaster || s.wmkState ≠ 2 || !bit (s.reg 0 .dctlWmkCtl []) 1 then s.identDone cSTATE
    else (s.chainStart c).wmkSend 0 fun _ => masterFrame dest 0x20 (c.argBytes 32)

/-- WMK_ENUMERATE (R405). -/
def execWmkEnumerate (s : State) : Res :=
  cmd s fun s => s.identRing 9 fun s c =>
    if !c.named 0 false false 0 then s.identDone cMALFORMED
    else if !s.wmkMaster || s.wmkState ≠ 0 || !s.running then s.identDone cSTATE
    else ((s.chainStart c).wmkSet 0 1).wmkSend 0 fun _ => masterFrame 63 0x01 [0]

/-- WMK_RELEASE (R405). -/
def execWmkRelease (s : State) : Res :=
  cmd s fun s => s.identRing 10 fun s c =>
    if !c.named 0 false false 0 then s.identDone cMALFORMED
    else if !s.wmkMaster || s.wmkState = 1 || !s.running then s.identDone cSTATE
    else ((s.wmkSend 0 fun _ => masterFrame 63 0x02 []).wmkSet 0 0).identDone cDONE

/-- WMK_REG: a register access of another package; a write in a chain completes when sent (R415). -/
def execWmkReg (s : State) : Res :=
  cmd s fun s => s.identRing 11 fun s c =>
    let dest := bits c.d0 8 6
    let write := bit c.d0 14
    let a := c.argBytes 8
    if !c.named 0x7F00 true false 0 then s.identDone cMALFORMED
    else if !s.wmkMaster || s.wmkState ≠ 2 || !s.running then s.identDone cSTATE
    else
      let seq := (s.wmk.seq + 1) % 256
      let s := { s with wmk := { s.wmk with seq := seq } }
      let f := if write then masterFrame dest 0x11 (a ++ [seq]) else masterFrame dest 0x10 (a.take 4 ++ [seq])
      let s := s.wmkSend 0 fun _ => f
      if write && !bit (s.reg 0 .dctlWmkCtl []) 1 then s.identDone cDONE else s.chainStart c

/-- CHAIN_RESPONSE_TIMEOUT: a chain command gets no answer in time (R405, R415). -/
def execChainResponseTimeout (s : State) : Res :=
  cmd s fun s =>
    let due := fun (c : RCmd) (t : Nat) => decide (c.since + t ≤ s.now)
    match s.ringCmd 0 5 with
    | none => s
    | some c =>
      if !c.started then s
      else match c.op with
        | 1 => if due c 10000000 then s.identDone cNOT_FOUND else s
        | 9 =>
          if bit (s.reg 0 .dctlWmkCtl []) 1 then
            (if due c 1000000 then (s.wmkSet 0 0).identDone cNOT_FOUND else s)
          else if due c 200000 then ((s.wmkSet 0 2).setFld 0 .dctlWmkStat [] 1 7 0).identDone cDONE
          else s
        | 11 => if due c 1000000 then s.identDone cNOT_FOUND else s
        | _ => s

end Sys2Proof.Machine
end

