-- ==== Sys2Proof/Machine/Boot.lean ====
section
/-! DEFINITION. The boot ROM (R416 to R420): verification of an image, its sections, and the steps of a boot. -/

namespace Sys2Proof.Machine

open Sys2Proof

/-! ### Images (R417, R418) -/

/-- A big-endian field of an image. -/
def imgField (img : List Nat) (at_ n : Nat) : Nat := natOf ((img.drop at_).take n)

/-- HOLD_REASON values of DCTL.BOOT_STAT. -/
def bootSIGNATURE : Nat := 2
def bootVERSION : Nat := 3
def bootMALFORMED : Nat := 4
def bootREAD_ERROR : Nat := 5

/-- A section entry (R418). -/
structure BootSection where
  typ : Nat
  dies : Nat
  cluster : Nat
  offset : Nat
  len : Nat
  base : Nat
deriving DecidableEq, Repr

/-- Entry i of the section table. -/
def sectionAt (img : List Nat) (i : Nat) : BootSection :=
  let f := fun (o n : Nat) => imgField img (80 + 16 * i + o) n
  { typ := f 0 2, dies := f 2 1, cluster := f 3 1, offset := f 4 4, len := f 8 4, base := f 12 4 }

/-- The section table. -/
def sectionsOf (img : List Nat) : List BootSection := (List.range (imgField img 6 2)).map (sectionAt img)

/-- LENGTH of an image. -/
def imgLength (img : List Nat) : Nat := imgField img 8 4

/-- The header's own fields are in range, and there is room for the section table and the signature (R417). -/
def headerOk (img : List Nat) : Bool :=
  let n := imgField img 6 2
  imgField img 0 4 = 0x4F4E3638 && imgField img 4 2 = 1 && 1 ≤ n && n ≤ 1024 && imgLength img ≤ 16777216 &&
    80 + 16 * n + 64 ≤ imgLength img

/-- The bytes of a section. -/
def sectionBytes (img : List Nat) (e : BootSection) : List Nat := (img.drop e.offset).take e.len

/-- The 8-byte units of a section. -/
def sectionUnits (img : List Nat) (e : BootSection) : List Nat :=
  (List.range (e.len / 8)).map fun i => imgField img (e.offset + 8 * i) 8

/-- Bytes of a unit of a section type. -/
def unitBytes (typ : Nat) : Nat := if typ = 1 || typ = 3 then 8 else 16

/-- The destination holds the whole section (R418). -/
def destinationOk (img : List Nat) (e : BootSection) : Bool :=
  let n := e.len / unitBytes e.typ
  match e.typ with
  | 1 => decide (e.cluster < 12 ∧ e.base + n ≤ 65536)
  | 2 => decide (e.cluster < 12 ∧ e.base + n ≤ 64)
  | 3 => decide (e.base + n ≤ 256 * 264)
  | 4 => e.dies = 0 && e.cluster = 0 && e.base = 0 &&
      (List.range n).all fun i => decide ((sectionUnits img e).getD (2 * i) 0 < 2 ^ 26)
  | _ => false

/-- A section is not MALFORMED (R418). -/
def sectionOk (img : List Nat) (e : BootSection) : Bool :=
  1 ≤ e.typ && e.typ ≤ 4 && e.offset + e.len ≤ imgLength img && e.len % unitBytes e.typ = 0 && destinationOk img e &&
    (sectionUnits img e).all fun u => decide (u < 2 ^ 36)

/-- The digest that the signature is over (R417). -/
def imgDigest (img : List Nat) : Nat := natOf (sha256 (img.take (imgLength img - 64)))

/-- What verification finds (R417): 0 for a pass, else a HOLD_REASON. -/
def State.verifyImage (s : State) (img : List Nat) : Nat :=
  if img.length < 12 then bootREAD_ERROR
  else if !headerOk img then bootMALFORMED
  else if img.length < imgLength img then bootREAD_ERROR
  else
    let key := (img.drop 16).take 64
    let sg := img.drop (imgLength img - 64)
    if s.ident.bootKey ≠ some (natOf (sha256 key)) ||
        !ecdsaOk (imgDigest img) (natOf (key.take 32), natOf (key.drop 32)) (natOf (sg.take 32)) (natOf ((sg.drop 32).take 32))
    then bootSIGNATURE
    else if imgField img 12 4 < s.minVersion then bootVERSION
    else if (sectionsOf img).all (sectionOk img) then 0 else bootMALFORMED

/-- A measurement over the sections of some types, in table order (R411). -/
def measure (img : List Nat) (typs : List Nat) : Nat :=
  natOf (sha256 (((sectionsOf img).filter fun e => typs.contains e.typ).flatMap (sectionBytes img)))

/-! ### Loading (R418, step 4 of R419) -/

/-- Put units into a store of a die, from an index upward. -/
def putUnits (put : State → Nat → Nat → State) (base : Nat) (units : List Nat) (s : State) : State :=
  units.zipIdx.foldl (fun s p => put s (base + p.2) p.1) s

/-- Load a section to one die. -/
def State.loadTo (s : State) (img : List Nat) (e : BootSection) (d : Nat) : State :=
  let us := sectionUnits img e
  match e.typ with
  | 1 => putUnits (fun s a v => s.isPut d e.cluster a v) e.base us s
  | 2 => putUnits (fun s a v => s.setReg d .cluThreadMap [e.cluster, a / 32, a % 32] v) (2 * e.base) us s
  | 3 => putUnits (fun s a v => s.gsPut d a v) e.base us s
  | _ => s

/-- The dies that a section names and that die 0 reaches. -/
def State.loadDies (s : State) (dies : Nat) : List Nat := (maskList dies 8).filter fun d => s.reach 0 d

/-- Violations counted so far on all dies. -/
def State.violations (s : State) : List Ctr := (List.range 8).map fun d => s.ctr d ctrDCTL 0

/-- Apply one entry of a register list as a host write; a violation sets REG_VIOL (R418, R379). -/
def State.listEntry (s : State) (off v : Nat) : State :=
  let t := s.hostWrite (off / 2 ^ 23) (off % 2 ^ 23) (v % 2 ^ 32)
  if t.violations = s.violations then t else t.setFld 0 .dctlBootStat [] 9 1 1

/-- Apply a register list in order. -/
def State.listApply (s : State) : List Nat → State
  | off :: v :: us => (s.listEntry off v).listApply us
  | _ => s

/-- Load one section of an image. -/
def State.loadSection (s : State) (img : List Nat) (e : BootSection) : State :=
  if e.typ = 4 then s.listApply (sectionUnits img e)
  else (s.loadDies e.dies).foldl (fun s d => s.loadTo img e d) s

/-! ### The steps of a boot (R419) -/

/-- Write DCTL.BOOT_STAT.PHASE and HOLD_REASON. -/
def State.bootPhase (s : State) (phase reason : Nat) : State :=
  (s.setFld 0 .dctlBootStat [] 0 3 phase).setFld 0 .dctlBootStat [] 3 4 reason

/-- Journal a case of KIND BOOT for a die: the boot ROM of die 0 makes the record, also for a die that does not answer. -/
def State.bootNote (s : State) (d : Nat) : State :=
  s.journalRec { kind := 7, time := s.time 0, die := d, reason := 0, w4 := s.reg 0 .dctlBootStat [] }

/-- Step 5 on a die: TRAIN_GO, and the end of its training. A failure sets DRAM_FAIL and is journaled. -/
def State.bootTrain (s : State) (fail : Nat) (d : Nat) : State :=
  let s := s.trainGo d
  if (s.die d).dram.running then
    let s := s.trainEnd d (!bit fail d) 0
    if bit fail d then (s.setFld 0 .dctlBootStat [] (10 + d) 1 1).bootNote d else s
  else s

/-- A die that is unreachable at step 4 is skipped: its bit is set and the case is journaled. -/
def State.bootSkip (s : State) (d : Nat) : State := (s.setFld 0 .dctlBootStat [] (18 + d) 1 1).bootNote d

/-- The core is released: one of its threads has a role in the thread map (R146). -/
def State.hasRole (s : State) (d c : Nat) : Bool := (coreThreads c).any fun k => s.mapWord d k 0 % 4 ≠ 0

/-- Step 6 on a die: the thread map is applied to every core, every core with a non-IDLE thread enters RESTARTING, and the
count of core cycles starts (R123, R146, R485). -/
def State.releaseThreads (s : State) (d : Nat) : State :=
  (List.range 48).foldl (fun s c =>
    let s := s.applyMaps d c
    if s.hasRole d c && !s.checker d c then s.restartCore d c else s) (s.modDie d fun x => { x with coreStart := s.now })

/-- Steps 4 to 6 on a verified image. -/
def State.bootLoad (s : State) (img : List Nat) (trainFail : Nat) (slotB : Bool) : State :=
  let there := (List.range 8).filter fun d => s.reach 0 d
  let s := s.bootPhase 3 0
  let s := s.eachDie fun s d => if there.contains d then s else s.bootSkip d
  let s := (sectionsOf img).foldl (fun s e => s.loadSection img e) s
  let s := there.foldl (fun s d => s.bootTrain trainFail d) (s.bootPhase 4 0)
  let s := there.foldl State.releaseThreads (s.bootPhase 5 0)
  let s := s.setFld 0 .dctlPartState [] 0 1 1
  let s := (s.ctlPairPut 0 (s.bootCount + 1)).bootPhase 6 0
  { s with ident := { s.ident with
    mImage := imgDigest img, mThread := measure img [2], mConfig := measure img [3, 4]
    version := imgField img 12 4, slotB := slotB } }

/-- The boot ends in BOOT_HOLD: HOLD_COUNT increases, the measurements are 0 and the case is journaled (R411, R420). -/
def State.bootHold (s : State) (reason : Nat) : State :=
  let s := (s.bootPhase 7 reason).ctlPairPut 2 (s.ctlPair 2 + 1)
  { s with ident := { s.ident with mImage := 0, mThread := 0, mConfig := 0, version := 0, slotB := false } }.bootNote 0

/-- A fault journal record whose CRC holds. -/
def State.faultRecordOk (s : State) (slot : Nat) : Bool :=
  let ws := (List.range 8).map fun i => s.mramWord (10240 + 8 * slot + i)
  (ws.getD 7 0).toNat = crcWords (ws.take 7)

/-- The slot after the record with the highest SEQ whose CRC holds (R423); a ring with none starts at slot 0. -/
def State.journalHead (s : State) : Nat :=
  let seq := fun (slot : Nat) => (s.mramWord (10240 + 8 * slot)).toNat % 2 ^ 32
  let best := (List.range 4096).foldl (fun (b : Option Nat) slot =>
    if !s.faultRecordOk slot then b
    else match b with
      | some x => if seq x < seq slot then some slot else b
      | none => some slot) none
  match best with
  | some x => (x + 1) % 4096
  | none => 0

/-- Step 1: the fuses are read, and the journal ring is scanned for its head. The SRAMs of every die hold their reset
contents. -/
def State.bootFuses (s : State) : State :=
  { s with ident := { s.ident with bootKey := s.ident.owner } }.setFld 0 .dctlJrnStat [] 0 12 s.journalHead

/-- The verdict on a NOR slot: an unreadable slot is a READ_ERROR. -/
def State.slotVerdict (s : State) : Option (List Nat) → Nat
  | none => bootREAD_ERROR
  | some img => s.verifyImage img

/-- Steps 2 to 6 of a boot from NOR: slot A, then slot B. -/
def State.bootSlots (s : State) (a b : Option (List Nat)) (trainFail : Nat) : State :=
  if s.slotVerdict a = 0 then s.bootLoad (a.getD []) trainFail false
  else
    let s := s.setFld 0 .dctlBootStat [] 7 1 1
    if s.slotVerdict b = 0 then s.bootLoad (b.getD []) trainFail true else s.bootHold (s.slotVerdict b)

/-- Every link of the variant has left TRAINING, as it has before step 4 (R487). -/
def State.linksTrained (s : State) : Bool :=
  (List.range 8).all fun d => (List.range 3).all fun k =>
    !s.has d || !s.has (farEnd s.fuses.dies d k) || s.link d k ≠ .training

/-- BOOT (R416, R419, R420): RESET_N is released with no cause of the part's own reset left, and the straps are sampled; the
links have trained meanwhile (R487, log entry 68). The slots are what a read of the NOR returns, none where it fails; bit d of
`trainFail` makes die d's training fail. -/
def execBoot (slotA slotB : Option (List Byte)) (bootSrc pcieBif : Bool) (trainFail : Byte) (s : State) : Res :=
  cmdAlways s fun s =>
    if s.pwr.booted || !s.pwr.causes.isEmpty || !s.linksTrained then s
    else
      let s := { s with pwr := { s.pwr with low := false, booted := true, bootSrc := bootSrc, twoEnds := pcieBif } }.bootFuses
      if s.ident.bootKey.isNone then s.bootHold 1
      else if bootSrc then s.bootHold 6
      else s.bootSlots (slotA.map toNats) (slotB.map toNats) trainFail.toNat

/-- RECOVER_LOAD (R420): an image from host memory; with PROGRAM = 1 it also goes to NOR slot A. -/
def execRecoverLoad (trainFail : Byte) (s : State) : Res :=
  cmd s fun s => s.identRing 12 fun s c =>
    let n := bits c.d2 0 32
    let img := c.argBytes n
    if !c.named 0x8000 true false (2 ^ 32 - 1) || 16777216 < n then s.identDone cMALFORMED
    else if !s.pwr.booted || s.running then s.identDone cSTATE
    else if s.verifyImage img ≠ 0 then s.identDone cDENIED
    else
      let s := s.bootLoad img trainFail.toNat false
      (if bit c.d0 15 then s.emit (.norWrite (toBytes img)) else s).identDone cDONE

end Sys2Proof.Machine
end

