-- ==== Sys2Proof/Machine/DecimalInstr.lean ====
section
/-! DEFINITION. The packed-decimal instructions (R174, R195 to R198): each is issued by the thread that its command names, when
the word at the thread's PC is that instruction. -/

namespace Sys2Proof.Machine

open Sys2Proof

/-- DADD (R174, R197, R198). -/
def execDadd (t : Tid) (d a b : BitVec 5) (s : State) : Res :=
  onIssue s t (.dec .dadd d a b)

/-- DADC (R174, R197, R198). -/
def execDadc (t : Tid) (d a b : BitVec 5) (s : State) : Res :=
  onIssue s t (.dec .dadc d a b)

/-- DSUB (R174, R197, R198). -/
def execDsub (t : Tid) (d a b : BitVec 5) (s : State) : Res :=
  onIssue s t (.dec .dsub d a b)

/-- DSBC (R174, R197, R198). -/
def execDsbc (t : Tid) (d a b : BitVec 5) (s : State) : Res :=
  onIssue s t (.dec .dsbc d a b)

/-- DSHL (R174, R197, R198). -/
def execDshl (t : Tid) (d a b : BitVec 5) (s : State) : Res :=
  onIssue s t (.dec .dshl d a b)

/-- DSHR (R174, R197, R198). -/
def execDshr (t : Tid) (d a b : BitVec 5) (s : State) : Res :=
  onIssue s t (.dec .dshr d a b)

/-- DCMP (R174, R197). -/
def execDcmp (t : Tid) (a b : BitVec 5) (s : State) : Res :=
  onIssue s t (.dec .dcmp 0 a b)

/-- DADJ (R174, R195, R196, R198). -/
def execDadj (t : Tid) (d a : BitVec 5) (s : State) : Res :=
  onIssue s t (.dec .dadj d a 0)

/-- DSADJ (R174, R195, R196, R198). -/
def execDsadj (t : Tid) (d a : BitVec 5) (s : State) : Res :=
  onIssue s t (.dec .dsadj d a 0)

/-- BIN2D (R174, R195, R196, R198). -/
def execBin2d (t : Tid) (d a : BitVec 5) (s : State) : Res :=
  onIssue s t (.dec .bin2d d a 0)

/-- D2BIN (R174, R195, R196, R198). -/
def execD2bin (t : Tid) (d a : BitVec 5) (s : State) : Res :=
  onIssue s t (.dec .d2bin d a 0)

/-- DVALID (R174, R198). -/
def execDvalid (t : Tid) (a : BitVec 5) (s : State) : Res :=
  onIssue s t (.dec .dvalid 0 a 0)

end Sys2Proof.Machine
end

