-- ==== Sys2Proof/Machine/FlowInstr.lean ====
section
/-! DEFINITION. The branch, channel, WAIT, CRC and system instructions (R178 to R187): each is issued by the thread that its
command names, when the word at the thread's PC is that instruction. -/

namespace Sys2Proof.Machine

open Sys2Proof

/-- Bcc (R178). -/
def execBcc (t : Tid) (cond : BitVec 4) (off : BitVec 24) (s : State) : Res :=
  onIssue s t (.bcc cond off)

/-- JAL (R178). -/
def execJal (t : Tid) (d : BitVec 5) (target : BitVec 16) (s : State) : Res :=
  onIssue s t (.jal d target)

/-- JR (R178). -/
def execJr (t : Tid) (a : BitVec 5) (s : State) : Res :=
  onIssue s t (.jr a)

/-- CHS (R129, R179). -/
def execChs (t : Tid) (a : BitVec 5) (n : BitVec 6) (s : State) : Res :=
  onIssue s t (.chs a n)

/-- CHE (R129, R179). -/
def execChe (t : Tid) (a : BitVec 5) (n : BitVec 6) (s : State) : Res :=
  onIssue s t (.che a n)

/-- CHR (R131, R179). -/
def execChr (t : Tid) (d : BitVec 5) (n : BitVec 6) (s : State) : Res :=
  onIssue s t (.chr d n)

/-- WAIT (R133, R180). -/
def execWait (t : Tid) (d a : BitVec 5) (s : State) : Res :=
  onIssue s t (.wait d a)

/-- WAITI (R133, R180). -/
def execWaiti (t : Tid) (d : BitVec 5) (src : BitVec 17) (s : State) : Res :=
  onIssue s t (.waiti d src)

/-- CRC (R185). -/
def execCrc (t : Tid) (d a : BitVec 5) (n : BitVec 6) (k : BitVec 2) (s : State) : Res :=
  onIssue s t (.crc d a n k)

/-- CRCP (R185). -/
def execCrcp (t : Tid) (d a : BitVec 5) (n : BitVec 6) (s : State) : Res :=
  onIssue s t (.crcp d a n)

/-- MFS (R156, R186). -/
def execMfs (t : Tid) (d : BitVec 5) (n : BitVec 6) (s : State) : Res :=
  onIssue s t (.mfs d n)

/-- MTS (R156, R186). -/
def execMts (t : Tid) (n : BitVec 6) (a : BitVec 5) (s : State) : Res :=
  onIssue s t (.mts n a)

/-- RPT (R186, R187, R201). -/
def execRpt (t : Tid) (a : BitVec 5) (s : State) : Res :=
  onIssue s t (.rpt a)

/-- TCTL (R144, R186). -/
def execTctl (t : Tid) (a : BitVec 5) (abandon : Bool) (s : State) : Res :=
  onIssue s t (.tctl a abandon)

/-- CCTL (R186). -/
def execCctl (t : Tid) (a : BitVec 5) (k : BitVec 8) (s : State) : Res :=
  onIssue s t (.cctl a k)

end Sys2Proof.Machine
end

