-- ==== Sys2Proof/Machine/ResetClocks.lean ====
section
/-! DEFINITION. Reset, reference clocks, junction temperature and the PCIe links (R373, R374, R416, R463 to R467, R478,
R479). -/

namespace Sys2Proof.Machine

open Sys2Proof

/-! ### Reset (R463 to R465) -/

/-- The outputs in reset: the event outputs and PPS_OUT go low, and every ball takes its state of reset (R465). -/
def State.outputsLow (s : State) : State :=
  let s := (maskList s.ax.pins 8).foldl (fun s n => s.emit (.eventPin n false)) s
  (if s.ax.ppsFall.isSome then s.emit (.pps false) else s).emit .resetBalls

/-- What reset does not touch: the fuses, the owner key hash among them, the MRAM, the reset causes, the temperature alarm, the
TAP, and the model's own record of outputs, free values and waiting commands. -/
def State.afterReset (s : State) : State :=
  { State.reset with
    fuses := s.fuses, ident := { owner := s.ident.owner }, mram := s.mram, serdesLost := s.serdesLost
    tap := { s.tap with dbg := none }
    pwr := { s.pwr with booted := false, link1 := false }
    out := s.out, draws := s.draws, pending := s.pending }

/-- The part enters reset, unless it is in reset already: every register and store returns to its reset value but for
RESET_CAUSE and the level of THERM_ALERT_N. -/
def State.enterReset (s : State) : State :=
  if s.inReset then s
  else
    let cause := s.reg 0 .dctlResetCause []
    (s.outputsLow.afterReset.setReg 0 .dctlResetCause [] cause).setFld 0 .dctlTherm [] 8 1 (b1 s.pwr.alert)

/-- Record a cause of reset: bit i of RESET_CAUSE. -/
def State.recordCause (s : State) (i : Nat) : State := s.setFld 0 .dctlResetCause [] i 1 1

/-- The part resets itself with a cause (R464). -/
def State.selfReset (s : State) (i : Nat) : State :=
  let s := s.enterReset.recordCause i
  { s with pwr := { s.pwr with causes := i :: s.pwr.causes.filter (· ≠ i), causeAt := s.now } }

/-- RESET_N_ASSERT: RESET_N is accepted low (R463). -/
def execResetNAssert (s : State) : Res :=
  cmdAlways s fun s =>
    let s := s.enterReset.recordCause 1
    { s with pwr := { s.pwr with low := true, lowAt := s.now } }

/-- BROWNOUT of a rail: 0 VDD, 1 VDDS, 2 VDDQ, 3 VIO18, 4 VIO33 (R464). -/
def execBrownout (rail : Nat) (s : State) : Res :=
  cmdAlways s fun s => (s.selfReset 2).setFld 0 .dctlResetCause [] 8 3 rail

/-- SYSCLK_LOSS (R467). -/
def execSysclkLoss (s : State) : Res := cmdAlways s fun s => s.selfReset 3

/-- A trip may clear: RESET_N has been low for 1 ms since, and every die reads below 125 °C (R464, R479). -/
def State.tripClears (s : State) : Bool :=
  s.pwr.low && s.pwr.lowAt + 1000000 ≤ s.now && (List.range 8).all fun d =>
    !s.has d || (s.fld d .dctlTemp [] 9 1 = 1 && decide (sext (s.fld d .dctlTemp [] 0 9) 9 < 125))

/-- SELF_RESET_END: every cause has cleared, no sooner than 1 ms after it began, and RESET_N is high; boot may start (R464). -/
def execSelfResetEnd (s : State) : Res :=
  cmdAlways s fun s =>
    if s.pwr.causes.isEmpty || s.now < s.pwr.causeAt + 1000000 || (s.pwr.causes.contains 4 && !s.tripClears) then s
    else { s with pwr := { s.pwr with low := false, causes := [] } }.thermAlert

/-! ### Reference clocks (R467) -/

/-- SERDES_REFCLK_LOSS: link ends on every lane MAC and SGMII port. -/
def execSerdesRefclkLoss (s : State) : Res :=
  cmdAlways s fun s =>
    { s with serdesLost := true }.eachDie fun s d => ((List.range 10).foldl (fun (s : State) p => s.pcsDown d p) s).settle d

/-- SERDES_REFCLK_RETURN: the ports may train again. -/
def execSerdesRefclkReturn (s : State) : Res := cmdAlways s fun s => { s with serdesLost := false }

/-- The PCIe links go down; a link that comes back finds the function in D0. -/
def State.pcieDown (s : State) : State := { s with pcieUp := false, pciePower := .d0, pwr := { s.pwr with link1 := false } }

/-- PCIE_REFCLK_LOSS. -/
def execPcieRefclkLoss (s : State) : Res :=
  cmdAlways s fun s => { s.pcieDown with pwr := { s.pcieDown.pwr with pcieLost := true } }

/-! ### The PCIe endpoints (R373, R374, R416) -/

/-- Send the messages whose pending bits are set and whose vectors are not masked (log entry 20). -/
def State.msixFlush (s : State) : State :=
  (List.range 256).foldl (fun s v =>
    if bit (s.reg 0 .dctlMsixPba [v / 32]) (v % 32) && !bit (s.reg 0 .dctlMsixTable [v, 3]) 0 then
      (s.setReg 0 .dctlMsixPba [v / 32] (putBit (s.reg 0 .dctlMsixPba [v / 32]) (v % 32) false)).sendMsix (v / 32) (v % 32)
    else s) s

/-- PCIE_LINK_UP: the link of die 0's endpoint trains up, with PCIE_REFCLK present; or that of die 1's, which exists only with
PCIE_BIF high while die 0's endpoint is in D0 with its link up. -/
def execPcieLinkUp (second : Bool) (s : State) : Res :=
  cmd s fun s =>
    if second then
      if s.pwr.twoEnds && s.pcieLive then { s with pwr := { s.pwr with link1 := true } } else s
    else if s.pcieUp then s
    else { s with pcieUp := true, pciePower := .d0, pwr := { s.pwr with pcieLost := false } }.msixFlush

/-- PCIE_POWER_STATE: D0 or D3hot; die 1's endpoint goes with D0. -/
def execPciePowerState (p : PowerState) (s : State) : Res :=
  cmd s fun s =>
    if !s.pcieUp then s
    else
      let s := { s with pciePower := p }
      if p = .d0 then s.msixFlush else { s with pwr := { s.pwr with link1 := false } }

/-! ### Junction temperature (R478, R479) -/

/-- TJ of a die, below every reading when none has been taken. -/
def State.junction (s : State) (d : Nat) : Int :=
  if s.has d && s.fld d .dctlTemp [] 9 1 = 1 then sext (s.fld d .dctlTemp [] 0 9) 9 else -1000

/-- The die with the highest TJ, the lowest such die. -/
def State.hottest (s : State) : Nat := (List.range 8).foldl (fun b d => if s.junction b < s.junction d then d else b) 0

/-- TEMPERATURE_SAMPLE: a die's sensor reads; THERM_ALERT_N follows, and a reading of 135 °C or more trips the part. -/
def execTemperatureSample (d : Nat) (t : BitVec 9) (s : State) : Res :=
  if s.has d then
    cmdAlways s fun s =>
      let s := s.setReg d .dctlTemp [] (t.toNat + 512)
      let s := (s.setFld 0 .dctlTherm [] 9 3 s.hottest).thermAlert
      if 135 ≤ sext t.toNat 9 && !s.pwr.causes.contains 4 then (s.selfReset 4).thermAlert else s
  else .fault .absent

end Sys2Proof.Machine
end

