-- ==== Sys2Proof/Machine/Jtag.lean ====
section
/-! DEFINITION. The TAP (R473 to R476). Each command selects an instruction and makes one scan of its data register. Bit 0 of a
scanned value is the cell nearest TDO. Reset of the part does not hold the TAP back. -/

namespace Sys2Proof.Machine

open Sys2Proof

/-- Scanned signals of a variant (R476). -/
def scanSignals (dies : Nat) : Nat := 161 + 136 * dies

/-- Cells of the boundary-scan chain. -/
def scanCells (dies : Nat) : Nat := 3 * scanSignals dies

/-- Instructions with which the boundary register, or high-Z, takes the place of the part's own outputs. -/
def irDrives (ir : Nat) : Bool := ir = 0x00 || ir = 0x03 || ir = 0x04

/-- Select an instruction. Outputs that the last one took go back to the part unless this one takes them too. -/
def State.selectIr (s : State) (ir : Nat) : State :=
  let t := { s with tap := { s.tap with ir := ir } }
  if irDrives s.tap.ir && !irDrives ir then t.emit (.scanOff false) else t

/-- Capture and update of the boundary register: the capture cell of signal i, the first nearest TDI, takes its pin's level;
what the drive and enable cells capture the manual does not state (free values). -/
def State.scan (s : State) (pins shiftIn : Nat) : State :=
  let n := scanSignals s.fuses.dies
  let r := s.freeValue
  let cap := (List.range n).foldl (fun v i => putBit v (3 * n - 1 - 3 * i) (bit pins i)) (r.1 % 2 ^ (3 * n))
  { r.2 with tap := { r.2.tap with boundary := shiftIn % 2 ^ (3 * n) } }.emit (.tdo (3 * n) cap)

/-- The scanned outputs follow the boundary register. -/
def State.driveScan (s : State) : State := s.emit (.scanned s.tap.boundary)

/-- The bypass register captures 0. -/
def State.bypass (s : State) : State := s.emit (.tdo 1 0)

/-- TAP_RESET: the instruction becomes IDCODE (IEEE 1149.1, R473). -/
def execTapReset (s : State) : Res := cmdAlways s fun s => s.selectIr 0x02

/-- EXTEST. -/
def execExtest (pins shiftIn : Nat) (s : State) : Res :=
  cmdAlways s fun s => ((s.selectIr 0x00).driveScan.scan pins shiftIn).driveScan

/-- SAMPLE/PRELOAD. -/
def execSamplePreload (pins shiftIn : Nat) (s : State) : Res :=
  cmdAlways s fun s => (s.selectIr 0x01).scan pins shiftIn

/-- The identification register (R474). -/
def idcode (stepping : Nat) : Nat := 1 + 0x4B3 * 2 + 0x3680 * 2 ^ 12 + stepping % 16 * 2 ^ 28

/-- IDCODE. -/
def execIdcode (s : State) : Res :=
  cmdAlways s fun s => (s.selectIr 0x02).emit (.tdo 32 (idcode s.fuses.stepping))

/-- HIGHZ. -/
def execHighz (s : State) : Res := cmdAlways s fun s => ((s.selectIr 0x03).emit (.scanOff true)).bypass

/-- CLAMP. -/
def execClamp (s : State) : Res := cmdAlways s fun s => (s.selectIr 0x04).driveScan.bypass

/-- BYPASS, which every code without an instruction of its own acts as. -/
def execBypass (code : Byte) (s : State) : Res := cmdAlways s fun s => (s.selectIr code.toNat).bypass

/-- What Capture-DR loads with DBG selected (R475). -/
def Tap.dbgStatus (x : Tap) : Nat := b1 x.dbg.isSome + x.code % 256 * 2 + x.value % 2 ^ 36 * 2 ^ 9

/-- Update-DR with DBG selected: ignored while BUSY, else the command waits for the commands of its die's ring 3. -/
def State.dbgUpdate (s : State) (v : Nat) : State :=
  if s.tap.dbg.isSome || s.inReset then s
  else { s with tap := { s.tap with dbg := some (v, (s.ring (dbgDie v) 3).cmds.length) } }.tapRun

/-- DBG. -/
def execDbg (v : BitVec 96) (s : State) : Res :=
  cmdAlways s fun s =>
    let s := s.selectIr 0x20
    let t := (s.emit (.tdo 96 s.tap.dbgStatus)).dbgUpdate v.toNat
    if s.has (dbgDie v.toNat) then t.settle (dbgDie v.toNat) else t

end Sys2Proof.Machine
end

