-- ==== Sys2Proof/Machine/MemInstr.lean ====
section
/-! DEFINITION. The repeatable steps and the memory instructions (R175, R176): each is issued by the thread that its command
names, when the word at the thread's PC is that instruction. -/

namespace Sys2Proof.Machine

open Sys2Proof

/-- CPW (R175). -/
def execCpw (t : Tid) (sys : Bool) (d a b : BitVec 5) (s : State) : Res :=
  onIssue s t (.cpw sys d a b)

/-- CMPS (R175). -/
def execCmps (t : Tid) (a b : BitVec 5) (s : State) : Res :=
  onIssue s t (.cmps a b)

/-- DSTEP (R175). -/
def execDstep (t : Tid) (a b : BitVec 5) (s : State) : Res :=
  onIssue s t (.dstep a b)

/-- LDW (R176). -/
def execLdw (t : Tid) (d a : BitVec 5) (p : Bool) (disp : BitVec 15) (s : State) : Res :=
  onIssue s t (.mem .ldw d a p 3 disp)

/-- STW (R176). -/
def execStw (t : Tid) (d a : BitVec 5) (p : Bool) (disp : BitVec 15) (s : State) : Res :=
  onIssue s t (.mem .stw d a p 3 disp)

/-- LDP (R176). -/
def execLdp (t : Tid) (d a : BitVec 5) (p : Bool) (sz : BitVec 2) (disp : BitVec 15) (s : State) : Res :=
  onIssue s t (.mem .ldp d a p sz disp)

/-- STP (R176). -/
def execStp (t : Tid) (d a : BitVec 5) (p : Bool) (sz : BitVec 2) (disp : BitVec 15) (s : State) : Res :=
  onIssue s t (.mem .stp d a p sz disp)

/-- LDF (R176). -/
def execLdf (t : Tid) (d a : BitVec 5) (disp : BitVec 15) (s : State) : Res :=
  onIssue s t (.mem .ldf d a false 3 disp)

/-- STF (R176). -/
def execStf (t : Tid) (d a : BitVec 5) (disp : BitVec 15) (s : State) : Res :=
  onIssue s t (.mem .stf d a false 3 disp)

/-- LDO (R176). -/
def execLdo (t : Tid) (d a : BitVec 5) (disp : BitVec 15) (s : State) : Res :=
  onIssue s t (.mem .ldo d a false 3 disp)

/-- STO (R176). -/
def execSto (t : Tid) (d a : BitVec 5) (disp : BitVec 15) (s : State) : Res :=
  onIssue s t (.mem .sto d a false 3 disp)

/-- LDA (R176). -/
def execLda (t : Tid) (d a : BitVec 5) (disp : BitVec 15) (s : State) : Res :=
  onIssue s t (.mem .lda d a false 2 disp)

/-- STA (R176). -/
def execSta (t : Tid) (d a : BitVec 5) (disp : BitVec 15) (s : State) : Res :=
  onIssue s t (.mem .sta d a false 2 disp)

end Sys2Proof.Machine
end

