-- ==== Sys2Proof/Machine/OpInstr.lean ====
section
/-! DEFINITION. The graph, packet, table and helper instructions (R181 to R184): each is issued by the thread that its command
names, when the word at the thread's PC is that instruction. -/

namespace Sys2Proof.Machine

open Sys2Proof

/-- OPEND (R108, R114, R181). -/
def execOpend (t : Tid) (k : BitVec 3) (s : State) : Res :=
  onIssue s t (.opend k)

/-- SPAWN (R95, R96, R181). -/
def execSpawn (t : Tid) (a b : BitVec 5) (g : BitVec 8) (s : State) : Res :=
  onIssue s t (.spawn a b g)

/-- ENQ (R113, R181). -/
def execEnq (t : Tid) (a : BitVec 5) (s : State) : Res :=
  onIssue s t (.enq a)

/-- PGROW (R182). -/
def execPgrow (t : Tid) (a : BitVec 5) (s : State) : Res :=
  onIssue s t (.pgrow a)

/-- ANSC (R181, R396). -/
def execAnsc (t : Tid) (a : BitVec 5) (s : State) : Res :=
  onIssue s t (.ansc a)

/-- TBL (R183). -/
def execTbl (t : Tid) (d a : BitVec 5) (n : BitVec 6) (k : BitVec 2) (s : State) : Res :=
  onIssue s t (.tbl d a n k)

/-- TBLU (R183, R255). -/
def execTblu (t : Tid) (d a : BitVec 5) (n : BitVec 6) (k : BitVec 2) (c : BitVec 3) (s : State) : Res :=
  onIssue s t (.tblu d a n k c)

/-- HLOCK (R184, R210). -/
def execHlock (t : Tid) (n : BitVec 6) (s : State) : Res :=
  onIssue s t (.hlock n)

/-- HUNLOCK (R184, R212). -/
def execHunlock (t : Tid) (n : BitVec 6) (s : State) : Res :=
  onIssue s t (.hunlock n)

/-- HGO (R184, R213, R214). -/
def execHgo (t : Tid) (a : BitVec 5) (n : BitVec 6) (k : BitVec 3) (s : State) : Res :=
  onIssue s t (.hgo a n k)

/-- HTEST (R184). -/
def execHtest (t : Tid) (d : BitVec 5) (k : BitVec 3) (s : State) : Res :=
  onIssue s t (.htest d k)

end Sys2Proof.Machine
end

