-- ==== Sys2Proof/Machine/Tick.lean ====
section
/-! DEFINITION. What a fabric cycle does whatever is commanded (log entry 7): one nanosecond passes, which only a step on an
empty queue does. -/

namespace Sys2Proof.Machine

open Sys2Proof

/-! ### Axis 0 (R266) -/

/-- MLS.TIME_RATE, held within its limits. -/
def State.timeRate (s : State) : Int := max (-4294967) (min 4294967 (sext (s.reg 0 .mlsTimeRate []) 32))

/-- One nanosecond of axis 0: its value and its fraction, in units of 2^-32 ns. -/
def axisTick (rate : Int) (t frac : Nat) : Nat × Nat :=
  let f := ((frac : Int) + 2 ^ 32 + rate).toNat
  ((t + f / 2 ^ 32) % 2 ^ 72, f % 2 ^ 32)

/-- A die's copy of axis 0 moves on. -/
def State.axisGo (s : State) (d : Nat) : State :=
  let r := axisTick s.timeRate (s.time d) (s.die d).t0frac
  s.modDie d fun x => { x with t0 := r.1, t0frac := r.2 }

/-! ### Rounds (R117, R133, R153) -/

/-- A round ends for a thread: its timer counts down, and an end that the round before found due is latched (R133). -/
def Thread.roundEnd (x : Thread) : Thread :=
  { x with issued := false, lag := x.lag - 1, timer := if x.timer = 0 then 0 else x.timer - 1, timerDue := x.timer = 1
           timerLatch := x.timerLatch || x.timerDue }

/-- The threads whose slot the round left empty. -/
def State.emptySlots (s : State) (d : Nat) : List Nat :=
  ((s.die d).threads.filter fun p => p.2.role ≠ 0 && !p.2.issued && s.coreLive d (p.1 / 16)).map (·.1)

/-- The threads that the round found blocked in CHS, CHE or CHR. -/
def State.blockedSlots (s : State) (d : Nat) : List Nat :=
  ((s.die d).threads.filter fun p => p.2.st = .blocked && s.coreLive d (p.1 / 16)).map (·.1)

/-- A round ends on a die: EMPTY and CH_BLOCK of every core, and the timers. -/
def State.roundEnd (s : State) (d : Nat) : State :=
  let s := (s.emptySlots d).foldl (fun s k => s.countCore d (k / 16) 1) s
  let s := (s.blockedSlots d).foldl (fun s k => s.countCore d (k / 16) 4) s
  s.modDie d fun x => { x with threads := x.threads.map fun p => (p.1, p.2.roundEnd) }

/-- The threads of a die whose helper job has read poison take the fault in their slots, even while they wait (R225); one that has
stopped for good has no slot. -/
def State.poisonSlots (s : State) (d : Nat) : State :=
  ((s.die d).threads.filter fun p => p.2.poisonDue).foldl (fun s p =>
    let x := s.thr d p.1
    if !x.poisonDue then s
    else if x.st = .faulted || x.st = .parked then s.setThr d p.1 { x with poisonDue := false }
    else if s.slotOn d p.1 && (s.slotCycle d p.1).isSome then
      (s.setThr d p.1 { x with poisonDue := false }).progFault d p.1 fPOISON
    else s) s

/-! ### Deadlock conditions (R136, R137) -/

/-- Keep the start of a condition while it holds. -/
def holdSince (holds : Bool) (now : Nat) (old : Option Nat) : Option Nat := if holds then some (old.getD now) else none

/-- Note since when each core of a die, and each cluster, has met its deadlock condition. -/
def State.deadNote (s : State) (d : Nat) : State :=
  let s := ((s.die d).cores.map (·.1)).foldl (fun s c =>
    s.modCore d c fun y => { y with deadSince := holdSince (s.coreDead d c) s.now y.deadSince }) s
  let since := fun (cl : Nat) => holdSince (s.clusterDead d cl) s.now (sget (s.die d).clusterSince cl)
  s.modDie d fun x => { x with clusterSince := (List.range 12).filterMap fun cl => (since cl).map fun t => (cl, t) }

/-! ### Counters of fabric cycles (R83, R116, R231, R322, R430, R455) -/

/-- Count one cycle when a condition holds. -/
def State.cycle (s : State) (d blk i : Nat) (holds : Bool) : State := if holds then s.count d blk i else s

/-- HELPER operations of a die that wait for a lock. -/
def State.lockWaits (s : State) (d : Nat) : Nat := ((s.die d).helpers.map fun p => p.2.fifo.length).sum

/-- A queue of a die is paused. -/
def State.anyPaused (s : State) (d : Nat) : Bool :=
  !(s.die d).hop.pausedTo.isEmpty && (List.range 10).any fun p => (List.range 16).any fun c => s.queuePaused d p (16 * p + c)

/-- The counters of a die that count cycles. -/
def State.cycles (s : State) (d : Nat) : State :=
  let s := s.cycle d ctrHOP 13 (s.blocked d)
  let s := s.cycle d ctrDSP 7 (s.dspBlocked d)
  let s := s.cycle d ctrEGR 11 (s.anyPaused d)
  let s := s.cycle d ctrTLY 7 (s.samplePanic d)
  let s := s.cycle d ctrGRT 3 (s.reg d .grtSluice [] ≠ 0)
  let s := s.cycle d ctrGRT 4 (s.reg d .grtHold [] ≠ 0)
  if s.lockWaits d = 0 then s else s.count d ctrHLP 11 (s.lockWaits d)

/-! ### The cycle -/

/-- A round of a die's cores ends with the present cycle (R117, R485). -/
def State.lastOfRound (s : State) (d : Nat) : Bool := s.roundsFrom d s.now (s.now + 1) ≠ 0

/-- A cycle of one die: the controller's writes and a snapshot that waited go out, the table engine makes its own accesses, the
milestones look at what has moved, and a capture takes its next block (R243, R283, R366, R432, R434). -/
def State.dieCycle (s : State) (d : Nat) : State :=
  let t := s.time d
  let s := (((s.freeWaiting d).axisGo d).cycles d).poisonSlots d
  let s := if s.lastOfRound d then (s.roundEnd d).forceStrike d else s
  ((((((s.dramCycle d).tblCycle d).snapFlush d).msEval d).deadNote d).settle d).captureGo d t

/-- A 1PPS pulse that falls due while the output is off does not come (R267). -/
def State.ppsSkip (s : State) : State :=
  if !bit (s.reg 0 .mlsPpsCfg []) 0 && reached (s.time 0) s.ax.ppsNext then
    s.modAx fun a => { a with ppsNext := (s.time 0 / 1000000000 + 1) * 1000000000 % 2 ^ 72 }
  else s

/-- The work of a fabric cycle. -/
def State.cycleWork (s : State) : State :=
  (s.eachDie State.dieCycle).ppsSkip

/-- One fabric cycle of 1 ns: the model's clock moves, and the part works unless it is in reset. -/
def State.tick (s : State) : State :=
  { (if s.inReset then s else s.cycleWork) with fuses := s.fuses, now := s.now + 1, pending := s.pending }

end Sys2Proof.Machine
end

