-- ==== Sys2Proof/Machine/Dispatch.lean ====
section
/-! DEFINITION. The dispatch of commands: one arm for each row of the table. -/

namespace Sys2Proof.Machine

open Sys2Proof

/-- The effect of a command on everything but the queue. -/
def exec (i : Instr) (s : State) : Host.Outcome State Fault Refusal :=
  match i with
  | .registerWrite d off v be => Sys2Proof.Machine.execRegisterWrite d off v be s
  | .slotLowDwordWrite d off v => Sys2Proof.Machine.execSlotLowDwordWrite d off v s
  | .eventW1cClear d b v => Sys2Proof.Machine.execEventW1cClear d b v s
  | .crossMaxRead d => Sys2Proof.Machine.execCrossMaxRead d s
  | .devCeRead d rank dev => Sys2Proof.Machine.execDevCeRead d rank dev s
  | .wmkDropsRead => Sys2Proof.Machine.execWmkDropsRead s
  | .jrnDropsRead => Sys2Proof.Machine.execJrnDropsRead s
  | .ethernetFrameReceive d p rest err => Sys2Proof.Machine.execEthernetFrameReceive d p rest err s
  | .pauseFrameReceive d p pfc enable times => Sys2Proof.Machine.execPauseFrameReceive d p pfc enable times s
  | .pauseExpire d p pri => Sys2Proof.Machine.execPauseExpire d p pri s
  | .pauseSend d p => Sys2Proof.Machine.execPauseSend d p s
  | .pauseRepeat d p => Sys2Proof.Machine.execPauseRepeat d p s
  | .pcsLinkDown d p => Sys2Proof.Machine.execPcsLinkDown d p s
  | .pcsLinkUp d p speed => Sys2Proof.Machine.execPcsLinkUp d p speed s
  | .macPortConfig d p v => Sys2Proof.Machine.execMacPortConfig d p v s
  | .telegramFrameReceive d p rest => Sys2Proof.Machine.execTelegramFrameReceive d p rest s
  | .telegramAbort d p => Sys2Proof.Machine.execTelegramAbort d p s
  | .gapTimeout d p => Sys2Proof.Machine.execGapTimeout d p s
  | .telegramPortDisable d t v => Sys2Proof.Machine.execTelegramPortDisable d t v s
  | .frameFirstCell d p line => Sys2Proof.Machine.execFrameFirstCell d p line s
  | .cellAllocate d p line => Sys2Proof.Machine.execCellAllocate d p line s
  | .frameAdmit d => Sys2Proof.Machine.execFrameAdmit d s
  | .extract d => Sys2Proof.Machine.execExtract d s
  | .profileEnable d pr v => Sys2Proof.Machine.execProfileEnable d pr v s
  | .profileDisable d pr v => Sys2Proof.Machine.execProfileDisable d pr v s
  | .selectorDisable d e v => Sys2Proof.Machine.execSelectorDisable d e v s
  | .hopRegisterRead d off => Sys2Proof.Machine.execHopRegisterRead d off s
  | .classifierLookup d => Sys2Proof.Machine.execClassifierLookup d s
  | .hopperMove d => Sys2Proof.Machine.execHopperMove d s
  | .instantiate d => Sys2Proof.Machine.execInstantiate d s
  | .dispatchDelivery d g => Sys2Proof.Machine.execDispatchDelivery d g s
  | .commitApply d slot => Sys2Proof.Machine.execCommitApply d slot s
  | .tbluEntryComplete d slot => Sys2Proof.Machine.execTbluEntryComplete d slot s
  | .resolutionRecord d => Sys2Proof.Machine.execResolutionRecord d s
  | .ticketRelease d p => Sys2Proof.Machine.execTicketRelease d p s
  | .releaseGrant d => Sys2Proof.Machine.execReleaseGrant d s
  | .creditReturn d => Sys2Proof.Machine.execCreditReturn d s
  | .remoteEnqueueArrive d => Sys2Proof.Machine.execRemoteEnqueueArrive d s
  | .releaseSequenceSkip d g => Sys2Proof.Machine.execReleaseSequenceSkip d g s
  | .egressCopy d => Sys2Proof.Machine.execEgressCopy d s
  | .twipexRegisterTransaction d off write be => Sys2Proof.Machine.execTwipexRegisterTransaction d off write be s
  | .linkEnable d k v => Sys2Proof.Machine.execLinkEnable d k v s
  | .linkDisable d k v => Sys2Proof.Machine.execLinkDisable d k v s
  | .linkRetrain d => Sys2Proof.Machine.execLinkRetrain d s
  | .linkTrainingEnd d k lowPass highPass => Sys2Proof.Machine.execLinkTrainingEnd d k lowPass highPass s
  | .laneFailure d k => Sys2Proof.Machine.execLaneFailure d k s
  | .flitError d k failed => Sys2Proof.Machine.execFlitError d k failed s
  | .rerouteComplete => Sys2Proof.Machine.execRerouteComplete s
  | .spawn t a b g => Sys2Proof.Machine.execSpawn t a b g s
  | .opend t k => Sys2Proof.Machine.execOpend t k s
  | .enq t a => Sys2Proof.Machine.execEnq t a s
  | .pgrow t a => Sys2Proof.Machine.execPgrow t a s
  | .ansc t a => Sys2Proof.Machine.execAnsc t a s
  | .lookupNode d slot => Sys2Proof.Machine.execLookupNode d slot s
  | .enqueueNode d slot => Sys2Proof.Machine.execEnqueueNode d slot s
  | .discardNode d slot => Sys2Proof.Machine.execDiscardNode d slot s
  | .deadlineMiss d slot => Sys2Proof.Machine.execDeadlineMiss d slot s
  | .fallbackInstantiate d => Sys2Proof.Machine.execFallbackInstantiate d s
  | .graphEnable d g => Sys2Proof.Machine.execGraphEnable d g s
  | .gsDataWrite d hi => Sys2Proof.Machine.execGsDataWrite d hi s
  | .hardwareFault t stuck => Sys2Proof.Machine.execHardwareFault t stuck s
  | .lockstepMismatch t => Sys2Proof.Machine.execLockstepMismatch t s
  | .faultNoticeDeliver d c => Sys2Proof.Machine.execFaultNoticeDeliver d c s
  | .coreDeadlock d c => Sys2Proof.Machine.execCoreDeadlock d c s
  | .clusterDeadlock d cl => Sys2Proof.Machine.execClusterDeadlock d cl s
  | .localTimerExpire t => Sys2Proof.Machine.execLocalTimerExpire t s
  | .waitWake t => Sys2Proof.Machine.execWaitWake t s
  | .channelSendUnblock t => Sys2Proof.Machine.execChannelSendUnblock t s
  | .channelReceiveUnblock t => Sys2Proof.Machine.execChannelReceiveUnblock t s
  | .bankGrant d cl b => Sys2Proof.Machine.execBankGrant d cl b s
  | .tblAnswer t => Sys2Proof.Machine.execTblAnswer t s
  | .ldfAnswer t => Sys2Proof.Machine.execLdfAnswer t s
  | .coreStop d => Sys2Proof.Machine.execCoreStop d s
  | .coreRestart d => Sys2Proof.Machine.execCoreRestart d s
  | .coreRestartDone d c => Sys2Proof.Machine.execCoreRestartDone d c s
  | .threadStop d => Sys2Proof.Machine.execThreadStop d s
  | .threadResume d => Sys2Proof.Machine.execThreadResume d s
  | .threadStep d => Sys2Proof.Machine.execThreadStep d s
  | .stepCountDone t => Sys2Proof.Machine.execStepCountDone t s
  | .threadAbandon d => Sys2Proof.Machine.execThreadAbandon d s
  | .threadSignal d => Sys2Proof.Machine.execThreadSignal d s
  | .threadRead d => Sys2Proof.Machine.execThreadRead d s
  | .threadWrite d => Sys2Proof.Machine.execThreadWrite d s
  | .illegalInstruction t => Sys2Proof.Machine.execIllegalInstruction t s
  | .add t sys d a b => Sys2Proof.Machine.execAdd t sys d a b s
  | .adc t sys d a b => Sys2Proof.Machine.execAdc t sys d a b s
  | .sub t sys d a b => Sys2Proof.Machine.execSub t sys d a b s
  | .sbc t sys d a b => Sys2Proof.Machine.execSbc t sys d a b s
  | .neg t sys d a => Sys2Proof.Machine.execNeg t sys d a s
  | .abs t sys d a => Sys2Proof.Machine.execAbs t sys d a s
  | .cmp t a b => Sys2Proof.Machine.execCmp t a b s
  | .and t sys d a b => Sys2Proof.Machine.execAnd t sys d a b s
  | .or t sys d a b => Sys2Proof.Machine.execOr t sys d a b s
  | .xor t sys d a b => Sys2Proof.Machine.execXor t sys d a b s
  | .andn t sys d a b => Sys2Proof.Machine.execAndn t sys d a b s
  | .not t sys d a => Sys2Proof.Machine.execNot t sys d a s
  | .tst t a b => Sys2Proof.Machine.execTst t a b s
  | .mov t sys d a => Sys2Proof.Machine.execMov t sys d a s
  | .clz t sys d a => Sys2Proof.Machine.execClz t sys d a s
  | .popc t sys d a => Sys2Proof.Machine.execPopc t sys d a s
  | .shl t d a b => Sys2Proof.Machine.execShl t d a b s
  | .shr t d a b => Sys2Proof.Machine.execShr t d a b s
  | .sar t d a b => Sys2Proof.Machine.execSar t d a b s
  | .rol t d a b => Sys2Proof.Machine.execRol t d a b s
  | .ror t d a b => Sys2Proof.Machine.execRor t d a b s
  | .mul t d a b => Sys2Proof.Machine.execMul t d a b s
  | .mull t d a b => Sys2Proof.Machine.execMull t d a b s
  | .mullu t d a b => Sys2Proof.Machine.execMullu t d a b s
  | .divs t d a b => Sys2Proof.Machine.execDivs t d a b s
  | .divu t d a b => Sys2Proof.Machine.execDivu t d a b s
  | .addi t d a imm => Sys2Proof.Machine.execAddi t d a imm s
  | .subi t d a imm => Sys2Proof.Machine.execSubi t d a imm s
  | .cmpi t a imm => Sys2Proof.Machine.execCmpi t a imm s
  | .andi t d a imm => Sys2Proof.Machine.execAndi t d a imm s
  | .ori t d a imm => Sys2Proof.Machine.execOri t d a imm s
  | .xori t d a imm => Sys2Proof.Machine.execXori t d a imm s
  | .movi t d imm => Sys2Proof.Machine.execMovi t d imm s
  | .movhi t d a imm => Sys2Proof.Machine.execMovhi t d a imm s
  | .shli t d a n => Sys2Proof.Machine.execShli t d a n s
  | .shri t d a n => Sys2Proof.Machine.execShri t d a n s
  | .sari t d a n => Sys2Proof.Machine.execSari t d a n s
  | .roli t d a n => Sys2Proof.Machine.execRoli t d a n s
  | .rori t d a n => Sys2Proof.Machine.execRori t d a n s
  | .extu t d a lsb wm1 => Sys2Proof.Machine.execExtu t d a lsb wm1 s
  | .ins t d a lsb wm1 => Sys2Proof.Machine.execIns t d a lsb wm1 s
  | .dadd t d a b => Sys2Proof.Machine.execDadd t d a b s
  | .dadc t d a b => Sys2Proof.Machine.execDadc t d a b s
  | .dsub t d a b => Sys2Proof.Machine.execDsub t d a b s
  | .dsbc t d a b => Sys2Proof.Machine.execDsbc t d a b s
  | .dcmp t a b => Sys2Proof.Machine.execDcmp t a b s
  | .dadj t d a => Sys2Proof.Machine.execDadj t d a s
  | .dsadj t d a => Sys2Proof.Machine.execDsadj t d a s
  | .bin2d t d a => Sys2Proof.Machine.execBin2d t d a s
  | .d2bin t d a => Sys2Proof.Machine.execD2bin t d a s
  | .dshl t d a b => Sys2Proof.Machine.execDshl t d a b s
  | .dshr t d a b => Sys2Proof.Machine.execDshr t d a b s
  | .dvalid t a => Sys2Proof.Machine.execDvalid t a s
  | .cpw t sys d a b => Sys2Proof.Machine.execCpw t sys d a b s
  | .cmps t a b => Sys2Proof.Machine.execCmps t a b s
  | .dstep t a b => Sys2Proof.Machine.execDstep t a b s
  | .ldw t d a p disp => Sys2Proof.Machine.execLdw t d a p disp s
  | .stw t d a p disp => Sys2Proof.Machine.execStw t d a p disp s
  | .ldp t d a p sz disp => Sys2Proof.Machine.execLdp t d a p sz disp s
  | .stp t d a p sz disp => Sys2Proof.Machine.execStp t d a p sz disp s
  | .ldf t d a disp => Sys2Proof.Machine.execLdf t d a disp s
  | .stf t d a disp => Sys2Proof.Machine.execStf t d a disp s
  | .ldo t d a disp => Sys2Proof.Machine.execLdo t d a disp s
  | .sto t d a disp => Sys2Proof.Machine.execSto t d a disp s
  | .lda t d a disp => Sys2Proof.Machine.execLda t d a disp s
  | .sta t d a disp => Sys2Proof.Machine.execSta t d a disp s
  | .bcc t cond off => Sys2Proof.Machine.execBcc t cond off s
  | .jal t d target => Sys2Proof.Machine.execJal t d target s
  | .jr t a => Sys2Proof.Machine.execJr t a s
  | .chs t a n => Sys2Proof.Machine.execChs t a n s
  | .che t a n => Sys2Proof.Machine.execChe t a n s
  | .chr t d n => Sys2Proof.Machine.execChr t d n s
  | .wait t d a => Sys2Proof.Machine.execWait t d a s
  | .waiti t d src => Sys2Proof.Machine.execWaiti t d src s
  | .tbl t d a n k => Sys2Proof.Machine.execTbl t d a n k s
  | .tblu t d a n k c => Sys2Proof.Machine.execTblu t d a n k c s
  | .hlock t n => Sys2Proof.Machine.execHlock t n s
  | .hunlock t n => Sys2Proof.Machine.execHunlock t n s
  | .hgo t a n k => Sys2Proof.Machine.execHgo t a n k s
  | .htest t d k => Sys2Proof.Machine.execHtest t d k s
  | .crc t d a n k => Sys2Proof.Machine.execCrc t d a n k s
  | .crcp t d a n => Sys2Proof.Machine.execCrcp t d a n s
  | .mfs t d n => Sys2Proof.Machine.execMfs t d n s
  | .mts t n a => Sys2Proof.Machine.execMts t n a s
  | .rpt t a => Sys2Proof.Machine.execRpt t a s
  | .repeatIteration t => Sys2Proof.Machine.execRepeatIteration t s
  | .tctl t a abandon => Sys2Proof.Machine.execTctl t a abandon s
  | .cctl t a k => Sys2Proof.Machine.execCctl t a k s
  | .isDataWrite d cl hi => Sys2Proof.Machine.execIsDataWrite d cl hi s
  | .isDataRead d cl => Sys2Proof.Machine.execIsDataRead d cl s
  | .csDataWrite d cl hi => Sys2Proof.Machine.execCsDataWrite d cl hi s
  | .csDataRead d cl => Sys2Proof.Machine.execCsDataRead d cl s
  | .helperJobStart d h => Sys2Proof.Machine.execHelperJobStart d h s
  | .gcmEnc d h => Sys2Proof.Machine.execGcmEnc d h s
  | .gcmDec d h => Sys2Proof.Machine.execGcmDec d h s
  | .cmacGen d h => Sys2Proof.Machine.execCmacGen d h s
  | .cmacVer d h => Sys2Proof.Machine.execCmacVer d h s
  | .sha256 d h => Sys2Proof.Machine.execSha256 d h s
  | .ecdsaVer d h => Sys2Proof.Machine.execEcdsaVer d h s
  | .stuff d h => Sys2Proof.Machine.execStuff d h s
  | .unstuff d h => Sys2Proof.Machine.execUnstuff d h s
  | .escape d h => Sys2Proof.Machine.execEscape d h s
  | .unescape d h => Sys2Proof.Machine.execUnescape d h s
  | .fcsGen d h => Sys2Proof.Machine.execFcsGen d h s
  | .fcsCheck d h => Sys2Proof.Machine.execFcsCheck d h s
  | .manchEnc d h => Sys2Proof.Machine.execManchEnc d h s
  | .manchDec d h => Sys2Proof.Machine.execManchDec d h s
  | .encap d h => Sys2Proof.Machine.execEncap d h s
  | .decap d h => Sys2Proof.Machine.execDecap d h s
  | .copy d h => Sys2Proof.Machine.execCopy d h s
  | .fill d h => Sys2Proof.Machine.execFill d h s
  | .gather d h => Sys2Proof.Machine.execGather d h s
  | .compare d h => Sys2Proof.Machine.execCompare d h s
  | .helperJobComplete d h => Sys2Proof.Machine.execHelperJobComplete d h s
  | .threadWindowExpire d h => Sys2Proof.Machine.execThreadWindowExpire d h s
  | .lookup d => Sys2Proof.Machine.execLookup d s
  | .insert d => Sys2Proof.Machine.execInsert d s
  | .update d => Sys2Proof.Machine.execUpdate d s
  | .delete d => Sys2Proof.Machine.execDelete d s
  | .deleteIfIdle d => Sys2Proof.Machine.execDeleteIfIdle d s
  | .readClearHit d => Sys2Proof.Machine.execReadClearHit d s
  | .walk d => Sys2Proof.Machine.execWalk d s
  | .fence d => Sys2Proof.Machine.execFence d s
  | .fenceComplete d => Sys2Proof.Machine.execFenceComplete d s
  | .swapTable d => Sys2Proof.Machine.execSwapTable d s
  | .swapAccessPoint d => Sys2Proof.Machine.execSwapAccessPoint d s
  | .replicaCommand d => Sys2Proof.Machine.execReplicaCommand d s
  | .tableActivate d t => Sys2Proof.Machine.execTableActivate d t s
  | .tableFreeze d t => Sys2Proof.Machine.execTableFreeze d t s
  | .initStart d b => Sys2Proof.Machine.execInitStart d b s
  | .initComplete d => Sys2Proof.Machine.execInitComplete d s
  | .ctxDataWrite d hi => Sys2Proof.Machine.execCtxDataWrite d hi s
  | .ctxDataRead d => Sys2Proof.Machine.execCtxDataRead d s
  | .encoderEdge enc a b held => Sys2Proof.Machine.execEncoderEdge enc a b held s
  | .indexEdge enc held => Sys2Proof.Machine.execIndexEdge enc held s
  | .zeroCrossing input falling held => Sys2Proof.Machine.execZeroCrossing input falling held s
  | .axisBroadcast => Sys2Proof.Machine.execAxisBroadcast s
  | .axisRecordEffect => Sys2Proof.Machine.execAxisRecordEffect s
  | .bcastLoss d => Sys2Proof.Machine.execBcastLoss d s
  | .axisHeld n => Sys2Proof.Machine.execAxisHeld n s
  | .axisEnable n v => Sys2Proof.Machine.execAxisEnable n v s
  | .axisDisable n v => Sys2Proof.Machine.execAxisDisable n v s
  | .ppsOutRise => Sys2Proof.Machine.execPpsOutRise s
  | .ppsOutFall => Sys2Proof.Machine.execPpsOutFall s
  | .ppsInEdge falling => Sys2Proof.Machine.execPpsInEdge falling s
  | .milestoneFire d => Sys2Proof.Machine.execMilestoneFire d s
  | .sendDelivery d => Sys2Proof.Machine.execSendDelivery d s
  | .milestoneWaitComplete d => Sys2Proof.Machine.execMilestoneWaitComplete d s
  | .eventPinChange => Sys2Proof.Machine.execEventPinChange s
  | .pinPulseEnd pin => Sys2Proof.Machine.execPinPulseEnd pin s
  | .msArm d => Sys2Proof.Machine.execMsArm d s
  | .msDisarm d => Sys2Proof.Machine.execMsDisarm d s
  | .msRead d => Sys2Proof.Machine.execMsRead d s
  | .axisSet d => Sys2Proof.Machine.execAxisSet d s
  | .jumpEffect => Sys2Proof.Machine.execJumpEffect s
  | .capturePop d => Sys2Proof.Machine.execCapturePop d s
  | .msDataRead d => Sys2Proof.Machine.execMsDataRead d s
  | .axisJournalRecord => Sys2Proof.Machine.execAxisJournalRecord s
  | .queueAdmit d => Sys2Proof.Machine.execQueueAdmit d s
  | .readAheadRefill d q => Sys2Proof.Machine.execReadAheadRefill d q s
  | .transmitSelect d p => Sys2Proof.Machine.execTransmitSelect d p s
  | .portTransmit d p => Sys2Proof.Machine.execPortTransmit d p s
  | .enqueueTransmitted d p => Sys2Proof.Machine.execEnqueueTransmitted d p s
  | .gateListChange d pp l => Sys2Proof.Machine.execGateListChange d pp l s
  | .gateListEnable d pp l v => Sys2Proof.Machine.execGateListEnable d pp l v s
  | .gateListDisable d pp l v => Sys2Proof.Machine.execGateListDisable d pp l v s
  | .gateListEndWrite d pp l hi => Sys2Proof.Machine.execGateListEndWrite d pp l hi s
  | .glDataWrite d hi => Sys2Proof.Machine.execGlDataWrite d hi s
  | .queueEnable d q v => Sys2Proof.Machine.execQueueEnable d q v s
  | .hostRxDeliver d h e0 e1 => Sys2Proof.Machine.execHostRxDeliver d h e0 e1 s
  | .trainGo d => Sys2Proof.Machine.execTrainGo d s
  | .dramTrainingEnd d pass failed => Sys2Proof.Machine.execDramTrainingEnd d pass failed s
  | .dramReadRequest d who addr panic => Sys2Proof.Machine.execDramReadRequest d who addr panic s
  | .dramWriteRequest d who addr bytes panic => Sys2Proof.Machine.execDramWriteRequest d who addr bytes panic s
  | .dramReadReturn d => Sys2Proof.Machine.execDramReadReturn d s
  | .refreshTick d r => Sys2Proof.Machine.execRefreshTick d r s
  | .refsbIssue d r => Sys2Proof.Machine.execRefsbIssue d r s
  | .mr4Read d ind0 ind1 => Sys2Proof.Machine.execMr4Read d ind0 ind1 s
  | .srEntryStart d => Sys2Proof.Machine.execSrEntryStart d s
  | .sreIssue d => Sys2Proof.Machine.execSreIssue d s
  | .selfRefreshExit d => Sys2Proof.Machine.execSelfRefreshExit d s
  | .enterMaint d => Sys2Proof.Machine.execEnterMaint d s
  | .exitMaint d => Sys2Proof.Machine.execExitMaint d s
  | .retrain d => Sys2Proof.Machine.execRetrain d s
  | .mrw d => Sys2Proof.Machine.execMrw d s
  | .mrr d => Sys2Proof.Machine.execMrr d s
  | .mapMaskWrite d k hi => Sys2Proof.Machine.execMapMaskWrite d k hi s
  | .bolterDramStep d => Sys2Proof.Machine.execBolterDramStep d s
  | .bolterSramStep d store => Sys2Proof.Machine.execBolterSramStep d store s
  | .bolterRevisit d => Sys2Proof.Machine.execBolterRevisit d s
  | .sramWriteback d store cluster unit => Sys2Proof.Machine.execSramWriteback d store cluster unit s
  | .errorRingPop d => Sys2Proof.Machine.execErrorRingPop d s
  | .bar2Read second x n => Sys2Proof.Machine.execBar2Read second x n s
  | .bar2Write second x bytes => Sys2Proof.Machine.execBar2Write second x bytes s
  | .dTailWrite d r v => Sys2Proof.Machine.execDTailWrite d r v s
  | .descriptorFetch d r d0 d1 d2 d3 arg => Sys2Proof.Machine.execDescriptorFetch d r d0 d1 d2 d3 arg s
  | .cHeadWrite d r v => Sys2Proof.Machine.execCHeadWrite d r v s
  | .ringEnable d r v => Sys2Proof.Machine.execRingEnable d r v s
  | .ringDisable d r v => Sys2Proof.Machine.execRingDisable d r v s
  | .ringHalt d r => Sys2Proof.Machine.execRingHalt d r s
  | .htxFetch d e1 e3 bytes => Sys2Proof.Machine.execHtxFetch d e1 e3 bytes s
  | .htxHeadAck d v => Sys2Proof.Machine.execHtxHeadAck d v s
  | .hrxTailWrite d h v => Sys2Proof.Machine.execHrxTailWrite d h v s
  | .ansRead addr => Sys2Proof.Machine.execAnsRead addr s
  | .ansWrite addr be data => Sys2Proof.Machine.execAnsWrite addr be data s
  | .pagePublish page idle => Sys2Proof.Machine.execPagePublish page idle s
  | .ansPublishWrite v => Sys2Proof.Machine.execAnsPublishWrite v s
  | .hdataWrite v => Sys2Proof.Machine.execHdataWrite v s
  | .hdataRead => Sys2Proof.Machine.execHdataRead s
  | .ansClkLoss => Sys2Proof.Machine.execAnsClkLoss s
  | .enumerate dest src hops count => Sys2Proof.Machine.execEnumerate dest src hops count s
  | .release dest src hops => Sys2Proof.Machine.execRelease dest src hops s
  | .regRead dest src hops off seq => Sys2Proof.Machine.execRegRead dest src hops off seq s
  | .regWrite dest src hops off data seq => Sys2Proof.Machine.execRegWrite dest src hops off data seq s
  | .regResp dest src hops seq code data => Sys2Proof.Machine.execRegResp dest src hops seq code data s
  | .attestReq dest src hops nonce => Sys2Proof.Machine.execAttestReq dest src hops nonce s
  | .attestResp dest src hops report => Sys2Proof.Machine.execAttestResp dest src hops report s
  | .time dest src hops master corr => Sys2Proof.Machine.execTime dest src hops master corr s
  | .wmkBadFrame => Sys2Proof.Machine.execWmkBadFrame s
  | .timeFrameSend => Sys2Proof.Machine.execTimeFrameSend s
  | .attest => Sys2Proof.Machine.execAttest s
  | .readCert => Sys2Proof.Machine.execReadCert s
  | .installCert => Sys2Proof.Machine.execInstallCert s
  | .unlockChallenge => Sys2Proof.Machine.execUnlockChallenge s
  | .unlockResponse => Sys2Proof.Machine.execUnlockResponse s
  | .lock => Sys2Proof.Machine.execLock s
  | .ownerClaim => Sys2Proof.Machine.execOwnerClaim s
  | .setMinVersion => Sys2Proof.Machine.execSetMinVersion s
  | .wmkEnumerate => Sys2Proof.Machine.execWmkEnumerate s
  | .wmkRelease => Sys2Proof.Machine.execWmkRelease s
  | .wmkReg => Sys2Proof.Machine.execWmkReg s
  | .recoverLoad trainFail => Sys2Proof.Machine.execRecoverLoad trainFail s
  | .chainResponseTimeout => Sys2Proof.Machine.execChainResponseTimeout s
  | .unlockExpire => Sys2Proof.Machine.execUnlockExpire s
  | .boot slotA slotB bootSrc pcieBif trainFail => Sys2Proof.Machine.execBoot slotA slotB bootSrc pcieBif trainFail s
  | .journalWrite => Sys2Proof.Machine.execJournalWrite s
  | .jrnDataWrite hi => Sys2Proof.Machine.execJrnDataWrite hi s
  | .jrnDataRead => Sys2Proof.Machine.execJrnDataRead s
  | .snapshotTick d => Sys2Proof.Machine.execSnapshotTick d s
  | .snapshotEnable d v => Sys2Proof.Machine.execSnapshotEnable d v s
  | .counterZero d b => Sys2Proof.Machine.execCounterZero d b s
  | .ovfClear d b index all => Sys2Proof.Machine.execOvfClear d b index all s
  | .counterReadLatch d => Sys2Proof.Machine.execCounterReadLatch d s
  | .instructionSample d c => Sys2Proof.Machine.execInstructionSample d c s
  | .sampleWrite d => Sys2Proof.Machine.execSampleWrite d s
  | .sampleWriterEnable d v => Sys2Proof.Machine.execSampleWriterEnable d v s
  | .tagEnable d v => Sys2Proof.Machine.execTagEnable d v s
  | .setDelay d => Sys2Proof.Machine.execSetDelay d s
  | .delayedItemRelease d => Sys2Proof.Machine.execDelayedItemRelease d s
  | .setSluice d => Sys2Proof.Machine.execSetSluice d s
  | .setListHold d => Sys2Proof.Machine.execSetListHold d s
  | .setRefStretch d => Sys2Proof.Machine.execSetRefStretch d s
  | .flipDram d => Sys2Proof.Machine.execFlipDram d s
  | .flipSram d => Sys2Proof.Machine.execFlipSram d s
  | .forceFault d => Sys2Proof.Machine.execForceFault d s
  | .forceFaultTimeout d => Sys2Proof.Machine.execForceFaultTimeout d s
  | .forceHeld d => Sys2Proof.Machine.execForceHeld d s
  | .forceHeldExpire n => Sys2Proof.Machine.execForceHeldExpire n s
  | .clearAll d => Sys2Proof.Machine.execClearAll d s
  | .seed d => Sys2Proof.Machine.execSeed d s
  | .resetNAssert => Sys2Proof.Machine.execResetNAssert s
  | .brownout rail => Sys2Proof.Machine.execBrownout rail s
  | .selfResetEnd => Sys2Proof.Machine.execSelfResetEnd s
  | .sysclkLoss => Sys2Proof.Machine.execSysclkLoss s
  | .serdesRefclkLoss => Sys2Proof.Machine.execSerdesRefclkLoss s
  | .serdesRefclkReturn => Sys2Proof.Machine.execSerdesRefclkReturn s
  | .pcieRefclkLoss => Sys2Proof.Machine.execPcieRefclkLoss s
  | .temperatureSample d t => Sys2Proof.Machine.execTemperatureSample d t s
  | .tapReset => Sys2Proof.Machine.execTapReset s
  | .extest pins shiftIn => Sys2Proof.Machine.execExtest pins shiftIn s
  | .samplePreload pins shiftIn => Sys2Proof.Machine.execSamplePreload pins shiftIn s
  | .idcode => Sys2Proof.Machine.execIdcode s
  | .highz => Sys2Proof.Machine.execHighz s
  | .clamp => Sys2Proof.Machine.execClamp s
  | .bypass code => Sys2Proof.Machine.execBypass code s
  | .dbg v => Sys2Proof.Machine.execDbg v s
  | .pcieLinkUp second => Sys2Proof.Machine.execPcieLinkUp second s
  | .pciePowerState p => Sys2Proof.Machine.execPciePowerState p s
  | .timeReadLatch d => Sys2Proof.Machine.execTimeReadLatch d s
  | .ppsInReadLatch => Sys2Proof.Machine.execPpsInReadLatch s
  | .axisValueReadLatch d n which => Sys2Proof.Machine.execAxisValueReadLatch d n which s
  | .wmkTimeReadLatch => Sys2Proof.Machine.execWmkTimeReadLatch s

end Sys2Proof.Machine
end

