-- ==== Sys2Proof/WellFormed.lean ====
section
/-! DEFINITION. Well-formed commands: the ranges of the operands. A term outside them stands for no command of the part. -/

namespace Sys2Proof

/-- The thread's numbers are in range (R13). -/
def Tid.wf (t : Tid) : Bool := t.die < 8 && t.core < 48 && t.thr < 16

/-- The operands of a command are in range. -/
def Instr.wf : Instr → Bool
  | .registerWrite d off _ _ | .slotLowDwordWrite d off _ => d < 8 && off < 2 ^ 23
  | .eventW1cClear d _ _ | .crossMaxRead d => d < 8
  | .devCeRead d rank dev => d < 8 && rank < 2 && dev < 20
  | .wmkDropsRead | .jrnDropsRead => true
  | .ethernetFrameReceive d p _ _ => d < 8 && p < 32
  | .pauseFrameReceive d p pfc _ times => d < 8 && p < 32 && (times.length = (if pfc then 8 else 1) && times.all fun x =>
      x < 65536)
  | .pauseExpire d p pri => d < 8 && p < 32 && (pri.all fun x => x < 8)
  | .pauseSend d p | .pauseRepeat d p | .pcsLinkDown d p => d < 8 && p < 32
  | .pcsLinkUp d p speed => d < 8 && p < 32 && speed < 3
  | .macPortConfig d p _ | .telegramFrameReceive d p _ | .telegramAbort d p | .gapTimeout d p => d < 8 && p < 32
  | .telegramPortDisable d t _ => d < 8 && t < 8
  | .frameFirstCell d p _ | .cellAllocate d p _ => d < 8 && p < 32
  | .frameAdmit d | .extract d => d < 8
  | .profileEnable d pr _ | .profileDisable d pr _ => d < 8 && pr < 64
  | .selectorDisable d e _ => d < 8 && e < 64
  | .hopRegisterRead d off => d < 8 && off < 2 ^ 23
  | .classifierLookup d | .hopperMove d | .instantiate d => d < 8
  | .dispatchDelivery d g => d < 8 && g < 16
  | .commitApply d slot | .tbluEntryComplete d slot => d < 8 && slot < 16384
  | .resolutionRecord d => d < 8
  | .ticketRelease d p => d < 8 && p < 32
  | .releaseGrant d | .creditReturn d | .remoteEnqueueArrive d => d < 8
  | .releaseSequenceSkip d g => d < 8 && g < 256
  | .egressCopy d => d < 8
  | .twipexRegisterTransaction d off _ _ => d < 8 && off < 2 ^ 23
  | .linkEnable d k _ | .linkDisable d k _ => d < 8 && k < 3
  | .linkRetrain d => d < 8
  | .linkTrainingEnd d k _ _ | .laneFailure d k | .flitError d k _ => d < 8 && k < 3
  | .rerouteComplete => true
  | .spawn t _ _ _ | .opend t _ | .enq t _ | .pgrow t _ | .ansc t _ => t.wf
  | .lookupNode d slot | .enqueueNode d slot | .discardNode d slot | .deadlineMiss d slot => d < 8 && slot < 16384
  | .fallbackInstantiate d => d < 8
  | .graphEnable d g => d < 8 && g < 256
  | .gsDataWrite d _ => d < 8
  | .hardwareFault t _ | .lockstepMismatch t => t.wf
  | .faultNoticeDeliver d c | .coreDeadlock d c => d < 8 && c < 48
  | .clusterDeadlock d cl => d < 8 && cl < 12
  | .localTimerExpire t | .waitWake t | .channelSendUnblock t | .channelReceiveUnblock t => t.wf
  | .bankGrant d cl b => d < 8 && cl < 12 && b < 16
  | .tblAnswer t | .ldfAnswer t => t.wf
  | .coreStop d | .coreRestart d => d < 8
  | .coreRestartDone d c => d < 8 && c < 48
  | .threadStop d | .threadResume d | .threadStep d => d < 8
  | .stepCountDone t => t.wf
  | .threadAbandon d | .threadSignal d | .threadRead d | .threadWrite d => d < 8
  | .illegalInstruction t | .add t _ _ _ _ | .adc t _ _ _ _ | .sub t _ _ _ _ | .sbc t _ _ _ _ | .neg t _ _ _
  | .abs t _ _ _ | .cmp t _ _ | .and t _ _ _ _ | .or t _ _ _ _ | .xor t _ _ _ _ | .andn t _ _ _ _ | .not t _ _ _
  | .tst t _ _ | .mov t _ _ _ | .clz t _ _ _ | .popc t _ _ _ | .shl t _ _ _ | .shr t _ _ _ | .sar t _ _ _
  | .rol t _ _ _ | .ror t _ _ _ | .mul t _ _ _ | .mull t _ _ _ | .mullu t _ _ _ | .divs t _ _ _ | .divu t _ _ _
  | .addi t _ _ _ | .subi t _ _ _ | .cmpi t _ _ | .andi t _ _ _ | .ori t _ _ _ | .xori t _ _ _ | .movi t _ _
  | .movhi t _ _ _ | .shli t _ _ _ | .shri t _ _ _ | .sari t _ _ _ | .roli t _ _ _ | .rori t _ _ _ | .extu t _ _ _ _
  | .ins t _ _ _ _ | .dadd t _ _ _ | .dadc t _ _ _ | .dsub t _ _ _ | .dsbc t _ _ _ | .dcmp t _ _ | .dadj t _ _
  | .dsadj t _ _ | .bin2d t _ _ | .d2bin t _ _ | .dshl t _ _ _ | .dshr t _ _ _ | .dvalid t _ | .cpw t _ _ _ _
  | .cmps t _ _ | .dstep t _ _ | .ldw t _ _ _ _ | .stw t _ _ _ _ | .ldp t _ _ _ _ _ | .stp t _ _ _ _ _ | .ldf t _ _ _
  | .stf t _ _ _ | .ldo t _ _ _ | .sto t _ _ _ | .lda t _ _ _ | .sta t _ _ _ | .bcc t _ _ | .jal t _ _ | .jr t _
  | .chs t _ _ | .che t _ _ | .chr t _ _ | .wait t _ _ | .waiti t _ _ | .tbl t _ _ _ _ | .tblu t _ _ _ _ _
  | .hlock t _ | .hunlock t _ | .hgo t _ _ _ | .htest t _ _ | .crc t _ _ _ _ | .crcp t _ _ _ | .mfs t _ _ | .mts t _ _
  | .rpt t _ | .repeatIteration t | .tctl t _ _ | .cctl t _ _ => t.wf
  | .isDataWrite d cl _ | .isDataRead d cl | .csDataWrite d cl _ | .csDataRead d cl => d < 8 && cl < 12
  | .helperJobStart d h | .gcmEnc d h | .gcmDec d h | .cmacGen d h | .cmacVer d h | .sha256 d h | .ecdsaVer d h
  | .stuff d h | .unstuff d h | .escape d h | .unescape d h | .fcsGen d h | .fcsCheck d h | .manchEnc d h
  | .manchDec d h | .encap d h | .decap d h | .copy d h | .fill d h | .gather d h | .compare d h
  | .helperJobComplete d h | .threadWindowExpire d h => d < 8 && h < 36
  | .lookup d | .insert d | .update d | .delete d | .deleteIfIdle d | .readClearHit d | .walk d | .fence d
  | .fenceComplete d | .swapTable d | .swapAccessPoint d | .replicaCommand d => d < 8
  | .tableActivate d t | .tableFreeze d t => d < 8 && t < 64
  | .initStart d b => d < 8 && b < 64
  | .initComplete d | .ctxDataWrite d _ | .ctxDataRead d => d < 8
  | .encoderEdge enc _ _ _ | .indexEdge enc _ => enc < 6
  | .zeroCrossing input _ _ => 6 ≤ input && input ≤ 9
  | .axisBroadcast | .axisRecordEffect => true
  | .bcastLoss d => d < 8
  | .axisHeld n | .axisEnable n _ | .axisDisable n _ => 1 ≤ n && n ≤ 7
  | .ppsOutRise | .ppsOutFall | .ppsInEdge _ => true
  | .milestoneFire d | .sendDelivery d | .milestoneWaitComplete d => d < 8
  | .eventPinChange => true
  | .pinPulseEnd pin => pin < 8
  | .msArm d | .msDisarm d | .msRead d | .axisSet d => d < 8
  | .jumpEffect => true
  | .capturePop d | .msDataRead d => d < 8
  | .axisJournalRecord => true
  | .queueAdmit d => d < 8
  | .readAheadRefill d q => d < 8 && q < 4096
  | .transmitSelect d p | .portTransmit d p | .enqueueTransmitted d p => d < 8 && p < 32
  | .gateListChange d pp l | .gateListEnable d pp l _ | .gateListDisable d pp l _ | .gateListEndWrite d pp l _ => d < 8 &&
      pp < 18 && l < 8
  | .glDataWrite d _ => d < 8
  | .queueEnable d q _ => d < 8 && q < 4096
  | .hostRxDeliver d h _ _ => d < 8 && h < 64
  | .trainGo d => d < 8
  | .dramTrainingEnd d _ failed => d < 8 && failed < 2 ^ 20
  | .dramReadRequest d _ addr _ => d < 8 && addr < 2 ^ 40
  | .dramWriteRequest d _ addr bytes _ => d < 8 && addr < 2 ^ 40 && 1 ≤ bytes.length && addr % 128 + bytes.length ≤ 128
  | .dramReadReturn d => d < 8
  | .refreshTick d r | .refsbIssue d r => d < 8 && r < 2
  | .mr4Read d ind0 ind1 => d < 8 && ind0 < 8 && ind1 < 8
  | .srEntryStart d | .sreIssue d | .selfRefreshExit d | .enterMaint d | .exitMaint d | .retrain d | .mrw d | .mrr d => d < 8
  | .mapMaskWrite d i hi => d < 8 && i < 6 && hi < 2 ^ 32
  | .bolterDramStep d => d < 8
  | .bolterSramStep d store => d < 8 && 1 ≤ store && store ≤ 9
  | .bolterRevisit d => d < 8
  | .sramWriteback d store cluster _ => d < 8 && 1 ≤ store && store ≤ 9 && cluster < 12
  | .errorRingPop d => d < 8
  | .bar2Read _ x n => x < 2 ^ 40 && 1 ≤ n && x % 4096 + n ≤ 4096
  | .bar2Write _ x bytes => x < 2 ^ 40 && 1 ≤ bytes.length && x % 4096 + bytes.length ≤ 4096
  | .dTailWrite d r _ | .descriptorFetch d r _ _ _ _ _ | .cHeadWrite d r _ => d < 8 && r < 7
  | .ringEnable d r _ | .ringDisable d r _ | .ringHalt d r => d < 8 && r < 72
  | .htxFetch d _ _ bytes => d < 8 && bytes.length ≤ 16384
  | .htxHeadAck d _ => d < 8
  | .hrxTailWrite d h _ => d < 8 && h < 64
  | .ansRead _ | .ansWrite _ _ _ | .pagePublish _ _ | .ansPublishWrite _ | .hdataWrite _ | .hdataRead | .ansClkLoss
  | .enumerate _ _ _ _ | .release _ _ _ | .regRead _ _ _ _ _ | .regWrite _ _ _ _ _ _ | .regResp _ _ _ _ _ _ => true
  | .attestReq _ _ _ nonce => nonce.length = 32
  | .attestResp _ _ _ report => report.length = 224
  | .time _ _ _ _ _ | .wmkBadFrame | .timeFrameSend | .attest | .readCert | .installCert | .unlockChallenge
  | .unlockResponse | .lock | .ownerClaim | .setMinVersion | .wmkEnumerate | .wmkRelease | .wmkReg | .recoverLoad _
  | .chainResponseTimeout | .unlockExpire => true
  | .boot slotA slotB _ _ _ => (slotA.all fun x => x.length ≤ 16777216) && (slotB.all fun x => x.length ≤ 16777216)
  | .journalWrite | .jrnDataWrite _ | .jrnDataRead => true
  | .snapshotTick d | .snapshotEnable d _ => d < 8
  | .counterZero d b => d < 8 && b < 28
  | .ovfClear d b index _ => d < 8 && b < 28 && index < 256
  | .counterReadLatch d => d < 8
  | .instructionSample d c => d < 8 && c < 48
  | .sampleWrite d | .sampleWriterEnable d _ | .tagEnable d _ | .setDelay d | .delayedItemRelease d | .setSluice d
  | .setListHold d | .setRefStretch d | .flipDram d | .flipSram d | .forceFault d | .forceFaultTimeout d
  | .forceHeld d => d < 8
  | .forceHeldExpire n => 1 ≤ n && n ≤ 7
  | .clearAll d | .seed d => d < 8
  | .resetNAssert => true
  | .brownout rail => rail < 5
  | .selfResetEnd | .sysclkLoss | .serdesRefclkLoss | .serdesRefclkReturn | .pcieRefclkLoss => true
  | .temperatureSample d _ => d < 8
  | .tapReset | .extest _ _ | .samplePreload _ _ | .idcode | .highz | .clamp => true
  | .bypass code => code ∉ [0x00, 0x01, 0x02, 0x03, 0x04, 0x20]
  | .dbg _ | .pcieLinkUp _ | .pciePowerState _ => true
  | .timeReadLatch d => d < 8
  | .ppsInReadLatch => true
  | .axisValueReadLatch d n which => d < 8 && 1 ≤ n && n ≤ 7 && which < 3
  | .wmkTimeReadLatch => true

end Sys2Proof
end

