-- ==== Sys2Proof/Safety.lean ====
section
/-! DEFINITION. The terms in which statements about the machine are made: when a command can act, what no command touches,
which instruction a thread's command names and when that thread issues it. -/

namespace Sys2Proof.Machine

open Sys2Proof

/-! ### When a command acts -/

/-- The fuses name a variant of R1: 2, 4 or 8 dies. -/
def State.variantOk (s : State) : Bool := s.fuses.dies = 2 || s.fuses.dies = 4 || s.fuses.dies = 8

/-- The variant holds the die, and the part is out of reset (R2, R463). -/
def State.live (s : State) (d : Nat) : Prop := s.has d = true ∧ s.inReset = false

/-- The host reaches a die's registers: the part is out of reset, and the die is fitted and has a route from die 0 (R36,
R376). -/
def State.hostReaches (s : State) (d : Nat) : Prop := s.inReset = false ∧ s.reach 0 d = true

/-- The die whose register a command of its own row writes for the host. -/
def hostWriteOf : Instr → Option Nat
  | .eventW1cClear d _ _ => some d
  | .macPortConfig d _ _ => some d
  | .telegramPortDisable d _ _ => some d
  | .profileEnable d _ _ => some d
  | .profileDisable d _ _ => some d
  | .selectorDisable d _ _ => some d
  | .graphEnable d _ => some d
  | .gsDataWrite d _ => some d
  | .isDataWrite d _ _ => some d
  | .csDataWrite d _ _ => some d
  | .ctxDataWrite d _ => some d
  | .linkEnable d _ _ => some d
  | .linkDisable d _ _ => some d
  | .ringEnable d _ _ => some d
  | .ringDisable d _ _ => some d
  | .dTailWrite d _ _ => some d
  | .cHeadWrite d _ _ => some d
  | .htxHeadAck d _ => some d
  | .hrxTailWrite d _ _ => some d
  | .queueEnable d _ _ => some d
  | .gateListEnable d _ _ _ => some d
  | .gateListDisable d _ _ _ => some d
  | .gateListEndWrite d _ _ _ => some d
  | .glDataWrite d _ => some d
  | .trainGo d => some d
  | .mapMaskWrite d _ _ => some d
  | .errorRingPop d => some d
  | .tableActivate d _ => some d
  | .tableFreeze d _ => some d
  | .initStart d _ => some d
  | .counterZero d _ => some d
  | .ovfClear d _ _ _ => some d
  | .snapshotEnable d _ => some d
  | .sampleWriterEnable d _ => some d
  | .tagEnable d _ => some d
  | .capturePop d => some d
  | _ => none

/-- The die whose register a command of its own row reads for the host. -/
def hostReadOf : Instr → Option Nat
  | .crossMaxRead d => some d
  | .hopRegisterRead d _ => some d
  | .isDataRead d _ => some d
  | .csDataRead d _ => some d
  | .ctxDataRead d => some d
  | .devCeRead d _ _ => some d
  | .counterReadLatch d => some d
  | .timeReadLatch d => some d
  | .axisValueReadLatch d _ _ => some d
  | .msDataRead d => some d
  | _ => none

/-- A state with the fuses, the clock and the queue of another: what no command but a reset touches. -/
def State.keep (s t : State) : State := { t with fuses := s.fuses, now := s.now, pending := s.pending }

/-- Two states differ at most in a command's queue of waiting commands. -/
def State.sameButQueue (s t : State) : Prop := { t with pending := s.pending } = s

/-! ### Instructions of threads (R117, R165) -/

/-- The thread and the instruction that a thread's command names. -/
def namesIssue : Instr → Option (Tid × CoreInstr)
  | .spawn t a b g => some (t, .spawn a b g)
  | .opend t k => some (t, .opend k)
  | .enq t a => some (t, .enq a)
  | .pgrow t a => some (t, .pgrow a)
  | .ansc t a => some (t, .ansc a)
  | .add t sys d a b => some (t, .alu .add sys d a b)
  | .adc t sys d a b => some (t, .alu .adc sys d a b)
  | .sub t sys d a b => some (t, .alu .sub sys d a b)
  | .sbc t sys d a b => some (t, .alu .sbc sys d a b)
  | .neg t sys d a => some (t, .alu .neg sys d a 0)
  | .abs t sys d a => some (t, .alu .abs sys d a 0)
  | .cmp t a b => some (t, .alu .cmp false 0 a b)
  | .and t sys d a b => some (t, .alu .and sys d a b)
  | .or t sys d a b => some (t, .alu .or sys d a b)
  | .xor t sys d a b => some (t, .alu .xor sys d a b)
  | .andn t sys d a b => some (t, .alu .andn sys d a b)
  | .not t sys d a => some (t, .alu .not sys d a 0)
  | .tst t a b => some (t, .alu .tst false 0 a b)
  | .mov t sys d a => some (t, .alu .mov sys d a 0)
  | .clz t sys d a => some (t, .alu .clz sys d a 0)
  | .popc t sys d a => some (t, .alu .popc sys d a 0)
  | .shl t d a b => some (t, .sh .shl d a b)
  | .shr t d a b => some (t, .sh .shr d a b)
  | .sar t d a b => some (t, .sh .sar d a b)
  | .rol t d a b => some (t, .sh .rol d a b)
  | .ror t d a b => some (t, .sh .ror d a b)
  | .mul t d a b => some (t, .mul .mul d a b)
  | .mull t d a b => some (t, .mul .mull d a b)
  | .mullu t d a b => some (t, .mul .mullu d a b)
  | .divs t d a b => some (t, .mul .divs d a b)
  | .divu t d a b => some (t, .mul .divu d a b)
  | .addi t d a imm => some (t, .imm .addi d a imm)
  | .subi t d a imm => some (t, .imm .subi d a imm)
  | .cmpi t a imm => some (t, .imm .cmpi 0 a imm)
  | .andi t d a imm => some (t, .imm .andi d a imm)
  | .ori t d a imm => some (t, .imm .ori d a imm)
  | .xori t d a imm => some (t, .imm .xori d a imm)
  | .movi t d imm => some (t, .imm .movi d 0 imm)
  | .movhi t d a imm => some (t, .imm .movhi d a imm)
  | .shli t d a n => some (t, .shi .shl d a n)
  | .shri t d a n => some (t, .shi .shr d a n)
  | .sari t d a n => some (t, .shi .sar d a n)
  | .roli t d a n => some (t, .shi .rol d a n)
  | .rori t d a n => some (t, .shi .ror d a n)
  | .extu t d a lsb wm1 => some (t, .extu d a lsb wm1)
  | .ins t d a lsb wm1 => some (t, .ins d a lsb wm1)
  | .dadd t d a b => some (t, .dec .dadd d a b)
  | .dadc t d a b => some (t, .dec .dadc d a b)
  | .dsub t d a b => some (t, .dec .dsub d a b)
  | .dsbc t d a b => some (t, .dec .dsbc d a b)
  | .dcmp t a b => some (t, .dec .dcmp 0 a b)
  | .dadj t d a => some (t, .dec .dadj d a 0)
  | .dsadj t d a => some (t, .dec .dsadj d a 0)
  | .bin2d t d a => some (t, .dec .bin2d d a 0)
  | .d2bin t d a => some (t, .dec .d2bin d a 0)
  | .dshl t d a b => some (t, .dec .dshl d a b)
  | .dshr t d a b => some (t, .dec .dshr d a b)
  | .dvalid t a => some (t, .dec .dvalid 0 a 0)
  | .cpw t sys d a b => some (t, .cpw sys d a b)
  | .cmps t a b => some (t, .cmps a b)
  | .dstep t a b => some (t, .dstep a b)
  | .ldw t d a p disp => some (t, .mem .ldw d a p 3 disp)
  | .stw t d a p disp => some (t, .mem .stw d a p 3 disp)
  | .ldp t d a p sz disp => some (t, .mem .ldp d a p sz disp)
  | .stp t d a p sz disp => some (t, .mem .stp d a p sz disp)
  | .ldf t d a disp => some (t, .mem .ldf d a false 3 disp)
  | .stf t d a disp => some (t, .mem .stf d a false 3 disp)
  | .ldo t d a disp => some (t, .mem .ldo d a false 3 disp)
  | .sto t d a disp => some (t, .mem .sto d a false 3 disp)
  | .lda t d a disp => some (t, .mem .lda d a false 2 disp)
  | .sta t d a disp => some (t, .mem .sta d a false 2 disp)
  | .bcc t cond off => some (t, .bcc cond off)
  | .jal t d target => some (t, .jal d target)
  | .jr t a => some (t, .jr a)
  | .chs t a n => some (t, .chs a n)
  | .che t a n => some (t, .che a n)
  | .chr t d n => some (t, .chr d n)
  | .wait t d a => some (t, .wait d a)
  | .waiti t d src => some (t, .waiti d src)
  | .tbl t d a n k => some (t, .tbl d a n k)
  | .tblu t d a n k c => some (t, .tblu d a n k c)
  | .hlock t n => some (t, .hlock n)
  | .hunlock t n => some (t, .hunlock n)
  | .hgo t a n k => some (t, .hgo a n k)
  | .htest t d k => some (t, .htest d k)
  | .crc t d a n k => some (t, .crc d a n k)
  | .crcp t d a n => some (t, .crcp d a n)
  | .mfs t d n => some (t, .mfs d n)
  | .mts t n a => some (t, .mts n a)
  | .rpt t a => some (t, .rpt a)
  | .tctl t a abandon => some (t, .tctl a abandon)
  | .cctl t a k => some (t, .cctl a k)
  | _ => none

/-- A thread's next issue slot runs an instruction: the thread exists, its slot is on and it waits for nothing, no repeat is
in progress, no fault is forced on it, and the word at its PC is whole and is that instruction (R117, R118, R165, R166). -/
structure State.issues (s : State) (t : Tid) (i : CoreInstr) : Prop where
  exists_ : tidOk t s = true
  awake : s.inReset = false
  ready : s.canIssue t.die (tkey t) = true
  single : (s.thr t.die (tkey t)).rep = false
  unforced : s.forced t.die (tkey t) = false
  whole : (s.die t.die).flips (unitKey 3 (tkey t / 64) (s.thr t.die (tkey t)).pc) = 0
  word : decodeWord (sgetD (s.die t.die).istore (tkey t / 64 * 65536 + (s.thr t.die (tkey t)).pc) 0) = some i

/-- What an instruction that is done leaves of its thread besides its results: PC, the step count, and the rounds that it takes
(R119, R120, R150, R203). -/
def Thread.after (y : Thread) (pc : Nat) (rounds : Nat := 1) : Thread :=
  { y with pc := pc % 65536, st := .issuing, req := none, waitOn := 0, steps := y.steps - 1, lag := rounds }

/-- A thread that has used its slot of the present core cycle (R117, R485). -/
def State.inSlot (s : State) (d k : Nat) (y : Thread) : Thread :=
  { y with slotAt := match s.slotCycle d k with | some n => n + 1 | none => y.slotAt }

/-- A thread that has issued in its slot of the present core cycle (R117, R153, R485). -/
def State.slotUsed (s : State) (d k : Nat) (y : Thread) : Thread := { s.inSlot d k y with issued := true }

/-- A state in which only one thread, its core's samples, the counters and the counts of the deadlock tests have changed
(R136, R137, R153, R435). -/
def State.changedThread (s : State) (d k n : Nat) (cs : Store Ctr) (co : Store Core) (cl : Store Nat) (y : Thread) : State :=
  { s with draws := n }.modDie d fun x => { x with
    ctrs := cs, cores := co, clusterSince := cl, threads := sset x.threads k y }

/-- Such a state whose thread has issued in its slot: what an instruction on registers can touch. -/
def State.onlyThread (s : State) (d k n : Nat) (cs : Store Ctr) (co : Store Core) (cl : Store Nat) (y : Thread) : State :=
  s.changedThread d k n cs co cl (s.slotUsed d k y)

/-- The thread that a command names in a state. -/
def State.at_ (s : State) (t : Tid) : Thread := s.thr t.die (tkey t)

/-! ### Results of instructions on registers (R164 to R174) -/

/-- SYS = 1: the result goes to a system register (R164). -/
def CoreInstr.sys : CoreInstr → Bool
  | .alu _ sys .. => sys
  | .cpw sys .. => sys
  | _ => false

/-- The general register that receives an instruction's one-word result; none for an instruction that writes flags only. -/
def CoreInstr.dest : CoreInstr → Option (BitVec 5)
  | .alu .cmp .. => none
  | .alu .tst .. => none
  | .imm .cmpi .. => none
  | .alu _ _ d .. => some d
  | .imm _ d .. => some d
  | .sh _ d .. => some d
  | .shi _ d .. => some d
  | .extu d .. => some d
  | .ins d .. => some d
  | _ => none

/-- A poison tag stands on a source of an instruction (R162): its registers, C where the row adds it, and for INS the
destination. -/
def CoreInstr.tainted (x : Thread) : CoreInstr → Bool
  | .alu op _ _ a b => x.tag a || x.tag b || ((op = .adc || op = .sbc) && x.flTag)
  | .imm _ _ a _ => x.tag a
  | .sh _ _ a b => x.tag a || x.tag b
  | .shi _ _ a _ => x.tag a
  | .extu _ a .. => x.tag a
  | .ins d a .. => x.tag d || x.tag a
  | _ => false

/-- A thread after an instruction that writes at most one general register and the flags: every other register is the same,
and the written one holds the value with the tag; w0 stays 0 without a tag (R154, R162). -/
def Thread.wrote (x y : Thread) (dest : Option (BitVec 5)) (v : Word) (p : Bool) : Prop :=
  y = { x with w := y.w, tags := y.tags, z := y.z, n := y.n, c := y.c, v := y.v, dz := y.dz, dcv := y.dcv } ∧
    ∀ r : BitVec 5, (y.val r = if dest = some r ∧ r ≠ 0 then v else x.val r) ∧
      (y.tag r = if dest = some r ∧ r ≠ 0 then p else x.tag r)

/-- No flag, DCV or tag of either has changed. -/
def Thread.flagsKept (x y : Thread) : Prop :=
  y.z = x.z ∧ y.n = x.n ∧ y.c = x.c ∧ y.v = x.v ∧ y.dz = x.dz ∧ y.dcv = x.dcv ∧ y.flTag = x.flTag

/-- The operands of the one addition of R188: x, y and the carry in. -/
def addition (x : Thread) : CoreInstr → Option (Word × Word × Bool)
  | .alu .add _ _ a b => some (x.val a, x.val b, false)
  | .alu .adc _ _ a b => some (x.val a, x.val b, x.c)
  | .alu .sub _ _ a b => some (x.val a, ~~~x.val b, true)
  | .alu .sbc _ _ a b => some (x.val a, ~~~x.val b, x.c)
  | .alu .cmp _ _ a b => some (x.val a, ~~~x.val b, true)
  | .alu .neg _ _ a _ => some (0, ~~~x.val a, true)
  | .imm .addi _ a i => some (x.val a, i.signExtend 36, false)
  | .imm .subi _ a i => some (x.val a, ~~~i.signExtend 36, true)
  | .imm .cmpi _ a i => some (x.val a, ~~~i.signExtend 36, true)
  | _ => none

/-- The instructions that write DCV (R189). -/
def CoreInstr.writesDcv : CoreInstr → Bool
  | .alu op .. => op = .add || op = .adc || op = .sub || op = .sbc
  | .imm op .. => op = .addi || op = .subi
  | _ => false

/-- The sum of an addition. -/
def sumOf (a b : Word) (cin : Bool) : Word := a + b + if cin then 1 else 0

/-- The carry of an addition into bit j (R189). -/
def carryInto (a b : Word) (cin : Bool) (j : Nat) : Prop := 2 ^ j ≤ a.toNat % 2 ^ j + b.toNat % 2 ^ j + if cin then 1 else 0

/-- The words of the logic group, with the flags Z N and V := 0 (R169, R173). -/
def logical (x : Thread) : CoreInstr → Option Word
  | .alu .and _ _ a b => some (x.val a &&& x.val b)
  | .alu .or _ _ a b => some (x.val a ||| x.val b)
  | .alu .xor _ _ a b => some (x.val a ^^^ x.val b)
  | .alu .andn _ _ a b => some (x.val a &&& ~~~x.val b)
  | .alu .not _ _ a _ => some (~~~x.val a)
  | .alu .tst _ _ a b => some (x.val a &&& x.val b)
  | .alu .popc _ _ a _ => some (BitVec.ofNat 36 ((List.range 36).countP (x.val a).getLsbD))
  | .imm .andi _ a i => some (x.val a &&& i.zeroExtend 36)
  | .imm .ori _ a i => some (x.val a ||| i.zeroExtend 36)
  | .imm .xori _ a i => some (x.val a ^^^ i.zeroExtend 36)
  | _ => none

/-- The words of the moves and bit fields, which set no flag (R169, R173): bit j of the result. -/
def movedBit (x : Thread) (j : Nat) : CoreInstr → Option Bool
  | .alu .mov _ _ a _ => some ((x.val a).getLsbD j)
  | .imm .movi _ _ i => some (i.getLsbD j)
  | .imm .movhi _ a i => some (if j < 18 then (x.val a).getLsbD j else i.getLsbD (j - 18))
  | .extu _ a lsb wm1 => some (decide (j ≤ wm1.toNat) && (x.val a).getLsbD (lsb.toNat + j))
  | .ins d a lsb wm1 => some (if lsb.toNat ≤ j ∧ j ≤ lsb.toNat + wm1.toNat then (x.val a).getLsbD (j - lsb.toNat)
      else (x.val d).getLsbD j)
  | _ => none

/-- A shift's operation, operand and amount (R170, R173). -/
def shiftOf (x : Thread) : CoreInstr → Option (ShOp × Word × Nat)
  | .sh op _ a b => some (op, x.val a, (x.val b).toNat % 256)
  | .shi op _ a n => some (op, x.val a, n.toNat)
  | _ => none

/-- The result of a shift of `s` places (R170). -/
def shifted (a : Word) (s : Nat) : ShOp → Word
  | .shl => a <<< s
  | .shr => a >>> s
  | .sar => a.sshiftRight s
  | .rol => a.rotateLeft (s % 36)
  | .ror => a.rotateRight (s % 36)

/-- C after a shift of `s` places (R170). -/
def shiftCarry (a : Word) (s : Nat) (c : Bool) : ShOp → Bool
  | .shl => if s = 0 then c else decide (s ≤ 36) && a.getLsbD (36 - s)
  | .shr => if s = 0 then c else decide (s ≤ 36) && a.getLsbD (s - 1)
  | .sar => if s = 0 then c else if s < 36 then a.getLsbD (s - 1) else a.getLsbD 35
  | .rol => if s % 36 = 0 then c else (a.rotateLeft (s % 36)).getLsbD 0
  | .ror => if s % 36 = 0 then c else (a.rotateRight (s % 36)).getLsbD 35

/-! ### System registers (R156) -/

/-- A system register of a thread as a number. -/
def Thread.sysVal (x : Thread) : Nat → Nat
  | 0 => x.cnt.toNat
  | 1 => x.fl
  | 2 => x.dcv.toNat
  | 3 => x.tst.toNat
  | 4 => x.rbase
  | 5 => x.rlast
  | 6 => x.timer.toNat
  | 7 => x.rsetLo.toNat
  | 8 => x.rsetHi
  | 10 => x.crcPoly
  | 11 => x.crcW
  | _ => 0

/-- Bits of a writable system register: CNT, FL, DCV, TST, TIMER, RSET_LO, RSET_HI, CRCPOLY, CRCW. -/
def sysWidth : Nat → Nat
  | 0 => 36
  | 1 => 5
  | 2 => 9
  | 3 => 11
  | 6 => 36
  | 7 => 36
  | 8 => 4
  | 10 => 32
  | 11 => 6
  | _ => 0

/-- A thread after a write of one system register: no general register, and no other system register, has changed; what tags FL
tags DCV too (R189). -/
def Thread.wroteSys (x y : Thread) (n : Nat) (v : Word) (p : Bool) : Prop :=
  y = { x with cnt := y.cnt, z := y.z, n := y.n, c := y.c, v := y.v, dz := y.dz, dcv := y.dcv, tst := y.tst, timer := y.timer
               rsetLo := y.rsetLo, rsetHi := y.rsetHi, crcPoly := y.crcPoly, crcW := y.crcW, tags := y.tags } ∧
    (∀ m : Nat, y.sysVal m = if m = n then v.toNat % 2 ^ sysWidth n else x.sysVal m) ∧
    ∀ m : Nat, y.tags.contains m = if m = sysTag n then p else (x.tags.contains m || (p && n = 1 && m = sysTag 2))

/-- The result of an instruction of opcode 0o010 or of an immediate form. -/
def aluWord (x : Thread) (i : CoreInstr) : Option Word :=
  match addition x i, logical x i, i with
  | some (a, b, c), _, _ => some (sumOf a b c)
  | _, some r, _ => some r
  | _, _, .alu .mov _ _ a _ => some (x.val a)
  | _, _, .alu .abs _ _ a _ => some (if (x.val a).msb then 0 - x.val a else x.val a)
  | _, _, .alu .clz _ _ a _ => some (BitVec.ofNat 36 ((List.range 36).countP fun j => decide ((x.val a).toNat < 2 ^ j)))
  | _, _, _ => none

/-! ### Results in several registers -/

/-- A thread after an instruction that writes the registers that `f` names, each with its value and tag, and the flags:
w0 stays 0 without a tag (R154, R162). -/
def Thread.wroteAll (x y : Thread) (f : BitVec 5 → Option (Word × Bool)) : Prop :=
  y = { x with w := y.w, tags := y.tags, z := y.z, n := y.n, c := y.c, v := y.v, dz := y.dz, dcv := y.dcv } ∧
    ∀ r : BitVec 5, (y.val r, y.tag r) = if r = 0 then (0, false) else (f r).getD (x.val r, x.tag r)

/-- The registers of a pair wd, w(d+1) (R171). -/
def pairRegs (d : BitVec 5) (hi lo : Word) (p : Bool) (r : BitVec 5) : Option (Word × Bool) :=
  if r = d then some (hi, p) else if r.toNat = d.toNat + 1 then some (lo, p) else none

/-- What an instruction of a pair leaves: the pair and the flags Z, N, C and V. -/
def Thread.pairDone (x y : Thread) (d : BitVec 5) (hi lo : Word) (p z n c v dz : Bool) : Prop :=
  x.wroteAll y (pairRegs d hi lo p) ∧ y.z = z ∧ y.n = n ∧ y.c = c ∧ y.v = v ∧ y.dz = dz ∧ y.dcv = x.dcv

/-! ### Packed decimal (R194 to R198) -/

/-- Every nibble of a word is a valid digit. -/
def validDigits (a : Word) : Prop := ∀ i : Nat, i < 9 → nibble a i < 10

/-- The digit, the carry k and the V mark of a row of R195's table, from DCV[i] and x. -/
def adjustRow (dcv : Bool) (x : Nat) : Nat × Nat × Bool :=
  if dcv then (if x ≤ 3 then (x + 6, 0, false) else if x ≤ 9 then (x + 6, 0, true) else (x - 10, 1, true))
  else if x ≤ 9 then (x, 0, false) else (x - 10, 1, false)

/-- The digit and the V mark of a row of R196's table, from DCV[i] and the nibble. -/
def borrowRow (dcv : Bool) (x : Nat) : Nat × Bool :=
  if dcv then (x, decide (10 ≤ x)) else if 6 ≤ x then (x - 6, false) else (x + 10, true)

/-- The correction of a binary sum (R195): `k` carries between the digits, `k 9` is the last one. -/
def correctsSum (a r : Word) (dcv : BitVec 9) (kLast v : Bool) : Prop :=
  ∃ k : Nat → Nat, k 0 = 0 ∧
    (∀ i : Nat, i < 9 → nibble r i = (adjustRow (dcv.getLsbD i) (nibble a i + k i)).1 ∧
      k (i + 1) = (adjustRow (dcv.getLsbD i) (nibble a i + k i)).2.1) ∧
    (kLast = true ↔ k 9 = 1) ∧
    (v = true ↔ ∃ i : Nat, i < 9 ∧ (adjustRow (dcv.getLsbD i) (nibble a i + k i)).2.2 = true)

/-- The correction of a binary difference (R196). -/
def correctsDifference (a r : Word) (dcv : BitVec 9) (v : Bool) : Prop :=
  (∀ i : Nat, i < 9 → nibble r i = (borrowRow (dcv.getLsbD i) (nibble a i)).1) ∧
    (v = true ↔ ∃ i : Nat, i < 9 ∧ (borrowRow (dcv.getLsbD i) (nibble a i)).2 = true)

/-- The operands of a fused decimal instruction and whether it subtracts: x, y, the carry in, and the destination. -/
def decimalOf (x : Thread) : CoreInstr → Option (Bool × Word × Word × Bool × Option (BitVec 5))
  | .dec .dadd d a b => some (false, x.val a, x.val b, false, some d)
  | .dec .dadc d a b => some (false, x.val a, x.val b, x.c, some d)
  | .dec .dsub d a b => some (true, x.val a, x.val b, true, some d)
  | .dec .dsbc d a b => some (true, x.val a, x.val b, x.c, some d)
  | .dec .dcmp _ a b => some (true, x.val a, x.val b, true, none)
  | _ => none

/-- The tag of a decimal instruction's result (R162, R189). -/
def decimalTag (x : Thread) : CoreInstr → Bool
  | .dec op _ a b => x.tag a || x.tag b ||
      ((op = .dadc || op = .dsbc || op = .dadj || op = .dsadj) && x.flTag) ||
      ((op = .dadj || op = .dsadj) && x.tags.contains (sysTag 2))
  | _ => false

/-! ### Memory instructions (R121, R157 to R163, R175, R176) -/

/-- A bank serves a thread's access in this fabric cycle: it is not granted to another thread and no other thread waits for
it (R121). -/
def State.bankReady (s : State) (t : Tid) (a : Nat) : Prop :=
  s.bankOpen t.die (tkey t) (bankKey (tkey t) a) = true ∧ s.bankWanted t.die (tkey t) (bankKey (tkey t) a) = false

/-- A word of the thread's cluster store that it may access, whose bank is ready and which holds no inverted bit. -/
def State.csReady (s : State) (t : Tid) (a : Nat) : Prop :=
  (s.at_ t).region a = true ∧ s.bankReady t a ∧ (s.die t.die).flips (unitKey 2 (tkey t / 64) a) = 0

/-- The banks of words, granted to a thread in this fabric cycle. -/
def State.banksTaken (s : State) (t : Tid) (as : List Nat) : State :=
  as.foldl (fun s a => s.bankTake t.die (tkey t) (bankKey (tkey t) a)) s

/-- The register that post-increment changes (R163). -/
def postRegs (x : Thread) (a : BitVec 5) (p : Bool) (unit : Nat) (r : BitVec 5) : Option (Word × Bool) :=
  if p ∧ r = a then some (x.val a + BitVec.ofNat 36 unit, false) else none

/-- The register that a load writes, and its pointer's post-increment. -/
def loadRegs (x : Thread) (d a : BitVec 5) (p : Bool) (unit : Nat) (v : Word × Bool) (r : BitVec 5) : Option (Word × Bool) :=
  if r = d then some v else postRegs x a p unit r

/-- The pointers of a repeatable step, each one word on (R175). -/
def stepRegs (x : Thread) (a b r : BitVec 5) : Option (Word × Bool) :=
  if r = a ∨ r = b then some (x.val r + 1, false) else none

/-- The pointer register of an instruction whose tag is the program fault POISON (R162). -/
def CoreInstr.pointers : CoreInstr → List (BitVec 5)
  | .mem _ _ a .. => [a]
  | .cpw _ _ a b => [a, b]
  | .cmps a b => [a, b]
  | .dstep a b => [a, b]
  | .jr a => [a]
  | .crcp _ a _ => [a]
  | .hgo a .. => [a]
  | .ansc a => [a]
  | .spawn a b _ => [a, b]
  | .cctl a _ => [a]
  | _ => []

/-- The entry that a logged store makes in the commit log (R106), and whether the store is allowed (R158, R159, R161). -/
def State.logOf (s : State) (t : Tid) : CoreInstr → Option (LogEntry × Bool)
  | .mem .stp d a _ sz disp =>
    let ad := (s.at_ t).addr a disp
    let n := 2 ^ sz.toNat
    some (.packet ad (natBE n ((s.at_ t).val d).toNat), match s.heldPkt t.die (tkey t) with
      | some q => decide (ad + n ≤ 128 * q.cells.length)
      | none => false)
  | .mem .stf d a _ _ disp =>
    let i := ((s.at_ t).val a).toNat
    some (.context (i * 16 + disp.toNat) ((s.at_ t).val d), decide (i < 262144))
  | .mem .sta d a _ _ disp =>
    let j := (s.at_ t).addr a disp
    some (.answer j (((s.at_ t).val d).truncate 32), decide (t.die = 0) && decide (j < 16384))
  | .ansc a => some (.publish (((s.at_ t).val a).toNat % 16), decide (t.die = 0))
  | .tblu d a n k c =>
    some (.table { op := c.toNat + 1, table := n.toNat, key := (s.at_ t).keyRegs a (k.toNat + 1)
                   res := if c.toNat < 3 then (List.range 3).map fun j => (s.at_ t).get (d.toNat + j) else [] }, true)
  | _ => none

/-- A tag stands on the data of a logged store (R162). -/
def CoreInstr.dataTagged (x : Thread) : CoreInstr → Bool
  | .mem .stp d .. => x.tag d
  | .mem .stf d .. => x.tag d
  | .mem .sta d .. => x.tag d
  | .tblu d a _ k c => x.keyTag a (k.toNat + 1) || (decide (c.toNat < 3) && (List.range 3).any fun j => x.tagged (d.toNat + j))
  | _ => false

/-- The post-increment of STP; the other logged stores change no register. -/
def storePost (x : Thread) : CoreInstr → BitVec 5 → Option (Word × Bool)
  | .mem .stp _ a p sz _ => postRegs x a p (2 ^ sz.toNat)
  | _ => fun _ => none

/-! ### Control flow, channels and waits (R129 to R133, R178 to R180) -/

/-- The condition of a branch (R167). -/
def holds (z n c v : Bool) (cond : Nat) : Bool :=
  match cond with
  | 0 => z
  | 1 => !z
  | 2 => c
  | 3 => !c
  | 4 => n
  | 5 => !n
  | 6 => v
  | 7 => !v
  | 8 => c && !z
  | 9 => !(c && !z)
  | 10 => n == v
  | 11 => n != v
  | 12 => !z && n == v
  | 13 => !(!z && n == v)
  | n => n = 14

/-- A word pushed to a channel at a time: appended to the open message, which an end or the eighth word completes (R129). -/
def Chan.pushed (x : Chan) (now thread : Nat) (v : Word × Bool) (fin : Bool) : Chan :=
  let ws := (match x.opened with | some (_, ws) => ws | none => []) ++ [v]
  if fin = true ∨ 8 ≤ ws.length then { msgs := x.msgs ++ [{ at_ := now, words := ws }], opened := none }
  else { x with opened := some (thread, ws) }

/-- A receiver sees the oldest message of a channel: from a core channel in a round after the one of its last word, from a cluster
channel 2 fabric cycles after it (R132). -/
def State.messageStands (s : State) (d key : Nat) (m : Msg) : Prop :=
  (∃ ms : List Msg, (s.chan d key).msgs = m :: ms) ∧
    if key < 1536 then 0 < s.roundsFrom d m.at_ s.now else m.at_ + 2 ≤ s.now

/-- The registers that a received message writes: its length, then its words (R131). -/
def messageRegs (d : BitVec 5) (m : List (Word × Bool)) (r : BitVec 5) : Option (Word × Bool) :=
  if r = d then some (BitVec.ofNat 36 m.length, false)
  else if d.toNat < r.toNat then m[r.toNat - d.toNat - 1]? else none

/-! ### Status of graph and system instructions (R181, R182, R186) -/

/-- A thread after a status: TST holds the code and its source, C tells whether it is other than DONE, and nothing else of the
thread has changed but the tags of TST and FL. -/
def Thread.hasStatus (x y : Thread) (code src : Nat) : Prop :=
  y = { x with tst := y.tst, c := y.c, tags := y.tags } ∧ y.tst.toNat = code + 256 * src ∧ y.c = decide (code ≠ cDONE) ∧
    ∀ r : BitVec 5, y.tag r = x.tag r

/-- A thread in which only C and FL's tag have changed. -/
def Thread.hasC (x y : Thread) (c : Bool) : Prop :=
  y = { x with c := c, tags := y.tags } ∧ ∀ r : BitVec 5, y.tag r = x.tag r

/-- What an instruction that can free or take packet store leaves: the other effects `u` with the thread retired as `y`, the
sluices settled, then its mark, samples and counters. -/
def State.settledBy (s u : State) (t : Tid) (n : Nat) (cs : Store Ctr) (co : Store Core) (cl : Store Nat)
    (y : Thread) (pc : Nat) : State :=
  let v := (u.setThr t.die (tkey t) (y.retire pc)).settle t.die
  s.keep (v.onlyThread t.die (tkey t) n cs co cl { v.at_ t with lag := 1 })

/-! ### CRC (R185) -/

/-- The CRC of R185's kinds over one byte: reflected kinds shift right, the programmable kind shifts left from its width. -/
def crcOver (x : Thread) (kind : Nat) (start : Nat) (bs : List Byte) : Nat := bs.foldl (crcKind x kind) start

/-! ### Cores, threads that wait, and the debugger (R121, R141 to R152) -/

/-- A thread of a core whose entry waits for a bank. -/
def State.waitsForBank (s : State) (d c b : Nat) (p : Nat × Thread) : Prop :=
  p ∈ (s.die d).threads ∧ p.1 / 16 = c ∧ p.2.req = some (.bank b) ∧ s.slotOn d p.1 = true

/-- The thread that a bank serves next, when it has served none in this fabric cycle: of the requesters, the cluster's 4 cores and
3 helpers, the core whose turn comes first after the one last served, and of that core its oldest request (R121). -/
def State.bankServes (s : State) (d cl b k : Nat) : Prop :=
  let last := sgetD (s.die d).banks (cl * 16 + b) (0, 0, 6)
  (∀ e : Nat × Nat × Nat, sget (s.die d).banks (cl * 16 + b) = some e → e.1 ≠ s.now) ∧
  ∃ (x : Thread) (j : Nat), j < 7 ∧
    let turn := fun (i : Nat) => (last.2.2 + 1 + i) % 7
    turn j < 4 ∧ s.waitsForBank d (cl * 4 + turn j) (cl * 16 + b) (k, x) ∧
    (∀ p : Nat × Thread, s.waitsForBank d (cl * 4 + turn j) (cl * 16 + b) p → p.1 ≠ k → x.stamp < p.2.stamp) ∧
    ∀ i : Nat, i < j → turn i < 4 → ∀ p : Nat × Thread, ¬s.waitsForBank d (cl * 4 + turn i) (cl * 16 + b) p

/-- A program fault is native: it stops its core (R141, R142). -/
def State.nativeFault (s : State) (t : Tid) : Prop :=
  s.compat t.die t.core = false ∨ (s.at_ t).role = 3 ∨ s.hasSup t.die t.core = false

/-- The command of a core-control ring that waits at its head and is legal: it is well formed and the DEBUG scope is open
(R150, R389). -/
def State.coreHead (s : State) (d op : Nat) (c : RCmd) : Prop :=
  s.live d ∧ s.ringCmd d 3 = some c ∧ c.op = op ∧ s.tap.dbg = none ∧
    bits c.d0 26 6 = 0 ∧ c.d1 = 0 ∧ c.d2 < 2 ^ 36 ∧ c.d3 = 0 ∧ s.coreMalformed d c.coreCmd = false ∧
    (3 ≤ op → bit s.scope 0 = true)

/-- The command of a core-control ring ends with DONE and a value in C1, and the sluices settle. -/
def State.coreEnds (s : State) (d v : Nat) : State := (s.ringDone d 3 cDONE 0 v).settle d

/-- A thread that the debugger holds: a blocked or waiting instruction will be executed again (R151). -/
def Thread.heldByDebugger (x : Thread) : Thread :=
  { x with dbg := true, stepping := false, req := none
           st := if x.st = .blocked ∨ x.st = .waiting then .issuing else x.st }

/-! ### Host accesses (R9, R10, R375 to R380) -/

/-- Dword registers in which a write stores every writable bit and does nothing else: the address registers of the data
windows. -/
def plainRegs : List RegId := [.dspGsAddr, .cluIsAddr, .cluCsAddr, .flcCtxAddr, .dctlJrnAddr, .mlsMsAddr, .egrGlAddr]

/-- What a register holds after a write of its writable bits (R9). -/
def writtenBits (r : RegId) (old v : Nat) : Nat := old - (old &&& (regRow r).rw) + (v &&& (regRow r).rw)

/-- A state in which one register holds a value and every other register is as before. -/
def State.onlyReg (s u : State) (d : Nat) (r : RegId) (ix : List Nat) (v : Nat) : Prop :=
  u.reg d r ix = v ∧ ∀ (e : Nat) (q : RegId) (jx : List Nat), e ≠ d ∨ regOff q jx ≠ regOff r ix → u.reg e q jx = s.reg e q jx

/-- A state without the held low dword of a slot (R375). -/
def State.spendLow (s : State) (d : Nat) (r : RegId) (ix : List Nat) : State :=
  s.modDie d fun x => { x with lows := sdel x.lows (regOff r ix) }

/-- The value that a slot's high dword and its held low dword make (R11, R375). -/
def slotValue (lo : Nat) (hi : Dword) : Nat := lo + hi.toNat % 16 * 2 ^ 32

/-! ### The DDR5 controller (R323 to R371) -/

/-- The DRAM controller of a die. -/
def State.dmc (s : State) (d : Nat) : Dram := (s.die d).dram

/-- A well-formed DMC command waits at the head of ring 1 (R347, R348). -/
def State.dmcHead (s : State) (d op : Nat) (c : RCmd) : Prop :=
  s.live d ∧ s.ringCmd d 1 = some c ∧ c.op = op ∧ c.started = false ∧ s.dmcFormed d c = true

/-- A granule of DRAM that reads without error or poison: its 128 bytes (R355). -/
def State.granuleClean (s : State) (d g : Nat) : Prop := (decodeGranule (s.dmc d) (s.eccMode d) (s.dramLoc d g)).outcome = 0

/-! ### Messages between dies (R26 to R29) -/

/-- A message is the first in flight, and its route and the delays of grit let it go (R39, R448). -/
def State.messageGoes (s : State) (src dst cls id : Nat) (f : Flight) : Prop :=
  (∃ fs : List (Nat × Flight), s.fab.flight = (id, f) :: fs) ∧ s.routeHeld src dst = false ∧ s.reach src dst = true ∧
    s.delayGate src 0 (201 + cls) id = (s, true)

/-- A state without a message that has arrived. -/
def State.messageTaken (s : State) (id : Nat) : State :=
  { s with fab := { s.fab with flight := s.fab.flight.filter fun x => x.1 ≠ id } }

/-! ### The Waymark chain and ring 5 (R400 to R415) -/

/-- The frame that a command brings (R400, R401). -/
def waymarkFrame : Instr → Option WFrame
  | .enumerate dest src hops count =>
    some { dest := dest.toNat, src := src.toNat, type := 0x01, hops := hops.toNat, payload := [count.toNat] }
  | .release dest src hops => some { dest := dest.toNat, src := src.toNat, type := 0x02, hops := hops.toNat, payload := [] }
  | .regRead dest src hops off seq => some { dest := dest.toNat, src := src.toNat, type := 0x10, hops := hops.toNat
                                             payload := octetsOf 4 off.toNat ++ [seq.toNat] }
  | .regWrite dest src hops off data seq =>
    some { dest := dest.toNat, src := src.toNat, type := 0x11, hops := hops.toNat
           payload := octetsOf 4 off.toNat ++ octetsOf 4 data.toNat ++ [seq.toNat] }
  | .regResp dest src hops seq code data => some { dest := dest.toNat, src := src.toNat, type := 0x12, hops := hops.toNat
                                                   payload := [seq.toNat, code.toNat] ++ octetsOf 4 data.toNat }
  | .attestReq dest src hops nonce =>
    some { dest := dest.toNat, src := src.toNat, type := 0x20, hops := hops.toNat, payload := toNats nonce }
  | .attestResp dest src hops report =>
    some { dest := dest.toNat, src := src.toNat, type := 0x21, hops := hops.toNat, payload := toNats report }
  | .time dest src hops master corr => some (timeFrame dest.toNat src.toNat hops.toNat master.toNat corr.toNat)
  | _ => none

/-- A frame that a package which is no master passes on or takes: its HOPS are within the limit and it is not the package's
own (R403). -/
def State.framePasses (s : State) (f : WFrame) : Prop :=
  s.inReset = false ∧ s.wmkMaster = false ∧ f.hops + 1 < 63 ∧ (f.src ≠ s.wmkAddr ∨ s.wmkAddr = 0)

/-- A frame addressed to the package alone (R403). -/
def State.frameMine (s : State) (f : WFrame) : Prop := s.framePasses f ∧ f.dest = s.wmkAddr ∧ s.wmkAddr ≠ 0

/-- A frame for every package, which goes on besides (R403). -/
def State.frameForAll (s : State) (f : WFrame) : Prop := s.framePasses f ∧ f.dest = 63 ∧ s.wmkAddr ≠ 63

/-- A frame with one hop more. -/
def WFrame.hop (f : WFrame) : WFrame := { f with hops := f.hops + 1 }

/-- The code of a ring-5 command with the fields that it may use: a mask of D0, ARG, OUT and a mask of D2 (R415). -/
def identFields : Instr → Option (Nat × Nat × Bool × Bool × Nat)
  | .attest => some (1, 0x3F00, true, true, 0)
  | .readCert => some (2, 0xFF0000, false, true, 0)
  | .installCert => some (3, 0xFF0000, true, false, 2 ^ 32 - 1)
  | .unlockChallenge => some (4, 0, false, true, 0)
  | .lock => some (6, 0, false, false, 0)
  | .ownerClaim => some (7, 0, true, false, 0)
  | .setMinVersion => some (8, 0, false, false, 2 ^ 32 - 1)
  | .wmkEnumerate => some (9, 0, false, false, 0)
  | .wmkRelease => some (10, 0, false, false, 0)
  | .wmkReg => some (11, 0x7F00, true, false, 0)
  | _ => none

/-- A well-formed command of ring 5 that has not begun stands at its head (R382, R415). -/
def State.identHead (s : State) (c : Instr) (x : RCmd) : Prop :=
  s.inReset = false ∧ s.ringCmd 0 5 = some x ∧ x.started = false ∧
    ∃ (op m0 m2 : Nat) (arg out : Bool), identFields c = some (op, m0, arg, out, m2) ∧ x.op = op ∧
      x.named m0 arg out m2 = true

/-! ### Helper jobs (R213 to R231) -/

/-- The started first job of a helper, of a kind and a function, and no bank that it uses has served another in this fabric cycle
(R121, R122, R213, R217 to R219). -/
def State.jobRuns (s : State) (d h kind func : Nat) (j : Job) : Prop :=
  s.live d ∧ h < 36 ∧ h % 3 = kind ∧ (∃ js : List Job, (s.helper d h).jobs = j :: js) ∧ j.func = func ∧ j.phase = .started ∧
    s.helperBanks d h (s.jobBanks d h j) = true

/-- A state in which a helper's banks are granted to its first job. -/
def State.jobBanked (s : State) (d h : Nat) (j : Job) : State := s.helperTake d h (s.jobBanks d h j)

/-- The commands of functions that read one source and give what its octets determine: die, helper, kind and function. -/
def oneSource : Instr → Option (Nat × Nat × Nat × Nat)
  | .unstuff d h => some (d, h, 1, 2)
  | .escape d h => some (d, h, 1, 3)
  | .fcsGen d h => some (d, h, 1, 5)
  | .fcsCheck d h => some (d, h, 1, 6)
  | .manchEnc d h => some (d, h, 1, 7)
  | .manchDec d h => some (d, h, 1, 8)
  | .encap d h => some (d, h, 1, 9)
  | .decap d h => some (d, h, 1, 10)
  | .copy d h => some (d, h, 2, 1)
  | .sha256 d h => some (d, h, 0, 5)
  | _ => none

/-- Status, RESULT and octets for DST of those functions (R217 to R221). -/
def sourceOutcome (j : Job) (bs : List Byte) : Instr → Nat × Option Nat × List Byte
  | .unstuff .. =>
    let v := bs.flatMap byteBits
    let r := codecUnstuff 0 (v.take (v.length - j.word 5 % 8))
    let o := wholeBytes r.1
    (if r.2 = true ∧ r.1.length % 8 = 0 then cDONE else cDENIED, some o.length, o)
  | .escape .. => let o := bs.flatMap (escapeByte (bit j.opt 1)); (cDONE, some o.length, o)
  | .fcsGen .. => (cDONE, none, fcsBytes (bit j.opt 0) bs)
  | .fcsCheck .. => (if fcsHolds (bit j.opt 0) bs then cDONE else cDENIED, none, [])
  | .manchEnc .. => let o := wholeBytes (manchEncode (bit j.opt 1) (bs.flatMap byteBits)); (cDONE, some o.length, o)
  | .manchDec .. =>
    let r := manchDecode (bit j.opt 1) 0 (bs.flatMap byteBits)
    match r.2 with
    | none => (cDONE, some (wholeBytes r.1).length, wholeBytes r.1)
    | some i => (cDENIED, some (i / 4), wholeBytes r.1)
  | .encap .. => let o := codecEncap (bit j.opt 0) (bit j.opt 1) (j.word 4) (j.word 5) bs; (cDONE, some o.length, o)
  | .decap .. =>
    let r := codecDecap bs
    (if r.2 then cDONE else cDENIED, some (r.1.length + beNat ((bs.drop 2).take 2) * 2 ^ 15), r.1)
  | .copy .. => (cDONE, none, bs)
  | .sha256 .. => (cDONE, some (toBytes (sha256 (toNats bs))).length, toBytes (sha256 (toNats bs)))
  | _ => (cDONE, none, [])

/-- An outcome with octets for DST; a check writes nothing. -/
def outcome (j : Job) (o : Nat × Option Nat × List Byte) (check : Bool) : JobOut :=
  { status := o.1, result := o.2.1, writes := if check then [] else [(ptrSpan (j.word 3) o.2.2.length, o.2.2)] }

/-! ### Table commands (R232 to R259) -/

/-- The die and code of a table ring's command (R250). -/
def tableCommand : Instr → Option (Nat × Nat)
  | .lookup d => some (d, 1)
  | .insert d => some (d, 2)
  | .update d => some (d, 3)
  | .delete d => some (d, 4)
  | .deleteIfIdle d => some (d, 5)
  | .readClearHit d => some (d, 6)
  | .walk d => some (d, 7)
  | .fence d => some (d, 8)
  | .swapTable d => some (d, 9)
  | _ => none

/-- A table command waits at the head of ring 0 for its own die alone (R250, R258). -/
def State.tableHead (s : State) (d op : Nat) (c : RCmd) : Prop :=
  s.live d ∧ s.ringCmd d 0 = some c ∧ c.op = op ∧ c.started = false ∧ c.dies d = [d]

/-- The command at the head of ring 0 is a request of the table engine and its access point is granted (R243). -/
def State.tableGranted (s : State) (d : Nat) (c : RCmd) (r : TblReq) : Prop :=
  (s.tblNote d).tblReq d 14 c.order = some r ∧ (s.tblNote d).pipeGate d 14 c.order = (s.tblNote d, true)

/-- A state in which the engine has noted its requests and made the access of the command at the head of ring 0. -/
def State.tableTaken (s : State) (d : Nat) (c : RCmd) : State := (s.tblNote d).pipeTake d 14 c.order

/-- The tables of a request were ACTIVE when it reached the engine, or are now (R245, log entry 95). -/
def State.tableActiveFor (s : State) (d : Nat) (r : TblReq) : Bool := ((s.tblNote d).noteOf d r).active || r.active

/-- The table's body holds entries and the key fits it (R240, R250). -/
def State.tableOpen (s : State) (d t : Nat) (key : List Word) : Prop :=
  s.bodyDead d (s.bodyOf d t) = false ∧ (s.bodyLoc d (s.bodyOf d t) = 2 → key.getD 3 0 = 0)

/-- An entry lies in the lay-by store. -/
def TblLoc.isLay : TblLoc → Bool
  | .slot _ => false
  | .lay _ => true

/-! ### Axes and milestones (R265 to R296) -/

/-- A change of one encoder level counts in a mode (R269): x4 each edge, x2 the edges of A, x1 the rising edge of A. -/
def encoderCounts (mode : Nat) (da a : Bool) : Bool := if mode = 2 then da && a else if mode = 1 then da else true

/-- A well-formed command waits at the head of the milestone ring (R292). -/
def State.msHead (s : State) (d op : Nat) (c : RCmd) : Prop :=
  s.live d ∧ s.ringCmd d 2 = some c ∧ c.op = op ∧ State.msFormed d c = true

/-- The milestone that a command names is armed. -/
def State.msArmed (s : State) (d : Nat) (c : RCmd) : Bool := bit (s.msWord d (bits c.d0 8 10) 5) 0

/-! ### Commands that reset does not hold back (R463, R473) -/

/-- A state with the fuses and the queue of another: what a command that reset does not hold back leaves alone. -/
def State.keepAlways (s t : State) : State := { t with fuses := s.fuses, pending := s.pending }

/-! ### Grit (R446 to R455) -/

/-- The die and code of a grit ring's command (R447). -/
def gritCommand : Instr → Option (Nat × Nat)
  | .setDelay d => some (d, 1)
  | .setSluice d => some (d, 2)
  | .setListHold d => some (d, 3)
  | .setRefStretch d => some (d, 4)
  | .flipDram d => some (d, 5)
  | .flipSram d => some (d, 6)
  | .forceFault d => some (d, 7)
  | .forceHeld d => some (d, 8)
  | .clearAll d => some (d, 9)
  | .seed d => some (d, 10)
  | _ => none

/-- A grit command waits at the head of ring 6, and the journal has room for its record (R446). -/
def State.gritHead (s : State) (d op : Nat) (c : RCmd) : Prop :=
  s.live d ∧ s.ringCmd d 6 = some c ∧ c.op = op ∧ c.started = false ∧ s.journal.length < 64

/-! ### The whole machine -/

/-- What every step keeps: the fuses name a variant of R1, and every command that waits is well formed. -/
def State.inv (s : State) : Prop := s.variantOk = true ∧ ∀ c ∈ s.pending, Instr.wf c = true

/-- The commands that act while the part is in reset: reset and its causes, boot, the training of links, the reference
clocks, the junction temperature and the TAP (R463, R464, R467, R473, R478, R487). -/
def actsInReset : Instr → Bool
  | .resetNAssert => true
  | .brownout _ => true
  | .sysclkLoss => true
  | .selfResetEnd => true
  | .boot .. => true
  | .serdesRefclkLoss => true
  | .serdesRefclkReturn => true
  | .pcieRefclkLoss => true
  | .temperatureSample .. => true
  | .tapReset => true
  | .extest .. => true
  | .samplePreload .. => true
  | .idcode => true
  | .highz => true
  | .clamp => true
  | .bypass _ => true
  | .linkTrainingEnd .. => true
  | .dbg _ => true
  | _ => false

end Sys2Proof.Machine
end

