-- ==== Sys2Proof/Certificates/Slice0/Obligations.lean ====
section
/-! DEFINITION. The statements about the machine for the provers, each with the rules of the manual that it formalises. -/

open Sys2Proof Sys2Proof.Machine

/-- A step takes the command at the front of the queue and runs it with the queue's rest; on an empty queue a fabric cycle
passes, in which axis 0 of every die moves on by its rate (R266; log entry 7 has the cycle on an empty queue). -/
def Obligations.StepRunsTheFrontCommand : Prop :=
  (∀ (s : State) (c : Instr) (cs : List Instr), s.pending = c :: cs → step s = exec c { s with pending := cs }) ∧
  ∀ s : State, s.pending = [] → ∃ t : State, step s = .next t ∧ t.now = s.now + 1 ∧ t.pending = [] ∧ t.fuses = s.fuses ∧
    (s.inReset = true → t = { s with now := s.now + 1 }) ∧
    (s.inReset = false → s.reg 0 .mlsTimeRate [] = 0 → ∀ d : Nat, s.has d = true → (s.die d).t0frac < 2 ^ 32 →
      t.time d = (s.time d + 1) % 2 ^ 72)

/-- What reset leaves: the part has not booted, its queue is empty, and it holds no packet, instance, command or message;
axis 0 stands at 0, every axis is OFF and no table is active; the invariant holds (R244, R266, R276, R416, R463; the fuses of
the reset state are the model's choice, log entry 23). -/
def Obligations.ResetLeavesThePartEmpty : Prop :=
  State.reset.inv ∧ State.reset.pending = [] ∧ State.reset.inReset = false ∧ State.reset.running = false ∧
    State.reset.pwr.booted = false ∧ State.reset.fab.flight = [] ∧ State.reset.journal = [] ∧
    (∀ d : Nat, d < 8 → State.reset.time d = 0 ∧ (State.reset.die d).threads = [] ∧ (State.reset.die d).hop.complete = [] ∧
      (State.reset.die d).dsp.insts = [] ∧ (State.reset.die d).rings = [] ∧ (State.reset.die d).egr.queues = [] ∧
      Memory.wf (State.reset.die d).hop.buf = true ∧ Memory.wf (State.reset.die d).dram.mem = true) ∧
    (∀ n : Nat, (State.reset.master n).cur.st = 0) ∧ ∀ d t : Nat, d < 8 → t < 64 → State.reset.tabActive d t = false

/-- Every step keeps the invariant, the fuses, and the queue but for its front command. -/
def Obligations.EveryStepKeepsTheVariantAndTheQueue : Prop :=
  ∀ s t : State, s.inv → step s = .next t → t.inv ∧ t.fuses = s.fuses ∧ t.pending = s.pending.tail

/-- In reset nothing acts but reset and its causes, boot, the training of links, the clocks, the temperature and the TAP;
out of reset too every command has an answer: a next state, or absent for what the variant lacks (R2, R463, R487; that
the rest waits in reset is the model's reading, log entry 24). -/
def Obligations.ResetHoldsCommandsBack : Prop :=
  (∀ (s : State) (c : Instr), s.inReset = true → actsInReset c = false → exec c s = .next s ∨ exec c s = .fault .absent) ∧
  (∀ (s : State) (c : Instr), (∃ t : State, exec c s = .next t) ∨ exec c s = .fault .absent) ∧
  ∀ (s t : State) (c : Instr), exec c s = .next t → t.fuses = s.fuses ∧ t.pending = s.pending ∧
    (actsInReset c = false → t.now = s.now)

/-- Every legal instruction of a core is read back from its word, and a word that is read is the word of what is read: a bit
pattern that the tables do not give is no instruction (R163 to R165). -/
def Obligations.InstructionWordsAreReadBack : Prop :=
  (∀ i : CoreInstr, legalInstr i = true → decodeWord (encodeInstr i) = some i) ∧
  ∀ (w : Word) (i : CoreInstr), decodeWord w = some i → legalInstr i = true ∧ encodeInstr i = w

/-- The operations of R188 are one addition: its result, Z, N, C and V, and DCV where R189 has it written; ABS is NEG of a
negative word and MOV of another, with C := 0 and V only for the most negative word (R188). -/
def Obligations.AdditionsAreOneAddition : Prop :=
  (∀ (s : State) (c : Instr) (t : Tid) (i : CoreInstr) (a b : Word) (cin : Bool),
    namesIssue c = some (t, i) → i.sys = false → s.issues t i → addition (s.at_ t) i = some (a, b, cin) →
    ∃ (n : Nat) (cs : Store Ctr) (co : Store Core) (cl : Store Nat) (y : Thread),
      exec c s = .next (s.onlyThread t.die (tkey t) n cs co cl (y.after ((s.at_ t).pc + 1))) ∧
      (s.at_ t).wrote y i.dest (sumOf a b cin) (i.tainted (s.at_ t)) ∧
      y.z = decide (sumOf a b cin = 0) ∧ y.n = (sumOf a b cin).msb ∧
      y.c = decide (2 ^ 36 ≤ a.toNat + b.toNat + if cin then 1 else 0) ∧
      y.v = (decide (a.msb = b.msb) && decide ((sumOf a b cin).msb ≠ a.msb)) ∧
      y.dz = (s.at_ t).dz ∧ y.flTag = i.tainted (s.at_ t) ∧
      if i.writesDcv then
        (∀ j : Nat, j < 9 → (y.dcv.getLsbD j = true ↔ carryInto a b cin (4 * j + 4))) ∧
          y.tags.contains (sysTag 2) = i.tainted (s.at_ t)
      else y.dcv = (s.at_ t).dcv ∧ y.tags.contains (sysTag 2) = (i.tainted (s.at_ t) || (s.at_ t).tags.contains (sysTag 2))) ∧
  ∀ (s : State) (t : Tid) (d a : BitVec 5), s.issues t (.alu .abs false d a 0) →
    let v := (s.at_ t).val a
    let r := if v.msb then 0 - v else v
    ∃ (n : Nat) (cs : Store Ctr) (co : Store Core) (cl : Store Nat) (y : Thread),
      exec (.abs t false d a) s = .next (s.onlyThread t.die (tkey t) n cs co cl (y.after ((s.at_ t).pc + 1))) ∧
      (s.at_ t).wrote y (some d) r ((s.at_ t).tag a) ∧
      y.z = decide (r = 0) ∧ y.n = r.msb ∧ y.c = false ∧ y.v = decide (v.toNat = 2 ^ 35) ∧ y.dz = (s.at_ t).dz ∧
      y.dcv = (s.at_ t).dcv

/-- The logic group writes its word, Z and N of it, and V := 0; C, DZ and DCV stay (R169, R173). -/
def Obligations.LogicSetsZeroNegativeAndClearsOverflow : Prop :=
  ∀ (s : State) (c : Instr) (t : Tid) (i : CoreInstr) (r : Word),
    namesIssue c = some (t, i) → i.sys = false → s.issues t i → logical (s.at_ t) i = some r →
    ∃ (n : Nat) (cs : Store Ctr) (co : Store Core) (cl : Store Nat) (y : Thread),
      exec c s = .next (s.onlyThread t.die (tkey t) n cs co cl (y.after ((s.at_ t).pc + 1))) ∧
      (s.at_ t).wrote y i.dest r (i.tainted (s.at_ t)) ∧
      y.z = decide (r = 0) ∧ y.n = r.msb ∧ y.v = false ∧ y.c = (s.at_ t).c ∧ y.dz = (s.at_ t).dz ∧
      y.dcv = (s.at_ t).dcv ∧ y.flTag = i.tainted (s.at_ t)

/-- CLZ counts the zeros above the highest one, with Z and N of the count and V := 0 (R169). MOV, MOVI, MOVHI, EXTU
and INS write each bit of their word and leave every flag and DCV (R169, R173). -/
def Obligations.MovesAndLeadingZeros : Prop :=
  (∀ (s : State) (t : Tid) (d a : BitVec 5), s.issues t (.alu .clz false d a 0) →
    let v := (s.at_ t).val a
    ∃ (n : Nat) (cs : Store Ctr) (co : Store Core) (cl : Store Nat) (y : Thread) (r : Word),
      exec (.clz t false d a) s = .next (s.onlyThread t.die (tkey t) n cs co cl (y.after ((s.at_ t).pc + 1))) ∧
      (s.at_ t).wrote y (some d) r ((s.at_ t).tag a) ∧
      r.toNat ≤ 36 ∧ v.toNat < 2 ^ (36 - r.toNat) ∧ (r.toNat < 36 → 2 ^ (35 - r.toNat) ≤ v.toNat) ∧
      y.z = decide (r = 0) ∧ y.n = r.msb ∧ y.v = false ∧ y.c = (s.at_ t).c ∧ y.dz = (s.at_ t).dz ∧
      y.dcv = (s.at_ t).dcv) ∧
  ∀ (s : State) (c : Instr) (t : Tid) (i : CoreInstr),
    namesIssue c = some (t, i) → i.sys = false → s.issues t i → (movedBit (s.at_ t) 0 i).isSome →
    ∃ (n : Nat) (cs : Store Ctr) (co : Store Core) (cl : Store Nat) (y : Thread) (r : Word),
      exec c s = .next (s.onlyThread t.die (tkey t) n cs co cl (y.after ((s.at_ t).pc + 1))) ∧
      (s.at_ t).wrote y i.dest r (i.tainted (s.at_ t)) ∧ (s.at_ t).flagsKept y ∧
      ∀ j : Nat, j < 36 → some (r.getLsbD j) = movedBit (s.at_ t) j i

/-- Shifts and rotates: result and C as R170 gives for every amount, Z and N of the result, V unchanged. FL's tag is
not part of this statement, log entry 75. -/
def Obligations.ShiftsFollowTheirTable : Prop :=
  ∀ (s : State) (c : Instr) (t : Tid) (i : CoreInstr) (op : ShOp) (a : Word) (m : Nat),
    namesIssue c = some (t, i) → s.issues t i → shiftOf (s.at_ t) i = some (op, a, m) →
    ∃ (n : Nat) (cs : Store Ctr) (co : Store Core) (cl : Store Nat) (y : Thread),
      exec c s = .next (s.onlyThread t.die (tkey t) n cs co cl (y.after ((s.at_ t).pc + 1))) ∧
      (s.at_ t).wrote y i.dest (shifted a m op) (i.tainted (s.at_ t)) ∧
      y.z = decide (shifted a m op = 0) ∧ y.n = (shifted a m op).msb ∧
      y.c = shiftCarry a m (s.at_ t).c op ∧ y.v = (s.at_ t).v ∧ y.dz = (s.at_ t).dz ∧ y.dcv = (s.at_ t).dcv

/-- With SYS = 1 the result goes to a system register alone: no general register and no flag of the instruction's own
changes (R164). -/
def Obligations.SysFormsWriteTheirRegisterOnly : Prop :=
  ∀ (s : State) (c : Instr) (t : Tid) (op : AluOp) (d a b : BitVec 5) (v : Word),
    namesIssue c = some (t, .alu op true d a b) → s.issues t (.alu op true d a b) →
    aluWord (s.at_ t) (.alu op true d a b) = some v →
    ∃ (n : Nat) (cs : Store Ctr) (co : Store Core) (cl : Store Nat) (y : Thread),
      exec c s = .next (s.onlyThread t.die (tkey t) n cs co cl (y.after ((s.at_ t).pc + 1))) ∧
      (s.at_ t).wroteSys y d.toNat v ((CoreInstr.alu op true d a b).tainted (s.at_ t))

/-- MUL, MULL and MULLU give the low word or the whole of the exact product, with C := 0 (R171). DIVS and DIVU give
quotient and remainder, with the corners of R172; a division by zero under DZ_TRAP = 1 is the program fault
DIVIDE_ZERO. -/
def Obligations.ProductsAndDivisionsAreExact : Prop :=
  ((∀ (s : State) (t : Tid) (d a b : BitVec 5), s.issues t (.mul .mul d a b) →
    let x := s.at_ t
    let p := (x.val a).toInt * (x.val b).toInt
    ∃ (n : Nat) (cs : Store Ctr) (co : Store Core) (cl : Store Nat) (y : Thread) (r : Word),
      exec (.mul t d a b) s = .next (s.onlyThread t.die (tkey t) n cs co cl (y.after (x.pc + 1))) ∧
      x.wrote y (some d) r (x.tag a || x.tag b) ∧ r.toInt = p.bmod (2 ^ 36) ∧
      y.z = decide (r = 0) ∧ y.n = r.msb ∧ y.c = false ∧ y.v = decide (r.toInt ≠ p) ∧ y.dz = x.dz ∧ y.dcv = x.dcv) ∧
  (∀ (s : State) (t : Tid) (d a b : BitVec 5), s.issues t (.mul .mull d a b) →
    let x := s.at_ t
    let p := (x.val a).toInt * (x.val b).toInt
    ∃ (n : Nat) (cs : Store Ctr) (co : Store Core) (cl : Store Nat) (y : Thread) (hi lo : Word),
      exec (.mull t d a b) s = .next (s.onlyThread t.die (tkey t) n cs co cl (y.after (x.pc + 1))) ∧
      x.pairDone y d hi lo (x.tag a || x.tag b) (decide (p = 0)) (decide (p < 0)) false false x.dz ∧
      hi.toInt * 2 ^ 36 + lo.toNat = p) ∧
  ∀ (s : State) (t : Tid) (d a b : BitVec 5), s.issues t (.mul .mullu d a b) →
    let x := s.at_ t
    let p := (x.val a).toNat * (x.val b).toNat
    ∃ (n : Nat) (cs : Store Ctr) (co : Store Core) (cl : Store Nat) (y : Thread) (hi lo : Word),
      exec (.mullu t d a b) s = .next (s.onlyThread t.die (tkey t) n cs co cl (y.after (x.pc + 1))) ∧
      x.pairDone y d hi lo (x.tag a || x.tag b) (decide (p = 0)) hi.msb false false x.dz ∧
      hi.toNat * 2 ^ 36 + lo.toNat = p) ∧
  (∀ (s : State) (t : Tid) (d a b : BitVec 5), s.issues t (.mul .divs d a b) →
    let x := s.at_ t
    let u := (x.val a).toInt
    let v := (x.val b).toInt
    v ≠ 0 ∨ bit (s.coreCfg t.die t.core) 1 = false →
    ∃ (n : Nat) (cs : Store Ctr) (co : Store Core) (cl : Store Nat) (y : Thread) (q r : Word),
      exec (.divs t d a b) s = .next (s.onlyThread t.die (tkey t) n cs co cl (y.after (x.pc + 1))) ∧
      x.pairDone y d q r (x.tag a || x.tag b) (decide (q = 0)) q.msb false
        (decide (v = 0 ∨ u = -2 ^ 35 ∧ v = -1)) (decide (v = 0) || x.dz) ∧
      if v = 0 then q = 0 ∧ r = x.val a
      else if u = -2 ^ 35 ∧ v = -1 then q.toInt = -2 ^ 35 ∧ r = 0
      else q.toInt * v + r.toInt = u ∧ r.toInt.natAbs < v.natAbs ∧ (r = 0 ∨ (r.toInt < 0 ↔ u < 0))) ∧
  (∀ (s : State) (t : Tid) (d a b : BitVec 5), s.issues t (.mul .divu d a b) →
    let x := s.at_ t
    let u := (x.val a).toNat
    let v := (x.val b).toNat
    v ≠ 0 ∨ bit (s.coreCfg t.die t.core) 1 = false →
    ∃ (n : Nat) (cs : Store Ctr) (co : Store Core) (cl : Store Nat) (y : Thread) (q r : Word),
      exec (.divu t d a b) s = .next (s.onlyThread t.die (tkey t) n cs co cl (y.after (x.pc + 1))) ∧
      x.pairDone y d q r (x.tag a || x.tag b) (decide (q = 0)) q.msb false (decide (v = 0)) (decide (v = 0) || x.dz) ∧
      if v = 0 then q = 0 ∧ r = x.val a else q.toNat * v + r.toNat = u ∧ r.toNat < v) ∧
  ∀ (s : State) (c : Instr) (t : Tid) (op : MulOp) (d a b : BitVec 5), namesIssue c = some (t, .mul op d a b) →
    (op = .divs ∨ op = .divu) → s.issues t (.mul op d a b) → (s.at_ t).val b = 0 → bit (s.coreCfg t.die t.core) 1 = true →
    exec c s = .next (s.keep ((s.progFault t.die (tkey t) fDIVZERO).settle t.die))

/-- DADJ and DSADJ correct a word under DCV and C by the tables of R195 and R196. A fused decimal instruction
corrects its binary sum or difference digit by digit, and V tests the operands (R195, R196, R197). -/
def Obligations.FusedDecimalAndAdjustmentsFollowTheTables : Prop :=
  ((∀ (s : State) (t : Tid) (d a : BitVec 5), s.issues t (.dec .dadj d a 0) →
    let x := s.at_ t
    ∃ (n : Nat) (cs : Store Ctr) (co : Store Core) (cl : Store Nat) (y : Thread) (r : Word) (k : Bool),
      exec (.dadj t d a) s = .next (s.onlyThread t.die (tkey t) n cs co cl (y.after (x.pc + 1))) ∧
      x.wrote y (some d) r (decimalTag x (.dec .dadj d a 0)) ∧ correctsSum (x.val a) r x.dcv k y.v ∧
      y.z = decide (r = 0) ∧ y.n = false ∧ y.c = (x.c || k) ∧ y.dz = x.dz ∧ y.dcv = x.dcv) ∧
  ∀ (s : State) (t : Tid) (d a : BitVec 5), s.issues t (.dec .dsadj d a 0) →
    let x := s.at_ t
    ∃ (n : Nat) (cs : Store Ctr) (co : Store Core) (cl : Store Nat) (y : Thread) (r : Word),
      exec (.dsadj t d a) s = .next (s.onlyThread t.die (tkey t) n cs co cl (y.after (x.pc + 1))) ∧
      x.wrote y (some d) r (decimalTag x (.dec .dsadj d a 0)) ∧ correctsDifference (x.val a) r x.dcv y.v ∧
      y.z = decide (r = 0) ∧ y.n = false ∧ y.c = x.dcv.getLsbD 8 ∧ y.dz = x.dz ∧ y.dcv = x.dcv) ∧
  ∀ (s : State) (c : Instr) (t : Tid) (i : CoreInstr) (minus : Bool) (a b : Word) (cin : Bool) (dst : Option (BitVec 5)),
    namesIssue c = some (t, i) → s.issues t i → decimalOf (s.at_ t) i = some (minus, a, b, cin, dst) →
    ∃ (n : Nat) (cs : Store Ctr) (co : Store Core) (cl : Store Nat) (y : Thread) (r : Word) (dcv : BitVec 9) (k v : Bool),
      exec c s = .next (s.onlyThread t.die (tkey t) n cs co cl (y.after ((s.at_ t).pc + 1))) ∧
      (s.at_ t).wrote y dst r (decimalTag (s.at_ t) i) ∧
      (∀ j : Nat, j < 9 → (dcv.getLsbD j = true ↔ carryInto a (if minus then ~~~b else b) cin (4 * j + 4))) ∧
      (if minus then correctsDifference (sumOf a (~~~b) cin) r dcv v ∧ k = false
        else correctsSum (sumOf a b cin) r dcv k v) ∧
      y.z = decide (r = 0) ∧ y.n = false ∧ (y.v = false ↔ validDigits a ∧ validDigits b) ∧
      y.c = (decide (2 ^ 36 ≤ a.toNat + (if minus then ~~~b else b).toNat + if cin then 1 else 0) || k) ∧
      y.dz = (s.at_ t).dz ∧ y.dcv = (s.at_ t).dcv

/-- On valid digits a fused decimal instruction is arithmetic modulo 10^9, and C is its carry or the absence of a borrow
(R194, R197). -/
def Obligations.FusedDecimalIsNineDigitArithmetic : Prop :=
  ∀ (s : State) (c : Instr) (t : Tid) (i : CoreInstr) (minus : Bool) (a b : Word) (cin : Bool) (dst : Option (BitVec 5)),
    namesIssue c = some (t, i) → s.issues t i → decimalOf (s.at_ t) i = some (minus, a, b, cin, dst) →
    validDigits a → validDigits b →
    ∃ (n : Nat) (cs : Store Ctr) (co : Store Core) (cl : Store Nat) (y : Thread) (r : Word),
      exec c s = .next (s.onlyThread t.die (tkey t) n cs co cl (y.after ((s.at_ t).pc + 1))) ∧
      (s.at_ t).wrote y dst r (decimalTag (s.at_ t) i) ∧ validDigits r ∧
      let total := if minus then digitsVal a + (10 ^ 9 - 1 - digitsVal b) + (if cin then 1 else 0)
        else digitsVal a + digitsVal b + if cin then 1 else 0
      digitsVal r = total % 10 ^ 9 ∧ y.c = decide (10 ^ 9 ≤ total)

/-- BIN2D, D2BIN, DVALID, DSHL and DSHR act as R198 lists. -/
def Obligations.DecimalConversionsAndShifts : Prop :=
  (∀ (s : State) (t : Tid) (d a : BitVec 5), s.issues t (.dec .bin2d d a 0) →
    let x := s.at_ t
    ∃ (n : Nat) (cs : Store Ctr) (co : Store Core) (cl : Store Nat) (y : Thread) (r : Word),
      exec (.bin2d t d a) s = .next (s.onlyThread t.die (tkey t) n cs co cl (y.after (x.pc + 1))) ∧
      x.wrote y (some d) r (x.tag a) ∧ validDigits r ∧ digitsVal r = (x.val a).toNat % 10 ^ 9 ∧
      y.z = decide (r = 0) ∧ y.n = false ∧ y.v = decide (10 ^ 9 ≤ (x.val a).toNat) ∧ y.c = x.c ∧ y.dz = x.dz ∧ y.dcv = x.dcv) ∧
  (∀ (s : State) (t : Tid) (d a : BitVec 5), s.issues t (.dec .d2bin d a 0) →
    let x := s.at_ t
    ∃ (n : Nat) (cs : Store Ctr) (co : Store Core) (cl : Store Nat) (y : Thread) (r : Word),
      exec (.d2bin t d a) s = .next (s.onlyThread t.die (tkey t) n cs co cl (y.after (x.pc + 1))) ∧
      x.wrote y (some d) r (x.tag a) ∧ r.toNat = digitsVal (x.val a) ∧
      y.z = decide (r = 0) ∧ y.n = false ∧ (y.v = false ↔ validDigits (x.val a)) ∧ y.c = x.c ∧ y.dz = x.dz ∧ y.dcv = x.dcv) ∧
  (∀ (s : State) (t : Tid) (a : BitVec 5), s.issues t (.dec .dvalid 0 a 0) →
    let x := s.at_ t
    ∃ (n : Nat) (cs : Store Ctr) (co : Store Core) (cl : Store Nat) (y : Thread),
      exec (.dvalid t a) s = .next (s.onlyThread t.die (tkey t) n cs co cl (y.after (x.pc + 1))) ∧
      x.wrote y none 0 (x.tag a) ∧
      y.z = decide (x.val a = 0) ∧ y.n = false ∧ (y.v = false ↔ validDigits (x.val a)) ∧ y.c = x.c ∧ y.dz = x.dz ∧
        y.dcv = x.dcv) ∧
  (∀ (s : State) (t : Tid) (d a b : BitVec 5), s.issues t (.dec .dshl d a b) →
    let x := s.at_ t
    ∃ (n : Nat) (cs : Store Ctr) (co : Store Core) (cl : Store Nat) (y : Thread) (r : Word),
      exec (.dshl t d a b) s = .next (s.onlyThread t.die (tkey t) n cs co cl (y.after (x.pc + 1))) ∧
      x.wrote y (some d) r (x.tag a || x.tag b) ∧
      (∀ j : Nat, j < 9 → nibble r j = if (x.val b).toNat % 256 ≤ j then nibble (x.val a) (j - (x.val b).toNat % 256) else 0) ∧
      y.z = decide (r = 0) ∧ y.n = false ∧ y.v = x.v ∧ y.c = x.c ∧ y.dz = x.dz ∧ y.dcv = x.dcv) ∧
  ∀ (s : State) (t : Tid) (d a b : BitVec 5), s.issues t (.dec .dshr d a b) →
    let x := s.at_ t
    ∃ (n : Nat) (cs : Store Ctr) (co : Store Core) (cl : Store Nat) (y : Thread) (r : Word),
      exec (.dshr t d a b) s = .next (s.onlyThread t.die (tkey t) n cs co cl (y.after (x.pc + 1))) ∧
      x.wrote y (some d) r (x.tag a || x.tag b) ∧
      (∀ j : Nat, j < 9 → nibble r j = if j + (x.val b).toNat % 256 < 9 then
        nibble (x.val a) (j + (x.val b).toNat % 256) else 0) ∧
      y.z = decide (r = 0) ∧ y.n = false ∧ y.v = x.v ∧ y.c = x.c ∧ y.dz = x.dz ∧ y.dcv = x.dcv

/-- LDW and STW act on one word of the thread's region in the cycle in which its bank is ready; outside the region a
load reads zero and a store does nothing. LDP reads the packet's bytes big-endian, with the operation's own logged
stores over them; a byte outside the window makes the load read zero (R106, R159, R176). That an access outside the
region takes no bank is the model's reading, log entry 9. -/
def Obligations.StoreAndPacketAccesses : Prop :=
  ((∀ (s : State) (t : Tid) (d a : BitVec 5) (p : Bool) (disp : BitVec 15), s.issues t (.mem .ldw d a p 3 disp) →
    (s.at_ t).tag a = false →
    let x := s.at_ t
    let ad := x.addr a disp
    (s.csReady t ad → ∃ (n : Nat) (cs : Store Ctr) (co : Store Core) (cl : Store Nat) (y : Thread),
      exec (.ldw t d a p disp) s = .next ((s.banksTaken t [ad]).onlyThread t.die (tkey t) n cs co cl (y.after (x.pc + 1))) ∧
      x.wroteAll y (loadRegs x d a p 1 (s.csRead t.die (tkey t / 64) ad))) ∧
    (x.region ad = false → ∃ (n : Nat) (cs : Store Ctr) (co : Store Core) (cl : Store Nat) (y : Thread),
      exec (.ldw t d a p disp) s = .next (s.onlyThread t.die (tkey t) n cs co cl (y.after (x.pc + 1))) ∧
      x.wroteAll y (loadRegs x d a p 1 (0, false)))) ∧
  (∀ (s : State) (t : Tid) (d a : BitVec 5) (p : Bool) (disp : BitVec 15), s.issues t (.mem .stw d a p 3 disp) →
    (s.at_ t).tag a = false →
    let x := s.at_ t
    let ad := x.addr a disp
    (s.csReady t ad → ∃ (n : Nat) (cs : Store Ctr) (co : Store Core) (cl : Store Nat) (y : Thread),
      exec (.stw t d a p disp) s = .next (((s.banksTaken t [ad]).csWrite t.die (tkey t / 64) ad (x.val d) (x.tag d)).onlyThread
        t.die (tkey t) n cs co cl (y.after (x.pc + 1))) ∧
      x.wroteAll y (postRegs x a p 1)) ∧
    (x.region ad = false → ∃ (n : Nat) (cs : Store Ctr) (co : Store Core) (cl : Store Nat) (y : Thread),
      exec (.stw t d a p disp) s = .next (s.onlyThread t.die (tkey t) n cs co cl (y.after (x.pc + 1))) ∧
      x.wroteAll y (postRegs x a p 1))) ∧
  ∀ (s : State) (d cl a : Nat) (v : Word) (p : Bool), d < 8 → a < 262144 →
    (s.csWrite d cl a v p).csRead d cl a = (v, p) ∧
    ∀ cl' b : Nat, b < 262144 → cl' ≠ cl ∨ b ≠ a → (s.csWrite d cl a v p).csRead d cl' b = s.csRead d cl' b) ∧
  ∀ (s : State) (t : Tid) (d a : BitVec 5) (p : Bool) (sz : BitVec 2) (disp : BitVec 15),
    s.issues t (.mem .ldp d a p sz disp) → (s.at_ t).tag a = false →
    let x := s.at_ t
    let ad := x.addr a disp
    let m := 2 ^ sz.toNat
    (∀ (q : Packet) (o : Op) (slot : Nat) (i : Inst), s.heldPkt t.die (tkey t) = some q →
      s.held t.die (tkey t) = some (slot, o, i) → ad + m ≤ 128 * q.cells.length → s.readLanes t.die q ad m = s →
      ∃ (n : Nat) (cs : Store Ctr) (co : Store Core) (cl : Store Nat) (y : Thread) (poison : Bool),
        exec (.ldp t d a p sz disp) s = .next (s.onlyThread t.die (tkey t) n cs co cl (y.after (x.pc + 1) 3)) ∧
        x.wroteAll y (loadRegs x d a p m (w36 (beNat ((List.range m).map fun j =>
          (logByte o.log (ad + j)).getD ((s.die t.die).hop.pktByte q (ad + j)))), poison)) ∧
        ((∀ c ∈ q.cells, (s.die t.die).hop.poison.contains c = false) → poison = false)) ∧
    ((∀ q : Packet, s.heldPkt t.die (tkey t) = some q → 128 * q.cells.length < ad + m) →
      ∃ (n : Nat) (cs : Store Ctr) (co : Store Core) (cl : Store Nat) (y : Thread),
        exec (.ldp t d a p sz disp) s = .next (s.onlyThread t.die (tkey t) n cs co cl (y.after (x.pc + 1) 3)) ∧
        x.wroteAll y (loadRegs x d a p m (0, false)))

/-- CPW copies a word and CMPS compares two, and both step their pointers (R175). -/
def Obligations.RepeatableStepsCopyAndCompare : Prop :=
  (∀ (s : State) (t : Tid) (sys : Bool) (d a b : BitVec 5), s.issues t (.cpw sys d a b) →
    (s.at_ t).tag a = false → (s.at_ t).tag b = false →
    let x := s.at_ t
    let pa := (x.val a).toNat
    let pb := (x.val b).toNat
    s.csReady t pa → s.csReady t pb →
    ∃ (n : Nat) (cs : Store Ctr) (co : Store Core) (cl : Store Nat) (z y : Thread),
      exec (.cpw t sys d a b) s = .next (((s.banksTaken t [pa, pb]).csWrite t.die (tkey t / 64) pb
        (s.csRead t.die (tkey t / 64) pa).1 (s.csRead t.die (tkey t / 64) pa).2).onlyThread
        t.die (tkey t) n cs co cl (y.after (x.pc + 1) 2)) ∧
      x.wroteAll z (stepRegs x a b) ∧
      if sys then z.wroteSys y d.toNat (s.csRead t.die (tkey t / 64) pa).1 (s.csRead t.die (tkey t / 64) pa).2
      else z.wrote y (some d) (s.csRead t.die (tkey t / 64) pa).1 (s.csRead t.die (tkey t / 64) pa).2 ∧ z.flagsKept y) ∧
  ∀ (s : State) (t : Tid) (a b : BitVec 5), s.issues t (.cmps a b) →
    (s.at_ t).tag a = false → (s.at_ t).tag b = false →
    let x := s.at_ t
    let pa := (x.val a).toNat
    let pb := (x.val b).toNat
    let u := s.csRead t.die (tkey t / 64) pa
    let v := s.csRead t.die (tkey t / 64) pb
    let r := sumOf u.1 (~~~v.1) true
    s.csReady t pa → s.csReady t pb →
    ∃ (n : Nat) (cs : Store Ctr) (co : Store Core) (cl : Store Nat) (z y : Thread),
      exec (.cmps t a b) s = .next ((s.banksTaken t [pa, pb]).onlyThread t.die (tkey t) n cs co cl (y.after (x.pc + 1) 2)) ∧
      x.wroteAll z (stepRegs x a b) ∧ z.wrote y none 0 false ∧
      y.z = decide (u.1 = v.1) ∧ y.n = r.msb ∧ y.c = decide (v.1.toNat ≤ u.1.toNat) ∧
      y.v = (decide (u.1.msb ≠ v.1.msb) && decide (r.msb ≠ u.1.msb)) ∧ y.dz = x.dz ∧ y.dcv = x.dcv

/-- DSTEP adds a packed-decimal word of the store to another with C, in place (R175, R197). -/
def Obligations.DecimalStepAddsInPlace : Prop :=
  ∀ (s : State) (t : Tid) (a b : BitVec 5), s.issues t (.dstep a b) →
    (s.at_ t).tag a = false → (s.at_ t).tag b = false →
    let x := s.at_ t
    let pa := (x.val a).toNat
    let pb := (x.val b).toNat
    let u := s.csRead t.die (tkey t / 64) pa
    let v := s.csRead t.die (tkey t / 64) pb
    s.csReady t pa → s.csReady t pb →
    ∃ (n : Nat) (cs : Store Ctr) (co : Store Core) (cl : Store Nat) (z y : Thread) (r : Word) (dcv : BitVec 9) (k m : Bool),
      exec (.dstep t a b) s = .next (((s.banksTaken t [pa, pb]).csWrite t.die (tkey t / 64) pb r
        (u.2 || v.2 || x.flTag)).onlyThread t.die (tkey t) n cs co cl (y.after (x.pc + 1) 3)) ∧
      (∀ j : Nat, j < 9 → (dcv.getLsbD j = true ↔ carryInto u.1 v.1 x.c (4 * j + 4))) ∧
      correctsSum (sumOf u.1 v.1 x.c) r dcv k m ∧
      x.wroteAll z (stepRegs x a b) ∧ z.wrote y none 0 false ∧
      y.z = decide (r = 0) ∧ y.n = false ∧ (y.v = false ↔ validDigits u.1 ∧ validDigits v.1) ∧
      y.c = (decide (2 ^ 36 ≤ u.1.toNat + v.1.toNat + if x.c then 1 else 0) || k) ∧ y.dz = x.dz ∧ y.dcv = x.dcv

/-- STP, STF, STA, ANSC and TBLU enter one write in the commit log of the thread's operation, and change nothing else
that the operation owns; without an operation, or where the store is not allowed, nothing is logged (R106, R158). The
order of the checks is the model's reading, log entry 8. -/
def Obligations.LoggedStoresEnterTheCommitLog : Prop :=
  ∀ (s : State) (c : Instr) (t : Tid) (i : CoreInstr) (e : LogEntry) (ok : Bool),
    namesIssue c = some (t, i) → s.issues t i → (∀ r ∈ i.pointers, (s.at_ t).tag r = false) →
    i.dataTagged (s.at_ t) = false → s.logOf t i = some (e, ok) →
    (∀ (slot : Nat) (o : Op) (j : Inst), s.held t.die (tkey t) = some (slot, o, j) → ok = true → o.log.length < 64 →
      ∃ (n : Nat) (cs : Store Ctr) (co : Store Core) (cl : Store Nat) (y : Thread),
        exec c s = .next ((s.setOp t.die slot { o with log := o.log ++ [e] }).onlyThread t.die (tkey t) n cs co cl
          (y.after ((s.at_ t).pc + 1))) ∧
        (s.at_ t).wroteAll y (storePost (s.at_ t) i)) ∧
    (s.held t.die (tkey t) = none ∨ ok = false →
      ∃ (n : Nat) (cs : Store Ctr) (co : Store Core) (cl : Store Nat) (y : Thread),
        exec c s = .next (s.onlyThread t.die (tkey t) n cs co cl (y.after ((s.at_ t).pc + 1))) ∧
        (s.at_ t).wroteAll y (storePost (s.at_ t) i))

/-- LDO and STO act on the operation window, LDA on the back copy of the answer memory of die 0, and LDF waits for its word
(R160, R161, R176, R261). -/
def Obligations.OperationContextAndAnswerAccesses : Prop :=
  (∀ (s : State) (t : Tid) (d a : BitVec 5) (disp : BitVec 15), s.issues t (.mem .ldo d a false 3 disp) →
    (s.at_ t).tag a = false →
    let x := s.at_ t
    let j := x.addr a disp
    (∀ (slot : Nat) (o : Op) (i : Inst), s.held t.die (tkey t) = some (slot, o, i) → j < 64 →
      (s.die t.die).flips (unitKey 7 0 (o.inst * 48 + (j - 16))) = 0 →
      ∃ (n : Nat) (cs : Store Ctr) (co : Store Core) (cl : Store Nat) (y : Thread),
        exec (.ldo t d a disp) s = .next (s.onlyThread t.die (tkey t) n cs co cl (y.after (x.pc + 1))) ∧
        x.wrote y (some d) (s.opWord t.die slot o i j).1 (s.opWord t.die slot o i j).2 ∧ x.flagsKept y) ∧
    (s.held t.die (tkey t) = none ∨ 64 ≤ j →
      ∃ (n : Nat) (cs : Store Ctr) (co : Store Core) (cl : Store Nat) (y : Thread),
        exec (.ldo t d a disp) s = .next (s.onlyThread t.die (tkey t) n cs co cl (y.after (x.pc + 1))) ∧
        x.wrote y (some d) 0 false ∧ x.flagsKept y)) ∧
  (∀ (s : State) (t : Tid) (d a : BitVec 5) (disp : BitVec 15), s.issues t (.mem .sto d a false 3 disp) →
    (s.at_ t).tag a = false →
    let x := s.at_ t
    let j := x.addr a disp
    (∀ (slot : Nat) (o : Op) (i : Inst), s.held t.die (tkey t) = some (slot, o, i) → 44 ≤ j → j < 60 → x.tag d = false →
      ∃ (n : Nat) (cs : Store Ctr) (co : Store Core) (cl : Store Nat),
        exec (.sto t d a disp) s = .next ((s.setOp t.die slot { o with carry := sset o.carry (j - 44) (x.val d) }).onlyThread
          t.die (tkey t) n cs co cl (x.after (x.pc + 1)))) ∧
    (s.held t.die (tkey t) = none ∨ j < 44 ∨ 60 ≤ j →
      ∃ (n : Nat) (cs : Store Ctr) (co : Store Core) (cl : Store Nat),
        exec (.sto t d a disp) s = .next (s.onlyThread t.die (tkey t) n cs co cl (x.after (x.pc + 1))))) ∧
  (∀ (s : State) (t : Tid) (d a : BitVec 5) (disp : BitVec 15), s.issues t (.mem .lda d a false 2 disp) →
    (s.at_ t).tag a = false →
    let x := s.at_ t
    let j := x.addr a disp
    ∃ (n : Nat) (cs : Store Ctr) (co : Store Core) (cl : Store Nat) (y : Thread),
      exec (.lda t d a disp) s = .next (s.onlyThread t.die (tkey t) n cs co cl (y.after (x.pc + 1) 4)) ∧
      x.wrote y (some d) (if t.die = 0 ∧ j < 16384 then (s.ansLoad t.die (tkey t) j).zeroExtend 36 else 0) false ∧
        x.flagsKept y) ∧
  ∀ (s : State) (t : Tid) (d a : BitVec 5) (disp : BitVec 15), s.issues t (.mem .ldf d a false 3 disp) →
    (s.at_ t).tag a = false →
    let x := s.at_ t
    let f := (x.val a).toNat
    (f < 262144 → ∃ (n : Nat) (cs : Store Ctr) (co : Store Core) (cl : Store Nat),
      exec (.ldf t d a disp) s = .next ({ s with stamps := s.stamps + 1 }.onlyThread t.die (tkey t) n cs co cl
        { x with st := .waiting, waitOn := 0, waitDst := d.toNat, stamp := s.stamps, since := s.now
                 portAt := none, req := some (.ldf d.toNat (f * 16 + disp.toNat)), lag := 1 })) ∧
    (262144 ≤ f → ∃ (n : Nat) (cs : Store Ctr) (co : Store Core) (cl : Store Nat) (y : Thread),
      exec (.ldf t d a disp) s = .next (s.onlyThread t.die (tkey t) n cs co cl (y.after (x.pc + 1))) ∧
      x.wrote y (some d) 0 false ∧ x.flagsKept y)

/-- A branch goes to PC plus its offset when its condition holds and else to the next word; JAL saves the return
address and JR goes to a register's low 16 bits (R167, R178). A pointer or target register with a poison tag is the
program fault POISON, and so is a branch on a tagged FL (R162). -/
def Obligations.BranchesSetPcAndTaggedPointersFault : Prop :=
  ((∀ (s : State) (t : Tid) (cond : BitVec 4) (off : BitVec 24), s.issues t (.bcc cond off) →
    14 ≤ cond.toNat ∨ (s.at_ t).flTag = false →
    let x := s.at_ t
    ∃ (n : Nat) (cs : Store Ctr) (co : Store Core) (cl : Store Nat),
      exec (.bcc t cond off) s = .next (s.onlyThread t.die (tkey t) n cs co cl
        (x.after (if holds x.z x.n x.c x.v cond.toNat then (x.pc + off.toNat) % 65536 else x.pc + 1)))) ∧
  (∀ (s : State) (t : Tid) (d : BitVec 5) (target : BitVec 16), s.issues t (.jal d target) →
    let x := s.at_ t
    ∃ (n : Nat) (cs : Store Ctr) (co : Store Core) (cl : Store Nat) (y : Thread),
      exec (.jal t d target) s = .next (s.onlyThread t.die (tkey t) n cs co cl (y.after target.toNat)) ∧
      x.wrote y (some d) (BitVec.ofNat 36 ((x.pc + 1) % 65536)) false ∧ x.flagsKept y) ∧
  ∀ (s : State) (t : Tid) (a : BitVec 5), s.issues t (.jr a) → (s.at_ t).tag a = false →
    let x := s.at_ t
    ∃ (n : Nat) (cs : Store Ctr) (co : Store Core) (cl : Store Nat),
      exec (.jr t a) s = .next (s.onlyThread t.die (tkey t) n cs co cl (x.after ((x.val a).toNat % 65536)))) ∧
  (∀ (s : State) (c : Instr) (t : Tid) (i : CoreInstr) (r : BitVec 5), namesIssue c = some (t, i) → s.issues t i →
    r ∈ i.pointers → (s.at_ t).tag r = true →
    exec c s = .next (s.keep ((s.progFault t.die (tkey t) fPOISON).settle t.die))) ∧
  ∀ (s : State) (t : Tid) (cond : BitVec 4) (off : BitVec 24), s.issues t (.bcc cond off) → cond.toNat < 14 →
    (s.at_ t).flTag = true →
    exec (.bcc t cond off) s = .next (s.keep ((s.progFault t.die (tkey t) fPOISON).settle t.die))

/-- CHS and CHE push one word with its tag, and only a channel that is reserved or full, or has an earlier sender, blocks the
thread; channel 31 is illegal in compatibility mode (R129, R130). -/
def Obligations.ChannelsTakeWordsInOrder : Prop :=
  ∀ (s : State) (c : Instr) (t : Tid) (a : BitVec 5) (m : BitVec 6) (fin : Bool),
    c = (if fin then .che t a m else .chs t a m) → s.issues t (if fin then .che a m else .chs a m) →
    let x := s.at_ t
    let key := chanKey t.core m.toNat
    let ch := s.chan t.die key
    ¬(m.toNat = 31 ∧ s.compat t.die t.core = true) →
    (ch.blocks (tkey t) = false → ch.opened.isSome = true ∨ s.firstOn t.die (tkey t) key true = true →
      ∃ (n : Nat) (cs : Store Ctr) (co : Store Core) (cl : Store Nat),
        let next := ch.pushed s.now (tkey t) (x.val a, x.tag a) fin
        exec c s = .next ((s.setChan t.die key next).onlyThread t.die (tkey t) n cs co cl
          ({ x with openCh := if next.opened.isSome then some m.toNat else none }.after (x.pc + 1)))) ∧
    (ch.blocks (tkey t) = true ∨ ch.opened.isNone = true ∧ s.firstOn t.die (tkey t) key true = false →
      ∃ (n : Nat) (cs : Store Ctr) (co : Store Core) (cl : Store Nat),
        exec c s = .next ({ s with stamps := s.stamps + 1 }.onlyThread t.die (tkey t) n cs co cl
          { x with st := .blocked, waitOn := m.toNat, waitDst := 99, stamp := s.stamps, since := s.now, lag := 1 }))

/-- CHR takes the oldest message of its channel into rising registers once it can be taken, or blocks while there is none (R131,
R132). -/
def Obligations.ChannelReceiveTakesTheOldestMessage : Prop :=
  ∀ (s : State) (t : Tid) (d : BitVec 5) (m : BitVec 6), s.issues t (.chr d m) →
    let x := s.at_ t
    let key := chanKey t.core m.toNat
    let ch := s.chan t.die key
    let may := s.firstOn t.die (tkey t) key false = true ∧ s.mayTake t.die (tkey t) m.toNat = true
    (∀ w : Msg, s.messageStands t.die key w → w.words.length ≤ 8 → may →
      ∃ (n : Nat) (cs : Store Ctr) (co : Store Core) (cl : Store Nat) (y : Thread),
        exec (.chr t d m) s = .next ((s.setChan t.die key { ch with msgs := ch.msgs.tail }).onlyThread t.die (tkey t) n cs co cl
          (y.after (x.pc + 1))) ∧
        x.wroteAll y (messageRegs d w.words) ∧ x.flagsKept y) ∧
    ((∀ w : Msg, ¬s.messageStands t.die key w) ∨ ¬may →
      ∃ (n : Nat) (cs : Store Ctr) (co : Store Core) (cl : Store Nat),
        exec (.chr t d m) s = .next ({ s with stamps := s.stamps + 1 }.onlyThread t.die (tkey t) n cs co cl
          { x with st := .blocked, waitOn := m.toNat, waitDst := d.toNat, stamp := s.stamps, since := s.now
                   lag := 1 }))

/-- WAIT and WAITI: an illegal source word faults, no source at all or one that holds ends at once with the sources reported,
and otherwise the thread waits (R133, R180). -/
def Obligations.WaitsEndWithASource : Prop :=
  ∀ (s : State) (c : Instr) (t : Tid) (i : CoreInstr) (d : BitVec 5) (src : Nat) (tag : Bool),
    namesIssue c = some (t, i) → s.issues t i →
    (∃ a : BitVec 5, i = .wait d a ∧ src = ((s.at_ t).val a).toNat ∧ tag = (s.at_ t).tag a) ∨
      (∃ w : BitVec 17, i = .waiti d w ∧ src = w.toNat ∧ tag = false) →
    let x := s.at_ t
    let dst := d.toNat + if tag then 64 else 0
    (srcBad src = true → exec c s = .next (s.keep ((s.progFault t.die (tkey t) fILLEGAL).settle t.die))) ∧
    (srcBad src = false → src % 128 = 0 ∨ s.sources t.die (tkey t) src ≠ 0 →
      ∃ (n : Nat) (cs : Store Ctr) (co : Store Core) (cl : Store Nat),
      exec c s = .next (s.onlyThread t.die (tkey t) n cs co cl ((x.report dst (s.sources t.die (tkey t) src)).after (x.pc + 1)))) ∧
    (srcBad src = false → src % 128 ≠ 0 → s.sources t.die (tkey t) src = 0 →
      ∃ (n : Nat) (cs : Store Ctr) (co : Store Core) (cl : Store Nat),
      exec c s = .next ({ s with stamps := s.stamps + 1 }.onlyThread t.die (tkey t) n cs co cl
        { x with st := .waiting, waitOn := src, waitDst := dst, stamp := s.stamps, since := s.now, lag := 1 }))

/-- MFS and MTS move a system register, MFS of TIME_HI latches TIME_LO, and HTEST reports a scoreboard bit (R156, R184). -/
def Obligations.SystemRegistersAreReadAndWritten : Prop :=
  (∀ (s : State) (t : Tid) (d : BitVec 5) (m : BitVec 6), s.issues t (.mfs d m) →
    let x := s.at_ t
    ∃ (n : Nat) (cs : Store Ctr) (co : Store Core) (cl : Store Nat) (y : Thread) (v : Word),
      exec (.mfs t d m) s = .next (s.onlyThread t.die (tkey t) n cs co cl (y.after (x.pc + 1))) ∧
      { x with timeLo := if m = 13 then BitVec.ofNat 36 (s.time t.die) else x.timeLo }.wrote y (some d) v
        (x.tags.contains (sysTag m.toNat)) ∧ x.flagsKept y ∧
      (m.toNat ≤ 8 ∨ m = 10 ∨ m = 11 → v.toNat = x.sysVal m.toNat % 2 ^ 36) ∧
      (m = 12 → v.toNat = (t.thr + 16 * (t.core % 4) + 64 * (t.core / 4) + 1024 * t.die) % 2 ^ 36) ∧
      (m = 13 → v.toNat = s.time t.die / 2 ^ 36 % 2 ^ 36) ∧ (m = 14 → v = x.timeLo)) ∧
  (∀ (s : State) (t : Tid) (m : BitVec 6) (a : BitVec 5), s.issues t (.mts m a) →
    let x := s.at_ t
    ∃ (n : Nat) (cs : Store Ctr) (co : Store Core) (cl : Store Nat) (y : Thread),
      exec (.mts t m a) s = .next (s.onlyThread t.die (tkey t) n cs co cl (y.after (x.pc + 1))) ∧
      x.wroteSys y m.toNat (x.val a) (x.tag a)) ∧
  ∀ (s : State) (t : Tid) (d : BitVec 5) (k : BitVec 3), s.issues t (.htest d k) →
    let x := s.at_ t
    (x.busy.contains k.toNat = true → ∃ (n : Nat) (cs : Store Ctr) (co : Store Core) (cl : Store Nat) (y : Thread),
      exec (.htest t d k) s = .next (s.onlyThread t.die (tkey t) n cs co cl (y.after (x.pc + 1))) ∧ x.hasC y true) ∧
    (x.busy.contains k.toNat = false → ∃ (n : Nat) (cs : Store Ctr) (co : Store Core) (cl : Store Nat) (y : Thread),
      exec (.htest t d k) s = .next (s.onlyThread t.die (tkey t) n cs co cl (y.after (x.pc + 1))) ∧
      { x with tst := BitVec.ofNat 36 (sgetD x.sbStatus k.toNat cDONE + 256) }.wrote y (some d)
        (BitVec.ofNat 36 (sgetD x.sbStatus k.toNat cDONE)) false ∧
      y.z = x.z ∧ y.n = x.n ∧ y.c = false ∧ y.v = x.v ∧ y.dz = x.dz ∧ y.dcv = x.dcv)

/-- CRC and CRCP advance a CRC by the bytes they take, RPT starts a repeat or passes its instruction (R185, R187, R201). -/
def Obligations.CrcAndRepeat : Prop :=
  (∀ (s : State) (t : Tid) (d a : BitVec 5) (m : BitVec 6) (k : BitVec 2), s.issues t (.crc d a m k) →
    let x := s.at_ t
    ∃ (n : Nat) (cs : Store Ctr) (co : Store Core) (cl : Store Nat) (y : Thread),
      exec (.crc t d a m k) s = .next (s.onlyThread t.die (tkey t) n cs co cl (y.after (x.pc + 1))) ∧
      x.wrote y (some d) (BitVec.ofNat 36 (crcOver x m.toNat (x.val d).toNat ((List.range (k.toNat + 1)).map fun j =>
        BitVec.ofNat 8 ((x.val a).toNat / 256 ^ (if m = 3 then k.toNat - j else j)))))
        (x.tag d || x.tag a || crcSysTag x m.toNat) ∧ x.flagsKept y) ∧
  (∀ (s : State) (t : Tid) (d a : BitVec 5) (m : BitVec 6), s.issues t (.crcp d a m) → (s.at_ t).tag a = false →
    let x := s.at_ t
    let ad := (x.val a).toNat
    (∀ (q : Packet) (o : Op) (slot : Nat) (i : Inst), s.heldPkt t.die (tkey t) = some q →
      s.held t.die (tkey t) = some (slot, o, i) → ad < 128 * q.cells.length → s.readLanes t.die q ad 1 = s →
      ∃ (n : Nat) (cs : Store Ctr) (co : Store Core) (cl : Store Nat) (y : Thread) (p : Bool),
        exec (.crcp t d a m) s = .next (s.onlyThread t.die (tkey t) n cs co cl (y.after (x.pc + 1) 3)) ∧
        x.wroteAll y (fun r => if r = d then some (BitVec.ofNat 36 (crcOver x m.toNat (x.val d).toNat
          [(logByte o.log ad).getD ((s.die t.die).hop.pktByte q ad)]), p) else postRegs x a true 1 r) ∧ x.flagsKept y) ∧
    ((∀ q : Packet, s.heldPkt t.die (tkey t) = some q → 128 * q.cells.length ≤ ad) →
      ∃ (n : Nat) (cs : Store Ctr) (co : Store Core) (cl : Store Nat) (y : Thread),
        exec (.crcp t d a m) s = .next (s.onlyThread t.die (tkey t) n cs co cl (y.after (x.pc + 1) 3)) ∧
        x.wroteAll y (fun r => if r = d then some (BitVec.ofNat 36 (crcOver x m.toNat (x.val d).toNat [0]),
          x.tag d || crcSysTag x m.toNat) else postRegs x a true 1 r) ∧ x.flagsKept y)) ∧
  ∀ (s : State) (t : Tid) (a : BitVec 5), s.issues t (.rpt a) →
    let x := s.at_ t
    let cnt := if a = 0 then x.cnt else x.val a
    let tag := if a = 0 then x.tags.contains (sysTag 0) else x.tag a
    (∀ i : CoreInstr, s.nextInstr t.die (tkey t) = some i → repeatable i = true → tag = false →
      ∃ (n : Nat) (cs : Store Ctr) (co : Store Core) (cl : Store Nat) (y : Thread),
        exec (.rpt t a) s = .next (s.onlyThread t.die (tkey t) n cs co cl (y.after (x.pc + if cnt = 0 then 2 else 1))) ∧
        y = { x with cnt := cnt, rep := decide (cnt ≠ 0), tags := y.tags } ∧ ∀ r : BitVec 5, y.tag r = x.tag r) ∧
    ((∀ i : CoreInstr, s.nextInstr t.die (tkey t) = some i → repeatable i = false) →
      exec (.rpt t a) s = .next (s.keep ((s.progFault t.die (tkey t) fRPT).settle t.die)))

/-- OPEND hands its operation to COMMIT with its outcome and the locks that the thread holds then, SPAWN reports
RANGE, STATE or FULL or creates an instance, ENQ logs an enqueue and PGROW adds cells (R95, R96, R108, R182). That a
waiting fallback makes SPAWN FULL and what its ticket counts as are the model's readings, log entries 10 and 94. -/
def Obligations.GraphInstructionsReportTheirStatus : Prop :=
  (∀ (s : State) (t : Tid) (k : BitVec 3), s.issues t (.opend k) →
    (s.held t.die (tkey t) = none → ∃ (n : Nat) (cs : Store Ctr) (co : Store Core) (cl : Store Nat) (y : Thread),
      exec (.opend t k) s = .next (s.settledBy s t n cs co cl y ((s.at_ t).pc + 1)) ∧ (s.at_ t).hasC y true) ∧
    (∀ (slot : Nat) (o : Op) (i : Inst), s.held t.die (tkey t) = some (slot, o, i) →
      let u := s.setOp t.die slot { o with st := .commit, outcome := k.toNat % 4, drop := k.getLsbD 2
                                           tEnd := some (s.time t.die) }
      let w := if k.getLsbD 2 then u.programDrop t.die o.inst else u
      let v := (w.locksOf t.die (tkey t)).foldl (fun s h => s.setHelper t.die h { s.helper t.die h with atCommit := some slot }) w
      ∃ (n : Nat) (cs : Store Ctr) (co : Store Core) (cl : Store Nat) (y : Thread),
        exec (.opend t k) s = .next (s.settledBy v t n cs co cl y ((s.at_ t).pc + 1)) ∧
        { v.at_ t with op := none, delivered := false }.hasC y false)) ∧
  (∀ (s : State) (t : Tid) (a b : BitVec 5) (g : BitVec 8), s.issues t (.spawn a b g) →
    (s.at_ t).tag a = false → (s.at_ t).tag b = false → s.readGraph t.die g.toNat = s →
    let x := s.at_ t
    let code := s.spawnStatus t.die g.toNat (x.val b).toNat
    let v := if code = cDONE then s.spawnInst t.die g.toNat (x.val b).toNat (x.val a)
      else if code = cFULL then s.count t.die ctrDSP 6 else s.graphPoisonRead t.die g.toNat
    ∃ (n : Nat) (cs : Store Ctr) (co : Store Core) (cl : Store Nat) (y : Thread),
      exec (.spawn t a b g) s = .next (s.settledBy v t n cs co cl y (x.pc + 1)) ∧ (v.at_ t).hasStatus y code 0) ∧
  (∀ (s : State) (t : Tid) (a : BitVec 5), s.issues t (.enq a) →
    let x := s.at_ t
    (s.held t.die (tkey t) = none → ∃ (n : Nat) (cs : Store Ctr) (co : Store Core) (cl : Store Nat),
      exec (.enq t a) s = .next (s.onlyThread t.die (tkey t) n cs co cl (x.after (x.pc + 1)))) ∧
    (∀ (slot : Nat) (o : Op) (i : Inst), s.held t.die (tkey t) = some (slot, o, i) →
      (∀ j : Nat, j < 3 → x.tagged (a.toNat + j) = false) → i.pid.isSome = true →
      i.enqs.length + loggedEnqs o.log < 8 → o.log.length < 64 →
      ∃ (n : Nat) (cs : Store Ctr) (co : Store Core) (cl : Store Nat),
        exec (.enq t a) s = .next ((s.setOp t.die slot { o with
          log := o.log ++ [.enqueue { die := (x.val a).toNat / 4096 % 8, queue := (x.val a).toNat % 4096
                                      w0 := x.get (a.toNat + 1), w1 := x.get (a.toNat + 2) }] }).onlyThread
            t.die (tkey t) n cs co cl (x.after (x.pc + 1))))) ∧
  ∀ (s : State) (t : Tid) (a : BitVec 5), s.issues t (.pgrow a) →
    let x := s.at_ t
    let m := (x.val a).toNat
    (s.heldPkt t.die (tkey t) = none → ∃ (n : Nat) (cs : Store Ctr) (co : Store Core) (cl : Store Nat) (y : Thread),
      exec (.pgrow t a) s = .next (s.settledBy s t n cs co cl y (x.pc + 1)) ∧ x.hasStatus y cSTATE 3) ∧
    (∀ (slot : Nat) (o : Op) (i : Inst) (pid : Nat) (p : Packet), s.held t.die (tkey t) = some (slot, o, i) →
      i.pid = some pid → s.heldPkt t.die (tkey t) = some p →
      let r := s.takeCells t.die (s.pktCharge t.die p) m
      let v := if s.growStatus t.die m p = cDONE then
        r.2.modPkt t.die pid fun q => { q with cells := q.cells ++ r.1 } else s
      ∃ (n : Nat) (cs : Store Ctr) (co : Store Core) (cl : Store Nat) (y : Thread),
        exec (.pgrow t a) s = .next (s.settledBy v t n cs co cl y (x.pc + 1)) ∧
        (v.at_ t).hasStatus y (s.growStatus t.die m p) 3)

/-- TBL waits for its answer; HLOCK takes a free lock and marks a refusal, HUNLOCK gives it back, and HGO queues a
job under a held lock and a free scoreboard bit (R183, R184, R209 to R213). HLOCKs of one fabric cycle are decided
together by the model's reading, log entry 101. -/
def Obligations.TableAndHelperInstructions : Prop :=
  (∀ (s : State) (t : Tid) (d a : BitVec 5) (m : BitVec 6) (k : BitVec 2), s.issues t (.tbl d a m k) →
    (s.at_ t).keyTag a (k.toNat + 1) = false →
    let x := s.at_ t
    ∃ (n : Nat) (cs : Store Ctr) (co : Store Core) (cl : Store Nat),
      exec (.tbl t d a m k) s = .next ({ s with stamps := s.stamps + 1 }.onlyThread t.die (tkey t) n cs co cl
        { x with st := .waiting, waitOn := 0, waitDst := d.toNat, stamp := s.stamps, since := s.now, portAt := none
                 req := some (.tbl d.toNat m.toNat ((List.range 4).map fun j =>
                   if j ≤ k.toNat then x.get (a.toNat + j) else 0)), lag := 1 })) ∧
  (∀ (s : State) (t : Tid) (m : BitVec 6), s.issues t (.hlock m) →
    let x := s.at_ t
    let h := tkey t / 64 * 3 + m.toNat
    let u := s.windowEnd t.die h
    let z := u.helper t.die h
    let mine : Helper := { z with holder := some (.thread (tkey t)), refused := false, window := none, atCommit := none
                                  won := some (s.now, t.core % 4) }
    (z.holder = some (.thread (tkey t)) → ∃ (n : Nat) (cs : Store Ctr) (co : Store Core) (cl : Store Nat) (y : Thread),
      exec (.hlock t m) s = .next (u.onlyThread t.die (tkey t) n cs co cl (y.after (x.pc + 1))) ∧ x.hasC y false) ∧
    (z.holder = none → z.jobs = [] → ∃ (n : Nat) (cs : Store Ctr) (co : Store Core) (cl : Store Nat) (y : Thread),
      exec (.hlock t m) s = .next ((u.setHelper t.die h { mine with
        lastCore := match z.won with | some (_, c) => c | none => z.lastCore }).onlyThread t.die (tkey t) n cs co cl
          (y.after (x.pc + 1))) ∧ x.hasC y false) ∧
    (z.holder ≠ some (.thread (tkey t)) → z.holder ≠ none ∨ z.jobs ≠ [] →
      (u.lateWinner t.die h (tkey t) = none →
        ∃ (n : Nat) (cs : Store Ctr) (co : Store Core) (cl : Store Nat) (y : Thread) (r : Bool),
          exec (.hlock t m) s = .next ((u.setHelper t.die h { z with refused := r }).onlyThread t.die (tkey t) n cs co cl
            (y.after (x.pc + 1))) ∧ x.hasC y true ∧
          (r = true ↔ z.refused = true ∨ z.jobs ≠ [] ∨ ∀ c : Nat, z.won ≠ some (s.now, c))) ∧
      (∀ w : Nat, u.lateWinner t.die h (tkey t) = some w →
        ∃ (n : Nat) (cs : Store Ctr) (co : Store Core) (cl : Store Nat) (y v : Thread),
          exec (.hlock t m) s = .next (((u.setHelper t.die h mine).setThr t.die w v).onlyThread t.die (tkey t) n cs co cl
            (y.after (x.pc + 1))) ∧ x.hasC y false ∧ (u.thr t.die w).hasC v true))) ∧
  (∀ (s : State) (t : Tid) (m : BitVec 6), s.issues t (.hunlock m) →
    let x := s.at_ t
    let h := tkey t / 64 * 3 + m.toNat
    let z := s.helper t.die h
    (z.holder = some (.thread (tkey t)) → ∃ (n : Nat) (cs : Store Ctr) (co : Store Core) (cl : Store Nat) (y : Thread),
      exec (.hunlock t m) s = .next (((s.setHelper t.die h { z with
        holder := none, atCommit := none }).grantLock t.die h).onlyThread t.die (tkey t) n cs co cl (y.after (x.pc + 1))) ∧
      x.hasC y false) ∧
    (z.holder ≠ some (.thread (tkey t)) → ∃ (n : Nat) (cs : Store Ctr) (co : Store Core) (cl : Store Nat) (y : Thread),
      exec (.hunlock t m) s = .next (s.onlyThread t.die (tkey t) n cs co cl (y.after (x.pc + 1))) ∧ x.hasC y true)) ∧
  ∀ (s : State) (t : Tid) (a : BitVec 5) (m : BitVec 6) (k : BitVec 3), s.issues t (.hgo a m k) → (s.at_ t).tag a = false →
    let x := s.at_ t
    let h := tkey t / 64 * 3 + m.toNat
    let z := s.helper t.die h
    let w := (x.val a).toNat
    (z.holder = some (.thread (tkey t)) → x.busy.contains k.toNat = false →
      (∀ j : Nat, j < 8 → (s.die t.die).flips (unitKey 2 (tkey t / 64) (w + j)) = 0) →
      ∃ (n : Nat) (cs : Store Ctr) (co : Store Core) (cl : Store Nat) (y : Thread),
        exec (.hgo t a m k) s = .next ((s.setHelper t.die h { z with
          jobs := z.jobs ++ [s.hgoJob t.die (tkey t) w k.toNat] }).onlyThread t.die (tkey t) n cs co cl (y.after (x.pc + 1))) ∧
        { x with busy := k.toNat :: x.busy }.hasC y false) ∧
    (z.holder ≠ some (.thread (tkey t)) ∨ x.busy.contains k.toNat = true →
      ∃ (n : Nat) (cs : Store Ctr) (co : Store Core) (cl : Store Nat) (y : Thread),
        exec (.hgo t a m k) s = .next (s.onlyThread t.die (tkey t) n cs co cl (y.after (x.pc + 1))) ∧ x.hasC y true)

/-- TCTL disposes of a faulted thread for the SUPERVISOR of a core in compatibility mode, and CCTL stops or restarts another
core (R144, R186). -/
def Obligations.SupervisorAndCoreInstructions : Prop :=
  (∀ (s : State) (t : Tid) (a : BitVec 5) (abandon : Bool), s.issues t (.tctl a abandon) →
    let x := s.at_ t
    let v := t.core * 16 + (x.val a).toNat % 16
    (x.role ≠ 3 ∨ s.compat t.die t.core = false →
      exec (.tctl t a abandon) s = .next (s.keep ((s.progFault t.die (tkey t) fILLEGAL).settle t.die))) ∧
    (x.role = 3 → s.compat t.die t.core = true → x.tag a = false →
      ((s.thr t.die v).st ≠ .faulted → ∃ (n : Nat) (cs : Store Ctr) (co : Store Core) (cl : Store Nat) (y : Thread),
        exec (.tctl t a abandon) s = .next (s.settledBy s t n cs co cl y (x.pc + 1)) ∧ x.hasC y true) ∧
      ((s.thr t.die v).st = .faulted →
        let u := s.disposeThr t.die v
        let w := u.setThr t.die v (if abandon then { u.thr t.die v with st := .parked, op := none }
          else applyMap (s.mapWord t.die v 0) (s.mapWord t.die v 1) (u.thr t.die v))
        (∀ i : Nat, i < 2 → u.mapWord t.die v i = s.mapWord t.die v i) →
        ∃ (n : Nat) (cs : Store Ctr) (co : Store Core) (cl : Store Nat) (y : Thread),
          exec (.tctl t a abandon) s = .next (s.settledBy w t n cs co cl y (x.pc + 1)) ∧ (w.at_ t).hasC y false))) ∧
  ∀ (s : State) (t : Tid) (a : BitVec 5) (k : BitVec 8), s.issues t (.cctl a k) → (s.at_ t).tag a = false →
    let x := s.at_ t
    let c := (x.val a).toNat % 64
    let code := if (k ≠ 1 ∧ k ≠ 2) ∨ 48 ≤ c ∨ s.checker t.die c = true then cMALFORMED
      else if c = t.core then cSTATE
      else if k = 1 then (if (s.core t.die c).run = .running ∨ (s.core t.die c).run = .debug then cDONE else cSTATE)
      else if (s.core t.die c).run = .stopped then cDONE else cSTATE
    let v := if code ≠ cDONE then s
      else if k = 1 then s.stopCore t.die c false fun s slot => s.replayOp t.die slot else s.restartCore t.die c
    ∃ (n : Nat) (cs : Store Ctr) (co : Store Core) (cl : Store Nat) (y : Thread),
      exec (.cctl t a k) s = .next (s.settledBy v t n cs co cl y (x.pc + 1)) ∧ (v.at_ t).hasStatus y code 4

/-- An instruction that waits ends in a slot of its thread when its source holds, its answer is there, its channel or
its bank serves it, and a thread's timer and step count end (R117, R121, R130 to R133, R150, R261). A repeat takes
one iteration of its instruction, which ends it at CNT = 0 or at a CMPS of unequal words, and a word that decodes to
nothing is the program fault ILLEGAL_INSTRUCTION (R165, R201, R202). When a message can be found by a channel source
and how a timer sets its latch are the model's readings, log entries 97 and 100. -/
def Obligations.WaitingThreadsAndRepeatsGoOn : Prop :=
  ((∀ (s : State) (t : Tid), tidOk t s = true → s.inReset = false → s.slotOn t.die (tkey t) = true →
    s.slotFree t.die (tkey t) = true →
    (s.at_ t).st = .waiting → (s.at_ t).req = none → s.sources t.die (tkey t) (s.at_ t).waitOn ≠ 0 →
    ∃ (co : Store Core) (cl : Store Nat) (y : Thread), exec (.waitWake t) s =
      .next (s.changedThread t.die (tkey t) s.draws (s.die t.die).ctrs co cl (s.inSlot t.die (tkey t) y)) ∧
      y = { (s.at_ t).report (s.at_ t).waitDst (s.sources t.die (tkey t) (s.at_ t).waitOn) with
            steps := (s.at_ t).steps - 1, lag := 1 } ∧
      y.st = .issuing ∧ y.pc = ((s.at_ t).pc + 1) % 65536) ∧
  (∀ (s : State) (t : Tid), tidOk t s = true → s.inReset = false → (s.at_ t).timerDue = true →
    exec (.localTimerExpire t) s = .next (s.setThr t.die (tkey t) { s.at_ t with timerDue := false, timerLatch := true })) ∧
  (∀ (s : State) (t : Tid), tidOk t s = true → s.inReset = false → (s.at_ t).dbg = true → (s.at_ t).stepping = true →
    (s.at_ t).steps = 0 →
    exec (.stepCountDone t) s = .next (s.setThr t.die (tkey t) { s.at_ t with
      stepping := false, req := none
      st := if (s.at_ t).st = .blocked ∨ (s.at_ t).st = .waiting then .issuing else (s.at_ t).st })) ∧
  (∀ (s : State) (t : Tid) (r w g : Nat), tidOk t s = true → s.inReset = false → s.slotOn t.die (tkey t) = true →
    (s.at_ t).req = some (.ldf r w) → r < 32 → (s.at_ t).portAt = some g → g + 12 ≤ s.now →
    let l := s.ctxLoad t.die (tkey t) w
    exec (.ldfAnswer t) s = .next (s.keep ((l.1.stir t.die (tkey t)).setThr t.die (tkey t)
      (((l.1.thr t.die (tkey t)).put r l.2.1 l.2.2).retire ((s.at_ t).pc + 1))))) ∧
  (∀ (s : State) (t : Tid) (r tab : Nat) (key res : List Word) (u : State), tidOk t s = true → s.inReset = false →
    s.slotOn t.die (tkey t) = true → (s.at_ t).req = some (.tbl r tab key) →
    (∀ hit : Nat, hit ≠ 2 → s.lookupFor t.die (tkey t / 64) (s.at_ t).stamp tab key true = (u, some (hit, res)) →
      u.thr t.die (tkey t) = s.at_ t →
      ∃ (z y : Thread), exec (.tblAnswer t) s =
          .next (s.keep ((u.stir t.die (tkey t)).setThr t.die (tkey t) (y.retire ((s.at_ t).pc + 1)))) ∧
        z = (((s.at_ t).put r (res.getD 0 0)).put (r + 1) (res.getD 1 0)).put (r + 2) (res.getD 2 0) ∧
        z.hasStatus y (if hit = 0 then cDONE else cNOT_FOUND) 2)) ∧
  (∀ (s : State) (t : Tid) (a : BitVec 5) (m : BitVec 6) (fin : Bool), tidOk t s = true → s.inReset = false →
    s.slotOn t.die (tkey t) = true → s.slotFree t.die (tkey t) = true →
    (s.at_ t).st = .blocked → (s.at_ t).rep = false → (s.at_ t).waitDst = 99 → (s.at_ t).waitOn = m.toNat →
    (s.die t.die).flips (unitKey 3 (tkey t / 64) (s.at_ t).pc) = 0 →
    decodeWord (sgetD (s.die t.die).istore (tkey t / 64 * 65536 + (s.at_ t).pc) 0) = some (if fin then .che a m else .chs a m) →
    ¬(m.toNat = 31 ∧ s.compat t.die t.core = true) →
    let x := s.at_ t
    let key := chanKey t.core m.toNat
    let ch := (s.chan t.die key).pushed s.now (tkey t) (x.val a, x.tag a) fin
    (s.chan t.die key).blocks (tkey t) = false → s.firstOn t.die (tkey t) key true = true →
    ∃ (cs : Store Ctr) (co : Store Core) (cl : Store Nat), exec (.channelSendUnblock t) s =
      .next ((s.setChan t.die key ch).changedThread t.die (tkey t) s.draws cs co cl (s.inSlot t.die (tkey t)
        (Thread.after { x with openCh := if ch.opened.isSome then some m.toNat else none } (x.pc + 1))))) ∧
  (∀ (s : State) (t : Tid) (d : BitVec 5) (m : BitVec 6) (w : Msg), tidOk t s = true → s.inReset = false →
    s.slotOn t.die (tkey t) = true → s.slotFree t.die (tkey t) = true → (s.at_ t).st = .blocked → (s.at_ t).rep = false →
    (s.at_ t).waitDst ≠ 99 → (s.at_ t).waitOn = m.toNat →
    (s.die t.die).flips (unitKey 3 (tkey t / 64) (s.at_ t).pc) = 0 →
    decodeWord (sgetD (s.die t.die).istore (tkey t / 64 * 65536 + (s.at_ t).pc) 0) = some (.chr d m) →
    let x := s.at_ t
    let key := chanKey t.core m.toNat
    s.messageStands t.die key w → w.words.length ≤ 8 → s.firstOn t.die (tkey t) key false = true →
    s.mayTake t.die (tkey t) m.toNat = true →
    ∃ (cs : Store Ctr) (co : Store Core) (cl : Store Nat) (y : Thread), exec (.channelReceiveUnblock t) s =
      .next ((s.setChan t.die key { s.chan t.die key with msgs := (s.chan t.die key).msgs.tail }).changedThread t.die (tkey t)
        s.draws cs co cl (s.inSlot t.die (tkey t) (y.after (x.pc + 1)))) ∧
      x.wroteAll y (messageRegs d w.words) ∧ x.flagsKept y) ∧
  ∀ (s : State) (t : Tid) (b : Nat) (d a : BitVec 5) (p : Bool) (disp : BitVec 15), tidOk t s = true → s.inReset = false →
    b < 16 → s.bankServes t.die (tkey t / 64) b (tkey t) →
    (s.die t.die).flips (unitKey 3 (tkey t / 64) (s.at_ t).pc) = 0 →
    decodeWord (sgetD (s.die t.die).istore (tkey t / 64 * 65536 + (s.at_ t).pc) 0) = some (.mem .ldw d a p 3 disp) →
    (s.at_ t).tag a = false → (s.at_ t).rep = false → (s.at_ t).addr a disp % 16 = b →
    (s.at_ t).req = some (.bank (tkey t / 64 * 16 + b)) →
    (s.at_ t).region ((s.at_ t).addr a disp) = true →
    (s.die t.die).flips (unitKey 2 (tkey t / 64) ((s.at_ t).addr a disp)) = 0 →
    ∃ (n : Nat) (cs : Store Ctr) (co : Store Core) (cl : Store Nat) (y : Thread),
      exec (.bankGrant t.die (tkey t / 64) b) s = .next (s.keep (((s.banksTaken t [(s.at_ t).addr a disp]).changedThread
        t.die (tkey t) n cs co cl (y.after ((s.at_ t).pc + 1) (s.at_ t).lag)).settle t.die)) ∧
      (s.at_ t).wroteAll y (loadRegs (s.at_ t) d a p 1 (s.csRead t.die (tkey t / 64) ((s.at_ t).addr a disp)))) ∧
  (∀ (s : State) (t : Tid) (a b : BitVec 5), tidOk t s = true → s.inReset = false → s.canIssue t.die (tkey t) = true →
    (s.at_ t).rep = true → (s.at_ t).cnt ≠ 0 → s.forced t.die (tkey t) = false →
    (s.die t.die).flips (unitKey 3 (tkey t / 64) (s.at_ t).pc) = 0 →
    decodeWord (sgetD (s.die t.die).istore (tkey t / 64 * 65536 + (s.at_ t).pc) 0) = some (.cmps a b) →
    (s.at_ t).tag a = false → (s.at_ t).tag b = false →
    let x := s.at_ t
    let pa := (x.val a).toNat
    let pb := (x.val b).toNat
    let u := s.csRead t.die (tkey t / 64) pa
    let v := s.csRead t.die (tkey t / 64) pb
    s.csReady t pa → s.csReady t pb →
    ∃ (n : Nat) (cs : Store Ctr) (co : Store Core) (cl : Store Nat) (z y : Thread),
      let ends := x.cnt = 1 ∨ u.1 ≠ v.1
      exec (.repeatIteration t) s = .next ((s.banksTaken t [pa, pb]).onlyThread t.die (tkey t) n cs co cl
        { y.after (if ends then x.pc + 1 else x.pc) 2 with cnt := x.cnt - 1, rep := decide ¬ends }) ∧
      x.wroteAll z (stepRegs x a b) ∧ z.wrote y none 0 false ∧ y.z = decide (u.1 = v.1)) ∧
  (∀ (s : State) (t : Tid), tidOk t s = true → s.inReset = false → s.canIssue t.die (tkey t) = true →
    (s.at_ t).rep = true → (s.at_ t).cnt = 0 →
    exec (.repeatIteration t) s = .next (s.setThr t.die (tkey t) { s.at_ t with
      rep := false, pc := ((s.at_ t).pc + 1) % 65536 })) ∧
  ∀ (s : State) (t : Tid), tidOk t s = true → s.inReset = false → s.canIssue t.die (tkey t) = true →
    (s.at_ t).rep = false → s.forced t.die (tkey t) = false →
    (s.die t.die).flips (unitKey 3 (tkey t / 64) (s.at_ t).pc) = 0 →
    decodeWord (sgetD (s.die t.die).istore (tkey t / 64 * 65536 + (s.at_ t).pc) 0) = none →
    exec (.illegalInstruction t) s = .next (s.keep ((s.progFault t.die (tkey t) fILLEGAL).settle t.die))

/-- A program fault is noted with its thread, PC and code; in native mode it stops the core, and in compatibility mode it makes
the thread FAULTED, which the debugger no longer holds, and queues a notice of four words (R139, R141, R142, R146). -/
def Obligations.ProgramFaultsAreNotedAndStopOrNotify : Prop :=
  ∀ (s : State) (t : Tid) (code : Nat), tidOk t s = true →
    (∀ k ∈ coreThreads t.core, (s.thr t.die k).op = none) → s.leader t.die t.core = false →
    let x := s.at_ t
    let u := s.progFault t.die (tkey t) code
    let y := u.core t.die t.core
    y.code = code ∧ y.faultThread = t.thr ∧ y.faultPc = x.pc ∧ y.heldOp = false ∧
    (s.nativeFault t → y.run = .stopped ∧ y.lastHw = false ∧ y.notices = (s.core t.die t.core).notices ∧
      ∀ k ∈ coreThreads t.core, (u.thr t.die k).w = (s.thr t.die k).w ∧ (u.thr t.die k).pc = (s.thr t.die k).pc ∧
        (u.thr t.die k).st ≠ .blocked ∧ (u.thr t.die k).st ≠ .waiting) ∧
    (¬s.nativeFault t → u.at_ t = { x with st := .faulted, req := none, dbg := false, stepping := false } ∧
      ((s.core t.die t.core).run = .running ∨ (s.core t.die t.core).run = .debug →
        y.run = if ∃ k ∈ coreThreads t.core, (u.thr t.die k).dbg = true then CoreRun.debug else CoreRun.running) ∧
      y.notices = (s.core t.die t.core).notices ++ [[w36 (code + t.thr * 256), w36 x.pc, x.cnt, w36 (s.time t.die)]])

/-- A hardware fault stops its core or pair, and AUTO_RESTART starts one that has been well for a second; the notice
of a fault enters channel 31 when there is room (R139, R141, R142, R147, R148). A deadlock that has lasted
DEADLOCK_GRACE rounds stops the core, and for a cluster all four; a restart that is done runs the core from its
thread map; a missed deadline faults, completes or aborts its operation (R105, R110, R126, R136 to R138, R146). The
order of unlocks at an operation's end, of an abort and of a replay are the model's readings, log entries 78, 93 and
99. -/
def Obligations.HardwareFaultsDeadlocksAndDeadlines : Prop :=
  ((∀ (s : State) (t : Tid) (stuck : Bool), tidOk t s = true → s.inReset = false → s.coreLive t.die t.core = true →
    s.leader t.die t.core = false → (∀ k ∈ coreThreads t.core, (s.thr t.die k).op = none) →
    let code := if stuck then fSTUCK else fPARITY
    let auto := bit (s.coreCfg t.die t.core) 2 && (match (s.core t.die t.core).lastHwAt with
      | none => true
      | some at_ => decide (at_ + 1000000000 ≤ s.now))
    ∃ u : State, exec (.hardwareFault t stuck) s = .next (s.keep u) ∧
      let y := u.core t.die t.core
      y.code = code ∧ y.faultThread = t.thr ∧ y.faultPc = (s.at_ t).pc ∧ y.lastHw = true ∧ y.lastHwAt = some s.now ∧
      y.hwStops = min 255 ((s.core t.die t.core).hwStops + 1) ∧ y.run = if auto then .restarting else .stopped) ∧
  (∀ (s : State) (t : Tid), tidOk t s = true → s.inReset = false → s.coreLive t.die t.core = true →
    s.leader t.die t.core = true → (∀ k ∈ coreThreads t.core, (s.thr t.die k).op = none) →
    bit (s.coreCfg t.die t.core) 2 = false →
    ∃ u : State, exec (.lockstepMismatch t) s = .next (s.keep u) ∧
      (u.core t.die t.core).run = .stopped ∧ (u.core t.die (t.core + 1)).run = .stopped ∧
      (∀ c : Nat, c = t.core ∨ c = t.core + 1 → (u.core t.die c).code = fLOCKSTEP ∧ (u.core t.die c).lastHw = true ∧
        (u.core t.die c).faultThread = t.thr ∧ (u.core t.die c).faultPc = (s.at_ t).pc ∧
        (u.core t.die c).hwStops = min 255 ((s.core t.die c).hwStops + 1))) ∧
  ∀ (s : State) (d c : Nat) (m : List Word) (ms : List (List Word)), s.live d → c < 48 →
    (s.core d c).notices = m :: ms → (s.chan d (chanKey c 31)).places < 4 → s.coreLive d c = true →
    exec (.faultNoticeDeliver d c) s = .next (s.keep
      (((((s.setChan d (chanKey c 31) { s.chan d (chanKey c 31) with
        msgs := (s.chan d (chanKey c 31)).msgs ++ [{ at_ := s.now, words := m.map fun w => (w, false) }] }).modCore d c fun y =>
          { y with notices := ms }).coreEvent d c 1).settle d)))) ∧
  (∀ (s : State) (d c since : Nat), s.live d → c < 48 → (s.core d c).deadSince = some since → s.coreDead d c = true →
    s.grace d c ≤ s.roundsFrom d since s.now → s.leader d c = false → (∀ k ∈ coreThreads c, (s.thr d k).op = none) →
    exec (.coreDeadlock d c) s = .next (s.keep ((s.deadlock d c).settle d)) ∧
    ((s.deadlock d c).core d c).run = .stopped ∧ ((s.deadlock d c).core d c).code = fDEADLOCK) ∧
  (∀ (s : State) (d cl since : Nat), s.live d → cl < 12 → sget (s.die d).clusterSince cl = some since →
    s.clusterDead d cl = true → (∀ j : Nat, j < 4 → s.grace d (cl * 4 + j) ≤ s.roundsFrom d since s.now) →
    exec (.clusterDeadlock d cl) s = .next (s.keep
      (((((s.deadlock d (cl * 4)).deadlock d (cl * 4 + 1)).deadlock d (cl * 4 + 2)).deadlock d (cl * 4 + 3)).settle d))) ∧
  (∀ (s : State) (d c : Nat), s.live d → c < 48 → (s.core d c).run = .restarting → s.helperBusy d c = false →
    s.checker d c = false → s.leader d c = false →
    ∃ u : State, exec (.coreRestartDone d c) s = .next (s.keep (u.settle d)) ∧ (u.core d c).run = .running ∧
      ∀ j : Nat, j < 16 → u.thr d (c * 16 + j) =
        applyMap (s.mapWord d (c * 16 + j) 0) (s.mapWord d (c * 16 + j) 1) { s.thr d (c * 16 + j) with busy := [] }) ∧
  ∀ (s : State) (d slot : Nat) (o : Op), s.live d → slot < 16384 → s.op d slot = some o →
    reached (s.time d) o.deadline = true → s.waitFired d slot o = false →
    (∀ k : Nat, o.st = .service → o.thread = some k →
      exec (.deadlineMiss d slot) s = .next (s.keep ((if (s.thr d k).st = .faulted then s.abortOp d slot rFAULT
        else s.progFault d k fDEADLINE).settle d))) ∧
    (o.st ≠ .service → o.st ≠ .commit → o.st ≠ .tables → o.kind = 3 → o.timeoutOk = true →
      exec (.deadlineMiss d slot) s = .next (s.keep ((s.setOp d slot { o with
        st := .commit, outcome := 1, tEnd := some (s.time d) }).settle d))) ∧
    (o.st ≠ .service → o.st ≠ .commit → o.st ≠ .tables → o.kind ≠ 3 ∨ o.timeoutOk = false →
      exec (.deadlineMiss d slot) s = .next (s.keep ((s.abortOp d slot rDEADLINE).settle d)))

/-- The commands of the core-control ring stop and restart cores, hold, release, step, abandon and signal threads and
read and write their registers, and end with DONE (R146 to R152). Reserved bits are the model's reading, log entry
36. -/
def Obligations.CoreControlCommandsAct : Prop :=
  (∀ (s : State) (d : Nat) (c : RCmd), s.coreHead d 1 c →
    let n := c.coreCmd.core
    (s.core d n).run = .running ∨ (s.core d n).run = .debug →
    exec (.coreStop d) s = .next (s.keep ((s.stopCore d n false fun s slot => s.replayOp d slot).coreEnds d 0))) ∧
  (∀ (s : State) (d : Nat) (c : RCmd), s.coreHead d 2 c → (s.core d c.coreCmd.core).run = .stopped →
    exec (.coreRestart d) s = .next (s.keep ((s.restartCore d c.coreCmd.core).coreEnds d 0))) ∧
  (∀ (s : State) (d : Nat) (c : RCmd), s.coreHead d 3 c → s.threadLegal d c.coreCmd = true →
    let k := c.coreCmd.core * 16 + c.coreCmd.thr
    exec (.threadStop d) s = .next (s.keep (((s.setThr d k (s.thr d k).heldByDebugger).debugState d c.coreCmd.core).coreEnds
      d 0))) ∧
  (∀ (s : State) (d : Nat) (c : RCmd), s.coreHead d 4 c → s.threadLegal d c.coreCmd = true →
    let k := c.coreCmd.core * 16 + c.coreCmd.thr
    exec (.threadResume d) s = .next (s.keep (((s.setThr d k { (s.thr d k).goOn with dbg := false, stepping := false }).debugState
      d c.coreCmd.core).coreEnds d 0))) ∧
  (∀ (s : State) (d : Nat) (c : RCmd), s.coreHead d 5 c → s.threadLegal d c.coreCmd = true →
    let k := c.coreCmd.core * 16 + c.coreCmd.thr
    exec (.threadStep d) s = .next (s.keep ((s.setThr d k { (s.thr d k).goOn with
      stepping := true, steps := c.coreCmd.val }).coreEnds d 0))) ∧
  (∀ (s : State) (d : Nat) (c : RCmd), s.coreHead d 6 c → s.threadLegal d c.coreCmd = true →
    let k := c.coreCmd.core * 16 + c.coreCmd.thr
    let u := s.disposeThr d k
    exec (.threadAbandon d) s = .next (s.keep (((u.setThr d k { u.thr d k with
      st := .parked, op := none, dbg := false, stepping := false }).debugState d c.coreCmd.core).coreEnds d 0))) ∧
  (∀ (s : State) (d : Nat) (c : RCmd), s.coreHead d 7 c → s.threadLegal d c.coreCmd = true →
    let k := c.coreCmd.core * 16 + c.coreCmd.thr
    exec (.threadSignal d) s = .next (s.keep ((s.setThr d k { s.thr d k with dbgLatch := true }).coreEnds d 0))) ∧
  (∀ (s : State) (d : Nat) (c : RCmd), s.coreHead d 8 c → s.threadLegal d c.coreCmd = true →
    let x := s.thr d (c.coreCmd.core * 16 + c.coreCmd.thr)
    let r := c.coreCmd.reg
    exec (.threadRead d) s = .next (s.keep (s.coreEnds d (if r < 32 then (x.get r).toNat else if r = 32 then x.pc
      else if r = 37 then x.timer.toNat else if r = 38 then x.rsetLo.toNat else if r = 39 then x.rsetHi
      else x.sysVal (r - 33))))) ∧
  ∀ (s : State) (d : Nat) (c : RCmd), s.coreHead d 9 c → s.threadLegal d c.coreCmd = true →
    let k := c.coreCmd.core * 16 + c.coreCmd.thr
    let x := s.thr d k
    let r := c.coreCmd.reg
    ∃ y : Thread, exec (.threadWrite d) s = .next (s.keep ((s.setThr d k y).coreEnds d 0)) ∧
      (r < 32 → x.wrote y (some (BitVec.ofNat 5 r)) (w36 c.coreCmd.val) false ∧ x.flagsKept y) ∧
      (r = 32 → y = { x with pc := c.coreCmd.val % 65536, rep := false }) ∧
      (33 ≤ r → r ≤ 36 → x.wroteSys y (r - 33) (w36 c.coreCmd.val) false) ∧
      (37 ≤ r → x.wroteSys y (r - 31) (w36 c.coreCmd.val) false)

/-- A register write needs all four byte enables, a die that the host reaches and a register that exists, and else is a
violation; it stores the writable bits, a slot's low dword is held, and a W1C write clears the event bits it names (R9, R10,
R375, R378, R380). -/
def Obligations.RegisterWritesStoreWritableBits : Prop :=
  (∀ (s : State) (c : Instr) (d : Nat), s.inReset = false → hostWriteOf c = some d → s.reach 0 d = false →
    exec c s = .next (s.keep (s.violation 8))) ∧
  (∀ (s : State) (d off : Nat) (v : Dword) (be : BitVec 4), s.inReset = false →
    be ≠ 15 ∨ s.reach 0 d = false ∨ regFind off = none →
    exec (.registerWrite d off v be) s = .next (s.keep (s.violation (if s.reach 0 d then d else 8)))) ∧
  (∀ (s : State) (d off : Nat) (v : Dword) (r : RegId) (ix : List Nat), s.inReset = false → s.reach 0 d = true →
    regFind off = some (r, ix, 0) → r ∈ plainRegs → regLacks d r ix = false →
    ∃ u : State, exec (.registerWrite d off v 15) s = .next (s.keep u) ∧
      s.onlyReg u d r ix (writtenBits r (s.reg d r ix) v.toNat)) ∧
  (∀ (s : State) (d off : Nat) (v : Dword) (r : RegId) (ix : List Nat), s.inReset = false → s.reach 0 d = true →
    regFind off = some (r, ix, 0) → (regRow r).slot = true → regAllRO (regRow r) = false → regLacks d r ix = false →
    exec (.slotLowDwordWrite d off v) s = .next (s.keep ((s.modDie d fun x => { x with
      lows := sset x.lows (regOff r ix) v.toNat }).settle d))) ∧
  ∀ (s : State) (d : Nat) (b : EvBlock) (v : Dword), s.hostReaches d → b ≠ .ans ∨ d = 0 →
    let r := (evRegs b).1
    ∃ u : State, exec (.eventW1cClear d b v) s = .next (s.keep u) ∧
      u.reg d r [] = s.reg d r [] - (s.reg d r [] &&& v.toNat &&& (regRow r).w1c) ∧
      u.reg d (evRegs b).2 [] = s.reg d (evRegs b).2 []

/-- A read returns its value, and zero from a die that the host does not reach: CROSS_MAX and the DROPS fields are cleared by
it, a read of the hopper waits for the frames admitted before it, and an access of another die is made there (R9, R33, R72,
R376). -/
def Obligations.ReadsReturnAndClear : Prop :=
  (∀ (s : State) (c : Instr) (d : Nat), s.inReset = false → hostReadOf c = some d → s.reach 0 d = false →
    exec c s = .next (s.keep ((s.violation 8).emit (.readData 0 false)))) ∧
  (∀ (s : State) (d : Nat), s.hostReaches d →
    let v := s.reg d .twxCrossMax []
    v < 2 ^ 32 →
    exec (.crossMaxRead d) s = .next (s.keep ((s.setReg d .twxCrossMax [] (v - (v &&& 65535))).emit (.readData v false)))) ∧
  (∀ s : State, s.inReset = false →
    let v := s.reg 0 .dctlWmkStat []
    ∃ w : Nat, exec .wmkDropsRead s = .next (s.keep ((s.setReg 0 .dctlWmkStat [] (v - (v &&&
      0xFFFF00))).emit (.readData w false))) ∧
      w / 256 % 65536 = v / 256 % 65536) ∧
  (∀ s : State, s.inReset = false →
    let v := s.reg 0 .dctlJrnStat []
    ∃ w : Nat, exec .jrnDropsRead s = .next (s.keep ((s.setReg 0 .dctlJrnStat [] (v - (v &&&
      0xFFF80000))).emit (.readData w false))) ∧
      w / 524288 % 8192 = v / 524288 % 8192) ∧
  (∀ (s : State) (d off : Nat), s.hostReaches d → 65536 ≤ off → off < 131072 →
    ((s.die d).hop.admitted = [] → exec (.hopRegisterRead d off) s =
      .next (s.keep ((s.hostRead d off).2.emit (.readData (s.hostRead d off).1 false)))) ∧
    ((s.die d).hop.admitted ≠ [] → exec (.hopRegisterRead d off) s = .next s)) ∧
  ∀ (s : State) (d off : Nat) (be : BitVec 4), s.inReset = false → d ≠ 0 →
    (∀ v : Dword, exec (.twipexRegisterTransaction d off (some v) be) s = exec (.registerWrite d off v be) s) ∧
    (s.hopWaits d off = false → exec (.twipexRegisterTransaction d off none 15) s =
      .next (s.keep ((s.hostRead d off).2.emit (.readData (s.hostRead d off).1 false)))) ∧
    (s.hopWaits d off = true → exec (.twipexRegisterTransaction d off none 15) s = .next (s.keep s)) ∧
    (be ≠ 15 → exec (.twipexRegisterTransaction d off none be) s =
      .next (s.keep ((s.violation (if s.reach 0 d then d else 8)).emit (.readData 0 false))))

/-- A read of a data slot's high half returns bits 35 to 32 of its word, and the address moves on; a read of the low
half of the time pair latches all four (R127, R166, R263, R407, R422). A write of a data slot's high half stores one
word at the address that its address register names, and the address moves on; a word of an enabled graph, of a
running cluster or of the part's own MRAM area is protected (R84, R88, R166, R263, R360, R422). -/
def Obligations.DataWindowsReadAndWriteOneWord : Prop :=
  ((∀ (s : State) (d cl : Nat), s.hostReaches d → cl < 12 →
    let a := s.reg d .cluIsAddr [cl]
    (s.die d).flips (unitKey 3 cl (a % 65536)) = 0 →
    exec (.isDataRead d cl) s = .next (s.keep (((s.setReg d .cluIsAddr [cl] ((a + 1) % 65536)).emit
      (.readData ((sgetD (s.die d).istore (cl * 65536 + a % 65536) 0).toNat / 2 ^ 32) false)).settle d))) ∧
  (∀ (s : State) (d cl : Nat), s.hostReaches d → cl < 12 →
    let a := s.reg d .cluCsAddr [cl]
    (s.die d).flips (unitKey 2 cl (a % 262144)) = 0 → (s.csRead d cl (a % 262144)).2 = false →
    exec (.csDataRead d cl) s = .next (s.keep (((s.setReg d .cluCsAddr [cl] ((a + 1) % 262144)).emit
      (.readData ((s.csRead d cl (a % 262144)).1.toNat / 2 ^ 32) false)).settle d))) ∧
  (∀ (s : State) (d : Nat), s.hostReaches d →
    let a := s.reg d .flcCtxAddr []
    let w := a % 262144 * 16 + a / 262144 % 16
    (s.die d).flips (unitKey 4 0 w) = 0 → (s.die d).ctxPoison.contains w = false →
    exec (.ctxDataRead d) s = .next (s.keep (((s.count d ctrFLC 2).setReg d .flcCtxAddr [] (nextCtx a)).emit
      (.readData ((sgetD (s.die d).ctx w 0).toNat / 2 ^ 32) false)))) ∧
  (∀ s : State, s.inReset = false →
    let a := s.reg 0 .dctlJrnAddr [] % 262144
    ∃ u : State, exec .jrnDataRead s = .next (s.keep (u.emit (.readData ((s.mramWord a).toNat / 2 ^ 32) false))) ∧
      u.reg 0 .dctlJrnAddr [] % 262144 = (a + 1) % 262144 ∧ u.mram = s.mram) ∧
  ∀ s : State, s.inReset = false → s.reg 0 .dctlWmkTime [0] < 2 ^ 36 →
    ∃ u : State, exec .wmkTimeReadLatch s = .next (s.keep (u.emit (.readData (s.reg 0 .dctlWmkTime [0] % 2 ^ 32) false))) ∧
      ∀ i : Nat, i < 4 → sgetD (u.die 0).latch (regOff .dctlWmkTime [i]) 0 = s.reg 0 .dctlWmkTime [i]) ∧
  (∀ (s : State) (d : Nat) (hi : Dword) (lo : Nat), s.hostReaches d → sget (s.die d).lows (regOff .dspGsData []) = some lo →
    let a := s.reg d .dspGsAddr []
    let u := s.spendLow d .dspGsData []
    a % 512 < 264 → s.graphOn d (a / 512 % 256) = false →
    exec (.gsDataWrite d hi) s = .next (s.keep (((u.gsPut d (a / 512 % 256 * 264 + a % 512) (slotValue lo hi)).setFld
      d .dspGsAddr [] 0 9 (a % 512 + 1)).settle d))) ∧
  (∀ (s : State) (d cl : Nat) (hi : Dword) (lo : Nat), s.hostReaches d → cl < 12 →
    sget (s.die d).lows (regOff .cluIsData [cl]) = some lo →
    let a := s.reg d .cluIsAddr [cl] % 65536
    let u := s.spendLow d .cluIsData [cl]
    ((∀ j : Nat, j < 4 → (s.core d (cl * 4 + j)).run = .stopped) →
      exec (.isDataWrite d cl hi) s = .next (s.keep (((u.isPut d cl a (slotValue lo hi)).setReg d .cluIsAddr [cl]
        ((a + 1) % 65536)).settle d))) ∧
    ((∃ j : Nat, j < 4 ∧ (s.core d (cl * 4 + j)).run ≠ .stopped) → slotValue lo hi ≠ s.isData d cl →
      exec (.isDataWrite d cl hi) s = .next (s.keep ((u.violation d).settle d)))) ∧
  (∀ (s : State) (d cl : Nat) (hi : Dword) (lo : Nat), s.hostReaches d → cl < 12 →
    sget (s.die d).lows (regOff .cluCsData [cl]) = some lo →
    let a := s.reg d .cluCsAddr [cl] % 262144
    exec (.csDataWrite d cl hi) s = .next (s.keep ((((s.spendLow d .cluCsData [cl]).csWrite d cl a (w36 (slotValue lo hi))
      false).setReg d .cluCsAddr [cl] ((a + 1) % 262144)).settle d))) ∧
  (∀ (s : State) (d : Nat) (hi : Dword) (lo : Nat), s.hostReaches d → sget (s.die d).lows (regOff .flcCtxData []) = some lo →
    let a := s.reg d .flcCtxAddr []
    exec (.ctxDataWrite d hi) s = .next (s.keep ((((s.spendLow d .flcCtxData []).ctxPut d
      (a % 262144 * 16 + a / 262144 % 16) (w36 (slotValue lo hi))).count d ctrFLC 2).setReg d .flcCtxAddr [] (nextCtx a)))) ∧
  ∀ (s : State) (hi : Dword) (lo : Nat), s.inReset = false → sget (s.die 0).lows (regOff .dctlJrnData []) = some lo →
    let a := s.reg 0 .dctlJrnAddr [] % 262144
    let u := s.spendLow 0 .dctlJrnData []
    (131072 ≤ a → exec (.jrnDataWrite hi) s = .next (s.keep (({ u with
      mram := sset u.mram a (w36 (slotValue lo hi)) }).setReg 0 .dctlJrnAddr [] ((a + 1) % 262144)))) ∧
    (a < 131072 → w36 (slotValue lo hi) ≠ s.mramWord a → exec (.jrnDataWrite hi) s = .next (s.keep (u.violation 0)))

/-- The controller's states: training starts once and ends ACTIVE or in MAINT, an idle controller enters self-refresh
and leaves it for a request, and a mask is applied whole or is a violation (R328 to R331, R340, R343 to R345). The
checks of masks of one rank are the model's reading, log entry 32. -/
def Obligations.DramControllerChangesState : Prop :=
  (∀ (s : State) (d : Nat), s.hostReaches d →
    ((s.dmc d).running = false → (s.dmc d).gone = false → s.masksOk d = true → s.fld d .dmcGeom [] 3 3 < 5 →
      exec (.trainGo d) s = .next (s.keep (s.modDram d fun m => { m with gone := true, running := true, retrain := false }))) ∧
    ((s.dmc d).running = true ∨ (s.dmc d).gone = true ∨ s.masksOk d = false ∨ 5 ≤ s.fld d .dmcGeom [] 3 3 →
      exec (.trainGo d) s = .next (s.keep (s.violation d)))) ∧
  (∀ (s : State) (d failed : Nat) (pass : Bool), s.live d → (s.dmc d).running = true → (s.dmc d).retrain = false →
    (s.dmc d).queue = [] →
    ∃ u : State, exec (.dramTrainingEnd d pass failed) s = .next (s.keep u) ∧ (u.dmc d).running = false ∧
      (u.dmc d).trained = pass ∧ (u.dmc d).trainFail = !pass ∧ (u.dmc d).st = (if pass then .active else .maint) ∧
      (u.dmc d).rows = [] ∧ (u.dmc d).owed = [] ∧ (u.dmc d).mem = (s.dmc d).mem) ∧
  (∀ (s : State) (d : Nat), s.live d → (s.dmc d).st = .active → (s.dmc d).entering = false →
    s.fld d .dmcCtl [] 1 1 = 1 → (s.dmc d).queue = [] → (s.dmc d).bolts = [] → s.anyPanic d = false →
      (s.dmc d).idleSince + s.srIdle d ≤ s.now →
    exec (.srEntryStart d) s = .next (s.keep (s.modDram d fun m => { m with entering := true, rows := [], srSince := s.now }))) ∧
  (∀ (s : State) (d : Nat), s.live d → (s.dmc d).st = .active → (s.dmc d).entering = true →
    (∀ r : Nat, r < s.ranks d → (s.dmc d).debt r = 0) →
    exec (.sreIssue d) s = .next (s.keep (((s.modDram d fun m => { m with
      st := .selfRefresh, entering := false, wake := false, late := [], rows := [] }).count d ctrDMC 8).emit
        (.dram d "SRE" 0 0)))) ∧
  (∀ (s : State) (d : Nat), s.live d → (s.dmc d).st = .selfRefresh → (s.dmc d).wake = true → (s.dmc d).queue = [] →
    exec (.selfRefreshExit d) s = .next (s.keep (((s.modDram d fun m => { m with
      st := .active, wake := false, late := [] }).refreshStart d).emit (.dram d "SRX" 0 0)))) ∧
  ∀ (s : State) (d i hi lo : Nat), s.hostReaches d → i < 6 → sget (s.die d).lows (regOff .dmcMapLo [i]) = some lo →
    let m := hi % 256 * 2 ^ 32 + lo
    let u := s.spendLow d .dmcMapLo [i]
    m ≠ s.mapMask d i →
    (s.dmcOpen d = true → s.maskOk d i m = true → exec (.mapMaskWrite d i hi) s =
      .next (s.keep ((u.setReg d .dmcMapLo [i] lo).setReg d .dmcMapHi [i] (hi % 256)))) ∧
    (s.dmcOpen d = false ∨ s.maskOk d i m = false → exec (.mapMaskWrite d i hi) s = .next (s.keep (u.violation d)))

/-- The DMC ring's commands: maintenance is entered and left, training is started again, and mode registers are written and
read for the named devices of a rank; in another state the command ends with STATE (R347, R348). -/
def Obligations.DmcCommandsActInTheirStates : Prop :=
  (∀ (s : State) (d : Nat) (c : RCmd), s.dmcHead d 1 c → (s.dmc d).st = .active → (s.dmc d).entering = false →
    exec (.enterMaint d) s = .next (s.keep ((s.modDram d fun m => { m with idleSince := s.now, st := .maint }).ringDone
      d 1 cDONE))) ∧
  (∀ (s : State) (d : Nat) (c : RCmd), s.dmcHead d 2 c → (s.dmc d).st = .maint → (s.dmc d).trained = true →
    s.masksOk d = true → (s.dmc d).queue = [] →
    exec (.exitMaint d) s = .next (s.keep ((s.modDram d fun m => { m with idleSince := s.now, st := .active }).ringDone
      d 1 cDONE))) ∧
  (∀ (s : State) (d : Nat) (c : RCmd), s.dmcHead d 3 c → (s.dmc d).st = .maint →
    exec (.retrain d) s = .next (s.keep ((s.modDram d fun m => { m with
      idleSince := s.now, st := .training, running := true, retrain := true, gone := true }).ringSet d 1
        { c with started := true, since := s.now }))) ∧
  (∀ (s : State) (d : Nat) (c : RCmd), s.dmcHead d 4 c → (s.dmc d).st = .maint →
    ∃ u : State, exec (.mrw d) s = .next (s.keep (u.ringDone d 1 cDONE)) ∧
      ∀ r j m : Nat, r < 2 → j < 20 → m < 256 → sget (u.dmc d).modeRegs ((r * 20 + j) * 256 + m) =
        if r = c.d0 / 256 % 2 ∧ m = c.d0 / 65536 % 256 ∧ (c.d2 / 256 % 2 ^ 20 = 0 ∨ bit (c.d2 / 256) j = true) then
          some (c.d2 % 256) else sget (s.dmc d).modeRegs ((r * 20 + j) * 256 + m)) ∧
  (∀ (s : State) (d : Nat) (c : RCmd) (v : Nat → Nat), s.dmcHead d 5 c → (s.dmc d).st = .maint →
    (∀ j : Nat, j < 20 → sget (s.dmc d).modeRegs ((c.d0 / 256 % 2 * 20 + j) * 256 + c.d0 / 65536 % 256) = some (v j)) →
    exec (.mrr d) s = .next (s.keep (((s.modDram d fun m => { m with idleSince := s.now }).emit (.hostWrite d c.d1
      ((List.range 20).map fun j => BitVec.ofNat 8 (v j)))).ringDone d 1 cDONE))) ∧
  (∀ (s : State) (d : Nat) (c : RCmd), s.dmcHead d 1 c → (s.dmc d).st = .maint →
    exec (.enterMaint d) s = .next (s.keep ((s.modDram d fun m => { m with idleSince := s.now }).dmcState d))) ∧
  ∀ (s : State) (d : Nat) (c : RCmd), s.dmcHead d 2 c → (s.dmc d).st = .active → (s.dmc d).entering = false →
    exec (.exitMaint d) s = .next (s.keep ((s.modDram d fun m => { m with idleSince := s.now }).dmcState d))

/-- Requests are queued in the order of their granules and served when the controller's order lets them, a write at
once where no rule holds it; a read outside the DRAM gives zeros, a held read of the host completes with its last
granule, and a host's window of the packet buffer reads and writes the same bytes (R325, R329, R332, R333, R355,
R374, R377). Refresh owes one unit an index at each tick, issues to the index that owes most, also when it is forced,
and doubles with a hot rank; the bolter's walkers read on, the error ring loses its head, a device's count is read
and cleared, and a corrected SRAM unit is written back (R335 to R338, R358, R364 to R370). Contents never written,
the counts of DEV_CE, the forcing of refreshes, the bolter's making up and what presses a normal request are the
model's, log entries 27, 29, 31, 33 and 91. -/
def Obligations.DramServesRefreshesAndIsBolted : Prop :=
  ((∀ (s : State) (d who a : Nat) (panic : Bool), s.live d →
    (s.dramOk d a = false → exec (.dramReadRequest d who a panic) s =
      .next (s.keep ((s.violation d).emit (.dramData d who a (List.replicate 128 0) false)))) ∧
    (s.dramOk d a = true → exec (.dramReadRequest d who a panic) s = .next (s.keep (((s.dramTouch d).modDram d fun m => { m with
      queue := m.queue ++ [{ who := who, panic := s.panicOf d who panic, addr := a, at_ := s.now }] }).dramDrain d)))) ∧
  (∀ (s : State) (d who a : Nat) (bytes : List Byte) (panic : Bool), s.live d →
    let u := s.dramTouch d
    let p := s.panicOf d who panic
    (s.dramOk d a = false → exec (.dramWriteRequest d who a bytes panic) s = .next (s.keep (s.violation d))) ∧
    (s.dramOk d a = true → u.dramNow d a p = false → exec (.dramWriteRequest d who a bytes panic) s =
      .next (s.keep (((u.boltCancel d (a / 128)).modDram d fun m => { m with
        queue := m.queue ++ [{ who := who, panic := p, addr := a
                               write := some (bytes.take (128 - a % 128)), at_ := s.now }] }).dramDrain d))) ∧
    (s.dramOk d a = true → u.dramNow d a p = true → a % 128 = 0 → bytes.length = 128 →
      ∃ v : State, exec (.dramWriteRequest d who a bytes panic) s = .next (s.keep v) ∧
        (v.dmc d).mem = Memory.writeBytes (s.dmc d).mem (128 * s.dramLoc d (a / 128)) bytes ∧
          (v.dmc d).queue = (s.dmc d).queue)) ∧
  (∀ (s : State) (d : Nat) (q : DramReq), s.live d → s.dramNext d = some q → q.write = none → q.mark = false →
    s.granuleClean d (q.addr / 128) →
    let bytes := (decodeGranule (s.dmc d) (s.eccMode d) (s.dramLoc d (q.addr / 128))).data
    (q.bar = none → s.delayGate d 1 q.who q.addr = (s, true) →
      ∃ u : State, exec (.dramReadReturn d) s = .next (s.keep ((u.emit (.dramData d q.who q.addr bytes false)).dramDrain d)) ∧
        (u.dmc d).queue = (s.dmc d).queue.erase q ∧ (u.dmc d).mem = (s.dmc d).mem) ∧
    (∀ (id i : Nat) (b : BarRead), q.bar = some (id, i) → (s.dmc d).bars.find? (·.id = id) = some b →
      (sset b.parts i (bytes, false)).length = b.granules → ((sset b.parts i (bytes, false)).any fun p => p.2.2) = false →
      ∃ u : State, exec (.dramReadReturn d) s = .next (s.keep ((u.emit (.readBytes
          ((((sset b.parts i (bytes, false)).flatMap fun p => p.2.1).drop b.off).take b.n) false)).dramDrain d)) ∧
        (u.dmc d).queue = (s.dmc d).queue.erase q ∧ (u.dmc d).bars = (s.dmc d).bars.erase b)) ∧
  (∀ (s : State) (second : Bool) (x n : Nat), s.inReset = false → second = false ∨ s.hostLive true = true →
    (s.reach 0 (x / 2 ^ 37) = false → exec (.bar2Read second x n) s =
      .next (s.keep ((s.violation 8).emit (.readBytes (List.replicate n 0) false)))) ∧
    (s.reach 0 (x / 2 ^ 37) = true → barBuffer ≤ x % 2 ^ 37 →
      (∀ l : Nat, (s.die (x / 2 ^ 37)).flips (unitKey 1 0 l) = 0) → (s.die (x / 2 ^ 37)).hop.poison = [] →
      ∃ cs : Store Ctr, exec (.bar2Read second x n) s = .next (s.keep ((s.modDie (x / 2 ^ 37) fun y => { y with
        ctrs := cs }).emit (.readBytes (Memory.readBytes (s.die (x / 2 ^ 37)).hop.buf (x % 2 ^ 37 - barBuffer) n) false)))) ∧
    (s.reach 0 (x / 2 ^ 37) = true → x % 2 ^ 37 < barBuffer → s.dramOk (x / 2 ^ 37) (x % 2 ^ 37) = false →
      exec (.bar2Read second x n) s = .next (s.keep ((s.violation (x / 2 ^ 37)).emit (.readBytes (List.replicate n 0) false))))) ∧
  ∀ (s : State) (second : Bool) (x : Nat) (bytes : List Byte), s.inReset = false → second = false ∨ s.hostLive true = true →
    (s.reach 0 (x / 2 ^ 37) = false → exec (.bar2Write second x bytes) s = .next (s.keep (s.violation 8))) ∧
    (s.reach 0 (x / 2 ^ 37) = true → barBuffer ≤ x % 2 ^ 37 →
      (∀ l : Nat, (s.die (x / 2 ^ 37)).flips (unitKey 1 0 l) = 0) →
      ∃ u : State, exec (.bar2Write second x bytes) s = .next (s.keep u) ∧
        (u.die (x / 2 ^ 37)).hop.buf = Memory.writeBytes (s.die (x / 2 ^ 37)).hop.buf (x % 2 ^ 37 - barBuffer) bytes ∧
        (u.die (x / 2 ^ 37)).hop.poison = (s.die (x / 2 ^ 37)).hop.poison) ∧
    (s.reach 0 (x / 2 ^ 37) = true → x % 2 ^ 37 < barBuffer → s.dramOk (x / 2 ^ 37) (x % 2 ^ 37) = false →
      exec (.bar2Write second x bytes) s = .next (s.keep (s.violation (x / 2 ^ 37))))) ∧
  (∀ (s : State) (d r : Nat), s.live d → (s.dmc d).refreshes = true → r < s.ranks d → sgetD (s.dmc d).tickAt r 0 ≤ s.now →
    (s.dmc d).debt r ≤ 3 →
    ∃ u : State, exec (.refreshTick d r) s = .next (s.keep u) ∧ (∀ b : Nat, b < 4 → (u.dmc d).owes r b = (s.dmc d).owes r b + 1) ∧
      sgetD (u.dmc d).tickAt r 0 = sgetD (s.dmc d).tickAt r 0 + (s.dmc d).trefi r) ∧
  (∀ (s : State) (d r b : Nat), s.live d → (s.dmc d).st = .active → r < s.ranks d → sget (s.dmc d).chgAt r ≠ some s.now →
    s.panicReady d = none →
    (3 < (s.dmc d).debt r ∧ (s.dmc d).mostOwed r (List.range 4) = some b ∧
        sgetD (s.dmc d).busyTo (r * 4 + b) 0 ≤ s.now) ∨
      ((s.dmc d).debt r ≤ 3 ∧ (s.dmc d).mostOwed r ((List.range 4).filter fun b => (decide (0 < (s.dmc d).owes r b) &&
        decide (sgetD (s.dmc d).busyTo (r * 4 + b) 0 ≤ s.now)) && ((s.dmc d).indexIdle r b && !s.indexWanted d r b false)) =
          some b) →
    ∃ u : State, exec (.refsbIssue d r) s = .next (s.keep (u.emit (.dram d "REFsb" r b))) ∧
      (u.dmc d).owes r b = (s.dmc d).owes r b - 1 ∧
      sgetD (u.dmc d).busyTo (r * 4 + b) 0 = s.now + s.fld d .dmcTiming1 [] 0 10 + s.fld d .grtStretch [] 0 10) ∧
  (∀ (s : State) (d i j : Nat), s.live d → (s.dmc d).refreshes = true → (s.dmc d).mr4At ≤ s.now → s.ranks d = 1 →
    ∃ u : State, exec (.mr4Read d i j) s = .next (s.keep u) ∧ (u.dmc d).mr4At = s.now + 16000000 ∧
      u.fld d .dmcTemp [] 0 3 = i % 8) ∧
  (∀ (s : State) (d : Nat), s.live d → s.fld d .eccBoltCfg [] 0 1 = 1 → s.ranks d ≠ 0 → (s.dmc d).trained = true →
    s.boltable d ((s.dmc d).pos % (s.capacity d / 128)) = true → (s.dmc d).bolts = [] →
      s.granuleClean d ((s.dmc d).pos % (s.capacity d / 128)) →
    ∃ u : State, exec (.bolterDramStep d) s = .next (s.keep u) ∧ (u.dmc d).mem = (s.dmc d).mem ∧
      (u.dmc d).pos = ((s.dmc d).pos % (s.capacity d / 128) + 1) % (s.capacity d / 128)) ∧
  (∀ (s : State) (d g : Nat) (gs : List Nat), s.live d → (s.dmc d).revisit = g :: gs → s.fld d .eccBoltCfg [] 0 1 = 1 →
    s.boltable d g = true → (s.dmc d).bolts = [] → s.granuleClean d g →
    ∃ u : State, exec (.bolterRevisit d) s = .next (s.keep u) ∧ (u.dmc d).revisit = gs ∧ (u.dmc d).mem = (s.dmc d).mem) ∧
  (∀ (s : State) (d store : Nat), s.live d → 1 ≤ store → store ≤ 9 → s.fld d .eccBoltCfg [] 1 1 = 1 →
    let n := (sramUnits store).1 * (sramUnits store).2
    let a := sgetD (s.dmc d).sramPos store 0 % n
    (s.die d).flips (unitKey store (a / (sramUnits store).1) (a % (sramUnits store).1)) = 0 →
    ∃ u : State, exec (.bolterSramStep d store) s = .next (s.keep (u.settle d)) ∧
      sgetD (u.dmc d).sramPos store 0 = (a + 1) % n) ∧
  (∀ (s : State) (d : Nat), s.hostReaches d →
    exec (.errorRingPop d) s = .next (s.keep (s.modDie d fun x => { x with errRing := x.errRing.drop 1 }))) ∧
  (∀ (s : State) (d rank dev : Nat), s.hostReaches d → rank < 2 → dev < 20 →
    exec (.devCeRead d rank dev) s = .next (s.keep ((s.setReg d .eccDevCe [20 * rank + dev] 0).emit
      (.readData (s.reg d .eccDevCe [20 * rank + dev]) false)))) ∧
  ∀ (s : State) (d store cl u : Nat), s.live d → (s.die d).wback.contains (unitKey store cl u) = true →
    exec (.sramWriteback d store cl u) s = .next (s.keep (s.modDie d fun x => { x with
      dmg := sdel x.dmg (unitKey store cl u), wback := unmark x.wback (unitKey store cl u) }))

/-- A frame's first line data opens its record with the port's configuration, further data takes cells, the sluice
meets the frame once its octets tell its priority, and at its end the first row of the discard table that holds names
its reason; a MAC control frame is consumed, and a whole frame becomes a packet that waits for admission (R46 to R49,
R51, R53, R54, R58, R59, R63). Where timestamps are taken is the model's reading, log entry 19. -/
def Obligations.ReceivedFramesAreStoredOrDiscarded : Prop :=
  (∀ (s : State) (d p : Nat) (line : Line), s.live d → (isMac p || isTgp d p) = true → s.rxOn d p = true →
    sget (s.die d).hop.rx p = none →
    let f : RxFrame := { cfg := BitVec.ofNat 32 (s.reg d .hopPortCfg [p]), pdef := BitVec.ofNat 32 (s.reg d .hopPortDef [p])
                         ts := s.rxStamp d p }
    exec (.frameFirstCell d p line) s = .next (s.keep ((if kindOf line = s.lineKind d p then s.rxTake d p f line else s).settle
      d))) ∧
  (∀ (s : State) (d p : Nat) (line : Line), s.live d → (isMac p || isTgp d p) = true → s.rxOn d p = false →
    exec (.frameFirstCell d p line) s = .next (s.keep (s.settle d))) ∧
  (∀ (s : State) (d p : Nat) (line : Line) (f : RxFrame), s.live d → (isMac p || isTgp d p) = true →
    sget (s.die d).hop.rx p = some f →
    exec (.cellAllocate d p line) s = .next (s.keep ((if kindOf line = s.lineKind d p then s.rxTake d p f line else s).settle
      d))) ∧
  (∀ (s : State) (d p : Nat) (f : RxFrame), f.decided = false →
    let pri := if isMac p then s.rxPri d p f.octets else 0
    let g := { f with decided := true, pri := pri }
    (isMac p = true → f.octets.length < 15 → s.rxDecide d p f = (s, f)) ∧
    (isMac p = true → 15 ≤ f.octets.length → beNat ((f.octets.drop 12).take 2) = 0x8808 →
      s.rxDecide d p f = (s, { f with decided := true, ctl := true })) ∧
    (isMac p = false ∨ 15 ≤ f.octets.length ∧ beNat ((f.octets.drop 12).take 2) ≠ 0x8808 →
      s.rxDecide d p f = if (s.die d).hop.shut p pri = true ∧ s.rxFc d p pri = false then
        (s.countDiscard d p rSLUICE, { g with discard := rSLUICE }) else (s, g))) ∧
  (∀ (s : State) (d p : Nat) (f : RxFrame) (o : List Byte), d < 8 → f.discard = 0 → f.decided = true → f.ctl = false →
    f.cells = [] → o ≠ [] → (f.octets ++ o).length ≤ 128 → 0 < s.rxMax d p → s.noCell d p = false →
    ∃ (g : RxFrame) (c : Nat), sget ((s.rxTake d p f (.octets o)).die d).hop.rx p = some g ∧ g.octets = f.octets ++ o ∧
      g.cells = [c] ∧ g.discard = 0 ∧ g.lastBit = s.now) ∧
  (∀ (s : State) (d p : Nat) (rest : Line) (err : Bool) (f g : RxFrame), s.live d → isMac p = true → s.rxOn d p = true →
    sget (s.die d).hop.rx p = some f → kindOf rest = 0 →
    let u := s.rxTake d p f rest
    let n := g.octets.length
    sget (u.die d).hop.rx p = some g → s.rxMax d p = u.rxMax d p →
    exec (.ethernetFrameReceive d p rest err) s = .next (s.keep
      ((if err ∨ n < 64 ∨ leNat (g.octets.drop (n - 4)) ≠ crc32 (g.octets.take (n - 4)) then u.rxDiscard d p rFCS
        else if s.rxMax d p < n then u.rxDiscard d p rLENGTH
        else if g.ctl then (u.modHop d fun h => { h with rx := sdel h.rx p }).controlReceive d p g.octets
        else u.rxDone d p 2).settle d))) ∧
  (∀ (s : State) (d p : Nat) (rest : Line) (f g : RxFrame), s.live d → isTgp d p = true → s.rxOn d p = true →
    sget (s.die d).hop.rx p = some f → kindOf rest = s.lineKind d p →
    let u := s.rxTake d p f rest
    let n := if bit (u.reg d .tgpCfg [p - 16]) 3 then 4 else 2
    sget (u.die d).hop.rx p = some g →
    exec (.telegramFrameReceive d p rest) s = .next (s.keep
      ((if g.abort ∨ g.esc then (u.rxDiscard d p rFCS).countPort d p 7
        else if u.rxMax d p < g.octets.length then u.rxDiscard d p rLENGTH
        else if g.bad ∨ g.part ≠ [] ∨ g.octets.length < n + 1 ∨ telegramFcsGood n g.octets = false then
          u.rxDiscard d p rFCS
        else u.rxDone d p (if n = 4 then 2 else 1)).settle d))) ∧
  (∀ (s : State) (d p : Nat) (f : RxFrame), s.live d → isTgp d p = true → sget (s.die d).hop.rx p = some f →
    exec (.telegramAbort d p) s = .next (s.keep (((s.rxDiscard d p rFCS).countPort d p 7).settle d)) ∧
    (s.fld d .tgpGap [p - 16] 0 16 * 1000000000 < (s.now - f.lastBit) * s.fld d .tgpRate [p - 16] 0 25 →
      exec (.gapTimeout d p) s = .next (s.keep ((s.rxDiscard d p rGAP).settle d)))) ∧
  (∀ (s : State) (d pid : Nat) (rest : List Nat) (k : Packet), s.live d → (s.die d).hop.complete = pid :: rest →
    s.blocked d = false → s.pkt d pid = some k →
    exec (.frameAdmit d) s = .next (s.keep (((s.modHop d fun h => { h with complete := rest }).admitAt d (k.port % 32)
      pid).settle d))) ∧
  ∀ (s : State) (d : Nat), s.live d → s.blocked d = true → exec (.frameAdmit d) s = .next (s.keep (s.settle d))

/-- A write of MAC.PCFG obeys the lane table, a link comes up on an enabled port at its speed and takes a frame in
progress with it when it goes, a telegram port that is enabled sends its idle line and one that is disabled discards
its frame (R43 to R46, R53, R57). What a disabled MAC does with a frame in progress is the model's reading, log entry
14. -/
def Obligations.PortsAreConfiguredAndLinked : Prop :=
  (∀ (s : State) (d p : Nat) (v : Dword), s.hostReaches d → isMac p = true →
    let old := s.reg d .macPcfg [p]
    let mode := if macModeOk p (v.toNat % 16) then v.toNat % 16 else old % 16
    let new := v.toNat % 256 / 16 * 16 + mode
    let lanes := (List.range (macLanes mode)).map (p + ·)
    let clash := p < 8 ∧ (p % macLanes mode ≠ 0 ∨ ∃ q : Nat, q < 8 ∧ q ≠ p ∧ ∃ l ∈ lanes, l ∈ s.lanesOf d q)
    (bit old 5 = true → mode ≠ old % 16 ∨ bits new 6 2 ≠ bits old 6 2 →
      exec (.macPortConfig d p v) s = .next (s.keep ((s.violation d).settle d))) ∧
    (bit old 5 = false → bit new 5 = true → clash → exec (.macPortConfig d p v) s =
      .next (s.keep ((s.violation d).settle d))) ∧
    (bit old 5 = false → bit new 5 = false ∨ ¬clash → exec (.macPortConfig d p v) s =
      .next (s.keep ((s.setReg d .macPcfg [p] new).settle d))) ∧
    (bit old 5 = true → mode = old % 16 → bits new 6 2 = bits old 6 2 → bit new 5 = false → exec (.macPortConfig d p v) s =
      .next (s.keep ((((s.setReg d .macPcfg [p] new).rxDiscard d p rFCS).modHop d fun h => { h with
        linkUp := h.linkUp.filter (· ≠ p) }).settle d)))) ∧
  (∀ (s : State) (d p speed : Nat), s.live d → isMac p = true →
    (s.macOn d p = true → s.serdesLost = false → exec (.pcsLinkUp d p speed) s = .next (s.keep
      ((s.modHop d fun h => { h with
        linkUp := p :: h.linkUp.filter (· ≠ p)
        speed := if 8 ≤ p then sset h.speed p (if s.fld d .macPcfg [p] 0 4 = 10 then 3
          else if s.fld d .macPcfg [p] 0 4 = 9 ∧ s.fld d .macPcfg [p] 6 2 ≠ 0 then s.fld d .macPcfg [p] 6 2 - 1
          else min speed 2) else h.speed }).settle d))) ∧
    (bit (s.reg d .macPcfg [p]) 5 = false ∨ s.fld d .macPcfg [p] 0 4 = 0 ∨ s.serdesLost = true →
      exec (.pcsLinkUp d p speed) s = .next (s.keep (s.settle d)))) ∧
  (∀ (s : State) (d p : Nat), s.live d → isMac p = true →
    exec (.pcsLinkDown d p) s = .next (s.keep (((s.rxDiscard d p rFCS).modHop d fun h => { h with
      linkUp := h.linkUp.filter (· ≠ p) }).settle d))) ∧
  ∀ (s : State) (d i : Nat) (v : Dword), s.hostReaches d → isTgp d (i + 16) = true →
    let old := s.reg d .tgpCfg [i]
    let new := v.toNat % 1024
    (bit old 8 = true → bit new 8 = false → exec (.telegramPortDisable d i v) s =
      .next (s.keep (((s.setReg d .tgpCfg [i] (putBit old 8 false)).rxDiscard d (i + 16) rGAP).settle d))) ∧
    (bit old 8 = true → bit new 8 = true → new ≠ old → exec (.telegramPortDisable d i v) s =
      .next (s.keep ((s.violation d).settle d))) ∧
    (bit old 8 = false → ¬(bit new 8 = true ∧ (new % 4 = 1 ∨ new % 4 = 2)) →
      exec (.telegramPortDisable d i v) s = .next (s.keep ((s.setReg d .tgpCfg [i] new).settle d))) ∧
    (bit old 8 = false → bit new 8 = true → new % 4 = 1 ∨ new % 4 = 2 → exec (.telegramPortDisable d i v) s =
      .next (s.keep (((s.setReg d .tgpCfg [i] new).emit (.telegramIdle d (i + 16) (bit new 7))).settle d)))

/-- A received PAUSE stops the port for its quanta of 512 bit times and time 0 ends the stop; what the sluices owe is sent
between frames, and again at half the time while the sluice stays closed (R48, R49, R311). -/
def Obligations.FlowControlIsObeyedAndSent : Prop :=
  (∀ (s : State) (d p q : Nat) (enable : Byte) (qs : List Nat), s.live d → isMac p = true → s.rxOn d p = true →
    exec (.pauseFrameReceive d p false enable (q :: qs)) s = .next (s.keep ((s.modHop d fun h => { h with
      pausedTo := if q = 0 then sdel h.pausedTo p else sset h.pausedTo p (s.now + q * 512 * 1000 / s.macRate d p) }).settle d))) ∧
  (∀ (s : State) (d p : Nat) (enable : Byte) (times : List Nat), s.live d → isMac p = true → s.rxOn d p = true →
    ∃ h : Hopper, exec (.pauseFrameReceive d p true enable times) s = .next (s.keep ((s.modHop d fun _ => h).settle d)) ∧
      h = { (s.die d).hop with pausedTo := h.pausedTo } ∧
      ∀ q : Nat, q < 8 → bit enable.toNat q = true → times.getD q 0 ≠ 0 →
        sget h.pausedTo (32 + 8 * p + q) = some (s.now + times.getD q 0 * 512 * 1000 / s.macRate d p)) ∧
  (∀ (s : State) (d p : Nat) (pri : Option Nat) (t : Nat), s.live d → isMac p = true →
    let key := match pri with | none => p | some q => 32 + 8 * p + q
    sget (s.die d).hop.pausedTo key = some t →
    exec (.pauseExpire d p pri) s = .next (s.keep ((if t ≤ s.now then
      s.modHop d fun h => { h with pausedTo := sdel h.pausedTo key } else s).settle d))) ∧
  (∀ (s : State) (d p : Nat) (o : FcOwed), s.live d → isMac p = true → s.rxOn d p = true →
    sget (s.die d).egr.sending p = none → sget (s.die d).hop.fcOwed p = some o → (∀ q : Nat, q < 8 →
      sget (s.die d).hop.fcOwed (32 + 8 * p + q) = none) →
    let sent := ((s.emit (.pause d p false 0 o.quanta)).countPort d p 7).modHop d fun h => { h with
      fcOwed := if o.quanta = 0 then sdel h.fcOwed p else sset h.fcOwed p { o with due := false, sentAt := s.now } }
    (o.due = true → exec (.pauseSend d p) s = .next (s.keep (sent.settle d))) ∧
    (o.due = false → exec (.pauseSend d p) s = .next (s.keep (s.settle d))) ∧
    (o.due = false → o.sentAt + o.quanta * 256 * 1000 / s.macRate d p ≤ s.now →
      exec (.pauseRepeat d p) s = .next (s.keep (sent.settle d)))) ∧
  ∀ (s : State) (d p : Nat), s.live d → isMac p = true → (sget (s.die d).egr.sending p).isSome = true ∨ s.rxOn d p = false →
    exec (.pauseSend d p) s = .next (s.keep (s.settle d)) ∧ exec (.pauseRepeat d p) s = .next (s.keep (s.settle d))

/-- The extractor stages the next admitted frame, the classifier's answer leads to its graph, a frame of another die
moves there whole, and the dispatcher instantiates the frame at the head of its queue (R66, R26, R77, R91 to R93,
R112, R241). That fallbacks that wait block the dispatcher and keep their fingerpost entry are the model's readings,
log entries 76 and 107. -/
def Obligations.FramesAreClassifiedAndInstantiated : Prop :=
  (∀ (s : State) (d pid : Nat) (rest : List Nat) (p : Packet), s.live d → (s.die d).hop.admitted = pid :: rest →
    s.pkt d pid = some p →
    let u := s.modHop d fun h => { h with admitted := rest }
    let r := u.extractOf d pid p
    exec (.extract d) s = .next (s.keep ((match r.2 with
      | some reason => u.defaultStage d r.1 reason
      | none => if r.1.lookup = 0 then u.fingerpost d r.1
          else u.modHop d fun h => { h with extracted := h.extracted ++ [r.1] }).settle d))) ∧
  (∀ (s u : State) (d : Nat) (st : Staged) (r : LookRes), s.live d →
    s.frameNext d = some st → s.lookupFor d 12 st.pid st.table st.key false = (u, some r) →
    let v := u.modHop d fun h => { h with extracted := h.extracted.erase st }
    let cls := (r.2.getD 3 0).toNat
    (r.1 = 2 → exec (.classifierLookup d) s = .next (s.keep ((v.dropPkt d st.pid rPOISON).settle d))) ∧
    (r.1 = 0 → ∃ w : List Word, exec (.classifierLookup d) s = .next (s.keep ((v.fingerpost d { st with
        words := w, graph := if bit cls 8 then bits (r.2.getD 2 0).toNat 28 8 else bits cls 0 8 }).settle d)) ∧
      (27 ≤ st.words.length → ∀ j : Nat, j < 3 → w[24 + j]? = some (r.2.getD j 0))) ∧
    (r.1 = 1 → bit cls 9 = false → exec (.classifierLookup d) s =
      .next (s.keep ((v.fingerpost d { st with words := setOutcome st.words 1 0 }).settle d)))) ∧
  (∀ (s : State) (d : Nat) (st : Staged) (rest : List Staged) (p : Packet), s.live d → (s.die d).hop.toMove = st :: rest →
    s.pkt d st.pid = some p → st.target ≠ d → s.routeHeld d st.target = false → s.reach d st.target = true →
    p.cells.length ≤ (s.die st.target).hop.free → s.linkGrants d st.target true = true → s.delayGate d 0 200 st.pid = (s, true) →
    ∃ (u : State) (pid : Nat) (q : Packet), exec (.hopperMove d) s = .next (s.keep (u.settle d)) ∧
      (u.die d).hop.toMove = rest ∧ u.pkt d st.pid = none ∧ u.pkt st.target pid = some q ∧ q.len = p.len ∧
      q.cells.length = p.cells.length ∧ q.held = true ∧
      (u.die st.target).hop.toInst = (s.die st.target).hop.toInst ++ [{ st with pid := pid }]) ∧
  (∀ (s : State) (d : Nat) (st : Staged) (rest : List Staged), s.live d → (s.die d).hop.toInst = st :: rest →
    s.readGraph d st.graph = s → (s.die d).dsp.fallbacks = [] → s.graphLive d st.graph = true →
    s.ingressRoom d st.graph = true →
    exec (.instantiate d) s = .next (s.keep ((((s.modHop d fun h => { h with toInst := rest }).count d ctrDSP 0).createInst d
      { graph := st.graph, width := (s.die d).dsp.width st.graph
        words := (st.words.take 28).set 23 0 ++ List.replicate 20 0
        pid := some st.pid, ingress := true, fp := st.fp }).settle d))) ∧
  (∀ (s : State) (d : Nat) (f : Fallback) (rest : List Fallback), s.live d → (s.die d).dsp.fallbacks = f :: rest →
    s.readGraph d f.graph = s → s.graphLive d f.graph = true → (s.die d).dsp.width f.graph ≤ (s.die d).dsp.free →
    exec (.fallbackInstantiate d) s = .next (s.keep ((((s.modDsp d fun y => { y with fallbacks := rest }).count d ctrDSP
      2).createInst d { graph := f.graph, width := (s.die d).dsp.width f.graph
                        words := (f.staged.words.take 28).set 23 0 ++ List.replicate 20 0
                        pid := some f.staged.pid, fallback := f.marked, fp := f.staged.fp }).settle d))) ∧
  (∀ (s : State) (d pr : Nat) (v : Dword), s.hostReaches d → pr < 64 →
    (bit (s.reg d .hopProfCtl [pr]) 0 = false →
      exec (.profileEnable d pr v) s = .next (s.keep ((if 64 < s.profKeyLen d pr then s.violation d
        else s.setReg d .hopProfCtl [pr] (putBit v.toNat 0 true % 2 ^ 26)).settle d))) ∧
    (bit (s.reg d .hopProfCtl [pr]) 0 = true →
      exec (.profileDisable d pr v) s = .next (s.keep ((s.setReg d .hopProfCtl [pr]
        (putBit (s.reg d .hopProfCtl [pr]) 0 false)).settle d)))) ∧
  (∀ (s : State) (d e : Nat) (v : Dword), s.hostReaches d → e < 64 → bit (s.reg d .hopSelAct [e]) 0 = true →
    exec (.selectorDisable d e v) s = .next (s.keep ((s.setReg d .hopSelAct [e]
      (putBit (s.reg d .hopSelAct [e]) 0 false)).settle d))) ∧
  ∀ (s : State) (d g : Nat), s.hostReaches d → g < 256 →
    exec (.graphEnable d g) s = .next (s.keep ((if s.graphOn d g = false ∧ s.graphBad d g = true then s.violation d
      else s.setReg d .dspGraphCtl [g] 1).settle d))

/-- An operation goes from its ready list to the next core that can take it, engines complete LOOKUP, ENQUEUE and DISCARD
nodes, and a commit applies the carry words and the log and then the table updates one by one (R87, R101, R108, R113,
R114, R255). -/
def Obligations.OperationsAreDeliveredAndCommitted : Prop :=
  (∀ (s : State) (d g c k slot : Nat) (rest : List Nat) (o : Op), s.live d → g < 16 →
    sgetD (s.die d).dsp.lists g [] = slot :: rest → s.op d slot = some o →
    ((List.range 48).map fun j => (sgetD (s.die d).dsp.lastCore g 47 + 1 + j) % 48).find? (fun c =>
      match s.taker d c with
      | some k => s.nextList d k = some g
      | none => false) = some c → s.taker d c = some k →
    ∃ u : State, exec (.dispatchDelivery d g) s = .next (s.keep (u.settle d)) ∧
      u.op d slot = some { o with st := .service, thread := some k, tStart := some (s.time d) } ∧
      sgetD (u.die d).dsp.lists g [] = rest ∧ u.thr d k = { s.thr d k with op := some slot, delivered := true } ∧
      sgetD (u.die d).dsp.lastCore g 47 = c) ∧
  (∀ (s : State) (d slot : Nat) (o : Op), s.live d → s.op d slot = some o → o.st = .commit → o.carry = [] →
    (∀ e ∈ o.log, ∃ (off : Nat) (bs : List Byte), e = .packet off bs) →
    (∀ h : Nat, h < 36 → (s.helper d h).atCommit ≠ some slot) →
    exec (.commitApply d slot) s = .next (s.keep ((((((o.log.foldl (fun s e => s.applyEntry d o.pid e) s).count d ctrDSP 13
      o.log.length).setOp d slot { o with st := .tables, tables := [], log := [], carry := [] }).finishOp d slot)).settle d))) ∧
  (∀ (s : State) (d a : Nat) (w : Word) (pid : Option Nat), d < 8 →
    sgetD ((s.applyEntry d pid (.context a w)).die d).ctx a 0 = w ∧
    (∀ b : Nat, b ≠ a → sgetD ((s.applyEntry d pid (.context a w)).die d).ctx b 0 = sgetD (s.die d).ctx b 0)) ∧
  (∀ (s u : State) (d slot : Nat) (o : Op) (c : TblCmd) (cs : List TblCmd) (r : TblOut), s.live d → s.op d slot = some o →
    o.st = .tables → o.tables = c :: cs → s.heldItem d 2 14 (slot + 2 ^ 20) = none →
    s.pipeGate d 13 (o.updItem slot) = (s, true) →
    (s.pipeTake d 13 (o.updItem slot)).tblRun d c.op c.table (s.reg d .tblBodyGen [s.bodyOf d c.table]) c.key c.res true
      (s.tblActive d 13 (o.updItem slot)) = (u, some r) →
    u.delayPut d 2 14 (slot + 2 ^ 20) [r.code] = (u, true) →
    let v := (u.statusCode d o.inst r.code).setOp d slot { o with tables := cs }
    exec (.tbluEntryComplete d slot) s = .next (s.keep ((if cs = [] then v.finishOp d slot else v).settle d))) ∧
  (∀ (s u v : State) (d slot : Nat) (o : Op) (ws : List Word) (r : LookRes), s.live d → s.op d slot = some o → o.st = .engine →
    o.kind = 1 →
    let p := o.param
    let n := p / 64 % 4 + 1
    s.instWords d o.inst (if bit p 8 then 28 + bits p 9 4 else 8) n = (u, ws) →
    u.lookupFor d 13 (o.lookItem slot) (p % 64) (ws ++ List.replicate (4 - n) 0) false = (v, some r) →
    (r.1 = 0 → exec (.lookupNode d slot) s = .next (s.keep ((v.engineDone d slot { o with
      carry := [(bits p 13 4, r.2.getD 0 0), (bits p 13 4 + 1, r.2.getD 1 0), (bits p 13 4 + 2, r.2.getD 2 0)] } 0).settle d))) ∧
    (r.1 = 1 → exec (.lookupNode d slot) s = .next (s.keep ((v.engineDone d slot o 1).settle d))) ∧
    (r.1 = 2 → exec (.lookupNode d slot) s = .next (s.keep ((v.abortOp d slot rPOISON).settle d)))) ∧
  (∀ (s : State) (d slot : Nat) (o : Op) (i : Inst), s.live d → s.op d slot = some o → s.inst d o.inst = some i →
    o.st = .engine → o.kind = 4 →
    (i.pid ≠ none → i.enqs.length < 8 → exec (.enqueueNode d slot) s = .next (s.keep (((s.enqueueOf d o i).1.engineDone d
      slot { o with log := [.enqueue (s.enqueueOf d o i).2] } 0).settle d))) ∧
    (i.pid = none ∨ 8 ≤ i.enqs.length → exec (.enqueueNode d slot) s = .next (s.keep ((s.abortOp d slot rFAULT).settle d)))) ∧
  ∀ (s : State) (d slot : Nat) (o : Op), s.live d → s.op d slot = some o → o.st = .engine → o.kind = 5 →
    exec (.discardNode d slot) s = .next (s.keep (((s.programDrop d o.inst).engineDone d slot o 0).settle d))

/-- A ticket at the head of its scoreboard leaves it when it is resolved or retired, each enqueue with the next
release sequence of its pair and one more outstanding; records, grants and credits reach their dies; a missing
sequence is skipped after 100 µs (R20, R21, R26 to R29). A copy goes to the die of its queue, the enqueue whose
sequence is due enters its queue or is discarded with the reason that the manual names, and a descriptor is
configured by its rules (R299 to R305). Enqueues discarded at the source, the announcing of copies, the records of a
skipped sequence, the latency of a copy and the order of copies and moves at a link are the model's, log entries 12,
46, 47, 87 and 106. -/
def Obligations.TicketsAndEnqueues : Prop :=
  ((∀ (s : State) (d p : Nat), s.live d → p < 32 →
    (s.board d p = [] → exec (.ticketRelease d p) s = .next (s.keep (s.settle d))) ∧
    ∀ (t : Ticket) (ts : List Ticket), s.board d p = t :: ts →
      (t.cond = .pending → exec (.ticketRelease d p) s = .next (s.keep (s.settle d))) ∧
      (t.cond = .retired → t.tagged = false →
        exec (.ticketRelease d p) s = .next (s.keep ((s.setBoard d p ts).settle d))) ∧
      (∀ e : Enq, t.cond = .resolved [e] → e.die = d → t.holder = d → s.reach d d = true → s.queueOn d e.queue = true →
        sgetD (s.die d).egr.outst (p * 8 + d) 0 < 32768 →
        (s.die d).egr.skipped.contains ((d * 32 + p) * 65536 + sgetD (s.die d).egr.nextSeq (p * 8 + d) 0) = false →
        ∃ u : State, exec (.ticketRelease d p) s = .next (s.keep (u.settle d)) ∧ u.board d p = ts ∧
          (u.die d).hop.outstanding = (s.die d).hop.outstanding - 1 ∧
          sgetD (u.die d).egr.nextSeq (p * 8 + d) 0 = (sgetD (s.die d).egr.nextSeq (p * 8 + d) 0 + 1) % 65536 ∧
          sgetD (u.die d).egr.outst (p * 8 + d) 0 = sgetD (s.die d).egr.outst (p * 8 + d) 0 + 1 ∧
          ∃ tag : List Nat, (u.die d).egr.arrived = (s.die d).egr.arrived ++ [{
            port := d * 32 + p, ticket := t.number, seq := sgetD (s.die d).egr.nextSeq (p * 8 + d) 0, pid := t.pid, enq := e
            ts := t.ts, tag := tag, heldAt := s.now }]) ∧
      (∀ e : Enq, t.cond = .resolved [e] → e.die ≠ d → t.holder ≠ d → s.reach d e.die = true → s.reach d t.holder = true →
        e.die < 8 → sgetD (s.die d).egr.outst (p * 8 + e.die) 0 < 32768 →
        ∃ (u : State) (a : Arrival), exec (.ticketRelease d p) s = .next (s.keep (u.settle d)) ∧ u.board d p = ts ∧
          u.fab.flight = s.fab.flight ++ [(s.stamps, .grant d t.holder a)] ∧ a.port = d * 32 + p ∧ a.pid = t.pid ∧
          a.enq = e ∧ a.seq = sgetD (s.die d).egr.nextSeq (p * 8 + e.die) 0)) ∧
  (∀ (s : State) (d a id : Nat) (r : Resolution), s.live d → s.messageGoes a d 1 id (.resolution a d r) →
    exec (.resolutionRecord d) s = .next (s.keep (((s.messageTaken id).settleTicket r).settle d))) ∧
  (∀ (s : State) (r : Resolution) (t : Ticket) (ts : List Ticket), r.port < 256 →
    s.board (r.port / 32) (r.port % 32) = t :: ts → t.number = r.ticket → t.cond = .pending →
    (s.settleTicket r).board (r.port / 32) (r.port % 32) = { t with
      cond := match r.enqs with | some (e :: es) => .resolved (e :: es) | _ => .retired
      holder := r.holder, pid := r.pid, reason := r.reason, tagged := r.tagged, resolvedAt := s.time (r.port / 32) } :: ts) ∧
  (∀ (s : State) (d a id : Nat) (r : Arrival), s.live d → s.messageGoes a d 1 id (.grant a d r) → r.enq.die = d →
    (s.die d).egr.skipped.contains (seqKey r) = false →
    ∃ u : State, exec (.releaseGrant d) s = .next (s.keep (u.settle d)) ∧
      (u.die d).egr.arrived = (s.die d).egr.arrived ++ [{ r with heldAt := s.now }] ∧
      (u.die d).egr.expect = (s.die d).egr.expect ∧ u.fab.flight = s.fab.flight.filter fun x => x.1 ≠ id) ∧
  (∀ (s : State) (d a id : Nat) (r : Arrival) (k : Packet), s.live d → s.messageGoes a d 1 id (.grant a d r) →
    r.enq.die ≠ d → s.pkt d r.pid = some k →
    (s.enqBad r.enq k.cells.length = false →
      exec (.releaseGrant d) s = .next (s.keep (((s.messageTaken id).modEgr d fun x => { x with
        toCopy := x.toCopy ++ [r] }).settle d))) ∧
    (s.enqBad r.enq k.cells.length = true → ∃ (u : State) (n : Nat), exec (.releaseGrant d) s = .next (s.keep (u.settle d)) ∧
      (u.die d).egr.toCopy = (s.die d).egr.toCopy ∧
      u.fab.flight = (s.fab.flight.filter fun x => x.1 ≠ id) ++ [(n, .enqueue d r.enq.die { r with void := true, tag := [] })])) ∧
  (∀ (s : State) (d a id p : Nat), s.live d → s.messageGoes a d 1 id (.credit a d p) →
    exec (.creditReturn d) s = .next (s.keep (((s.messageTaken id).modEgr d fun x => { x with
      outst := sset x.outst (p % 32 * 8 + a) (sgetD x.outst (p % 32 * 8 + a) 0 - 1) }).settle d))) ∧
  (∀ (s : State) (d a id : Nat) (r : Arrival), s.live d → s.messageGoes a d 0 id (.enqueue a d r) →
    ∃ u : State, exec (.remoteEnqueueArrive d) s = .next (s.keep (u.settle d)) ∧
      (u.die d).egr.arrived = (s.die d).egr.arrived ++
        (if (s.die d).egr.skipped.contains (seqKey r) = true then [] else [{ r with heldAt := s.now }]) ∧
      (u.die d).egr.expect = (s.die d).egr.expect ∧ u.fab.flight = s.fab.flight.filter fun x => x.1 ≠ id) ∧
  ∀ (s : State) (d g : Nat), s.live d → g < 256 →
    (((s.die d).egr.arrived.filter fun x => x.port = g) = [] →
      exec (.releaseSequenceSkip d g) s = .next (s.keep (s.settle d))) ∧
    ∀ a : Arrival, ((s.die d).egr.arrived.filter fun x => x.port = g) = [a] →
      (a.heldAt ≤ s.now → s.now < a.heldAt + 100000 →
        exec (.releaseSequenceSkip d g) s = .next (s.keep (s.settle d))) ∧
      (a.heldAt + 100000 ≤ s.now → a.seq < 65536 → sgetD (s.die d).egr.expect g 0 < 65536 → (s.die d).egr.announced = [] →
        ∃ u : State, exec (.releaseSequenceSkip d g) s = .next (s.keep (u.settle d)) ∧
          sgetD (u.die d).egr.expect g 0 = a.seq ∧ (u.die d).egr.arrived = (s.die d).egr.arrived)) ∧
  (∀ (s : State) (d : Nat) (a : Arrival) (rest : List Arrival) (k : Packet), s.live d → (s.die d).egr.toCopy = a :: rest →
    s.pkt d a.pid = some k → s.routeHeld d a.enq.die = false → s.reach d a.enq.die = true →
    s.linkGrants d a.enq.die false = true → (a.enq.copied k.cells).length ≤ (s.die a.enq.die).hop.free →
    ∃ (u : State) (fs : List (Nat × Flight)) (id : Nat) (b : Arrival),
      exec (.egressCopy d) s = .next (s.keep (u.settle d)) ∧ u.fab.flight = fs ++ [(id, .enqueue d a.enq.die b)] ∧
      b.remote = true ∧ b.seq = a.seq ∧ b.port = a.port ∧ b.ticket = a.ticket ∧ b.enq.queue = a.enq.queue ∧
      b.enq.len = a.enq.len ∧ b.enq.start = a.enq.start % 128) ∧
  (∀ (s : State) (d : Nat), s.live d → (s.die d).egr.toCopy = [] →
    exec (.egressCopy d) s = .next (s.keep (s.settle d))) ∧
  (∀ (s : State) (d : Nat) (a : Arrival) (k : Packet), s.live d → s.nextArrival d = some a → a.void = false →
    s.pkt d a.pid = some k →
    let q := a.enq.queue
    let n := k.cells.length
    let next := fun (s : State) => (s.modEgr d fun x => { x with
      arrived := x.arrived.erase a }.expectAt a.port ((a.seq + 1) % 65536)).creditBack d a.port
    (a.port / 32 ≠ d → s.queueOn d q = false → exec (.queueAdmit d) s =
      .next (s.keep ((next (((s.dropQueue d a.port q).dropRef d a.pid).tagLost a rFAULT)).settle d))) ∧
    (a.port / 32 = d ∨ s.queueOn d q = true → a.remote = false → s.enqBad a.enq n = true → exec (.queueAdmit d) s =
      .next (s.keep ((next (((s.dropLength d a.port q).dropRef d a.pid).tagLost a rLENGTH)).settle d))) ∧
    (a.port / 32 = d ∨ s.queueOn d q = true → a.remote = true ∨ s.enqBad a.enq n = false →
      ((s.queue d q).spilling = false → (s.queue d q).depth + n ≤ s.fld d .egrQLim [q] 0 19 →
        exec (.queueAdmit d) s = .next (s.keep ((next (s.enqueue d q { a := a, cells := n } false)).settle d))) ∧
      ((s.queue d q).spilling = true ∨ s.fld d .egrQLim [q] 0 19 < (s.queue d q).depth + n →
        bit (s.reg d .egrQCfg [q]) 4 = false →
        exec (.queueAdmit d) s = .next (s.keep ((next (((s.dropTail d a.port q).dropRef d a.pid).tagLost a rSLUICE)).settle
          d))))) ∧
  (∀ (s : State) (d : Nat) (a : Arrival), s.live d → s.nextArrival d = some a → a.void = true →
    exec (.queueAdmit d) s = .next (s.keep (((s.modEgr d fun x => { x with
      arrived := x.arrived.erase a }.expectAt a.port ((a.seq + 1) % 65536)).creditBack d a.port).settle d))) ∧
  (∀ (s : State) (d q : Nat) (e : QEntry) (b : Bool), d < 8 →
    ((s.enqueue d q e b).queue d q).entries = (s.queue d q).entries ++ [e] ∧
    ((s.enqueue d q e b).queue d q).spilling = b ∧ ∀ r : Nat, r ≠ q → (s.enqueue d q e b).queue d r = s.queue d r) ∧
  ∀ (s : State) (d q : Nat) (v : Dword), s.hostReaches d → q < 4096 →
    let w := v.toNat &&& 0xFFFBFFFF
    (bit (s.reg d .egrQCfg [q]) 0 = false → bit w 0 = true → q < 512 →
      exec (.queueEnable d q v) s = .next (s.keep ((if queueHere d q = true
        then (s.setReg d .egrQCfg [q] w).modDie d fun x => x.freshUnit 9 0 (cfgQueue q)
        else s.violation d).settle d))) ∧
    (bit (s.reg d .egrQCfg [q]) 0 = true → bit w 0 = true → w ≠ s.reg d .egrQCfg [q] →
      exec (.queueEnable d q v) s = .next (s.keep ((s.violation d).settle d))) ∧
    (bit (s.reg d .egrQCfg [q]) 0 = true → bit w 0 = false → w / 2 = s.reg d .egrQCfg [q] / 2 → 512 ≤ q →
      exec (.queueEnable d q v) s = .next (s.keep ((((s.setReg d .egrQCfg [q] w).modDie d fun x =>
        x.freshUnit 9 0 (cfgQueue q))).settle d)))

/-- A port that can send chooses the frame at the head of an eligible queue, transmits it with its FCS, flags or
padding, and releases it; a queue's read-ahead fills from below 32 cells up to 64, and a spilled packet returns cell
by cell (R53, R64, R305, R307 to R312, R320, R362). The durations of transmission, the choice of spill granules, the
polarity of Manchester and what is counted are the model's, log entries 48, 49 and 88 to 90. -/
def Obligations.FramesAreChosenAndSent : Prop :=
  (∀ (s : State) (d p : Nat), s.live d → (isMac p || isTgp d p || p = 31) = true →
    ((sget (s.die d).egr.chosen p).isSome = true ∨ (sget (s.die d).egr.sending p).isSome = true ∨
        ((List.range 16).map (portBase p + ·)).filter (s.eligible d p) = [] →
      exec (.transmitSelect d p) s = .next (s.keep (s.settle d))) ∧
    ∀ (k : Nat) (e : QEntry), sget (s.die d).egr.chosen p = none → sget (s.die d).egr.sending p = none →
      ((List.range 16).map (portBase p + ·)).filter (s.eligible d p) = [k] → k < 512 → s.members d k = [k] →
      (s.queue d k).head = some e →
      (p ≠ 31 → s.guardOk d p (k % 16) e.a.enq = true) → (p = 31 → s.recircRoom d e.a.enq = true) →
      ∃ (u : State) (n : Nat), exec (.transmitSelect d p) s = .next (s.keep (u.settle d)) ∧
        sget (u.die d).egr.chosen p = some ⟨k, e, s.now⟩ ∧ (u.queue d k).entries = (s.queue d k).entries.tail ∧
        (e.a.enq.drrBytes p ≤ (s.queue d k).deficit → n = 0) ∧
        e.a.enq.drrBytes p ≤ (s.queue d k).deficit + n * s.quantum d k ∧
        (u.queue d k).deficit = if (s.queue d k).entries.length ≤ 1 then 0
          else (s.queue d k).deficit + n * s.quantum d k - e.a.enq.drrBytes p) ∧
  (∀ (s : State) (d p : Nat) (c : Chosen) (k : Packet), s.live d → (isMac p || isTgp d p) = true → p ≠ 31 →
    sget (s.die d).egr.sending p = none → sget (s.die d).egr.chosen p = some c → s.pkt d c.e.a.pid = some k →
    let e := c.e.a.enq
    s.readCells d (e.copied k.cells) = s → s.fld d .egrQShape [s.portQueue d c.queue] 0 29 = 0 →
    let bs := (s.die d).hop.pktBytes k e.start e.len
    let u := s.modEgr d fun x => { x with chosen := sdel x.chosen p, sending := sset x.sending p c }
    (s.poisonAt d e k.cells = none → isMac p = true →
      let f := macFrame e bs (s.txStamp d p)
      let v := u.emit (.frame d p f false)
      exec (.portTransmit d p) s = .next (s.keep
        ((((if e.stamp.isSome then v.count d ctrEGR 14 else v).countPort d p 5).countPort d p 6 f.length).settle d))) ∧
    (s.poisonAt d e k.cells = none → isMac p = false →
      exec (.portTransmit d p) s = .next (s.keep ((((u.emit (u.telegramOut d p bs false)).countPort d p 5).countPort d p 6
        bs.length).settle d))) ∧
    (s.poisonAt d e k.cells = some 0 →
      exec (.portTransmit d p) s = .next (s.keep ((((u.count d ctrECC 2).count d ctrECC 12).journalDrop d rPOISON c.e.a.port c.queue).settle d)))) ∧
  (∀ (s : State) (d : Nat) (c : Chosen) (k : Packet), s.live d → sget (s.die d).egr.sending 31 = none →
    sget (s.die d).egr.chosen 31 = some c → s.pkt d c.e.a.pid = some k →
    (s.recircRoom d c.e.a.enq = false → exec (.portTransmit d 31) s = .next (s.keep (s.settle d))) ∧
    (s.recircRoom d c.e.a.enq = true → s.readCells d (c.e.a.enq.copied k.cells) = s →
      exec (.portTransmit d 31) s = .next (s.keep ((((((s.modEgr d fun x => { x with
        chosen := sdel x.chosen 31, sending := sset x.sending 31 c }).recirculate d c.e.a.enq k).shapeTake d c.queue
        c.e.a.enq.len).countPort d 31 6 c.e.a.enq.len)).settle d)))) ∧
  (∀ (s : State) (d p : Nat) (c : Chosen), s.live d → (isMac p || isTgp d p || p = 31) = true →
    sget (s.die d).egr.sending p = some c →
    let u := (s.modEgr d fun x => { x with sending := sdel x.sending p }).dropRef d c.e.a.pid
    exec (.enqueueTransmitted d p) s = .next (s.keep ((if isTgp d p then
      (u.modEgr d fun x => { x with tgpEnd := sset x.tgpEnd p s.now }).emit
        (.telegramIdle d p (bit (s.reg d .tgpCfg [p - 16]) 7)) else u).settle d)) ∧
    exec (.portTransmit d p) s = .next (s.keep (s.settle d))) ∧
  (∀ (s : State) (d q : Nat), s.live d → q < 4096 →
    ((s.queue d q).entries.find? fun e => !e.spill.isEmpty) = none →
    exec (.readAheadRefill d q) s = .next (s.keep (s.settle d))) ∧
  (∀ (s : State) (d q : Nat) (e : QEntry), s.live d → q < 4096 →
    ((s.queue d q).entries.find? fun e => !e.spill.isEmpty) = some e → (s.queue d q).refills = false →
    e.back = false ∨ e.cells ≤ 64 →
    exec (.readAheadRefill d q) s = .next (s.keep ((s.setQueue d q { s.queue d q with refill := false }).settle d))) ∧
  (∀ (s u z : State) (d q g c : Nat) (gs : List Nat) (e : QEntry) (es : List QEntry) (k : Packet) (bs : List Byte) (bad : Bool),
    s.live d → q < 4096 → (s.queue d q).entries = e :: es → e.spill = g :: gs → e.back = true →
    bit (s.reg d .egrQCfg [q]) 5 = false → (s.queue d q).refills = true ∨ 64 < e.cells →
    let y := { s.queue d q with refill := (s.queue d q).refills }
    let v := (s.setQueue d q y).setQueue d q y
    v.pkt d e.a.pid = some k → (v.die d).hop.free ≠ 0 ∨ e.cells - e.spill.length < k.cells.length →
    v.dramFetch d (v.spillAddr d g) false (some (400 + q)) = (u, some (bs, bad)) → u.aheadCell d e k = (z, some c) →
    (z.queue d q).entries = e :: es →
    let w := z.modHop d fun h => { h with
      buf := Memory.writeBytes h.buf (c * 128) bs, poison := if bad then mark h.poison c else h.poison }
    let x := (w.modEgr d fun y => { y with spillUsed := y.spillUsed.erase g }).count d ctrEGR 6
    exec (.readAheadRefill d q) s = .next (s.keep ((x.setQueue d q { x.queue d q with
      entries := { e with spill := gs } :: es
      spilling := ({ e with spill := gs } :: es).any fun y => !y.spill.isEmpty }).settle d))) ∧
  (∀ (e : Enq) (bs : List Byte) (t : Nat), e.stamp = none → e.fcsMode = 0 → bs.length ≤ 60 →
    macFrame e bs t = bs ++ List.replicate (60 - bs.length) 0 ++ natLE 4 (crc32 (bs ++ List.replicate (60 - bs.length) 0))) ∧
  (∀ (n : Nat) (bs : List Bool), n < 5 → ∀ (pre post : List Bool), stuffBits n bs ≠ pre ++ List.replicate 6 true ++ post)

/-- Gate lists follow their axes: a changed state is taken over, with its hold counted; a list is enabled only with
legal entries, and no entry changes while it is (R313 to R317). The end of a list as a closing is the model's
reading, log entry 50. -/
def Obligations.GateListsFollowTheirAxes : Prop :=
  (∀ (s : State) (d pp l : Nat), s.live d → pp < 18 → l < 8 →
    (s.glStat d pp l = sgetD (s.die d).egr.glState (pp * 8 + l) (0, false, false, 0) →
      exec (.gateListChange d pp l) s = .next (s.keep (s.settle d))) ∧
    (s.glStat d pp l ≠ sgetD (s.die d).egr.glState (pp * 8 + l) (0, false, false, 0) →
      ∃ u : State, exec (.gateListChange d pp l) s = .next (s.keep (u.settle d)) ∧
        sgetD (u.die d).egr.glState (pp * 8 + l) (0, false, false, 0) = s.glStat d pp l)) ∧
  (∀ (s : State) (d pp l : Nat) (v : Dword), s.hostReaches d → gateHere d pp = true → l < 8 →
    let old := s.reg d .egrGlCfg [pp, l]
    let w := bits (putBit v.toNat 0 true) 0 30
    (bit old 0 = false → exec (.gateListEnable d pp l v) s = .next (s.keep
      ((if s.glLegal d pp l (bits w 7 7) = true then (s.setReg d .egrGlCfg [pp, l] w).gateListChange d pp l
        else s.violation d).settle d))) ∧
    (bit old 0 = true → w ≠ old →
      exec (.gateListEnable d pp l v) s = .next (s.keep ((s.violation d).settle d)))) ∧
  (∀ (s : State) (d pp l : Nat) (v : Dword), s.hostReaches d → gateHere d pp = true → l < 8 →
    bit (s.reg d .egrGlCfg [pp, l]) 0 = true →
    let w := bits (putBit v.toNat 0 false) 0 30
    (w / 2 = s.reg d .egrGlCfg [pp, l] / 2 → exec (.gateListDisable d pp l v) s =
      .next (s.keep ((((s.setReg d .egrGlCfg [pp, l] w).glEndKeep d pp l).glRelease d pp l).settle d))) ∧
    (w / 2 ≠ s.reg d .egrGlCfg [pp, l] / 2 →
      exec (.gateListDisable d pp l v) s = .next (s.keep ((s.violation d).settle d)))) ∧
  (∀ (s : State) (d pp l entries : Nat), s.glLegal d pp l entries = true ↔
    (1 ≤ entries ∧ entries ≤ 64) ∧ ∀ e : Nat, e < entries →
      (0 < e → s.glPoint d pp l (e - 1) ≤ s.glPoint d pp l e) ∧
      (s.reg d .egrGlCycle [pp, l] ≠ 0 → s.glPoint d pp l e < s.reg d .egrGlCycle [pp, l]) ∧
      bits (s.glWord d pp l e 1) 16 2 ≠ 3) ∧
  (∀ (s : State) (d pp l : Nat) (hi : Dword), s.hostReaches d → gateHere d pp = true → l < 8 → bits hi.toNat 4 28 = 0 →
    let low := sgetD (s.die d).lows (regOff .egrGlEndHi [pp, l]) (bits (s.reg d .egrGlEndHi [pp, l]) 0 32)
    ∃ u : State, exec (.gateListEndWrite d pp l hi) s = .next (s.keep (u.settle d)) ∧
      u.reg d .egrGlEndHi [pp, l] = low + hi.toNat * 2 ^ 32 ∧
      u.reg d .egrGlEndLo [pp, l] = sgetD (s.die d).latch (regOff .egrGlEndLo [pp, l]) (s.reg d .egrGlEndLo [pp, l])) ∧
  ∀ (s : State) (d : Nat) (hi : Dword), s.hostReaches d →
    let a := s.reg d .egrGlAddr []
    let v := sgetD (s.die d).lows (regOff .egrGlData []) (bits (s.glData d) 0 32) + bits hi.toNat 0 4 * 2 ^ 32
    let w := if bit a 14 then bits v 0 18 else bits v 0 36
    let i := (bits a 0 5 * 8 + bits a 5 3) * 64 + bits a 8 6
    (bits a 0 5 < 18 → s.glCfg d (bits a 0 5) (bits a 5 3) 0 1 ≠ 1 →
      exec (.glDataWrite d hi) s = .next (s.keep ((s.spendLow d .egrGlData []).modDie d fun x => { x.freshUnit 9 0
        (cfgGate i) with egr := { x.egr with glist := sset x.egr.glist (i * 2 + bits a 14 1) (w36 w) } }))) ∧
    (bits a 0 5 < 18 → s.glCfg d (bits a 0 5) (bits a 5 3) 0 1 = 1 → w ≠ s.glData d →
      exec (.glDataWrite d hi) s = .next (s.keep ((s.spendLow d .egrGlData []).violation d))) ∧
    (18 ≤ bits a 0 5 → exec (.glDataWrite d hi) s = .next (s.keep (s.spendLow d .egrGlData [])))

/-- A link changes state as training, its ENABLE bits, lane failures and failed flits say; traffic of its routes
waits for the reroute; LINK_RETRAIN is legal for a DEGRADED or DOWN link (R37 to R40, R390, R486, R487). The
journaling of both ends and the end of RETRY_RUN are the model's readings, log entries 51 and 86. -/
def Obligations.LinksChangeState : Prop :=
  (∀ (s : State) (d k : Nat) (v : Dword), s.hostReaches d → k < 3 →
    let on := bits (putBit v.toNat 0 true) 0 2
    let off := bits (putBit v.toNat 0 false) 0 2
    let u := s.setReg d .twxLinkCtl [k] on
    let w := s.setReg d .twxLinkCtl [k] off
    (bit (s.reg d .twxLinkCtl [k]) 0 = true → exec (.linkEnable d k v) s = .next (s.keep (u.settle d))) ∧
    (bit (s.reg d .twxLinkCtl [k]) 0 = false → exec (.linkEnable d k v) s =
      .next (s.keep ((if u.bothEnds d k 0 = true then u.train d k else u).settle d))) ∧
    (bit (s.reg d .twxLinkCtl [k]) 0 = true → exec (.linkDisable d k v) s = .next (s.keep ((w.setLink d k .down).settle d))) ∧
    (bit (s.reg d .twxLinkCtl [k]) 0 = false → exec (.linkDisable d k v) s = .next (s.keep (w.settle d)))) ∧
  (∀ (s : State) (d : Nat) (c : RCmd), s.live d → s.ringCmd d 4 = some c → c.op = 1 → c.started = false →
    let k := bits c.d0 8 2
    (3 ≤ k ∨ bits c.d0 10 22 ≠ 0 ∨ c.d1 ≠ 0 ∨ c.d2 ≠ 0 ∨ c.d3 ≠ 0 →
      exec (.linkRetrain d) s = .next (s.keep ((s.ringDone d 4 cMALFORMED).settle d))) ∧
    (k < 3 → bits c.d0 10 22 = 0 → c.d1 = 0 → c.d2 = 0 → c.d3 = 0 →
      (s.link d k = .degraded ∨ s.link d k = .down → exec (.linkRetrain d) s =
        .next (s.keep (((s.ringSet d 4 { c with started := true, since := s.now }).train d k).settle d))) ∧
      (s.link d k = .up ∨ s.link d k = .training →
        exec (.linkRetrain d) s = .next (s.keep ((s.ringDone d 4 cSTATE).settle d))))) ∧
  (∀ (s : State) (d k : Nat) (lo hi : Bool), s.has d = true → k < 3 → s.link d k = .training →
    let half := (lo = true ∨ hi = true) ∧ s.bothEnds d k 1 = true
    (s.bothEnds d k 0 = true → lo = true → hi = true →
      exec (.linkTrainingEnd d k lo hi) s = .next (s.keepAlways ((s.setLink d k .up).settle d))) ∧
    (s.bothEnds d k 0 = true → (lo = false ∨ hi = false) → half →
      exec (.linkTrainingEnd d k lo hi) s = .next (s.keepAlways ((s.setLink d k .degraded).settle d))) ∧
    (s.bothEnds d k 0 = false ∨ ((lo = false ∨ hi = false) ∧ ¬half) →
      exec (.linkTrainingEnd d k lo hi) s = .next (s.keepAlways ((s.setLink d k .down).settle d)))) ∧
  (∀ (s : State) (d k : Nat), s.live d → k < 3 →
    (s.link d k = .up → exec (.laneFailure d k) s = .next (s.keep ((s.train d k).settle d))) ∧
    (s.link d k ≠ .up → exec (.laneFailure d k) s = .next (s.keep (s.settle d)))) ∧
  (∀ (s : State) (d k : Nat) (failed : Bool), s.live d → k < 3 →
    let run := if failed then sgetD s.fab.run (d * 3 + k) 0 + 1 else 0
    let t := s.count d ctrTWX (4 * k + 2)
    let u := { t with fab := { t.fab with run := sset t.fab.run (d * 3 + k) run } }
    (s.linkOpen d k = false → exec (.flitError d k failed) s = .next (s.keep (s.settle d))) ∧
    (s.linkOpen d k = true → 8 ≤ run →
      exec (.flitError d k failed) s = .next (s.keep ((State.setLink u d k .down).settle d))) ∧
    (s.linkOpen d k = true → run < 8 → exec (.flitError d k failed) s =
      .next (s.keep (State.settle u d)))) ∧
  (∀ s : State, s.inReset = false →
    exec .rerouteComplete s = .next (s.keep { s with fab := { s.fab with rerouting := [] } })) ∧
  (∀ (s : State) (d k : Nat) (new : LinkState), s.has d = true → k < 3 → s.link d k ≠ new →
    let key := linkKey s.fuses.dies d k
    let v := { s with fab := { s.fab with links := sset s.fab.links key new } }
    (∀ x y : Nat, s.reach x y = true → v.reach x y = true) →
    (s.setLink d k new).fab.links = sset s.fab.links key new ∧
      ∀ x y : Nat, (x, y) ∈ s.diePairs → (s.link d k).opens = true → new.opens = false → s.pathUses key y 8 x = true →
        (s.setLink d k new).routeHeld x y = true) ∧
  ∀ (s : State) (x y p : Nat), x < 8 → y < 8 → p < 32 →
    sgetD ((s.unreachable x y).die x).egr.outst (p * 8 + y) 0 = 0

/-- The chain's commands of ring 5 send their frames or complete with the code that the manual names, and a command
without an answer ends by its time (R405, R412, R415). A package drops, passes on or takes a Waymark frame, answers
what is addressed to it, and times the master's TIME frames (R400 to R407). The forwarding delay is free and frames
that no rule expects are read by log entries 3 and 64. -/
def Obligations.WaymarkFramesAndChainCommands : Prop :=
  ((∀ (s : State) (x : RCmd), s.identHead .attest x →
    (bits x.d0 8 6 = 0 → exec .attest s = .next (s.keep ((s.hostOut x.d3 (s.report (x.argBytes 32))).identDone cDONE))) ∧
    (bits x.d0 8 6 ≠ 0 → s.wmkMaster = true → s.wmkState = 2 → bit (s.reg 0 .dctlWmkCtl []) 1 = true → exec .attest s =
      .next (s.keep ((s.chainStart x).wmkSend 0 fun _ => masterFrame (bits x.d0 8 6) 0x20 (x.argBytes 32)))) ∧
    (bits x.d0 8 6 ≠ 0 → s.wmkMaster = false ∨ s.wmkState ≠ 2 ∨ bit (s.reg 0 .dctlWmkCtl []) 1 = false →
      exec .attest s = .next (s.keep (s.identDone cSTATE)))) ∧
  (∀ (s : State) (x : RCmd), s.identHead .wmkEnumerate x →
    (s.wmkMaster = true → s.wmkState = 0 → s.running = true → exec .wmkEnumerate s =
      .next (s.keep (((s.chainStart x).wmkSet 0 1).wmkSend 0 fun _ => masterFrame 63 0x01 [0]))) ∧
    (s.wmkMaster = false ∨ s.wmkState ≠ 0 ∨ s.running = false →
      exec .wmkEnumerate s = .next (s.keep (s.identDone cSTATE)))) ∧
  (∀ (s : State) (x : RCmd), s.identHead .wmkRelease x →
    (s.wmkMaster = true → s.wmkState ≠ 1 → s.running = true → exec .wmkRelease s =
      .next (s.keep (((s.wmkSend 0 fun _ => masterFrame 63 0x02 []).wmkSet 0 0).identDone cDONE))) ∧
    (s.wmkMaster = false ∨ s.wmkState = 1 ∨ s.running = false →
      exec .wmkRelease s = .next (s.keep (s.identDone cSTATE)))) ∧
  (∀ (s : State) (x : RCmd), s.identHead .wmkReg x →
    let seq := (s.wmk.seq + 1) % 256
    let u := { s with wmk := { s.wmk with seq := seq } }
    let a := x.argBytes 8
    (s.wmkMaster = true → s.wmkState = 2 → s.running = true →
      (bit x.d0 14 = false → exec .wmkReg s = .next (s.keep (State.chainStart (u.wmkSend 0 fun _ =>
        masterFrame (bits x.d0 8 6) 0x10 (a.take 4 ++ [seq])) x))) ∧
      (bit x.d0 14 = true → bit (s.reg 0 .dctlWmkCtl []) 1 = false → exec .wmkReg s = .next (s.keep (State.identDone
        (u.wmkSend 0 fun _ => masterFrame (bits x.d0 8 6) 0x11 (a ++ [seq])) cDONE)))) ∧
    (s.wmkMaster = false ∨ s.wmkState ≠ 2 ∨ s.running = false → exec .wmkReg s = .next (s.keep (s.identDone cSTATE)))) ∧
  (∀ (s : State) (x : RCmd), s.inReset = false → s.ringCmd 0 5 = some x → x.started = true →
    let ring := bit (s.reg 0 .dctlWmkCtl []) 1
    (x.op = 1 ∧ x.since + 10000000 ≤ s.now ∨ x.op = 11 ∧ x.since + 1000000 ≤ s.now →
      exec .chainResponseTimeout s = .next (s.keep (s.identDone cNOT_FOUND))) ∧
    (x.op = 9 → ring = true → x.since + 1000000 ≤ s.now →
      exec .chainResponseTimeout s = .next (s.keep ((s.wmkSet 0 0).identDone cNOT_FOUND))) ∧
    (x.op = 9 → ring = false → x.since + 200000 ≤ s.now → exec .chainResponseTimeout s =
      .next (s.keep (((s.wmkSet 0 2).setFld 0 .dctlWmkStat [] 1 7 0).identDone cDONE)))) ∧
  (∀ (s : State) (f : Nat → WFrame) (delay : Nat), 4 ≤ (s.wmk.starts.filter (s.now < ·)).length →
    s.wmkSend delay f = s.wmkDrop) ∧
  (∀ (s : State) (f : Nat → WFrame) (delay : Nat), (s.wmk.starts.filter (s.now < ·)).length < 4 →
    (s.wmkSend delay f).out = s.out ++ [.waymark (f (max (s.now + delay) s.wmk.lineFree)).line]) ∧
  ∀ s : State, s.fld 0 .dctlWmkStat [] 8 16 < 65535 →
    (s.wmkDrop).fld 0 .dctlWmkStat [] 8 16 = s.fld 0 .dctlWmkStat [] 8 16 + 1) ∧
  (State.reset.wmkState = 0 ∧ State.reset.wmkAddr = 0) ∧
  (∀ (s : State) (a st : Nat), (s.wmkSet a st).wmkAddr = a % 64 ∧ (s.wmkSet a st).wmkState = st % 4) ∧
  (∀ (s : State) (c : Instr) (f : WFrame), s.inReset = false → waymarkFrame c = some f → s.wmkMaster = false →
    63 ≤ f.hops + 1 ∨ (f.src = s.wmkAddr ∧ s.wmkAddr ≠ 0) → exec c s = .next (s.keep s.wmkSeen.wmkDrop)) ∧
  (∀ (s : State) (c : Instr) (f : WFrame), waymarkFrame c = some f → s.framePasses f → f.dest ≠ 63 →
    f.dest ≠ s.wmkAddr ∨ s.wmkAddr = 0 → f.type ≠ 0x30 → exec c s = .next (s.keep (s.wmkSeen.wmkForward fun _ => f.hop))) ∧
  (∀ s : State, s.inReset = false → exec .wmkBadFrame s = .next (s.keep s.wmkSeen.wmkDrop)) ∧
  (∀ (s : State) (dest src : BitVec 6) (hops count : Byte) (f : WFrame),
    waymarkFrame (.enumerate dest src hops count) = some f →
    (s.frameForAll f → s.wmkState = 0 → count.toNat < 62 → exec (.enumerate dest src hops count) s = .next (s.keep
      ((s.wmkSeen.wmkForward fun _ => { f.hop with payload := [count.toNat + 1] }).wmkSet (count.toNat + 1) 2))) ∧
    (s.frameForAll f → s.wmkState = 0 → count.toNat = 62 → exec (.enumerate dest src hops count) s = .next (s.keep
      (s.wmkSeen.wmkForward fun _ => f.hop))) ∧
    (s.frameForAll f → s.wmkState ≠ 0 → exec (.enumerate dest src hops count) s = .next (s.keep
      (s.wmkSeen.wmkForward fun _ => { f.hop with payload := [s.wmkAddr] }))) ∧
    (s.inReset = false → s.wmkMaster = true → s.wmkState = 1 → bit (s.reg 0 .dctlWmkCtl []) 1 = true →
      (s.chainWaits 9).isSome = true → exec (.enumerate dest src hops count) s = .next (s.keep
        (((s.wmkSeen.wmkSet 0 2).setFld 0 .dctlWmkStat [] 1 7 (count.toNat % 64 + if count.toNat = 62 then 64 else 0)).identDone
          (if count.toNat = 62 then cFULL else cDONE) (count.toNat % 64))))) ∧
  (∀ (s : State) (dest src : BitVec 6) (hops : Byte) (f : WFrame), waymarkFrame (.release dest src hops) = some f →
    (s.frameForAll f → exec (.release dest src hops) s =
      .next (s.keep ((s.wmkSeen.wmkForward fun _ => f.hop).wmkSet 0 0))) ∧
    (s.frameMine f → exec (.release dest src hops) s = .next (s.keep (s.wmkSeen.wmkSet 0 0))) ∧
    (s.inReset = false → s.wmkMaster = true → exec (.release dest src hops) s = .next (s.keep s.wmkSeen))) ∧
  (∀ (s : State) (dest src : BitVec 6) (hops seq : Byte) (off data : Dword) (f : WFrame),
    waymarkFrame (.regRead dest src hops off seq) = some f → s.frameMine f →
    let g : WFrame := { f with type := 0x11, payload := octetsOf 4 off.toNat ++ octetsOf 4 data.toNat ++ [seq.toNat] }
    let die := bits off.toNat 23 3
    let at_ := bits off.toNat 0 23
    let r := s.wmkSeen.hostRead die at_
    (bit (s.reg 0 .dctlWmkCtl []) 2 = false →
      exec (.regRead dest src hops off seq) s =
        .next (s.keep (s.wmkSeen.wmkAnswer f 0x12 ([seq.toNat, cDENIED] ++ octetsOf 4 0))) ∧
      exec (.regWrite dest src hops off data seq) s =
        .next (s.keep (s.wmkSeen.wmkAnswer g 0x12 ([seq.toNat, cDENIED] ++ octetsOf 4 0)))) ∧
    (bit (s.reg 0 .dctlWmkCtl []) 2 = true → s.running = true →
      exec (.regRead dest src hops off seq) s =
        .next (s.keep (r.2.wmkAnswer f 0x12 ([seq.toNat, cDONE] ++ octetsOf 4 r.1))) ∧
      exec (.regWrite dest src hops off data seq) s =
        .next (s.keep ((s.wmkSeen.hostWrite die at_ data.toNat).wmkAnswer g 0x12 ([seq.toNat, cDONE] ++ octetsOf 4 0)))) ∧
    (bit (s.reg 0 .dctlWmkCtl []) 2 = true → s.running = false →
      exec (.regRead dest src hops off seq) s =
        .next (s.keep (s.wmkSeen.wmkAnswer f 0x12 ([seq.toNat, cSTATE] ++ octetsOf 4 0))))) ∧
  (∀ (s : State) (dest src : BitVec 6) (hops seq code : Byte) (data : Dword), s.inReset = false → s.wmkMaster = true →
    seq.toNat = s.wmk.seq → (s.chainWaits 11).isSome = true →
    exec (.regResp dest src hops seq code data) s = .next (s.keep (s.wmkSeen.identDone code.toNat data.toNat))) ∧
  (∀ (s : State) (dest src : BitVec 6) (hops : Byte) (nonce : List Byte) (f : WFrame),
    waymarkFrame (.attestReq dest src hops nonce) = some f → s.frameMine f → exec (.attestReq dest src hops nonce) s =
      .next (s.keep (s.wmkSeen.wmkAnswer f 0x21 (s.wmkSeen.report (toNats nonce))))) ∧
  (∀ (s : State) (dest src : BitVec 6) (hops : Byte) (report : List Byte) (x : RCmd), s.inReset = false →
    s.wmkMaster = true → s.chainWaits 1 = some x → exec (.attestResp dest src hops report) s =
      .next (s.keep ((s.wmkSeen.hostOut x.d3 (toNats report)).identDone cDONE))) ∧
  (∀ (s : State) (dest src : BitVec 6) (hops : Byte) (m : BitVec 72) (corr : Dword) (f : WFrame),
    waymarkFrame (.time dest src hops m corr) = some f →
    (s.frameMine f ∨ (s.inReset = false ∧ s.wmkMaster = true) →
      exec (.time dest src hops m corr) s = .next (s.keep (s.wmkSeen.timeTake f m.toNat corr.toNat))) ∧
    (s.frameForAll f → exec (.time dest src hops m corr) s = .next (s.keep ((s.wmkSeen.wmkForward fun start =>
      timeFrame 63 f.src (f.hops + 1) m.toNat ((corr.toNat + (start + f.time - s.now)) % 2 ^ 32)).timeTake f m.toNat
        corr.toNat)))) ∧
  (∀ (s : State) (f : WFrame) (m corr : Nat),
    let u := s.timeTake f m corr
    let local_ := (s.time 0 + 2 ^ 72 - f.time % 2 ^ 72) % 2 ^ 72
    u.reg 0 .dctlWmkTime [0] + u.reg 0 .dctlWmkTime [1] * 2 ^ 36 = (m + corr) % 2 ^ 72 ∧
    u.reg 0 .dctlWmkTime [2] + u.reg 0 .dctlWmkTime [3] * 2 ^ 36 = local_) ∧
  ∀ s : State, s.inReset = false →
    let n := s.fld 0 .dctlWmkCtl [] 3 8
    (s.wmkMaster = true → n ≠ 0 → s.wmk.timeAt ≤ s.now → exec .timeFrameSend s = .next (s.keep
      (State.wmkSend { s with wmk := { s.wmk with timeAt := s.wmk.timeAt + 1000000 * n } } 0 fun start =>
        timeFrame 63 0 0 ((s.time 0 + (start - s.now)) % 2 ^ 72) 0))) ∧
    (s.wmkMaster = false ∨ n = 0 ∨ s.now < s.wmk.timeAt → exec .timeFrameSend s = .next (s.keep s))

/-- A helper's first job is checked in the order of the manual, runs, and completes for its thread or operation; the
window of a lock expires (R211, R213, R222, R223, R227, R228). The partial output of a failed job is free, and some
checks and the cells of a squashed job's packet are the model's readings, log entries 52, 53 and 102. -/
def Obligations.HelperJobsStartAndComplete : Prop :=
  (∀ (s : State) (d h : Nat), s.live d → h < 36 →
    ((s.helper d h).jobs = [] → exec (.helperJobStart d h) s = .next (s.keep (s.settle d)) ∧
      exec (.helperJobComplete d h) s = .next (s.keep (s.settle d))) ∧
    ∀ (j : Job) (js : List Job) (u : State), (s.helper d h).jobs = j :: js →
      (j.phase = .queued → s.jobCheck d h (s.withRange d h j) = (u, none) → exec (.helperJobStart d h) s =
        .next (s.keep ((u.setJob d h { s.withRange d h j with phase := .started }).settle d))) ∧
      (∀ c : Nat, j.phase = .queued → s.jobCheck d h (s.withRange d h j) = (u, some c) → exec (.helperJobStart d h) s =
        .next (s.keep ((u.setJob d h { s.withRange d h j with phase := .ended c none }).settle d))) ∧
      (∀ (st k : Nat) (r : Option Nat), j.phase = .ended st r → j.who = .thread k →
        let bs := if r = none then [] else [h / 3 * 16 + (j.addr + 7) % 16]
        (s.helperBanks d h bs = false → exec (.helperJobComplete d h) s = .next (s.keep (s.settle d))) ∧
        (s.helperBanks d h bs = true → (s.helperTake d h bs).delayGate d 3 h (k * 8 + j.sb) = (u, true) →
          exec (.helperJobComplete d h) s =
            .next (s.keep ((((u.jobCount d h j st).jobLeave d h).threadJobEnd d h k j st r).settle d)))) ∧
      (∀ (st slot : Nat) (r : Option Nat), j.phase = .ended st r → j.who = .op slot → j.squashed = false →
        (s.helperTake d h []).delayGate d 3 h (65536 + slot) = (u, true) → exec (.helperJobComplete d h) s =
          .next (s.keep ((((u.jobCount d h j st).jobLeave d h).opJobEnd d slot st r).settle d)))) ∧
  (∀ (s : State) (d h : Nat) (j : Job),
    (j.badRegion = true → s.jobCheck d h j = (s, some cRANGE)) ∧
    (j.badRegion = false → j.poisoned = true → s.jobCheck d h j = (s, some cPOISON)) ∧
    (j.badRegion = false → j.poisoned = false → j.row (h % 3) = none → s.jobCheck d h j = (s, some cMALFORMED)) ∧
    ∀ r : FuncRow, j.badRegion = false → j.poisoned = false → j.row (h % 3) = some r →
      (r.formed j = false → s.jobCheck d h j = (s, some cMALFORMED)) ∧
      (r.formed j = true → (∀ n ∈ r.lens, n = 0) → s.jobCheck d h j = (s, some cDONE)) ∧
      (r.formed j = true → (∃ n ∈ r.lens, n ≠ 0) →
        (r.lensOk = false ∨ (∃ x ∈ r.src ++ r.dst ++ r.reads, s.inSpace d j x = false) ∨ r.overlapOk = false →
          s.jobCheck d h j = (s, some cRANGE)) ∧
        (r.lensOk = true → (∀ x ∈ r.src ++ r.dst ++ r.reads, s.inSpace d j x = true) → r.overlapOk = true →
          h % 3 ≠ 2 ∨ j.func ≠ 3 → s.jobCheck d h j = (s, none)))) ∧
  (∀ (s : State) (d h k : Nat) (j : Job), (∀ slot : Nat, j.who = .op slot → (s.withRange d h j).first =
      s.fld d .hlpEngBase [h / 3] 0 18 ∧ (s.withRange d h j).last = s.fld d .hlpEngLast [h / 3] 0 18) ∧
    (j.who = .thread k → s.withRange d h j = j)) ∧
  (∀ (s : State) (d h k : Nat) (j : Job) (st : Nat), d < 8 → j.squashed = false →
    let u := s.threadJobEnd d h k j st none
    (u.thr d k).busy = (s.thr d k).busy.filter (· ≠ j.sb) ∧ sget (u.thr d k).sbStatus j.sb = some st ∧
      (u.thr d k).w = (s.thr d k).w ∧ (u.thr d k).pc = (s.thr d k).pc ∧
      ((u.thr d k).poisonDue = true ↔ (s.thr d k).poisonDue = true ∨ st = cPOISON)) ∧
  ∀ (s : State) (d h t : Nat), s.live d → h < 36 → (s.helper d h).window = some t →
    let u := s.setHelper d h { s.helper d h with window := none }
    (s.now < t → exec (.threadWindowExpire d h) s = .next (s.keep (s.settle d))) ∧
    (t ≤ s.now → (s.helper d h).free = false ∨ (s.helper d h).fifo = [] →
      exec (.threadWindowExpire d h) s = .next (s.keep (u.settle d))) ∧
    ∀ (slot : Nat) (rest : List Nat), t ≤ s.now → (s.helper d h).free = true → (s.helper d h).fifo = slot :: rest →
      exec (.threadWindowExpire d h) s = .next (s.keep ((u.lockToOp d h slot).settle d))

/-- Each function of a helper gives the octets, the status and the RESULT of its row, and a job that reads poison
ends with POISON (R217 to R221, R224, R225). Values that a row does not give are free, log entries 4 and 52; the
standard algorithms are log entry 81. -/
def Obligations.HelperFunctionsGiveTheirOutputs : Prop :=
  (∀ (s u : State) (c : Instr) (d h kind func : Nat) (j : Job) (bs : List Byte), oneSource c = some (d, h, kind, func) →
    s.jobRuns d h kind func j →
    ((s.jobBanked d h j).spanRead d h j (ptrSpan (j.word 1) j.len) = (u, bs, none) → exec c s = .next (s.keep
      (((u.count d ctrHLP 3 j.len).jobEnd d h j (outcome j (sourceOutcome j bs c) (kind = 1 && func = 6))).settle d))) ∧
    (∀ i : Nat, (s.jobBanked d h j).spanRead d h j (ptrSpan (j.word 1) j.len) = (u, bs, some i) → ∃ before : List Byte,
      exec c s = .next (s.keep (((u.count d ctrHLP 3 i).jobPoison d h j (ptrSpan (j.word 3) 0) before).settle d)) ∧
      (before = [] ∨ before = (sourceOutcome j (bs.take i) c).2.2))) ∧
  (∀ (s : State) (d h : Nat) (j : Job) (x : Span) (bs : List Byte) (k : Job) (js : List Job), d < 8 →
    (s.helper d h).jobs = k :: js →
    ((s.jobPoison d h j x bs).helper d h).jobs = { j with phase := .ended cPOISON none } :: js ∧
    ∀ (o : JobOut) (r : Nat), o.result = some r →
      ((s.jobEnd d h j o).helper d h).jobs = { j with phase := .ended o.status (some r) } :: js) ∧
  (∀ (s u : State) (d h : Nat) (j : Job) (bs : List Byte), s.jobRuns d h 1 1 j →
    (s.jobBanked d h j).freeValue.2.spanRead d h j (ptrSpan (j.word 1) j.len) = (u, bs, none) →
    let v := codecStuff (bit j.opt 1) bs
    let o := packBits (s.jobBanked d h j).freeValue.1 v
    exec (.stuff d h) s = .next (s.keep (((u.count d ctrHLP 3 j.len).jobEnd d h j
      (outcome j (cDONE, some (o.length + v.length % 8 * 2 ^ 15), o) false)).settle d))) ∧
  (∀ (s u : State) (d h : Nat) (j : Job) (bs : List Byte), s.jobRuns d h 1 4 j →
    ((s.jobBanked d h j).choose 16385).2.spanRead d h j (ptrSpan (j.word 1) j.len) = (u, bs, none) →
    let r := codecUnescape bs
    let o := if r.2 then r.1 else r.1.take ((s.jobBanked d h j).choose 16385).1
    exec (.unescape d h) s = .next (s.keep (((u.count d ctrHLP 3 j.len).jobEnd d h j
      (outcome j (if r.2 then cDONE else cDENIED, some o.length, o) false)).settle d))) ∧
  (∀ (s : State) (d h : Nat) (j : Job), s.jobRuns d h 2 2 j → exec (.fill d h) s = .next
    (s.keep (((s.jobBanked d h j).jobEnd d h j
    (outcome j (cDONE, none, (List.range j.len).map fun i => BitVec.ofNat 8 (j.word 4 / 2 ^ (24 - 8 * (i % 4)) % 256))
      false)).settle d))) ∧
  (∀ (s u : State) (d h : Nat) (j : Job) (bs : List Byte), s.jobRuns d h 2 3 j →
    ((s.jobBanked d h j).gatherRead d h j ((s.jobBanked d h j).segments d h j) = (u, bs, false) → exec (.gather d h) s = .next
      (s.keep
      (((u.count d ctrHLP 3 bs.length).jobEnd d h j (outcome j (cDONE, none, bs) false)).settle d))) ∧
    ((s.jobBanked d h j).gatherRead d h j ((s.jobBanked d h j).segments d h j) = (u, bs, true) → exec (.gather d h) s = .next
      (s.keep
      (((u.count d ctrHLP 3 bs.length).jobPoison d h j (ptrSpan (j.word 3) 0) bs).settle d)))) ∧
  (∀ (s u : State) (d h : Nat) (j : Job), s.jobRuns d h 2 4 j →
    let r := fun at_ => (s.jobBanked d h j).compareGo d h j (ptrSpan (j.word 1) j.len) (ptrSpan (j.word 4) j.len) j.len 0 =
      (u, at_)
    (r none → exec (.compare d h) s = .next (s.keep (((u.count d ctrHLP 3 j.len).jobEnd d h j
      (outcome j (cDONE, some j.len, []) true)).settle d))) ∧
    (∀ i : Nat, r (some (i, false)) → exec (.compare d h) s = .next (s.keep
      (((u.count d ctrHLP 3 (i + 1)).jobEnd d h j (outcome j (cDENIED, some i, []) true)).settle d))) ∧
    ∀ i : Nat, r (some (i, true)) → exec (.compare d h) s = .next (s.keep
      (((u.count d ctrHLP 3 i).jobPoison d h j (ptrSpan 0 0) []).settle d))) ∧
  (∀ (s u v : State) (d h n i : Nat) (j : Job) (x y : Span) (a b : Byte), s.octet d h j x i = (u, a, false) →
    u.octet d h j y i = (v, b, false) →
    (a = b → s.compareGo d h j x y (n + 1) i = v.compareGo d h j x y n (i + 1)) ∧
    (a ≠ b → s.compareGo d h j x y (n + 1) i = (v, some (i, false)))) ∧
  (∀ (s u v : State) (d h : Nat) (j : Job) (key iv tag aad : List Nat) (bs : List Byte),
    let keys := aesKeys key
    let out := toBytes (gcmCtr keys iv (toNats bs))
    u.spanRead d h j (ptrSpan (j.word 1) j.len) = (v, bs, none) →
    (s.jobRuns d h 0 1 j → (s.jobBanked d h j).gcmRead d h j false = (u, (key, iv, tag, aad), false) → bs.length = j.len →
      exec (.gcmEnc d h) s = .next (s.keep (((v.count d ctrHLP 3 j.len).jobEnd d h j
        { status := cDONE, result := some out.length, writes := [(ptrSpan (j.word 3) out.length, out),
          (j.tagSpan, toBytes ((gcmTag keys iv aad (gcmCtr keys iv (toNats bs))).take (tagLen j.opt)))] }).settle d))) ∧
    (s.jobRuns d h 0 2 j → (s.jobBanked d h j).gcmRead d h j true = (u, (key, iv, tag, aad), false) →
      exec (.gcmDec d h) s = .next (s.keep
      (((v.count d ctrHLP 3 j.len).jobEnd d h j (outcome j (if (gcmTag keys iv aad (toNats bs)).take (tagLen j.opt) = tag
        then cDONE else cDENIED, some out.length, out) false)).settle d)))) ∧
  (∀ (s u v w : State) (d h : Nat) (j : Job) (key tag : List Nat) (bs : List Byte),
    let mac := (cmac (aesKeys key) (toNats bs)).take (tagLen j.opt)
    (s.jobBanked d h j).keyRead d h j = (u, key, false) →
    (s.jobRuns d h 0 3 j → u.spanRead d h j (ptrSpan (j.word 1) j.len) = (w, bs, none) → exec (.cmacGen d h) s =
      .next (s.keep (((w.count d ctrHLP 3 j.len).jobEnd d h j { result := some 0, writes := [(j.tagSpan, toBytes mac)] }).settle
        d))) ∧
    (s.jobRuns d h 0 4 j → u.paramRead d h j 11 (tagLen j.opt) = (v, tag, false) →
      v.spanRead d h j (ptrSpan (j.word 1) j.len) = (w, bs, none) → exec (.cmacVer d h) s = .next (s.keep
        (((w.count d ctrHLP 3 j.len).jobEnd d h j { status := if mac = tag then cDONE else cDENIED, result := some 0 }).settle
          d)))) ∧
  (∀ (s u v : State) (d h : Nat) (j : Job) (ps : List Nat) (bs : List Byte), s.jobRuns d h 0 6 j →
    (s.jobBanked d h j).paramRead d h j 0 128 = (u, ps, false) → u.spanRead d h j (ptrSpan (j.word 1) j.len) = (v, bs, none) →
    let n := fun (i : Nat) => natOf ((ps.drop (32 * i)).take 32)
    exec (.ecdsaVer d h) s = .next (s.keep (((v.count d ctrHLP 3 j.len).jobEnd d h j
      { status := if ecdsaOk (natOf (toNats bs)) (n 0, n 1) (n 2) (n 3) then cDONE else cDENIED, result := some 0 }).settle
        d))) ∧
  (∀ v : List Bool, codecUnstuff 0 (stuffBits 0 v) = (v, true)) ∧
  (∀ (ctrl : Bool) (bs : List Byte), codecUnescape (bs.flatMap (escapeByte ctrl)) = (bs, true)) ∧
  (∀ (inv : Bool) (v : List Bool), manchDecode inv 0 (manchEncode inv v) = (v, none)) ∧
  (∀ (f32 : Bool) (bs : List Byte), fcsHolds f32 (bs ++ fcsBytes f32 bs) = true) ∧
  ∀ (f32 strip : Bool) (a b : Nat) (bs : List Byte), fcsHolds f32 bs = true → fcsSize f32 < bs.length →
    codecDecap (codecEncap f32 strip a b bs) = (bs, true)

/-- A table command at the head of its ring is checked, has its one access to the home bucket and the lay-by entries,
and completes with the code of the manual (R237 to R240, R250 to R252). The cursor of a WALK, the checks of key word
3, reserved bits and which commands come while their table is ACTIVE are the model's readings, log entries 34 to 36
and 95. -/
def Obligations.TableCommandsActOnTheirBucket : Prop :=
  (∀ (s : State) (i : Instr) (d op : Nat) (c : RCmd), tableCommand i = some (d, op) → s.tableHead d op c →
    (s.tblFormed d c = false → exec i s = .next (s.keep (s.tblEnd d c cMALFORMED 0 0))) ∧
    (∀ (r : TblReq) (u : State), s.tblFormed d c = true → (s.tblNote d).tblReq d 14 c.order = some r →
      (s.tblNote d).pipeGate d 14 c.order = (u, false) → exec i s = .next (s.keep u)) ∧
    ∀ r : TblReq, s.tblFormed d c = true → s.tableGranted d c r → op ≤ 6 →
      let run := (s.tableTaken d c).tblRun d op (bits c.d0 8 6) (bits c.d0 24 4) (argWords c 0 4) (argWords c 4 3) false
        (s.tableActiveFor d r)
      (∀ u : State, run = (u, none) → exec i s = .next (s.keep u)) ∧
      ∀ (u : State) (o : TblOut), run = (u, some o) →
        let v := if o.out = [] then u else u.emit (.hostWrite d (c.d1 + 32) (slotBytes o.out))
        exec i s = .next (s.keep (v.tblEnd d c o.code (if o.lay then 2 ^ 11 else 0) (o.bucket % 2 ^ 22)))) ∧
  (∀ (s : State) (d p : Nat) (r : TblReq), r.pipe = some p →
    ((s.pipeOf d p).at_ = some s.now ∨ s.swapHolds d r = true → s.granted d r = false) ∧
    (s.granted d r = true → ∀ q ∈ s.tblReqs d, q.pipe = some p → s.competes d (s.tblReqs d) q = true →
      (s.pipeOf d p).turn r.src < (s.pipeOf d p).turn q.src ∨
        ((s.pipeOf d p).turn r.src = (s.pipeOf d p).turn q.src ∧ r.age ≤ q.age))) ∧
  (∀ (s : State) (d op t gen : Nat) (key res : List Word) (thread active : Bool),
    let b := s.bodyOf d t
    let k := s.homeBucket d b key
    (s.bodyLoc d b = 2 → key.getD 3 0 ≠ 0 →
      s.tblRun d op t gen key res thread active = (s, some { code := cMALFORMED, bucket := k })) ∧
    (s.bodyLoc d b = 0 ∨ (op ≠ 1 ∧ active = false ∧ (s.bodyLoc d b = 2 → key.getD 3 0 = 0)) →
      ∃ (u : State) (n : Nat), s.tblRun d op t gen key res thread active = (u, some { code := cSTATE, bucket := n })) ∧
    (∀ (u : State) (v : TblView), s.tableOpen d t key → op = 1 ∨ active = true → s.tblView d b k = (u, some v) →
      (v.poisoned = true → s.tblRun d op t gen key res thread active =
        (u.tblTally d cPOISON t b op k thread, some { code := cPOISON, bucket := k })) ∧
      (v.poisoned = false → v.find b gen (u.genCheck d b) key = none →
        (op = 1 → s.tblRun d 1 t gen key res thread active =
          ((u.count d ctrTBL 1).count d ctrTBL 8, some { code := cNOT_FOUND, bucket := k })) ∧
        (3 ≤ op → s.tblRun d op t gen key res thread active =
          (u.count d ctrTBL 8, some { code := cNOT_FOUND, bucket := k })) ∧
        (∀ i : Nat, op = 2 → i < 4 → entValid (v.slots.getD i []) = false →
          (∀ j : Nat, j < i → entValid (v.slots.getD j []) = true) → s.tblRun d 2 t gen key res thread active =
            ((u.slotWrite d b k v.slots i (entNew b gen key res)).count d ctrTBL 4, some { code := cDONE, bucket := k })) ∧
        (op = 2 → (∀ j : Nat, j < 4 → entValid (v.slots.getD j []) = true) →
          min 4096 (u.fld d .tblBodyCfg [b] 8 13) ≤ u.layUsedBy d b ∨ 4096 ≤ u.layUsed d →
          s.tblRun d 2 t gen key res thread active =
            (u.tblTally d cNEEDS_REHASH t b 2 k thread, some { code := cNEEDS_REHASH, bucket := k })) ∧
        (op = 2 → (∀ j : Nat, j < 4 → entValid (v.slots.getD j []) = true) →
          u.layUsedBy d b < min 4096 (u.fld d .tblBodyCfg [b] 8 13) → u.layUsed d < 4096 →
          ∃ w : State, s.tblRun d 2 t gen key res thread active = (w, some { code := cDONE, lay := true, bucket := k }))) ∧
      (∀ (l : TblLoc) (e : List Word), v.poisoned = false → v.find b gen (u.genCheck d b) key = some (l, e) →
        (op = 1 → l.isLay = false → s.tblRun d 1 t gen key res thread active =
          (u.count d ctrTBL 0, some { code := cDONE, bucket := k, out := e.drop 4 })) ∧
        (op = 1 → l.isLay = true → s.tblRun d 1 t gen key res thread active =
          ((u.count d ctrTBL 0).count d ctrTBL 3, some { code := cDONE, lay := true, bucket := k, out := e.drop 4 })) ∧
        (op = 2 → s.tblRun d 2 t gen key res thread active =
          (u.tblTally d cEXISTS t b 2 k thread, some { code := cEXISTS, lay := l.isLay, bucket := k })) ∧
        (op = 3 → s.tblRun d 3 t gen key res thread active =
          (u.entWrite d b k v l (some (e.take 4 ++ (List.range 3).map (res.getD · 0) ++ e.drop 7)),
            some { code := cDONE, lay := l.isLay, bucket := k })) ∧
        (op = 4 ∨ (op = 5 ∧ entHit e = false) → s.tblRun d op t gen key res thread active =
          ((u.entWrite d b k v l none).count d ctrTBL 9, some { code := cDONE, lay := l.isLay, bucket := k })) ∧
        (op = 5 → entHit e = true → s.tblRun d 5 t gen key res thread active =
          ((u.entWrite d b k v l (some (entSetHit e false))).count d ctrTBL 10,
            some { code := cACTIVE, lay := l.isLay, bucket := k })) ∧
        (op = 6 → s.tblRun d 6 t gen key res thread active =
          (u.entWrite d b k v l (some (entSetHit e false)),
            some { code := cDONE, lay := l.isLay, bucket := k, out := e.drop 4 }))))) ∧
  (∀ (s : State) (d b k i : Nat) (slots : List (List Word)) (e : List Word), d < 8 → s.bodyLoc d b ≠ 2 → i < 4 →
    let u := s.slotWrite d b k slots i e
    (∀ j : Nat, j < 8 → sgetD (u.die d).tbl.store (k * 32 + i * 8 + j) 0 = e.getD j 0) ∧
    (∀ a : Nat, a < k * 32 + i * 8 ∨ k * 32 + i * 8 + 8 ≤ a → sgetD (u.die d).tbl.store a 0 = sgetD (s.die d).tbl.store a 0) ∧
    (u.die d).tbl.layby = (s.die d).tbl.layby) ∧
  (∀ (s : State) (d : Nat) (c : RCmd) (r : TblReq), s.tableHead d 7 c → s.tblFormed d c = true → s.tableGranted d c r →
    let g := s.tableTaken d c
    let t := bits c.d0 8 6
    let b := g.bodyOf d t
    let cur := bits c.d2 0 26
    let ok := bit c.d0 28 = false ∨ s.tableActiveFor d r = true
    (g.bodyLoc d b = 0 ∨ ¬ok → exec (.walk d) s =
      .next (s.keep ((g.tblTally d cSTATE t b 7 0 false).tblEnd d c cSTATE 0 0))) ∧
    (g.bodyLoc d b ≠ 0 → ok → bits c.d2 32 16 = 0 ∨ bit cur 25 = true →
      exec (.walk d) s = .next (s.keep (g.tblEnd d c cDONE 0 cur))) ∧
    (g.bodyLoc d b ≠ 0 → ok → g.bodyFits d b = true → bits c.d2 32 16 ≠ 0 → bit cur 25 = false → bit cur 24 = false →
      bits cur 0 24 < 4 * g.bodySize d b → exec (.walk d) s = .next (s.keep (g.ringSet d 0 { c with
        started := true, since := s.now
        walk := some { body := b, pos := bits cur 0 24, lay := false, left := bits c.d2 32 16, next := s.now } })))) ∧
  (∀ (s : State) (d src out : Nat) (clear : Bool) (w : Walk) (e : List Word) (f : State → State), s.reach d src = true →
    (entValid e = false ∨ entBody e ≠ w.body → s.walkRecord d src out clear w e f = (s, w)) ∧
    (entValid e = true → entBody e = w.body →
      let u := (s.emit (.hostWrite src (out + 64 * w.recs) (slotBytes e))).count d ctrTBL 14
      s.walkRecord d src out clear w e f = (if clear && entHit e then f u else u, { w with recs := w.recs + 1 }))) ∧
  (∀ (w : Walk) (buckets n now : Nat),
    let v := { w with left := w.left - n, next := now + n }
    (w.lay = true → 4096 ≤ w.pos + n → w.pass buckets n now = .fin cDONE { v with pos := 0 } true) ∧
    (w.lay = false → 4 * buckets ≤ w.pos + n → n < w.left → w.pass buckets n now = .go { v with pos := 0, lay := true }) ∧
    (w.lay = false → w.pos + n < 4 * buckets → n < w.left → w.pass buckets n now = .go { v with pos := w.pos + n }) ∧
    (w.lay = false → w.pos + n < 4 * buckets → w.left ≤ n →
      w.pass buckets n now = .fin cDONE { v with pos := w.pos + n } false)) ∧
  (∀ (s u : State) (d src out : Nat) (clear : Bool) (w : Walk) (slots : List (List Word)), w.lay = false →
    s.bodyDead d w.body = false → w.pos < 4 * s.bodySize d w.body →
    s.bucketRead d w.body (s.bodyBase d w.body + w.pos / 4) false = (u, some (slots, true)) →
    s.walkNext d src out clear w = (u, .fin cPOISON { w with pos := w.pos / 4 * 4 } false)) ∧
  ∀ (s u : State) (d src : Nat) (c : RCmd) (w v : Walk) (code : Nat) (ended : Bool), c.walk = some w → w.next ≤ s.now →
    s.pipeGate d (cmdSource d src) c.order = (s, true) →
    (s.pipeTake d (cmdSource d src) c.order).walkNext d src c.d3 (bit c.d0 28) w = (u, .fin code v ended) → code = cDONE →
    s.walkCycle d (src, c) = u.begunEnd d src c cDONE
      (v.pos + (if v.lay then 2 ^ 24 else 0) + (if ended then 2 ^ 25 else 0) + v.recs * 2 ^ 32)

/-- Fences, swaps, replicas, delayed results, the table states and INIT (R244 to R246, R253, R254, R258, R448). The
pace of INIT, that FENCE and SWAP_TABLE hold their ring, and which commands come while a table is ACTIVE are the
model's readings, log entries 18, 37 and 95. -/
def Obligations.TableStatesChange : Prop :=
  (∀ (s : State) (d : Nat) (c : RCmd) (r : TblReq), s.tableHead d 8 c → s.tblFormed d c = true → s.tableGranted d c r →
    let g := s.tableTaken d c
    let waits := ((g.die d).delayed.filter fun e => e.target = 2 && e.src < 1000).map fun e => (e.src, e.item)
    exec (.fence d) s = .next (s.keep ((g.modTbl d fun x => { x with
      fences := x.fences ++ [{ src := d, tag := c.tag, waits := waits }] }).ringSet d 0 { c with
        started := true, since := s.now }))) ∧
  (∀ (s : State) (d : Nat) (c : RCmd) (r : TblReq), s.tableHead d 9 c → s.tblFormed d c = true → s.tableGranted d c r →
    let g := s.tableTaken d c
    let t := bits c.d0 8 6
    let b := g.bodyOf d t
    (g.bodyLoc d b = 0 ∨ s.tableActiveFor d r = false → exec (.swapTable d) s =
      .next (s.keep ((g.tblTally d cSTATE t b 9 0 false).tblEnd d c cSTATE 0 0))) ∧
    (g.bodyLoc d b ≠ 0 → s.tableActiveFor d r = true → exec (.swapTable d) s =
      .next (s.keep (g.ringSet d 0 { c with started := true, since := ((s.tblNote d).noteOf d r).order })))) ∧
  (∀ (s : State) (d : Nat), s.live d →
    let found := s.begun d 9 fun _ c => !(s.tblReqs d).any (s.beforeSwap d c)
    (found = none → exec (.swapAccessPoint d) s = .next (s.keep s)) ∧
    ∀ (src : Nat) (c : RCmd), found = some (src, c) →
      let t := bits c.d0 8 6
      let u := bits c.d2 0 6
      exec (.swapAccessPoint d) s = .next (s.keep ((((s.setFld d .tblTabCtl [t] 8 6 (s.bodyOf d u)).setFld d .tblTabCtl [u]
        8 6 (s.bodyOf d t)).begunEnd d src c cDONE 0).count d ctrTBL 12))) ∧
  (∀ (s : State) (d : Nat) (c : RCmd) (r : TblReq), c ∈ s.swapsWaiting d → (∃ t ∈ r.tables, t ∈ c.tables) →
    (c.since ≤ (s.noteOf d r).order → s.swapHolds d r = true) ∧
    ((s.noteOf d r).order < c.since → s.beforeSwap d c r = true)) ∧
  (∀ (s : State) (d src : Nat) (c : RCmd) (f : Fence) (fs : List Fence), s.live d → (s.die d).tbl.fences = f :: fs →
    (∀ w ∈ f.waits, ∀ e ∈ (s.die d).delayed, ¬(e.target = 2 ∧ e.src = w.1 ∧ e.item = w.2)) →
    s.begun d 8 (fun src c => src = f.src && c.tag = f.tag) = some (src, c) →
    exec (.fenceComplete d) s = .next (s.keep (((s.modTbl d fun x => { x with fences := fs }).begunEnd d src c cDONE 0).count d
      ctrTBL 13))) ∧
  (∀ (s u : State) (d src : Nat) (c : RCmd), s.live d → readyReplica [] (s.die d).replicas = some (src, c) →
    (s.routeHeld src d = true → exec (.replicaCommand d) s = .next (s.keep s)) ∧
    (s.routeHeld src d = false → s.routeHeld d src = false →
    s.delayGate src 0 (100 + d) (c.tag + 2 ^ 32 * c.op) = (u, true) →
    (∀ (v : State) (code c0 c1 : Nat), u.tblAccess d 15 src c = (v, .fin code c0 c1) → exec (.replicaCommand d) s = .next (s.keep
      ((v.modDie d fun x => { x with replicas := setReplica src none x.replicas }).tblPost d src c code c0 c1))) ∧
    ∀ (v : State) (c' : RCmd), u.tblAccess d 15 src c = (v, .begun c') → exec (.replicaCommand d) s = .next (s.keep
      (v.modDie d fun x => { x with replicas := setReplica src (some c') x.replicas })))) ∧
  (∀ (s : State) (d : Nat) (e : Delayed) (es : List Delayed), s.live d → (s.die d).delayed = e :: es → e.gone = false →
    (s.now < e.until_ → (∀ x ∈ es, x.gone = true ∨ s.now < x.until_) →
      exec (.delayedItemRelease d) s = .next (s.keep s)) ∧
    (e.until_ ≤ s.now → e.data.length ≠ 7 → exec (.delayedItemRelease d) s =
      .next (s.keep (s.modDie d fun x => { x with delayed := { e with gone := true } :: es }))) ∧
    ∀ src die code tag c0 c1 : Nat, e.until_ ≤ s.now → e.data = [0, src, die, code, tag, c0, c1] →
      exec (.delayedItemRelease d) s = .next (s.keep
        (if s.reach die src then (s.dropItem d e).post src 0 die code tag c0 c1 else s.dropItem d e))) ∧
  (∀ (s : State) (d t : Nat), s.hostReaches d → t < 64 →
    let b := s.bodyOf d t
    exec (.tableFreeze d t) s = .next (s.keep ((s.tblNote d).setFld d .tblTabCtl [t] 0 1 0)) ∧
    (s.tabActive d t = true → exec (.tableActivate d t) s = .next (s.keep s)) ∧
    (s.tabActive d t = false → s.bodyFits d b = true → (s.die d).tbl.init ≠ some b →
      exec (.tableActivate d t) s = .next (s.keep (s.setFld d .tblTabCtl [t] 0 1 1))) ∧
    (s.tabActive d t = false → s.bodyFits d b = false ∨ (s.die d).tbl.init = some b →
      exec (.tableActivate d t) s = .next (s.keep (s.violation d)))) ∧
  (∀ (s : State) (d b : Nat), s.hostReaches d → b < 64 →
    ((s.die d).tbl.init ≠ none ∨ s.bodyActive d b = true → exec (.initStart d b) s = .next (s.keep (s.violation d))) ∧
    ((s.die d).tbl.init = none → s.bodyActive d b = false → ∃ u : State, exec (.initStart d b) s = .next (s.keep u) ∧
      (u.die d).tbl.init = some b ∧ (u.die d).tbl.initPos = 0 ∧ (u.die d).tbl.lastInit = b ∧
        (u.die d).tbl.store = (s.die d).tbl.store ∧
      ∀ p ∈ (u.die d).tbl.layby, entBody p.2.words ≠ b)) ∧
  (∀ (s : State) (d b : Nat), s.live d → (s.die d).tbl.init = some b →
    let size := if s.bodyLoc d b = 0 ∨ s.bodyFits d b = false then 0 else s.bodySize d b
    (size ≤ (s.die d).tbl.initPos →
      exec (.initComplete d) s = .next (s.keep (s.modTbl d fun t => { t with init := none }))) ∧
    ((s.die d).tbl.initPos < size → exec (.initComplete d) s = .next (s.keep s))) ∧
  (∀ (s : State) (d b : Nat), s.bodyFits d b = true → s.bodyLoc d b = 1 → (s.die d).tbl.initPos < s.bodySize d b →
    let k := s.bodyBase d b + (s.die d).tbl.initPos
    let used := (s.pipeOf d (k % 4)).at_ = some s.now
    (used → s.initNext d b = s) ∧
    (¬used → s.initNext d b = (s.modDie d fun x => x.initChip b k).modTbl d fun t => { t with
      initPos := (s.die d).tbl.initPos + 1 })) ∧
  ∀ (x : Die) (b k u : Nat), (x.tbl.store.map (·.1)).Pairwise (· < ·) →
    let y := x.initChip b k
    (32 * k ≤ u → u < 32 * (k + 1) → x.tbl.initSlot b (u / 8) = true →
      sgetD y.tbl.store u 0 = 0 ∧ u ∉ y.tbl.poison) ∧
    (u < 32 * k ∨ 32 * (k + 1) ≤ u ∨ x.tbl.initSlot b (u / 8) = false →
      sgetD y.tbl.store u 0 = sgetD x.tbl.store u 0)

/-- Filtered edges count the axes that they feed, records take effect on every die, jumps shift what they name, 1PPS
is driven and timestamped, and axes are enabled by their rules (R265 to R279, R286, R295). Some details of axes are
the model's readings, log entries 39 to 44 and 105. -/
def Obligations.AxesFollowTheirInputs : Prop :=
  (∀ (s : State) (enc held : Nat) (a b : Bool), s.inReset = false → enc < 6 →
    let cfg := s.reg 0 .mlsInputCfg [enc]
    let old := sgetD s.ax.enc enc 0
    let da := a ≠ bit old 0
    let db := b ≠ bit old 1
    let te := since (s.time 0) (bits cfg 0 6)
    let u := s.modAx fun x => { x with enc := sset x.enc enc ((if a then 1 else 0) + if b then 2 else 0) }
    (¬da → ¬db → exec (.encoderEdge enc a b held) s = .next (s.keep s)) ∧
    (da ∨ db → held < bits cfg 0 6 → exec (.encoderEdge enc a b held) s = .next (s.keep (s.count 0 ctrMLS 9))) ∧
    (da → db → bits cfg 0 6 ≤ held →
      exec (.encoderEdge enc a b held) s = .next (s.keep ((u.count 0 ctrMLS 10).event 0 .mls 3))) ∧
    ((da ∧ ¬db) ∨ (¬da ∧ db) → bits cfg 0 6 ≤ held →
      (encoderCounts (bits cfg 6 2) (decide da) a = false → exec (.encoderEdge enc a b held) s = .next (s.keep u)) ∧
      (encoderCounts (bits cfg 6 2) (decide da) a = true → exec (.encoderEdge enc a b held) s = .next (s.keep
        ((u.axesOf enc (· < 2)).foldl (fun s n => s.axEdge n te (if da then decide (a = b) else decide (a ≠ b)))
          (u.count 0 ctrMLS 8)))))) ∧
  (∀ (s : State) (n te : Nat) (back : Bool),
    let m := s.master n
    let down := back != bit (s.reg 0 .mlsAxisCfg [n - 1]) 7
    let ve := axNorm (s.axType n) (if down then m.cur.ve - s.axStep n else m.cur.ve + s.axStep n)
    m.forced = none → m.hidden = none → m.idxAt ≠ some te →
    (s.axEdge n te back).master n = { m with
      cur := { m.cur with
        st := 1, ve := ve, te := te, down := down
        p := match m.last with | some (t, e) => if e = down ∧ m.cur.st = 1 then some (since te t) else none | none => none }
      last := some (te, down) }) ∧
  (∀ (s : State) (enc held : Nat), s.inReset = false → enc < 6 →
    let f := bits (s.reg 0 .mlsInputCfg [enc]) 0 6
    (held < f → exec (.indexEdge enc held) s = .next (s.keep (s.count 0 ctrMLS 9))) ∧
    (f ≤ held → exec (.indexEdge enc held) s = .next (s.keep
      ((s.axesOf enc (· < 2)).foldl (fun s n => s.axIndex n (since (s.time 0) f)) s)))) ∧
  (∀ (s : State) (n te : Nat), s.axCfg n 8 2 = 1 ∨ (s.axCfg n 8 2 = 2 ∧ (s.master n).idxDone = false) →
    (s.master n).forced = none →
    ((s.axIndex n te).master n).cur.ve = axNorm (s.axType n)
      (axOfReg (s.axType n) (s.reg 0 .mlsAxisRef [n - 1]) + s.pendingDelta n te) ∧
    ((s.axIndex n te).master n).cur.st = 1 ∧ ((s.axIndex n te).master n).cur.te = te ∧
    ((s.master n).cur.st ≠ 1 → ((s.axIndex n te).master n).cur.p = none ∧ ((s.axIndex n te).master n).last = none)) ∧
  (∀ (s : State) (input held : Nat) (falling : Bool), s.inReset = false → 6 ≤ input → input < 10 →
    let cfg := s.reg 0 .mlsInputCfg [input]
    let te := since (s.time 0) (bits cfg 0 6)
    (held < bits cfg 0 6 → exec (.zeroCrossing input falling held) s = .next (s.keep (s.count 0 ctrMLS 9))) ∧
    (bits cfg 0 6 ≤ held → bit cfg 6 ≠ falling ∨ s.axesOf input (· = 2) = [] →
      exec (.zeroCrossing input falling held) s = .next (s.keep s)) ∧
    ∀ n : Nat, bits cfg 0 6 ≤ held → bit cfg 6 = falling → s.axesOf input (· = 2) = [n] →
      (∀ (t : Nat) (b : Bool), (s.master n).last = some (t, b) → zcEarly (bits cfg 8 2) (since te t) = true →
        exec (.zeroCrossing input falling held) s = .next (s.keep (s.count 0 ctrMLS 11))) ∧
      ((s.master n).last = none ∨ (∃ (t : Nat) (b : Bool), (s.master n).last = some (t, b) ∧
          zcEarly (bits cfg 8 2) (since te t) = false) →
        exec (.zeroCrossing input falling held) s = .next (s.keep ((s.count 0 ctrMLS 8).axCross n te)))) ∧
  (∀ (s : State) (n te : Nat), (s.master n).forced = none →
    let r := ((s.axCross n te).master n).cur
    r.st = 1 ∧ r.te = te ∧ r.down = false ∧
      ((s.master n).cur.st = 2 → r.ve = (s.master n).cur.ve ∧ r.p = none) ∧
      ((s.master n).cur.st ≠ 2 → r.ve = axNorm 2 (axOfReg 2 (s.reg 0 .mlsAxisRef [n - 1]) + s.pendingDelta n te))) ∧
  (∀ s : State, s.inReset = false → ∃ u : State, exec .axisBroadcast s = .next (s.keep u) ∧
    ∀ d : Nat, s.has d = true → d = 0 ∨ s.reach 0 d = true → (u.die d).mls.lost = false ∧ (u.die d).mls.frameAt = s.now) ∧
  (∀ (s : State) (d : Nat), s.live d →
    (d = 0 ∨ (s.die d).mls.lost = true ∨ s.now < (s.die d).mls.frameAt + 64 → exec (.bcastLoss d) s = .next (s.keep s)) ∧
    (d ≠ 0 → (s.die d).mls.lost = false → (s.die d).mls.frameAt + 64 ≤ s.now → exec (.bcastLoss d) s = .next (s.keep
      (((((List.range 8).foldl (fun s n => s.viewHeld d n) s).modMls d fun m => { m with lost := true }).count d ctrMLS
        13).event d .mls 5)))) ∧
  (∀ s : State, s.inReset = false →
    let due := fun (x : AxisFlight) => reached (s.time 0) ((x.recd.te + 48) % 2 ^ 72) = true
    let lands := fun (x : AxisFlight) (rest : List AxisFlight) => exec .axisRecordEffect s = .next (s.keep
      ((s.modAx fun a => { a with recs := rest }).eachDie fun s d =>
        if (s.die d).mls.lost then s else s.axReplace d x.axis x.recd x.dir))
    ((∀ x ∈ s.ax.recs, ¬due x) → exec .axisRecordEffect s = .next (s.keep s)) ∧
    (∀ (x : AxisFlight) (rest : List AxisFlight), s.ax.recs = x :: rest → due x → (∀ j ∈ s.ax.jumps, j.axis ≠ x.axis) →
      lands x rest) ∧
    ∀ (x y : AxisFlight) (rest : List AxisFlight), s.ax.recs = x :: y :: rest → ¬due x → due y →
      (∀ j ∈ s.ax.jumps, j.axis ≠ y.axis) → lands y (x :: rest)) ∧
  (∀ (s : State) (d n : Nat) (r : AxisRec) (dir : Int), (s.view d n).1.born ≠ r.born →
    ((s.axReplace d n r dir).die d).mls.due = ((s.axGrow d n).die d).mls.due) ∧
  (∀ (s : State) (d n : Nat) (r : AxisRec) (v : Int), r.st = 2 → (s.view d n).1.st ≠ 2 →
    s.putView d n r v = ((s.setView d n r v).count d ctrMLS 12).event d .mls 0) ∧
  (∀ (s : State) (n : Nat), s.inReset = false → 0 < n → n < 8 →
    let r := (s.master n).cur
    (r.st = 1 → (∀ x ∈ s.ax.recs, x.axis ≠ n) → s.holdBound n r < since (s.time 0) r.te →
      exec (.axisHeld n) s = .next (s.keep (s.axHold n))) ∧
    (r.st ≠ 1 ∨ since (s.time 0) r.te ≤ s.holdBound n r → exec (.axisHeld n) s = .next (s.keep s))) ∧
  (∀ (s : State) (n : Nat) (v : Dword), s.inReset = false → 0 < n → n < 8 →
    let old := s.reg 0 .mlsAxisCfg [n - 1]
    let on := bits (putBit v.toNat 0 true) 0 27
    let ty := bits on 1 2
    let src := bits on 3 4
    let fits := ty < 3 ∧ ((src < 6 ∧ ty ≠ 2) ∨ (6 ≤ src ∧ src < 10 ∧ ty = 2))
    (bit old 0 = true → on ≠ old → exec (.axisEnable n v) s = .next (s.keep (s.violation 0))) ∧
    (bit old 0 = false → ¬fits → exec (.axisEnable n v) s = .next (s.keep (s.violation 0))) ∧
    (bit old 0 = false → fits →
      exec (.axisEnable n v) s = .next (s.keep ((s.setReg 0 .mlsAxisCfg [n - 1] on).axEnable n))) ∧
    (bit old 0 = true → exec (.axisDisable n v) s =
      .next (s.keep ((s.setReg 0 .mlsAxisCfg [n - 1] (putBit old 0 false)).axDisable n)))) ∧
  (∀ (s : State) (n : Nat), bit (s.reg 0 .mlsAxisCfg [n - 1]) 10 = false → ((s.axEnable n).master n).cur = {
    born := s.now, st := 2, ve := axOfReg (s.axType n) (s.reg 0 .mlsAxisInit [n - 1]), te := s.time 0 }) ∧
  (∀ s : State, s.inReset = false →
    let on := bit (s.reg 0 .mlsPpsCfg []) 0 = true ∧ reached (s.time 0) s.ax.ppsNext = true
    (on → exec .ppsOutRise s = .next (s.keep ((s.modAx fun a => { a with
      ppsNext := (s.time 0 / 1000000000 + 1) * 1000000000 % 2 ^ 72
      ppsFall := some (s.now + 1000000 * min 999 (max 1 (s.fld 0 .mlsPpsCfg [] 1 10))) }).emit (.pps true)))) ∧
    (¬on → exec .ppsOutRise s = .next (s.keep s)) ∧
    (∀ t : Nat, s.ax.ppsFall = some t → t ≤ s.now →
      exec .ppsOutFall s = .next (s.keep ((s.modAx fun a => { a with ppsFall := none }).emit (.pps false)))) ∧
    ∀ falling : Bool,
      (bit (s.reg 0 .mlsPpsCfg []) 11 = true → bit (s.reg 0 .mlsPpsCfg []) 12 = falling → exec (.ppsInEdge falling) s =
        .next (s.keep ((s.setReg 0 .mlsPpsInLo [] (bits (s.time 0) 0 36)).setReg 0 .mlsPpsInHi [] (bits (s.time 0) 36 36)))) ∧
      (bit (s.reg 0 .mlsPpsCfg []) 11 = false ∨ bit (s.reg 0 .mlsPpsCfg []) 12 ≠ falling →
        exec (.ppsInEdge falling) s = .next (s.keep s))) ∧
  (∀ (s : State) (j : Jump) (rest : List Jump), s.inReset = false → s.ax.jumps = j :: rest →
    let u := s.modAx fun a => { a with jumps := rest }
    (s.now < j.due → exec .jumpEffect s = .next (s.keep s)) ∧
    (j.due ≤ s.now → s.ax.recs = [] → j.axis ≠ 0 →
      exec .jumpEffect s = .next (s.keep (u.eachDie fun s d => s.jumpView d j.axis j.delta))) ∧
    (j.due ≤ s.now → s.ax.recs = [] → j.axis = 0 →
      let v := (u.modAx fun a => a.shift j.delta).eachDie fun s d => s.jumpTime d j.delta
      exec .jumpEffect s = .next (s.keep (v.modAx fun a => { a with
        ppsNext := (v.time 0 / 1000000000 + 1) * 1000000000 })))) ∧
  (∀ (s : State) (d : Nat) (delta : Int), d < 8 → (s.jumpTime d delta).time d = shiftTime (s.time d) delta) ∧
  (∀ s : State, s.inReset = false →
    (s.now < s.ax.jrnNext → exec .axisJournalRecord s = .next (s.keep s)) ∧
    ∀ x : Nat, s.ax.jrnNext ≤ s.now → bit (s.reg 0 .mlsJrnCtl []) 0 = true → s.lastAxisRecord = some x →
      ∃ u : State, exec .axisJournalRecord s = .next (s.keep u) ∧ s.now < u.ax.jrnNext ∧
        let at_ := 6144 + 16 * ((x + 1) % 256)
        let ws := s.axisWords ((s.mramWord (6144 + 16 * x)).toNat + 1)
        (∀ w : Nat, w < 15 → u.mramWord (at_ + w) = ws.getD w 0) ∧ u.mramWord (at_ + 15) = w36 (crcWords ws)) ∧
  (∀ (s : State) (d : Nat), s.hostReaches d → exec (.timeReadLatch d) s = .next (s.keep
    ((s.setLatch d (regOff .mlsTimeLo []) (s.time d)).emit (.readData (s.time d % 2 ^ 32) false)))) ∧
  (∀ s : State, s.inReset = false →
    let v := s.reg 0 .mlsPpsInLo [] + s.reg 0 .mlsPpsInHi [] * 2 ^ 36
    exec .ppsInReadLatch s = .next (s.keep ((s.setLatch 0 (regOff .mlsPpsInLo []) v).emit (.readData (v % 2 ^ 32) false)))) ∧
  ∀ (s : State) (d n which : Nat), s.hostReaches d → 0 < n → n < 8 → which < 3 →
    let v := s.axisSlot d n which
    exec (.axisValueReadLatch d n which) s = .next (s.keep ((s.setLatch d (regOff (axisSlotReg which) [n - 1]) v).emit
      (.readData (v % 2 ^ 32) false)))

/-- A move of an axis fires the milestones that it crosses, each with its words and its action; the milestone ring
arms, disarms and reads them and sets axes; event outputs follow 10 ns later (R280 to R294, R468). Overlapping
pulses, the content of fired words and commands behind a firing that waits are the model's readings, log entries 43,
45 and 104. -/
def Obligations.MilestonesFireAndActOnTheirRing : Prop :=
  (∀ (m : Move) (c : Int), m.wrap = false → ((m.crosses c).isSome = true ↔
    if m.down = true then m.q < c ∧ c ≤ m.p else m.p < c ∧ c ≤ m.q)) ∧
  (∀ (s : State) (d : Nat), s.live d →
    let u := s.msEval d
    ((u.die d).mls.due = [] → exec (.milestoneFire d) s = .next (s.keep (u.settle d))) ∧
    ∀ (f : Firing) (rest : List Firing), (u.die d).mls.due = f :: rest →
      ((u.die d).mls.fires.at_ = s.now → 4 ≤ (u.die d).mls.fires.used →
        exec (.milestoneFire d) s = .next (s.keep (u.settle d))) ∧
      ((u.die d).mls.fires.at_ ≠ s.now ∨ (u.die d).mls.fires.used < 4 → exec (.milestoneFire d) s = .next (s.keep
        (((u.modMls d fun m => { m with due := rest, fires := m.fires.take s.now }).msFire d f).settle d)))) ∧
  (∀ (x : Hit) (l : List Hit),
    let le := fun (a b : Hit) => a.far < b.far ∨ (a.far = b.far ∧ a.ms ≤ b.ms)
    l.Pairwise le → (hitInsert x l).Pairwise le ∧ ∀ y : Hit, y ∈ hitInsert x l ↔ y = x ∨ y ∈ l) ∧
  (∀ (s : State) (d m k w : Nat) (v : Move), d < 8 →
    let per : Int := (k * s.msWord d m 3 : Nat)
    let u := s.msAdvance d m k v
    u.msWord d m w = s.msWord d m w ∧ (v.axis ≠ 0 → (u.msC d m : Int) =
      (if bits (s.msWord d m 0) 3 2 = 1 then (s.msC d m : Int) - per else s.msC d m + per) % 2 ^ 36)) ∧
  (∀ (s : State) (d : Nat) (f : Firing), d < 8 → (sgetD (s.die d).mls.ms f.ms (List.replicate 8 0)).length = 8 →
    let u := s.msFire d f
    u.msWord d f.ms 6 = f.time / 2 ^ 36 % 2 ^ 36 ∧ u.msWord d f.ms 7 = f.time % 2 ^ 36 ∧
      (bit (u.msWord d f.ms 5) 0 = true ↔ bit (s.msWord d f.ms 5) 0 = true ∧ bit (s.msWord d f.ms 0) 6 = true) ∧
      bits (u.msWord d f.ms 5) 4 16 = min 65535 (bits (s.msWord d f.ms 5) 4 16 + 1)) ∧
  (∀ (s : State) (d : Nat) (f : Firing), 4 ≤ bits (s.msWord d f.ms 0) 8 3 → d < 8 →
    (64 ≤ (s.die d).mls.caps.length → s.msAction d f = s.count d ctrMLS 7) ∧
    ((s.die d).mls.caps.length < 64 → ((s.msAction d f).die d).mls.caps = (s.die d).mls.caps ++ [f])) ∧
  (∀ (s : State) (d : Nat) (m : SendMsg) (rest : List SendMsg), s.live d → (s.die d).mls.sends = m :: rest →
    s.sendFits d m = true → exec (.sendDelivery d) s = .next (s.keep
      ((((s.setChan d m.chan { s.chan d m.chan with msgs := (s.chan d m.chan).msgs ++
        [{ at_ := s.now, words := m.words.map fun w => (w, false) }] }).modMls d fun x => { x with
          sends := rest }).modThr d m.thread fun x => { x with msLatch := true }).settle d))) ∧
  (∀ (s : State) (d w : Nat) (rest : List Nat) (o : Op), s.live d → (s.die d).mls.waits = w :: rest →
    s.op d (w % 16384) = some o → o.order = w / 16384 → o.kind = 3 → o.st = .engine →
    ((s.die d).mls.done.at_ ≠ s.now ∨ (s.die d).mls.done.used < 4 → exec (.milestoneWaitComplete d) s = .next (s.keep
      ((((s.modMls d fun m => { m with waits := rest, done := m.done.take s.now }).engineDone d (w % 16384) o 0).count d ctrMLS
        6).settle d))) ∧
    ((s.die d).mls.done.at_ = s.now → 4 ≤ (s.die d).mls.done.used →
      exec (.milestoneWaitComplete d) s = .next (s.keep (s.settle d)))) ∧
  (∀ (s : State) (pin op due : Nat) (rest : List (Nat × Nat × Nat)), s.inReset = false →
    s.ax.pinQ = (pin, op, due) :: rest →
    let u := s.modAx fun a => { a with pinQ := rest, pulses := sdel a.pulses pin }
    (s.now < due → exec .eventPinChange s = .next (s.keep s)) ∧
    (due ≤ s.now →
      (op = 0 → exec .eventPinChange s = .next (s.keep (u.drivePin pin (!bit s.ax.pins pin)))) ∧
      (op = 1 → exec .eventPinChange s = .next (s.keep (u.drivePin pin true))) ∧
      (op = 2 → exec .eventPinChange s = .next (s.keep (u.drivePin pin false))) ∧
      (op = 3 → exec .eventPinChange s = .next (s.keep ((u.modAx fun a => { a with
        pulses := sset a.pulses pin (s.now + max 4 (s.fld 0 .mlsPinCfg [] 0 16)) }).drivePin pin true))))) ∧
  (∀ (s : State) (pin t : Nat), s.inReset = false → pin < 8 → sget s.ax.pulses pin = some t →
    (t ≤ s.now → exec (.pinPulseEnd pin) s =
      .next (s.keep ((s.modAx fun a => { a with pulses := sdel a.pulses pin }).drivePin pin false))) ∧
    (s.now < t → exec (.pinPulseEnd pin) s = .next (s.keep s))) ∧
  (∀ (s : State) (d : Nat) (c : RCmd),
    let u := s.msFlush d
    let m := bits c.d0 8 10
    let state := ((u.ringDone d 2 cSTATE 0 (u.msWord d m 5)).count d ctrMLS 14)
    (s.msHead d 1 c → u.msWaits d 1 m = true → exec (.msArm d) s = .next (s.keep (u.settle d))) ∧
    (s.msHead d 1 c → u.msWaits d 1 m = false →
      ((u.msEntryOk d fun i => c.arg.getD i 0) = false →
        exec (.msArm d) s = .next (s.keep ((u.ringDone d 2 cMALFORMED 0 (u.msWord d m 5)).settle d))) ∧
      ((u.msEntryOk d fun i => c.arg.getD i 0) = true → u.msArmed d c = true →
        exec (.msArm d) s = .next (s.keep (state.settle d))) ∧
      ((u.msEntryOk d fun i => c.arg.getD i 0) = true → u.msArmed d c = false → exec (.msArm d) s =
        .next (s.keep (((u.msArm d m c).ringDone d 2 cDONE 0 ((u.msArm d m c).msWord d m 5)).settle d)))) ∧
    (s.msHead d 2 c → u.msWaits d 2 m = true → exec (.msDisarm d) s = .next (s.keep (u.settle d))) ∧
    (s.msHead d 2 c → u.msWaits d 2 m = false →
      (u.msArmed d c = false → exec (.msDisarm d) s = .next (s.keep (state.settle d))) ∧
      (u.msArmed d c = true →
        let v := u.msSet d m fun ws => ws.set 5 (w36 (putBit (ws.getD 5 0).toNat 0 false))
        exec (.msDisarm d) s = .next (s.keep ((v.ringDone d 2 cDONE 0 (v.msWord d m 5)).settle d)))) ∧
    (s.msHead d 3 c → (u.die d).flips (unitKey 9 0 (cfgMilestone m)) = 0 → exec (.msRead d) s = .next (s.keep
      (((u.emit (.hostWrite d c.d1 (slotBytes ((List.range 8).map fun w => w36 (u.msWord d m w))))).ringDone d 2
        cDONE).settle d))) ∧
    (s.msHead d 4 c →
      let n := bits c.d0 18 3
      let v := c.arg.getD 0 0 + c.arg.getD 1 0 * 2 ^ 36
      (n ≠ 0 → (u.view 0 n).1.st = 0 → exec (.axisSet d) s =
        .next (s.keep (((u.ringDone d 2 cSTATE 0 0).count d ctrMLS 14).settle d))) ∧
      (n = 0 ∨ (u.view 0 n).1.st ≠ 0 → exec (.axisSet d) s =
        .next (s.keep (((u.axisSet n v).1.ringDone d 2 cDONE 0 (u.axisSet n v).2).settle d))))) ∧
  (∀ (s : State) (v : Nat), (s.axisSet 0 v).2 = s.time 0 % 2 ^ 64 ∧
    (s.axisSet 0 v).1.ax.jumps = s.ax.jumps ++ [⟨0, (v : Int) - s.time 0, s.now + 48, s.time 0⟩]) ∧
  (∀ (s : State) (d : Nat), s.hostReaches d →
    exec (.capturePop d) s = .next (s.keep (s.modMls d fun m => { m with caps := m.caps.drop 1 }))) ∧
  ∀ (s : State) (d : Nat), s.hostReaches d →
    let m := bits (s.reg d .mlsMsAddr []) 0 10
    let w := bits (s.reg d .mlsMsAddr []) 10 3
    (s.die d).flips (unitKey 9 0 (cfgMilestone m)) = 0 →
    exec (.msDataRead d) s = .next (s.keep ((s.emit (.readData (s.msWord d m w / 2 ^ 32) false)).setReg d .mlsMsAddr []
      (if w = 7 then (m + 1) % 1024 else m + (w + 1) * 2 ^ 10)))

/-- A command ring is enabled clean, fetches well-fed descriptors in order and halts on a PCIe error; host frames are
fetched and delivered through their rings with a completion each (R24, R310, R373, R374, R381 to R392). When argument
blocks are read and what host frames count are the model's readings, log entries 58 and 59. -/
def Obligations.HostRingsCarryCommandsAndFrames : Prop :=
  (∀ (s : State) (d r : Nat) (v : Dword), s.hostReaches d → r < 7 → (r = 5 → d = 0) → bit (s.reg d .ringCtl [r]) 0 = false →
    let new := putBits (putBit v.toNat 0 true &&& (regRow .ringCtl).rw) 12 2 (bits (s.reg d .ringCtl [r]) 12 2)
    let legal := 4 ≤ bits new 2 5 ∧ bits new 2 5 ≤ 16 ∧ 4 ≤ bits new 7 5 ∧ bits new 7 5 ≤ 16
    (s.ringIdle d r = true → legal → s.running = true ∨ (d = 0 ∧ r = 5) →
      ∃ u : State, exec (.ringEnable d r v) s = .next (s.keep (u.settle d)) ∧
        u.reg d .ringCtl [r] = putBit new 12 false ∧ u.reg d .ringTail [r] = 0 ∧ u.reg d .ringHead [r] = 0 ∧
        u.reg d .ringCTail [r] = 0 ∧ u.reg d .ringCHead [r] = 0 ∧ (u.ring d r).phase = true) ∧
    (s.ringIdle d r = true → ¬legal ∨ (s.running = false ∧ ¬(d = 0 ∧ r = 5)) →
      exec (.ringEnable d r v) s = .next (s.keep ((s.violation d).settle d)))) ∧
  (∀ (s : State) (d r : Nat) (v : Dword), s.hostReaches d → r < 7 → (r = 5 → d = 0) → bit (s.reg d .ringCtl [r]) 0 = true →
    let new := putBits (putBit v.toNat 0 false &&& (regRow .ringCtl).rw) 12 2 (bits (s.reg d .ringCtl [r]) 12 2)
    (bits new 2 10 = bits (s.reg d .ringCtl [r]) 2 10 → exec (.ringDisable d r v) s =
      .next (s.keep ((s.watch d r fun s => s.setReg d .ringCtl [r] new).settle d))) ∧
    (bits new 2 10 ≠ bits (s.reg d .ringCtl [r]) 2 10 →
      exec (.ringDisable d r v) s = .next (s.keep ((s.violation d).settle d)))) ∧
  (∀ (s : State) (d r : Nat) (v : Dword), s.hostReaches d → r < 7 → (r = 5 → d = 0) →
    exec (.dTailWrite d r v) s = .next (s.keep ((s.setReg d .ringTail [r] (v.toNat % 65536)).settle d)) ∧
    exec (.cHeadWrite d r v) s = .next (s.keep (((s.setReg d .ringCHead [r] (v.toNat % 65536)).retest d r).settle d))) ∧
  (∀ (s : State) (d r : Nat), s.live d → r < 7 → (r = 5 → d = 0) →
    (bit (s.reg d .ringCtl [r]) 0 = true → exec (.ringHalt d r) s =
      .next (s.keep (((s.setFld d .ringCtl [r] 12 1 1).event d .dctl 0).settle d))) ∧
    (bit (s.reg d .ringCtl [r]) 0 = false → exec (.ringHalt d r) s = .next (s.keep (s.settle d)))) ∧
  (∀ (s : State) (d r : Nat) (d0 d1 d2 d3 : BitVec 64) (arg : List (BitVec 64)), s.live d → r < 7 → (r = 5 → d = 0) →
    let c : RCmd := { d0 := d0.toNat, d1 := d1.toNat, d2 := d2.toNat, d3 := d3.toNat, arg := arg.map (·.toNat) }
    let fed := s.ringReady d r = true ∧ (s.ring d r).fetchAt ≠ some s.now ∧ 8 ≤ s.ringFree d r ∧
      (s.running = true ∨ (d = 0 ∧ r = 5)) ∧ s.hostSleeps = false
    (¬fed → exec (.descriptorFetch d r d0 d1 d2 d3 arg) s = .next (s.keep (s.settle d))) ∧
    (fed → s.hostLive false = false → exec (.descriptorFetch d r d0 d1 d2 d3 arg) s =
      .next (s.keep (((s.setFld d .ringCtl [r] 12 1 1).event d .dctl 0).settle d))) ∧
    (fed → s.hostLive false = true → (s.ring d r).cmds ≠ [] ∨ ringKnows r c.op = true →
      exec (.descriptorFetch d r d0 d1 d2 d3 arg) s = .next (s.keep
        (State.settle { (s.headNext d r).setRing d r { s.ring d r with
          cmds := (s.ring d r).cmds ++ [{ c with order := s.stamps }], fetchAt := some s.now } with
          stamps := s.stamps + 1 } d)))) ∧
  (∀ (s : State) (d : Nat) (e1 e3 : BitVec 64) (bytes : List Byte), s.live d →
    let n := bits e1.toNat 0 14
    let ready := s.ringReady d 7 = true ∧ (s.die d).hop.closed.contains 24 = false ∧ s.blocked d = false ∧ s.hostSleeps = false
    let live := s.hostLive (bit (s.reg d .htxCtl []) 14)
    (¬ready → exec (.htxFetch d e1 e3 bytes) s = .next (s.keep (s.settle d))) ∧
    (ready → live = false → exec (.htxFetch d e1 e3 bytes) s =
      .next (s.keep (((s.setFld d .htxCtl [] 12 1 1).event d .dctl 1).settle d))) ∧
    (ready → live = true → bits e1.toNat 14 50 ≠ 0 ∨ e3 ≠ 0 →
      exec (.htxFetch d e1 e3 bytes) s = .next (s.keep ((s.htxDone d cMALFORMED 0).settle d))) ∧
    (ready → live = true → bits e1.toNat 14 50 = 0 → e3 = 0 →
      (n = 0 ∨ 16000 < n → exec (.htxFetch d e1 e3 bytes) s = .next (s.keep ((s.htxDone d cRANGE 0).settle d))) ∧
      (0 < n → n ≤ 16000 → bytes.length = n → (s.die d).hop.occ 24 + ceilDiv n 128 ≤ s.fld d .hopPortQuota [24] 0 19 →
        ceilDiv n 128 ≤ (s.die d).hop.free →
        exec (.htxFetch d e1 e3 bytes) s = .next (s.keep ((s.htxFrame d bytes).settle d))))) ∧
  (∀ (s : State) (d code ticket : Nat), ∃ l : List Out, (s.htxDone d code ticket).out =
    s.out ++ [.hostWrite d (s.entryAddr d 7 + 16) (natLE 8 (code + ticket * 256 + 2 ^ 63))] ++ l) ∧
  (∀ (s : State) (d : Nat) (v : Dword), s.hostReaches d → exec (.htxHeadAck d v) s = .next (s.keep
    (((s.setReg d .htxHeadAck [] (v.toNat % 65536)).modDie d fun x => { x with htxDone := false }).retest d 7))) ∧
  (∀ (s : State) (d h : Nat) (v : Dword), s.hostReaches d → h < 64 →
    exec (.hrxTailWrite d h v) s = .next (s.keep ((s.setReg d .hrxTail [h] (v.toNat % 65536)).settle d))) ∧
  (∀ (s : State) (d h : Nat) (e0 e1 : BitVec 64), s.live d → h < 64 →
    let live := s.hostLive (bit (s.reg d .hrxCtl [h]) 14)
    (s.hostNext d ≠ some h ∨ s.hostSleeps = true →
      exec (.hostRxDeliver d h e0 e1) s = .next (s.keep (s.settle d))) ∧
    (s.hostNext d = some h → s.hostSleeps = false → live = false → exec (.hostRxDeliver d h e0 e1) s =
      .next (s.keep (((s.setFld d .hrxCtl [h] 12 1 1).event d .dctl 2).settle d))) ∧
    ∀ (e : QEntry) (k : Packet), s.hostNext d = some h → s.hostSleeps = false → live = true →
      (s.queue d (384 + h)).head = some e → s.pkt d e.a.pid = some k →
      (bits e1.toNat 0 15 < e.a.enq.len → exec (.hostRxDeliver d h e0 e1) s = .next (s.keep
        ((((((s.takeHead d (384 + h)).dropLength d e.a.port (384 + h)).count d ctrDCTL 5).dropRef d e.a.pid).tagLost e.a
          rLENGTH).settle d))) ∧
      (e.a.enq.len ≤ bits e1.toNat 0 15 → exec (.hostRxDeliver d h e0 e1) s =
        .next (s.keep ((s.hostWriteFrame d h e0.toNat e k).settle d)))) ∧
  ∀ (s : State) (d h buf : Nat) (e : QEntry) (k : Packet), s.readCells d (e.a.enq.copied k.cells) = s →
    let r := (s.die d).hop.cleanBytes e.a.enq k
    ∃ l : List Out, (s.hostWriteFrame d h buf e k).out = s.out ++ [.hostWrite d buf r.1,
      .hostWrite d (s.entryAddr d (8 + h) + 16) (natLE 8 (e.a.enq.len + (if r.2 then 2 ^ 14 else 0) + e.a.port * 2 ^ 16 +
        e.a.ticket % 2 ^ 24 * 2 ^ 32 + 2 ^ 63) ++ natLE 8 (e.a.ts % 2 ^ 64))] ++ l

/-- The Answer Port reads the front page, stores each write as a frame of port 25 or drops it, and publishes pages
between read sequences; the host reads and writes its words (R393 to R398). The count of a write record and the idle
edges are the model's readings, log entry 57. -/
def Obligations.AnswerPortReadsWritesAndPublishes : Prop :=
  (∀ (s : State) (addr : BitVec 14), s.inReset = false →
    (s.ansOn = false → exec (.ansRead addr) s = .next (s.keep s.ansEdge)) ∧
    (s.ansOn = true → exec (.ansRead addr) s = .next (s.keep (((s.ansEdge.count 0 ctrANS 0).modAns fun a => { a with
      seqPage := some (addr.toNat / 1024) }).emit (.ansData (sgetD s.ans.front addr.toNat 0)))))) ∧
  (∀ (s : State) (addr : BitVec 14) (be : BitVec 4) (data : Dword), s.inReset = false →
    let u := s.ansEdge.modAns fun a => { a with seqPage := none, wcount := (s.ans.wcount + 1) % 256 }
    (s.ansOn = false → exec (.ansWrite addr be data) s = .next (s.keep (s.ansEdge.settle 0))) ∧
    (s.ansOn = true → bit (s.reg 0 .ansCfg []) 1 = false →
      exec (.ansWrite addr be data) s = .next (s.keep (((u.count 0 ctrANS 2).event 0 .ans 0).settle 0))) ∧
    (s.ansOn = true → bit (s.reg 0 .ansCfg []) 1 = true → (s.die 0).hop.shut 25 0 = true ∨ s.noCell 0 25 = true →
      exec (.ansWrite addr be data) s =
        .next (s.keep (((((u.countDiscard 0 25 rSLUICE).count 0 ctrANS 2).event 0 .ans 0)).settle 0))) ∧
    (s.ansOn = true → bit (s.reg 0 .ansCfg []) 1 = true → (s.die 0).hop.shut 25 0 = false → s.noCell 0 25 = false →
      ∃ (v : State) (pid : Nat) (k : Packet), exec (.ansWrite addr be data) s = .next (s.keep (v.settle 0)) ∧
        (v.die 0).hop.complete = (s.die 0).hop.complete ++ [pid] ∧ v.pkt 0 pid = some k ∧ k.len = 16 ∧ k.port = 25 ∧
        v.ans.wcount = (s.ans.wcount + 1) % 256 ∧ v.ans.seqPage = none)) ∧
  (∀ (addr : BitVec 14) (be : BitVec 4) (data : Dword) (count t : Nat), (ansRecord addr be data count t).length = 16) ∧
  (∀ (s : State) (page : BitVec 4), s.inReset = false →
    (s.ans.pending.contains page.toNat = true → s.ans.seqPage ≠ some page.toNat → exec (.pagePublish page false) s = .next (s.keep
      ((s.modAns fun a => { a with pending := unmark a.pending page.toNat }).publish page.toNat))) ∧
    (s.ans.pending.contains page.toNat = false ∨ s.ans.seqPage = some page.toNat →
      exec (.pagePublish page false) s = .next (s.keep s)) ∧
    (s.ans.pending.contains page.toNat = true → exec (.pagePublish page true) s = .next (s.keep
      ((s.ansEdge.modAns fun a => { a with seqPage := none, pending := unmark a.pending page.toNat }).publish page.toNat)))) ∧
  (∀ (s : State) (v : Dword), s.inReset = false →
    exec (.ansPublishWrite v) s = .next (s.keep ((maskList v.toNat 16).foldl (fun s p => s.publish p) s))) ∧
  (∀ (s : State) (p : Nat), p < 16 →
    (s.ans.seqPage = some p → p ∈ (s.publish p).ans.pending ∧ (s.publish p).ans.front = s.ans.front) ∧
    (s.ans.seqPage ≠ some p → (s.publish p).ans = s.ans.copyPage p)) ∧
  (∀ (s : State) (v : Dword), s.inReset = false →
    let w := s.fld 0 .ansHaddr [] 0 14
    (bit (s.reg 0 .ansHaddr []) 14 = true → sgetD s.ans.front w 0 ≠ v →
      exec (.hdataWrite v) s = .next (s.keep (s.violation 0))) ∧
    (bit (s.reg 0 .ansHaddr []) 14 = true → sgetD s.ans.front w 0 = v →
      exec (.hdataWrite v) s = .next (s.keep (s.setFld 0 .ansHaddr [] 0 14 (w + 1)))) ∧
    (bit (s.reg 0 .ansHaddr []) 14 = false → exec (.hdataWrite v) s =
      .next (s.keep ((s.modAns fun a => { a with back := sset a.back w v }).setFld 0 .ansHaddr [] 0 14 (w + 1)))) ∧
    exec .hdataRead s = .next (s.keep ((s.emit (.readData
      (sgetD (if bit (s.reg 0 .ansHaddr []) 14 then s.ans.front else s.ans.back) w 0).toNat false)).setFld 0 .ansHaddr [] 0 14
        (w + 1)))) ∧
  ∀ s : State, s.inReset = false →
    let due := ∀ t : Nat, s.ans.lastEdge = some t → t + 1000 ≤ s.now
    let u := s.modAns fun a => { a with clkSeen := false }
    (s.ans.clkSeen = true → due → s.ansOn = true → exec .ansClkLoss s = .next (s.keep (u.event 0 .ans 1))) ∧
    (s.ans.clkSeen = true → due → s.ansOn = false → exec .ansClkLoss s = .next (s.keep u)) ∧
    (s.ans.clkSeen = false ∨ ¬due → exec .ansClkLoss s = .next (s.keep s))

/-- The identity commands of ring 5 answer by the rules of ownership, unlock and version; a boot loads the first slot
whose image verifies, or ends in BOOT_HOLD with its reason; records reach the fault journal (R409 to R420, R423 to
R425). That boot is one step and the edges of its checks are the model's, log entries 66 to 69 and 83. -/
def Obligations.IdentityAndBootFollowTheirRules : Prop :=
  (∀ (s : State) (c : Instr) (x : RCmd) (op m0 m2 : Nat) (arg out : Bool), identFields c = some (op, m0, arg, out, m2) →
    s.inReset = false → s.ringCmd 0 5 = some x → x.op = op → x.started = false → x.named m0 arg out m2 = false →
    exec c s = .next (s.keep (s.identDone cMALFORMED))) ∧
  (∀ (s : State) (x : RCmd), s.identHead .readCert x →
    let i := bits x.d0 16 8
    let n := s.certLen i
    (4 < i → exec .readCert s = .next (s.keep (s.identDone cMALFORMED))) ∧
    (i ≤ 4 → n = 0 → exec .readCert s = .next (s.keep (s.identDone cNOT_FOUND))) ∧
    (i ≤ 4 → n ≠ 0 →
      exec .readCert s = .next (s.keep ((s.hostOut x.d3 (s.mramRead (certWord i) n)).identDone cDONE n)))) ∧
  (∀ (s : State) (x : RCmd), s.identHead .installCert x →
    let i := bits x.d0 16 8
    let n := bits x.d2 0 32
    let bs := x.argBytes n
    let wrong := i = 0 ∨ 4 < i ∨ 4096 < n ∨ (n ≠ 0 ∧ derSequence bs = false)
    (wrong → exec .installCert s = .next (s.keep (s.identDone cMALFORMED))) ∧
    (¬wrong → bit s.scope 2 = false →
      exec .installCert s = .next (s.keep ((s.identNote 3 cDENIED s.scope 0).identDone cDENIED))) ∧
    (¬wrong → bit s.scope 2 = true →
      let u := ((s.mramPut (5 + i) 0).mramBytes (certWord i) bs).mramPut (5 + i) n
      exec .installCert s = .next (s.keep ((u.identNote 3 cDONE s.scope 0).identDone cDONE)))) ∧
  (∀ (s : State) (x : RCmd), s.identHead .unlockChallenge x →
    let r := s.randomBytes 4
    let ch := r.1 ++ octetsOf 8 s.fuses.serial ++ octetsOf 8 s.bootCount
    exec .unlockChallenge s = .next (s.keep ((State.hostOut { r.2 with
      ident := { r.2.ident with challenge := some (toBytes ch, s.now) } } x.d3 ch).identDone cDONE))) ∧
  (∀ (s : State) (x : RCmd), s.inReset = false → s.ringCmd 0 5 = some x → x.started = false → x.op = 5 →
    let a := x.argBytes 132
    let scope := a.getD 128 0
    let window := natOf ((a.drop 129).take 3)
    let used := { s with ident := { s.ident with challenge := none } }
    let good := x.named 0 true false 0 = true ∧ 0 < scope ∧ scope < 8 ∧ 0 < window ∧ window ≤ 86400
    (¬good → exec .unlockResponse s = .next (s.keep (State.identDone used cMALFORMED))) ∧
    (good → s.ident.challenge = none → exec .unlockResponse s = .next (s.keep (s.identDone cSTATE))) ∧
    ∀ ch : List Byte × Nat, good → s.ident.challenge = some ch →
      (s.responseOk a ch = false → exec .unlockResponse s =
        .next (s.keep ((State.identNote used 5 cDENIED scope window).identDone cDENIED))) ∧
      (s.responseOk a ch = true → exec .unlockResponse s = .next (s.keep
        ((((State.identNote used 5 cDONE scope window).setScope scope).setWindow (some (s.now + window *
          1000000000))).identDone cDONE)))) ∧
  (∀ (s : State) (a : List Nat) (ch : List Byte × Nat), s.responseOk a ch = true →
    s.ident.owner = some (natOf (sha256 (a.take 64))) ∧ s.now ≤ ch.2 + 60000000000) ∧
  (∀ (s : State) (x : RCmd), s.identHead .lock x → exec .lock s =
    .next (s.keep ((((s.identNote 6 cDONE s.scope 0).setScope 0).setWindow none).identDone cDONE))) ∧
  (∀ s : State, s.inReset = false →
    (∀ t : Nat, s.ident.window = some t → t ≤ s.now → exec .unlockExpire s =
      .next (s.keep (((s.identNote 0 cDONE s.scope 0).setScope 0).setWindow none))) ∧
    (s.ident.window = none ∨ (∃ t : Nat, s.ident.window = some t ∧ s.now < t) →
      exec .unlockExpire s = .next (s.keep s))) ∧
  (∀ (s : State) (x : RCmd), s.identHead .ownerClaim x →
    (s.ident.owner ≠ none → exec .ownerClaim s = .next (s.keep (s.identDone cSTATE))) ∧
    (s.ident.owner = none → exec .ownerClaim s = .next (s.keep (State.identDone (State.identNote { s with
      ident := { s.ident with owner := some (natOf (x.argBytes 32)) } } 7 cDONE s.scope 0) cDONE)))) ∧
  (∀ (s : State) (x : RCmd), s.identHead .setMinVersion x →
    let v := bits x.d2 0 32
    (bit s.scope 2 = false → exec .setMinVersion s =
      .next (s.keep ((s.identNote 8 cDENIED s.scope 0).identDone cDENIED))) ∧
    (bit s.scope 2 = true → s.running = false → exec .setMinVersion s = .next (s.keep (s.identDone cSTATE))) ∧
    (bit s.scope 2 = true → s.running = true → v < s.minVersion ∨ s.ident.version < v →
      exec .setMinVersion s = .next (s.keep (s.identDone cRANGE))) ∧
    (bit s.scope 2 = true → s.running = true → s.minVersion ≤ v → v ≤ s.ident.version → exec .setMinVersion s =
      .next (s.keep ((((s.mramPut 4 v).mramPut 516 v).identNote 8 cDONE s.scope 0).identDone cDONE)))) ∧
  (∀ s : State, s.inReset = false →
    (s.journal = [] → exec .journalWrite s = .next (s.keep s)) ∧
    ∀ (r : JRec) (rest : List JRec), s.journal = r :: rest → (∀ d : Nat, (s.ring d 6).cmds = []) →
      ∃ u : State, exec .journalWrite s = .next (s.keep u) ∧ u.journal = rest ∧ u.journalLost = 0 ∧
        let at_ := 10240 + 8 * s.fld 0 .dctlJrnStat [] 0 12
        (u.mramWord (at_ + 1)).toNat = bits r.time 36 36 ∧ (u.mramWord (at_ + 2)).toNat = bits r.time 0 36 ∧
        (u.mramWord (at_ + 3)).toNat = r.die % 8 + r.reason % 256 * 8 + min 255 s.journalLost * 2 ^ 11 ∧
        u.mramWord (at_ + 7) = w36 (crcWords ((List.range 7).map fun i => u.mramWord (at_ + i))) ∧
        u.fld 0 .dctlJrnStat [] 0 12 = (s.fld 0 .dctlJrnStat [] 0 12 + 1) % 4096) ∧
  (∀ (s : State) (a b : Option (List Byte)) (src two : Bool) (fail : Byte),
    let u := State.bootFuses { s with pwr := { s.pwr with low := false, booted := true, bootSrc := src, twoEnds := two } }
    let va := u.slotVerdict (a.map toNats)
    let w := u.setFld 0 .dctlBootStat [] 7 1 1
    let vb := w.slotVerdict (b.map toNats)
    let trained := ∀ d k : Nat, s.has d = true → k < 3 → s.has (farEnd s.fuses.dies d k) = true → s.link d k ≠ .training
    (s.pwr.booted = true ∨ s.pwr.causes ≠ [] ∨ ¬trained → exec (.boot a b src two fail) s = .next s) ∧
    (s.pwr.booted = false → s.pwr.causes = [] → trained →
      (s.ident.owner = none → exec (.boot a b src two fail) s = .next (s.keepAlways (u.bootHold 1))) ∧
      (s.ident.owner ≠ none → src = true → exec (.boot a b src two fail) s = .next (s.keepAlways (u.bootHold 6))) ∧
      (s.ident.owner ≠ none → src = false → va = 0 → exec (.boot a b src two fail) s =
        .next (s.keepAlways (u.bootLoad ((a.map toNats).getD []) fail.toNat false))) ∧
      (s.ident.owner ≠ none → src = false → va ≠ 0 → vb = 0 →
        exec (.boot a b src two fail) s = .next (s.keepAlways (w.bootLoad ((b.map toNats).getD []) fail.toNat true))) ∧
      (s.ident.owner ≠ none → src = false → va ≠ 0 → vb ≠ 0 →
        exec (.boot a b src two fail) s = .next (s.keepAlways (w.bootHold vb))))) ∧
  (∀ (s : State) (img : List Nat), s.verifyImage img = 0 →
    imgField img 0 4 = 0x4F4E3638 ∧ s.ident.bootKey = some (natOf (sha256 ((img.drop 16).take 64))) ∧
      s.minVersion ≤ imgField img 12 4 ∧ ∀ e ∈ sectionsOf img, 1 ≤ e.typ ∧ e.typ ≤ 4 ∧ e.offset + e.len ≤ imgLength img) ∧
  (∀ (s : State) (img : List Nat) (fail : Nat) (b : Bool),
    let u := s.bootLoad img fail b
    u.running = true ∧ u.ident.mImage = imgDigest img ∧ u.ident.version = imgField img 12 4 ∧ u.ident.slotB = b ∧
      u.fld 0 .dctlBootStat [] 0 3 = 6) ∧
  (∀ (s : State) (reason : Nat), reason < 16 →
    let u := s.bootHold reason
    u.ident.mImage = 0 ∧ u.ident.version = 0 ∧ u.fld 0 .dctlBootStat [] 0 3 = 7 ∧ u.fld 0 .dctlBootStat [] 3 4 = reason) ∧
  ∀ (s : State) (fail : Byte) (x : RCmd), s.inReset = false → s.ringCmd 0 5 = some x → x.started = false → x.op = 12 →
    let n := bits x.d2 0 32
    let img := x.argBytes n
    let good := x.named 0x8000 true false (2 ^ 32 - 1) = true ∧ n ≤ 16777216
    (¬good → exec (.recoverLoad fail) s = .next (s.keep (s.identDone cMALFORMED))) ∧
    (good → s.pwr.booted = false ∨ s.running = true → exec (.recoverLoad fail) s = .next (s.keep (s.identDone cSTATE))) ∧
    (good → s.pwr.booted = true → s.running = false → s.verifyImage img ≠ 0 →
      exec (.recoverLoad fail) s = .next (s.keep (s.identDone cDENIED))) ∧
    (good → s.pwr.booted = true → s.running = false → s.verifyImage img = 0 →
      let u := s.bootLoad img fail.toNat false
      exec (.recoverLoad fail) s = .next (s.keep (State.identDone (if bit x.d0 15 then u.emit (.norWrite (toBytes img)) else u)
        cDONE)))

/-- Reset returns every register and store to its reset value but for what survives it, and lasts until its causes
have cleared; lost references end their links; the temperature drives the alarm and trips the part; the TAP scans
(R373, R374, R463 to R467, R473 to R476, R478, R479). MSI-X pending bits, temperature before a sample and the TAP's
scans are the model's readings, log entries 20, 71 and 72. -/
def Obligations.ResetsClocksTemperatureAndTap : Prop :=
  (∀ s : State,
    (s.inReset = true → exec .resetNAssert s = .next (s.keepAlways (State.setFld { s with
      pwr := { s.pwr with low := true, lowAt := s.now } } 0 .dctlResetCause [] 1 1 1))) ∧
    (s.inReset = false → ∃ u : State, exec .resetNAssert s = .next (s.keepAlways u) ∧ u.inReset = true ∧ u.pwr.low = true ∧
      (∀ d : Nat, 0 < d → u.die d = State.reset.die d) ∧
      (∀ (r : RegId) (ix : List Nat), regOff r ix ≠ regOff .dctlResetCause [] → regOff r ix ≠ regOff .dctlTherm [] →
        u.reg 0 r ix = State.reset.reg 0 r ix) ∧
      u.reg 0 .dctlResetCause [] = putBit (s.reg 0 .dctlResetCause []) 1 true ∧
      u.mram = s.mram ∧ u.ident.owner = s.ident.owner ∧ u.ident.bootKey = none ∧ u.ident.window = none ∧
      u.fab = State.reset.fab ∧ u.ax = State.reset.ax ∧ u.ans = State.reset.ans ∧ u.journal = [])) ∧
  (∀ (s : State) (i : Nat), i < 5 →
    i ∈ (s.selfReset i).pwr.causes ∧ (s.selfReset i).inReset = true ∧ bit ((s.selfReset i).reg 0 .dctlResetCause []) i = true) ∧
  (∀ (s : State) (rail : Nat),
    exec (.brownout rail) s = .next (s.keepAlways ((s.selfReset 2).setFld 0 .dctlResetCause [] 8 3 rail)) ∧
    exec .sysclkLoss s = .next (s.keepAlways (s.selfReset 3))) ∧
  (∀ s : State,
    let waits := s.pwr.causes = [] ∨ s.now < s.pwr.causeAt + 1000000 ∨ (s.pwr.causes.contains 4 = true ∧ s.tripClears = false)
    (waits → exec .selfResetEnd s = .next s) ∧
    (¬waits → exec .selfResetEnd s =
      .next (s.keepAlways (State.thermAlert { s with pwr := { s.pwr with low := false, causes := [] } })))) ∧
  (∀ s : State,
    exec .serdesRefclkLoss s = .next (s.keepAlways (State.eachDie { s with serdesLost := true } fun s d =>
      ((List.range 10).foldl (fun (s : State) p => s.pcsDown d p) s).settle d)) ∧
    exec .serdesRefclkReturn s = .next (s.keepAlways { s with serdesLost := false }) ∧
    exec .pcieRefclkLoss s = .next (s.keepAlways { s with
      pcieUp := false, pciePower := .d0, pwr := { s.pwr with link1 := false, pcieLost := true } })) ∧
  (∀ s : State, s.inReset = false →
    (s.pcieUp = false → exec (.pcieLinkUp false) s = .next (s.keep (State.msixFlush { s with
      pcieUp := true, pciePower := .d0, pwr := { s.pwr with pcieLost := false } }))) ∧
    (s.pcieUp = true → exec (.pcieLinkUp false) s = .next (s.keep s)) ∧
    (s.pwr.twoEnds = true → s.pcieLive = true →
      exec (.pcieLinkUp true) s = .next (s.keep { s with pwr := { s.pwr with link1 := true } })) ∧
    (s.pwr.twoEnds = false ∨ s.pcieLive = false → exec (.pcieLinkUp true) s = .next (s.keep s)) ∧
    (s.pcieUp = false → ∀ p : PowerState, exec (.pciePowerState p) s = .next (s.keep s)) ∧
    (s.pcieUp = true →
      exec (.pciePowerState .d0) s = .next (s.keep (State.msixFlush { s with pciePower := .d0 })) ∧
      exec (.pciePowerState .d3hot) s =
        .next (s.keep { s with pciePower := .d3hot, pwr := { s.pwr with link1 := false } }))) ∧
  (∀ (s : State) (d : Nat) (t : BitVec 9), s.has d = true →
    let u := s.setReg d .dctlTemp [] (t.toNat + 512)
    let v := (u.setFld 0 .dctlTherm [] 9 3 u.hottest).thermAlert
    (t.toInt < 135 → exec (.temperatureSample d t) s = .next (s.keepAlways v)) ∧
    (135 ≤ t.toInt → s.pwr.causes.contains 4 = false →
      exec (.temperatureSample d t) s = .next (s.keepAlways (v.selfReset 4).thermAlert))) ∧
  (∀ (s : State) (pins shiftIn : Nat),
    exec .tapReset s = .next (s.keepAlways (s.selectIr 2)) ∧
    exec (.extest pins shiftIn) s = .next (s.keepAlways (((s.selectIr 0).driveScan.scan pins shiftIn).driveScan)) ∧
    exec (.samplePreload pins shiftIn) s = .next (s.keepAlways ((s.selectIr 1).scan pins shiftIn)) ∧
    exec .idcode s = .next (s.keepAlways ((s.selectIr 2).emit (.tdo 32 (0x03680967 + s.fuses.stepping % 16 * 2 ^ 28)))) ∧
    exec .highz s = .next (s.keepAlways (((s.selectIr 3).emit (.scanOff true)).emit (.tdo 1 0))) ∧
    exec .clamp s = .next (s.keepAlways ((s.selectIr 4).driveScan.emit (.tdo 1 0)))) ∧
  (∀ (s : State) (code : Byte), exec (.bypass code) s = .next (s.keepAlways ((s.selectIr code.toNat).emit (.tdo 1 0)))) ∧
  (∀ (s : State) (pins shiftIn : Nat),
    (s.scan pins shiftIn).tap.boundary = shiftIn % 2 ^ (3 * (161 + 136 * s.fuses.dies)) ∧
    ∃ v : Nat, (s.scan pins shiftIn).out = s.out ++ [.tdo (3 * (161 + 136 * s.fuses.dies)) v]) ∧
  ∀ (s : State) (v : BitVec 96),
    let u := s.selectIr 0x20
    let w := u.emit (.tdo 96 (u.tap.dbgStatus))
    (u.tap.dbg ≠ none ∨ s.inReset = true → s.has (dbgDie v.toNat) = false →
      exec (.dbg v) s = .next (s.keepAlways w)) ∧
    (u.tap.dbg ≠ none ∨ s.inReset = true → s.has (dbgDie v.toNat) = true →
      exec (.dbg v) s = .next (s.keepAlways (w.settle (dbgDie v.toNat)))) ∧
    (u.tap.dbg = none → s.inReset = false → s.has (dbgDie v.toNat) = true → exec (.dbg v) s = .next (s.keepAlways
      ((State.tapRun { w with tap := { w.tap with dbg := some (v.toNat, (s.ring (dbgDie v.toNat) 3).cmds.length) } }).settle
        (dbgDie v.toNat))))

/-- Counters wrap with OVF, are cleared by block and latched for reading; the tally reader writes or skips a snapshot
at its tick; samples go to their rings and to the buffer; the enables obey their locks (R426 to R439). The capture in
one step, the random reload and the writer's rotation are the model's, log entries 21, 55 and 56. -/
def Obligations.CountersSnapshotsAndSamples : Prop :=
  (∀ (s : State) (d b i n : Nat), s.zeroedNow d b = true → s.count d b i n = s) ∧
  (∀ (s : State) (d b i n : Nat), d < 8 → s.chained d b i = false → s.zeroedNow d b = false →
    (s.count d b i n).ctr d b i = { val := ((s.ctr d b i).val + n) % 2 ^ 48
                                    ovf := (s.ctr d b i).ovf || decide (2 ^ 48 ≤ (s.ctr d b i).val + n) }) ∧
  (∀ (s : State) (d b : Nat), s.hostReaches d → b < 32 → ∃ u : State, exec (.counterZero d b) s = .next (s.keep u) ∧
    u.zeroedNow d b = true ∧ ∀ c i : Nat, i < 256 → u.ctr d c i = if c = b then {} else s.ctr d c i) ∧
  (∀ (s : State) (d b i : Nat), s.hostReaches d → b < 32 → i < ctrSize b →
    (∃ u : State, exec (.ovfClear d b i true) s = .next (s.keep u) ∧ ∀ c j : Nat, j < 256 →
      u.ctr d c j = if c = b then { s.ctr d c j with ovf := false } else s.ctr d c j) ∧
    exec (.ovfClear d b i false) s = .next (s.keep ((s.keepBlock d b).setCtr d b i { s.ctr d b i with ovf := false })) ∧
    (Store.sorted (s.die d).ctrs = true → ∀ j : Nat, j < 256 → (s.keepBlock d b).ctrSeen d b j = s.ctrSeen d b j)) ∧
  (∀ (s : State) (d : Nat), s.hostReaches d →
    let a := s.reg d .tlyReadAddr []
    let c := s.ctr d (bits a 0 5) (bits a 5 8)
    let v := if bits a 5 8 < ctrSize (bits a 0 5) then c.val + (if c.ovf then 2 ^ 48 else 0) else 0
    exec (.counterReadLatch d) s = .next (s.keep ((s.setLatch d (regOff .tlyReadLo []) v).emit
      (.readData (v % 2 ^ 32) false)))) ∧
  (∀ (s : State) (d c n : Nat) (e : SampleDue) (es : List SampleDue), s.live d → c < 48 →
    (s.core d c).sampleDue = e :: es → e.next = some n →
    let u := s.modCore d c fun y => { y with sampleDue := es }
    ((s.core d c).ring.length < 512 → exec (.instructionSample d c) s = .next (s.keep
      (((u.modCore d c fun y => { y with ring := y.ring ++ [s.sampleRec d c e n] }).count d ctrTLY 2).settle d))) ∧
    (512 ≤ (s.core d c).ring.length → exec (.instructionSample d c) s =
      .next (s.keep (((u.count d ctrTLY 3).event d .tly 2).settle d)))) ∧
  (∀ (s : State) (d c : Nat), s.live d → c < 48 → (s.core d c).sampleDue = [] →
    exec (.instructionSample d c) s = .next (s.keep (s.settle d))) ∧
  (∀ (s : State) (d : Nat), s.live d →
    let cfg := s.reg d .tlySnapCfg []
    let tick := (s.die d).tly.nextTick
    let n := 2 ^ s.reg d .tlySnapRing []
    let full := (s.reg d .tlySnapTail [] + 1) % n = s.reg d .tlySnapHead [] % n ∧ bit cfg 2 = false
    let u := s.modTly d fun t => { t with nextTick := if tick + s.snapInterval d < 2 ^ 72 then tick + s.snapInterval d else 0 }
    (bit cfg 0 = false ∨ reached (s.time d) tick = false → exec (.snapshotTick d) s = .next (s.keep s)) ∧
    (bit cfg 0 = true → reached (s.time d) tick = true → (s.die d).tly.snap = none →
      (full ∨ (s.die d).tly.cap.isSome = true → exec (.snapshotTick d) s = .next (s.keep (u.snapSkip d))) ∧
      (¬full → (s.die d).tly.cap = none → exec (.snapshotTick d) s = .next (s.keep (u.modTly d fun t => { t with
        cap := some { tick := tick, bytes := s.snapHeader d t.written tick, next := 0 }, skipped := 0 }))))) ∧
  (∀ (s : State) (d t : Nat) (c : Capture), (s.die d).tly.cap = some c → c.next < 27 →
    let bs := c.bytes ++ s.captureBlock d (s.die d).tly.written t (ctrBlocks.getD c.next 0)
    let u := s.modTly d fun x => { x with cap := none }
    (c.next < 26 → s.captureGo d t = s.modTly d fun x => { x with cap := some { c with bytes := bs, next := c.next + 1 } }) ∧
    (c.next = 26 → bit (s.reg d .tlySnapCfg []) 1 = true → s.pcieLive = true → s.captureGo d t =
      ((u.emit (.hostWrite d (s.snapAddr d + 8) (bs.drop 8))).emit (.hostWrite d (s.snapAddr d) (bs.take 8))).snapDone d
        (u.die d).tly.written) ∧
    (c.next = 26 → bit (s.reg d .tlySnapCfg []) 1 = true → s.pcieLive = false → s.captureGo d t =
      (u.setReg d .tlySnapCfg [] (putBit (s.reg d .tlySnapCfg []) 0 false)).event d .tly 4)) ∧
  (∀ (s : State) (d seq t b : Nat), (s.captureBlock d seq t b).length = 16 + 8 * ctrSize b ∧
    (s.snapHeader d seq t).length = 64) ∧
  64 + (ctrBlocks.map fun b => 16 + 8 * ctrSize b).sum = 6896 ∧
  (∀ (s : State) (d : Nat) (v : Dword), s.hostReaches d →
    let old := s.reg d .tlySnapCfg []
    let new := bits v.toNat 0 23
    let log2 := s.reg d .tlySnapRing []
    (bit old 0 = true → new ≠ old → new ≠ putBit old 0 false →
      exec (.snapshotEnable d v) s = .next (s.keep (s.violation d))) ∧
    (bit old 0 = true → new = putBit old 0 false →
      exec (.snapshotEnable d v) s = .next (s.keep (s.setReg d .tlySnapCfg [] new))) ∧
    (bit old 0 = false → bit new 0 = true → log2 = 0 ∨ 16 < log2 →
      exec (.snapshotEnable d v) s = .next (s.keep (s.violation d))) ∧
    (bit old 0 = false → bit new 0 = true → 0 < log2 → log2 ≤ 16 →
      ∃ u : State, exec (.snapshotEnable d v) s = .next (s.keep u) ∧ u.reg d .tlySnapCfg [] = new ∧
        u.reg d .tlySnapTail [] = 0 ∧ u.reg d .tlySnapHead [] = 0 ∧ u.reg d .tlySnapSeq [] = 0 ∧
        (u.die d).tly.nextTick = (s.time d / u.snapInterval d + 1) * u.snapInterval d)) ∧
  (∀ (s : State) (d : Nat), s.live d →
    let cfg := s.reg d .tlySmpRing []
    (bit cfg 6 = false ∨ (s.die d).tly.wrote = some s.now ∨ s.sampleSource d = none →
      exec (.sampleWrite d) s = .next (s.keep s)) ∧
    ∀ c : Nat, bit cfg 6 = true → (s.die d).tly.wrote ≠ some s.now → s.sampleSource d = some c →
      let n := 2 ^ bits cfg 0 5
      let tail := s.reg d .tlySmpTail []
      let need := (s.sampleHead d c).length / 2
      let free := n - 1 - (tail + n - s.reg d .tlySmpHead [] % n) % n
      (need ≤ n - tail → free < need → exec (.sampleWrite d) s = .next (s.keep s)) ∧
      (need ≤ n - tail → need ≤ free → bit cfg 5 = true → s.pcieLive = false → exec (.sampleWrite d) s =
        .next (s.keep ((s.setReg d .tlySmpRing [] (putBit cfg 6 false)).event d .tly 4))) ∧
      (need ≤ n - tail → need ≤ free → bit cfg 5 = true → s.pcieLive = true → exec (.sampleWrite d) s = .next (s.keep
        ((((s.smpPut d (tail % n) (s.sampleHead d c)).sampleTake d c).setReg d .tlySmpTail [] ((tail % n + need) % n)).modTly d
          fun t => { t with nextRing := (c + 1) % 49, wrote := some s.now })))) ∧
  (∀ (s : State) (d : Nat) (v : Dword), s.hostReaches d →
    let old := s.reg d .tlySmpRing []
    let new := bits v.toNat 0 7
    (bit old 6 = true → new ≠ old → new ≠ putBit old 6 false →
      exec (.sampleWriterEnable d v) s = .next (s.keep (s.violation d))) ∧
    (bit old 6 = false → bit new 6 = true → bits new 0 5 < 8 ∨ 24 < bits new 0 5 →
      exec (.sampleWriterEnable d v) s = .next (s.keep (s.violation d))) ∧
    (bit old 6 = false → bit new 6 = true → 8 ≤ bits new 0 5 → bits new 0 5 ≤ 24 → exec (.sampleWriterEnable d v) s =
      .next (s.keep (((s.setReg d .tlySmpRing [] new).setReg d .tlySmpTail [] 0).setReg d .tlySmpHead [] 0))) ∧
    (bit new 6 = false → bit old 6 = false ∨ new = putBit old 6 false →
      exec (.sampleWriterEnable d v) s = .next (s.keep (s.setReg d .tlySmpRing [] new)))) ∧
  ∀ (s : State) (d : Nat) (v : Dword), s.hostReaches d →
    let u := s.setReg d .tlyTagCfg [] (bits v.toNat 0 17)
    (bit v.toNat 0 = true → bit (s.reg d .tlyTagCfg []) 0 = false → exec (.tagEnable d v) s = .next (s.keep
      (u.modDsp d fun x => { x with lfsr := BitVec.ofNat 32 (max 1 (s.reg d .tlyTagSeed [])) }))) ∧
    (bit v.toNat 0 = false ∨ bit (s.reg d .tlyTagCfg []) 0 = true → exec (.tagEnable d v) s = .next (s.keep u))

/-- A grit command completes with MALFORMED, DENIED without the unlock, STATE, or takes its effect, journaled first;
forces end by their times (R446 to R455). Reserved bits and FLIP_SRAM's CLUSTER are the model's readings, log entries
36 and 70. -/
def Obligations.GritCommandsTakeTheirEffects : Prop :=
  (∀ (s : State) (i : Instr) (d op : Nat) (c : RCmd), gritCommand i = some (d, op) → s.gritHead d op c →
    (s.gritFormed d c = false → exec i s = .next (s.keep (s.gritDone d cMALFORMED))) ∧
    (s.gritFormed d c = true → bit s.scope 1 = false → exec i s = .next (s.keep (s.gritDone d cDENIED))) ∧
    (s.gritFormed d c = true → bit s.scope 1 = true → s.gritLegal d c = false →
      exec i s = .next (s.keep (s.gritDone d cSTATE))) ∧
    (s.gritFormed d c = true → bit s.scope 1 = true → s.gritLegal d c = true →
      let u := s.ringSet d 6 { c with started := true, since := s.now }
      let k := bits c.d0 8 6 * 16 + bits c.d0 14 4
      (op ≠ 7 → exec i s =
        .next (s.keep (((s.gritNote d op cDONE c.d0 c.d1 c.d2).gritEffect d c).ringDone d 6 cDONE))) ∧
      (op = 7 → bits c.d2 0 8 = fILLEGAL → exec i s =
        .next (s.keep (u.modDie d fun x => { x with gritForce := some (k, s.now) }))) ∧
      (op = 7 → bits c.d2 0 8 ≠ fILLEGAL → exec i s =
        .next (s.keep (u.modDie d fun x => { x with gritHw := some (k, bits c.d2 0 8) }))))) ∧
  (∀ (s : State) (d k code : Nat) (c : RCmd), d < 8 → (s.die d).gritHw = some (k, code) → s.ringCmd d 6 = some c →
    let u := s.modDie d fun x => { x with gritHw := none }
    let v := (u.gritNote d c.op cDONE c.d0 c.d1 c.d2).count d ctrGRT 6
    (64 ≤ s.journal.length → s.forceStrike d = s) ∧
    (s.journal.length < 64 → s.coreLive d (k / 16) = false → s.forceStrike d = u.gritDone d cSTATE) ∧
    (s.journal.length < 64 → s.coreLive d (k / 16) = true → code ≠ fLOCKSTEP →
      s.forceStrike d = (v.hwFault d k code).ringDone d 6 cDONE) ∧
    (s.journal.length < 64 → s.coreLive d (k / 16) = true → code = fLOCKSTEP →
      s.forceStrike d = (v.lockstepFault d k).ringDone d 6 cDONE)) ∧
  (∀ (s : State) (i : Instr) (d op : Nat), gritCommand i = some (d, op) → s.live d → 64 ≤ s.journal.length →
    exec i s = .next (s.keep s)) ∧
  (∀ (s : State) (d : Nat) (c : RCmd),
    (c.op = 1 → bits c.d2 0 16 = 0 → s.gritEffect d c = s.setReg d .grtDelay [bits c.d0 8 3] 0) ∧
    (c.op = 1 → bits c.d2 0 16 ≠ 0 → s.gritEffect d c =
      s.setReg d .grtDelay [bits c.d0 8 3] (bits c.d2 0 16 + if bit c.d0 11 then 2 ^ 16 else 0)) ∧
    (c.op = 2 → s.gritEffect d c = (s.setReg d .grtSluice [] (bits c.d2 0 32)).settle d) ∧
    (c.op = 3 → s.gritEffect d c = (s.setReg d .grtHold [] (bits c.d2 0 16)).settle d) ∧
    (c.op = 4 → s.gritEffect d c = s.setReg d .grtStretch [] (bits c.d2 0 10)) ∧
    (c.op = 5 → s.gritEffect d c =
      s.flipDram d (c.d1 / 128) (bits c.d2 28 3) (symbolMask (bits c.d2 0 20) (bits c.d2 20 8))) ∧
    (c.op = 6 → bit c.d2 15 = false → s.gritEffect d c =
      s.flipSram d (bits c.d0 8 4) (bits c.d0 12 4) c.d1 (2 ^ bits c.d2 0 7)) ∧
    (c.op = 6 → bit c.d2 15 = true → s.gritEffect d c =
      s.flipSram d (bits c.d0 8 4) (bits c.d0 12 4) c.d1 (2 ^ bits c.d2 0 7 ^^^ 2 ^ bits c.d2 8 7)) ∧
    (c.op = 8 → s.gritEffect d c = s.forceAxis (bits c.d0 8 3) (bits c.d2 0 32)) ∧
    (c.op = 9 → s.gritEffect d c = s.gritClear d) ∧
    (c.op = 10 → s.gritEffect d c = s.setReg d .grtLfsr [] (max 1 (bits c.d2 0 32)))) ∧
  (∀ (s : State) (d store cl unit e : Nat), d < 8 →
    ((s.flipSram d store cl unit e).die d).flips (unitKey store cl unit) = (s.die d).flips (unitKey store cl unit) ^^^ e) ∧
  (∀ (s : State) (d : Nat), d < 8 → d ≠ 0 →
    let u := s.gritClear d
    (∀ t : Nat, t < 4 → u.reg d .grtDelay [t] = 0) ∧ u.reg d .grtSluice [] = 0 ∧ u.reg d .grtHold [] = 0 ∧
      u.reg d .grtStretch [] = 0) ∧
  (∀ (s : State) (n us : Nat), us ≠ 0 → ((s.forceAxis n us).master n).forced = some (s.now + 1000 * us) ∧
    ((s.forceAxis n us).master n).cur.p = none ∧ ((s.forceAxis n us).master n).cur.st ≠ 1) ∧
  (∀ (s : State) (d k t : Nat), s.live d → (s.die d).gritForce = some (k, t) → s.journal.length < 64 →
    let u := s.modDie d fun x => { x with gritForce := none }
    ((s.core d (k / 16)).run = .stopped → exec (.forceFaultTimeout d) s = .next (s.keep (u.gritDone d cSTATE))) ∧
    ((s.core d (k / 16)).run ≠ .stopped → t + 1000000 ≤ s.now →
      exec (.forceFaultTimeout d) s = .next (s.keep (u.gritDone d cNOT_FOUND))) ∧
    ((s.core d (k / 16)).run ≠ .stopped → s.now < t + 1000000 → exec (.forceFaultTimeout d) s = .next (s.keep s))) ∧
  ∀ (s : State) (n t : Nat), s.inReset = false → 0 < n → n < 8 → (s.master n).forced = some t →
    (t ≤ s.now → exec (.forceHeldExpire n) s =
      .next (s.keep (s.setMaster n { s.master n with forced := none }))) ∧
    (s.now < t → exec (.forceHeldExpire n) s = .next (s.keep s))
end

