-- ==== Sys2Proof/Laws/Store.lean ====
section
/-! SUPPORT. Sparse tables and byte memories: reading after writing, and the canonical form. -/

namespace Sys2Proof.Machine

open Sys2Proof

variable {α : Type}

@[simp] theorem sget_sset_self (m : Store α) (k : Nat) (v : α) : sget (sset m k v) k = some v := by
  induction m with
  | nil => simp [sset, sget]
  | cons p m ih =>
    obtain ⟨k', v'⟩ := p
    simp only [sset]
    split
    · simp [sget]
    · rename_i h
      split
      · simp [sget]
      · rename_i h'
        simp [sget, h, h', ih]

theorem sget_sset_ne (m : Store α) {k j : Nat} (v : α) (h : j ≠ k) : sget (sset m k v) j = sget m j := by
  induction m with
  | nil =>
    have hk : ¬k = j := fun e => h e.symm
    simp [sset, sget, hk]
  | cons p m ih =>
    obtain ⟨k', v'⟩ := p
    have hk : ¬k = j := fun e => h e.symm
    simp only [sset]
    split
    · rename_i e
      subst e
      simp [sget, hk]
    · split
      · rename_i hlt
        simp only [sget, hk, if_false]
        split
        · have : ¬k' = j := by omega
          have : j < k' := by omega
          simp [*]
        · rfl
      · simp [sget, ih]

@[simp] theorem sgetD_sset_self (m : Store α) (k : Nat) (v d : α) : sgetD (sset m k v) k d = v := by
  simp [sgetD]

theorem sgetD_sset_ne (m : Store α) {k j : Nat} (v d : α) (h : j ≠ k) : sgetD (sset m k v) j d = sgetD m j d := by
  simp [sgetD, sget_sset_ne m v h]

/-! ### Sorted tables -/

/-- Every key of a table lies above a bound. -/
def Store.above (b : Nat) (m : Store α) : Prop := ∀ p ∈ m, b < p.1

theorem Store.sorted_cons {k : Nat} {v : α} {m : Store α} :
    Store.sorted ((k, v) :: m) = true ↔ Store.above k m ∧ Store.sorted m = true := by
  induction m generalizing k v with
  | nil => simp [Store.sorted, Store.above]
  | cons p m ih =>
    obtain ⟨k', v'⟩ := p
    simp only [Store.sorted, Bool.and_eq_true, decide_eq_true_eq]
    constructor
    · intro ⟨h, hs⟩
      refine ⟨?_, hs⟩
      intro q hq
      rcases List.mem_cons.mp hq with rfl | hq
      · exact h
      · exact Nat.lt_trans h ((ih.mp hs).1 q hq)
    · intro ⟨h, hs⟩
      exact ⟨h _ (List.mem_cons_self), hs⟩

theorem Store.above_sset {b k : Nat} {v : α} {m : Store α} (hb : b < k) (h : Store.above b m) :
    Store.above b (sset m k v) := by
  induction m with
  | nil =>
    intro p hp
    simp only [sset, List.mem_singleton] at hp
    subst hp
    exact hb
  | cons q m ih =>
    obtain ⟨k', v'⟩ := q
    have hm : Store.above b m := fun p hp => h p (List.mem_cons_of_mem _ hp)
    have hk' : b < k' := h _ List.mem_cons_self
    intro p hp
    simp only [sset] at hp
    split at hp
    · rcases List.mem_cons.mp hp with rfl | hp
      · exact hb
      · exact hm p hp
    · split at hp
      · rcases List.mem_cons.mp hp with rfl | hp
        · exact hb
        · exact h p hp
      · rcases List.mem_cons.mp hp with rfl | hp
        · exact hk'
        · exact ih hm p hp

theorem Store.sorted_sset (m : Store α) (k : Nat) (v : α) (h : Store.sorted m = true) :
    Store.sorted (sset m k v) = true := by
  induction m with
  | nil => simp [sset, Store.sorted]
  | cons q m ih =>
    obtain ⟨k', v'⟩ := q
    obtain ⟨ha, hs⟩ := Store.sorted_cons.mp h
    simp only [sset]
    split
    · rename_i e
      subst e
      exact Store.sorted_cons.mpr ⟨ha, hs⟩
    · split
      · rename_i hlt
        refine Store.sorted_cons.mpr ⟨?_, h⟩
        intro p hp
        rcases List.mem_cons.mp hp with rfl | hp
        · exact hlt
        · exact Nat.lt_trans hlt (ha p hp)
      · exact Store.sorted_cons.mpr ⟨Store.above_sset (by omega) ha, ih hs⟩

theorem Store.sorted_sdel (m : Store α) (k : Nat) (h : Store.sorted m = true) : Store.sorted (sdel m k) = true := by
  induction m with
  | nil => rfl
  | cons q m ih =>
    obtain ⟨k', v'⟩ := q
    obtain ⟨ha, hs⟩ := Store.sorted_cons.mp h
    by_cases e : k' = k
    · simpa [sdel, e] using ih hs
    · have : sdel ((k', v') :: m) k = (k', v') :: sdel m k := by simp [sdel, e]
      rw [this]
      exact Store.sorted_cons.mpr ⟨fun p hp => ha p ((List.mem_filter.mp hp).1), ih hs⟩

theorem sget_of_above {k : Nat} {m : Store α} (h : Store.above k m) : sget m k = none := by
  cases m with
  | nil => rfl
  | cons p m =>
    obtain ⟨k', v'⟩ := p
    have : k < k' := h _ List.mem_cons_self
    have e : ¬k' = k := by omega
    simp [sget, e, this]

theorem sget_sdel_self (m : Store α) (k : Nat) (h : Store.sorted m = true) : sget (sdel m k) k = none := by
  induction m with
  | nil => rfl
  | cons q m ih =>
    obtain ⟨k', v'⟩ := q
    obtain ⟨ha, hs⟩ := Store.sorted_cons.mp h
    by_cases e : k' = k
    · simpa [sdel, e] using ih hs
    · have : sdel ((k', v') :: m) k = (k', v') :: sdel m k := by simp [sdel, e]
      rw [this]
      by_cases hl : k < k'
      · simp [sget, e, hl]
      · simpa [sget, e, hl] using ih hs

theorem sget_sdel_ne (m : Store α) {k j : Nat} (hne : j ≠ k) (h : Store.sorted m = true) :
    sget (sdel m k) j = sget m j := by
  induction m with
  | nil => rfl
  | cons q m ih =>
    obtain ⟨k', v'⟩ := q
    obtain ⟨ha, hs⟩ := Store.sorted_cons.mp h
    by_cases e : k' = k
    · subst e
      have : sdel ((k', v') :: m) k' = sdel m k' := by simp [sdel]
      rw [this, ih hs]
      have hk : ¬k' = j := fun x => hne x.symm
      simp only [sget, hk, if_false]
      split
      · exact sget_of_above fun p hp => Nat.lt_trans ‹_› (ha p hp)
      · rfl
    · have : sdel ((k', v') :: m) k = (k', v') :: sdel m k := by simp [sdel, e]
      rw [this]
      simp [sget, ih hs]

/-! ### Byte memories -/

theorem Memory.wf_iff (m : List Host.Cell) :
    Memory.wf m = true ↔ Store.sorted m = true ∧ ∀ c ∈ m, c.2 ≠ 0 := by
  simp [Memory.wf]

theorem Memory.mem_sset {m : List Host.Cell} {a : Nat} {b : Byte} {c : Host.Cell} (h : c ∈ sset m a b) :
    c = (a, b) ∨ c ∈ m := by
  induction m with
  | nil => simpa [sset] using h
  | cons q m ih =>
    obtain ⟨k', v'⟩ := q
    simp only [sset] at h
    split at h
    · rcases List.mem_cons.mp h with h | h
      · exact .inl h
      · exact .inr (List.mem_cons_of_mem _ h)
    · split at h
      · rcases List.mem_cons.mp h with h | h
        · exact .inl h
        · exact .inr h
      · rcases List.mem_cons.mp h with h | h
        · exact .inr (h ▸ List.mem_cons_self)
        · rcases ih h with h | h
          · exact .inl h
          · exact .inr (List.mem_cons_of_mem _ h)

/-- A write of a byte keeps a memory's canonical form. -/
theorem Memory.wf_write (m : List Host.Cell) (a : Nat) (b : Byte) (h : Memory.wf m = true) :
    Memory.wf (Memory.write m a b) = true := by
  obtain ⟨hs, hz⟩ := (Memory.wf_iff m).mp h
  rw [Memory.wf_iff]
  unfold Memory.write
  split
  · exact ⟨Store.sorted_sdel m a hs, fun c hc => hz c ((List.mem_filter.mp hc).1)⟩
  · rename_i hb
    refine ⟨Store.sorted_sset m a b hs, fun c hc => ?_⟩
    rcases Memory.mem_sset hc with rfl | hc
    · exact hb
    · exact hz c hc

/-- A write of bytes keeps a memory's canonical form. -/
theorem Memory.wf_writeBytes (m : List Host.Cell) (a : Nat) (bs : List Byte) (h : Memory.wf m = true) :
    Memory.wf (Memory.writeBytes m a bs) = true := by
  induction bs generalizing m a with
  | nil => exact h
  | cons b bs ih => exact ih _ _ (Memory.wf_write m a b h)

theorem Memory.read_write_self (m : List Host.Cell) (a : Nat) (b : Byte) (h : Memory.wf m = true) :
    Memory.read (Memory.write m a b) a = b := by
  obtain ⟨hs, -⟩ := (Memory.wf_iff m).mp h
  unfold Memory.read Memory.write
  split
  · rename_i e
    simp [sgetD, sget_sdel_self m a hs, e]
  · simp

theorem Memory.read_write_ne (m : List Host.Cell) {a j : Nat} (b : Byte) (hne : j ≠ a) (h : Memory.wf m = true) :
    Memory.read (Memory.write m a b) j = Memory.read m j := by
  obtain ⟨hs, -⟩ := (Memory.wf_iff m).mp h
  unfold Memory.read Memory.write
  split
  · simp [sgetD, sget_sdel_ne m hne hs]
  · exact sgetD_sset_ne m b 0 hne

end Sys2Proof.Machine
end

