-- ==== Sys2Proof/Laws/State.lean ====
section
/-! SUPPORT. One lemma for each part of the state and each of its updates. -/

namespace Sys2Proof.Machine

open Sys2Proof

theorem sset_sset {α : Type} (m : Store α) (k : Nat) (u v : α) : sset (sset m k u) k v = sset m k v := by
  induction m with
  | nil => simp [sset]
  | cons p m ih =>
    obtain ⟨k', v'⟩ := p
    simp only [sset]
    split
    · simp [sset]
    · rename_i h
      split
      · simp [sset]
      · rename_i h'
        simp [sset, h, h', ih]

/-! ### Dies -/

@[simp] theorem State.die_modDie (s : State) {d : Nat} (f : Die → Die) (h : d < 8) :
    (s.modDie d f).die d = f (s.die d) := by
  simp [State.die, State.modDie, Vector.getD, h]

@[simp] theorem State.die_modDie_ne (s : State) {d e : Nat} (f : Die → Die) (h : e ≠ d) :
    (s.modDie d f).die e = s.die e := by
  have h' : ¬d = e := fun x => h x.symm
  simp [State.die, State.modDie, Vector.getD, h']

theorem State.has_lt {s : State} {d : Nat} (h : s.has d = true) : d < 8 := by
  simp [State.has] at h
  exact h.2

theorem State.modDie_modDie (s : State) (d : Nat) (f g : Die → Die) :
    (s.modDie d f).modDie d g = s.modDie d (fun x => g (f x)) := by
  by_cases h : d < 8
  · have : (s.modDie d f).die d = f (s.die d) := State.die_modDie s f h
    simp [State.modDie, State.die] at this ⊢
    rw [this]
  · have h' : 8 ≤ d := by omega
    simp [State.modDie, Vector.setIfInBounds_eq_of_size_le, h']

@[simp] theorem State.modDie_fuses (s : State) (d : Nat) (f : Die → Die) : (s.modDie d f).fuses = s.fuses := rfl
@[simp] theorem State.modDie_now (s : State) (d : Nat) (f : Die → Die) : (s.modDie d f).now = s.now := rfl
@[simp] theorem State.modDie_fab (s : State) (d : Nat) (f : Die → Die) : (s.modDie d f).fab = s.fab := rfl
@[simp] theorem State.modDie_journal (s : State) (d : Nat) (f : Die → Die) : (s.modDie d f).journal = s.journal := rfl
@[simp] theorem State.modDie_journalLost (s : State) (d : Nat) (f : Die → Die) : (s.modDie d f).journalLost = s.journalLost := rfl
@[simp] theorem State.modDie_pcieUp (s : State) (d : Nat) (f : Die → Die) : (s.modDie d f).pcieUp = s.pcieUp := rfl
@[simp] theorem State.modDie_pciePower (s : State) (d : Nat) (f : Die → Die) : (s.modDie d f).pciePower = s.pciePower := rfl
@[simp] theorem State.modDie_serdesLost (s : State) (d : Nat) (f : Die → Die) : (s.modDie d f).serdesLost = s.serdesLost := rfl
@[simp] theorem State.modDie_ans (s : State) (d : Nat) (f : Die → Die) : (s.modDie d f).ans = s.ans := rfl
@[simp] theorem State.modDie_wmk (s : State) (d : Nat) (f : Die → Die) : (s.modDie d f).wmk = s.wmk := rfl
@[simp] theorem State.modDie_ident (s : State) (d : Nat) (f : Die → Die) : (s.modDie d f).ident = s.ident := rfl
@[simp] theorem State.modDie_pwr (s : State) (d : Nat) (f : Die → Die) : (s.modDie d f).pwr = s.pwr := rfl
@[simp] theorem State.modDie_tap (s : State) (d : Nat) (f : Die → Die) : (s.modDie d f).tap = s.tap := rfl
@[simp] theorem State.modDie_ax (s : State) (d : Nat) (f : Die → Die) : (s.modDie d f).ax = s.ax := rfl
@[simp] theorem State.modDie_mram (s : State) (d : Nat) (f : Die → Die) : (s.modDie d f).mram = s.mram := rfl
@[simp] theorem State.modDie_out (s : State) (d : Nat) (f : Die → Die) : (s.modDie d f).out = s.out := rfl
@[simp] theorem State.modDie_draws (s : State) (d : Nat) (f : Die → Die) : (s.modDie d f).draws = s.draws := rfl
@[simp] theorem State.modDie_stamps (s : State) (d : Nat) (f : Die → Die) : (s.modDie d f).stamps = s.stamps := rfl
@[simp] theorem State.modDie_pending (s : State) (d : Nat) (f : Die → Die) : (s.modDie d f).pending = s.pending := rfl

@[simp] theorem State.emit_fuses (s : State) (o : Out) : (s.emit o).fuses = s.fuses := rfl
@[simp] theorem State.emit_now (s : State) (o : Out) : (s.emit o).now = s.now := rfl
@[simp] theorem State.emit_fab (s : State) (o : Out) : (s.emit o).fab = s.fab := rfl
@[simp] theorem State.emit_journal (s : State) (o : Out) : (s.emit o).journal = s.journal := rfl
@[simp] theorem State.emit_journalLost (s : State) (o : Out) : (s.emit o).journalLost = s.journalLost := rfl
@[simp] theorem State.emit_pcieUp (s : State) (o : Out) : (s.emit o).pcieUp = s.pcieUp := rfl
@[simp] theorem State.emit_pciePower (s : State) (o : Out) : (s.emit o).pciePower = s.pciePower := rfl
@[simp] theorem State.emit_serdesLost (s : State) (o : Out) : (s.emit o).serdesLost = s.serdesLost := rfl
@[simp] theorem State.emit_ans (s : State) (o : Out) : (s.emit o).ans = s.ans := rfl
@[simp] theorem State.emit_wmk (s : State) (o : Out) : (s.emit o).wmk = s.wmk := rfl
@[simp] theorem State.emit_ident (s : State) (o : Out) : (s.emit o).ident = s.ident := rfl
@[simp] theorem State.emit_pwr (s : State) (o : Out) : (s.emit o).pwr = s.pwr := rfl
@[simp] theorem State.emit_tap (s : State) (o : Out) : (s.emit o).tap = s.tap := rfl
@[simp] theorem State.emit_ax (s : State) (o : Out) : (s.emit o).ax = s.ax := rfl
@[simp] theorem State.emit_mram (s : State) (o : Out) : (s.emit o).mram = s.mram := rfl
@[simp] theorem State.emit_draws (s : State) (o : Out) : (s.emit o).draws = s.draws := rfl
@[simp] theorem State.emit_stamps (s : State) (o : Out) : (s.emit o).stamps = s.stamps := rfl
@[simp] theorem State.emit_pending (s : State) (o : Out) : (s.emit o).pending = s.pending := rfl
@[simp] theorem State.emit_dies (s : State) (o : Out) : (s.emit o).dies = s.dies := rfl

@[simp] theorem State.modAx_fuses (s : State) (f : Axes → Axes) : (s.modAx f).fuses = s.fuses := rfl
@[simp] theorem State.modAx_now (s : State) (f : Axes → Axes) : (s.modAx f).now = s.now := rfl
@[simp] theorem State.modAx_fab (s : State) (f : Axes → Axes) : (s.modAx f).fab = s.fab := rfl
@[simp] theorem State.modAx_journal (s : State) (f : Axes → Axes) : (s.modAx f).journal = s.journal := rfl
@[simp] theorem State.modAx_journalLost (s : State) (f : Axes → Axes) : (s.modAx f).journalLost = s.journalLost := rfl
@[simp] theorem State.modAx_pcieUp (s : State) (f : Axes → Axes) : (s.modAx f).pcieUp = s.pcieUp := rfl
@[simp] theorem State.modAx_pciePower (s : State) (f : Axes → Axes) : (s.modAx f).pciePower = s.pciePower := rfl
@[simp] theorem State.modAx_serdesLost (s : State) (f : Axes → Axes) : (s.modAx f).serdesLost = s.serdesLost := rfl
@[simp] theorem State.modAx_ans (s : State) (f : Axes → Axes) : (s.modAx f).ans = s.ans := rfl
@[simp] theorem State.modAx_wmk (s : State) (f : Axes → Axes) : (s.modAx f).wmk = s.wmk := rfl
@[simp] theorem State.modAx_ident (s : State) (f : Axes → Axes) : (s.modAx f).ident = s.ident := rfl
@[simp] theorem State.modAx_pwr (s : State) (f : Axes → Axes) : (s.modAx f).pwr = s.pwr := rfl
@[simp] theorem State.modAx_tap (s : State) (f : Axes → Axes) : (s.modAx f).tap = s.tap := rfl
@[simp] theorem State.modAx_mram (s : State) (f : Axes → Axes) : (s.modAx f).mram = s.mram := rfl
@[simp] theorem State.modAx_out (s : State) (f : Axes → Axes) : (s.modAx f).out = s.out := rfl
@[simp] theorem State.modAx_draws (s : State) (f : Axes → Axes) : (s.modAx f).draws = s.draws := rfl
@[simp] theorem State.modAx_stamps (s : State) (f : Axes → Axes) : (s.modAx f).stamps = s.stamps := rfl
@[simp] theorem State.modAx_pending (s : State) (f : Axes → Axes) : (s.modAx f).pending = s.pending := rfl
@[simp] theorem State.modAx_dies (s : State) (f : Axes → Axes) : (s.modAx f).dies = s.dies := rfl

@[simp] theorem State.modAns_fuses (s : State) (f : Answer → Answer) : (s.modAns f).fuses = s.fuses := rfl
@[simp] theorem State.modAns_now (s : State) (f : Answer → Answer) : (s.modAns f).now = s.now := rfl
@[simp] theorem State.modAns_fab (s : State) (f : Answer → Answer) : (s.modAns f).fab = s.fab := rfl
@[simp] theorem State.modAns_journal (s : State) (f : Answer → Answer) : (s.modAns f).journal = s.journal := rfl
@[simp] theorem State.modAns_journalLost (s : State) (f : Answer → Answer) : (s.modAns f).journalLost = s.journalLost := rfl
@[simp] theorem State.modAns_pcieUp (s : State) (f : Answer → Answer) : (s.modAns f).pcieUp = s.pcieUp := rfl
@[simp] theorem State.modAns_pciePower (s : State) (f : Answer → Answer) : (s.modAns f).pciePower = s.pciePower := rfl
@[simp] theorem State.modAns_serdesLost (s : State) (f : Answer → Answer) : (s.modAns f).serdesLost = s.serdesLost := rfl
@[simp] theorem State.modAns_wmk (s : State) (f : Answer → Answer) : (s.modAns f).wmk = s.wmk := rfl
@[simp] theorem State.modAns_ident (s : State) (f : Answer → Answer) : (s.modAns f).ident = s.ident := rfl
@[simp] theorem State.modAns_pwr (s : State) (f : Answer → Answer) : (s.modAns f).pwr = s.pwr := rfl
@[simp] theorem State.modAns_tap (s : State) (f : Answer → Answer) : (s.modAns f).tap = s.tap := rfl
@[simp] theorem State.modAns_ax (s : State) (f : Answer → Answer) : (s.modAns f).ax = s.ax := rfl
@[simp] theorem State.modAns_mram (s : State) (f : Answer → Answer) : (s.modAns f).mram = s.mram := rfl
@[simp] theorem State.modAns_out (s : State) (f : Answer → Answer) : (s.modAns f).out = s.out := rfl
@[simp] theorem State.modAns_draws (s : State) (f : Answer → Answer) : (s.modAns f).draws = s.draws := rfl
@[simp] theorem State.modAns_stamps (s : State) (f : Answer → Answer) : (s.modAns f).stamps = s.stamps := rfl
@[simp] theorem State.modAns_pending (s : State) (f : Answer → Answer) : (s.modAns f).pending = s.pending := rfl
@[simp] theorem State.modAns_dies (s : State) (f : Answer → Answer) : (s.modAns f).dies = s.dies := rfl

@[simp] theorem State.emit_out (s : State) (o : Out) : (s.emit o).out = s.out ++ [o] := rfl

@[simp] theorem State.emit_die (s : State) (o : Out) (d : Nat) : (s.emit o).die d = s.die d := rfl

@[simp] theorem State.emit_reg (s : State) (o : Out) (d : Nat) (r : RegId) (ix : List Nat) :
    (s.emit o).reg d r ix = s.reg d r ix := rfl

@[simp] theorem State.keep_die (s t : State) (d : Nat) : (s.keep t).die d = t.die d := rfl

@[simp] theorem State.keep_fuses (s t : State) : (s.keep t).fuses = s.fuses := rfl
@[simp] theorem State.keep_now (s t : State) : (s.keep t).now = s.now := rfl
@[simp] theorem State.keep_fab (s t : State) : (s.keep t).fab = t.fab := rfl
@[simp] theorem State.keep_journal (s t : State) : (s.keep t).journal = t.journal := rfl
@[simp] theorem State.keep_journalLost (s t : State) : (s.keep t).journalLost = t.journalLost := rfl
@[simp] theorem State.keep_pcieUp (s t : State) : (s.keep t).pcieUp = t.pcieUp := rfl
@[simp] theorem State.keep_pciePower (s t : State) : (s.keep t).pciePower = t.pciePower := rfl
@[simp] theorem State.keep_serdesLost (s t : State) : (s.keep t).serdesLost = t.serdesLost := rfl
@[simp] theorem State.keep_ans (s t : State) : (s.keep t).ans = t.ans := rfl
@[simp] theorem State.keep_wmk (s t : State) : (s.keep t).wmk = t.wmk := rfl
@[simp] theorem State.keep_ident (s t : State) : (s.keep t).ident = t.ident := rfl
@[simp] theorem State.keep_pwr (s t : State) : (s.keep t).pwr = t.pwr := rfl
@[simp] theorem State.keep_tap (s t : State) : (s.keep t).tap = t.tap := rfl
@[simp] theorem State.keep_ax (s t : State) : (s.keep t).ax = t.ax := rfl
@[simp] theorem State.keep_mram (s t : State) : (s.keep t).mram = t.mram := rfl
@[simp] theorem State.keep_out (s t : State) : (s.keep t).out = t.out := rfl
@[simp] theorem State.keep_draws (s t : State) : (s.keep t).draws = t.draws := rfl
@[simp] theorem State.keep_stamps (s t : State) : (s.keep t).stamps = t.stamps := rfl
@[simp] theorem State.keep_pending (s t : State) : (s.keep t).pending = s.pending := rfl
@[simp] theorem State.keep_dies (s t : State) : (s.keep t).dies = t.dies := rfl

@[simp] theorem State.keep_self (s : State) : s.keep s = s := rfl

end Sys2Proof.Machine
end

