-- ==== Sys2Proof/Laws/Ops.lean ====
section
/-! SUPPORT. What each shape of command answers, and all that each shared operation of Machine/Ops.lean can change. -/

namespace Sys2Proof.Machine

open Sys2Proof

/-! ### Shapes -/

theorem cmd_awake {s : State} (h : s.inReset = false) (f : State → State) : cmd s f = .next (s.keep (f s)) := by
  simp [cmd, h, State.keep]

theorem cmd_reset {s : State} (h : s.inReset = true) (f : State → State) : cmd s f = .next s := by
  simp [cmd, h]

theorem onDie_live {s : State} {d : Nat} (h : s.live d) (f : State → State) : onDie s d f = .next (s.keep (f s)) := by
  simp [onDie, h.1, cmd_awake h.2]

theorem onDieS_live {s : State} {d : Nat} (h : s.live d) (f : State → State) :
    onDieS s d f = .next (s.keep ((f s).settle d)) := onDie_live h _

theorem onPort_live {s : State} {d p : Nat} {ok : Bool} (h : s.live d) (hok : ok = true) (f : State → State) :
    onPort s d p ok f = .next (s.keep ((f s).settle d)) := by
  simp [onPort, h.1, hok, cmd_awake h.2]

theorem onThread_awake {s : State} {t : Tid} (h : tidOk t s = true) (ha : s.inReset = false) (f : State → State) :
    onThread s t f = .next (s.keep (f s)) := by
  simp [onThread, h, cmd_awake ha]

theorem onDie_absent {s : State} {d : Nat} (h : s.has d = false) (f : State → State) : onDie s d f = .fault .absent := by
  simp [onDie, h]

theorem onHost_reached {s : State} {d : Nat} {ok : Bool} (h : s.hostReaches d) (hok : ok = true) (f : State → State) :
    onHost s d ok f = .next (s.keep (f s)) := by
  simp [onHost, cmd_awake h.1, h.2, hok]

theorem onHostS_reached {s : State} {d : Nat} {ok : Bool} (h : s.hostReaches d) (hok : ok = true) (f : State → State) :
    onHostS s d ok f = .next (s.keep ((f s).settle d)) := onHost_reached h hok _

theorem onHostRead_reached {s : State} {d : Nat} {ok : Bool} (h : s.hostReaches d) (hok : ok = true) (f : State → State) :
    onHostRead s d ok f = .next (s.keep (f s)) := by
  simp [onHostRead, cmd_awake h.1, h.2, hok]

/-- A host write to a die that the variant lacks or that has no route does nothing but count on die 0 (R2, R379). -/
theorem onHost_unreached {s : State} {d : Nat} (ok : Bool) (h : s.inReset = false) (hr : s.reach 0 d = false)
    (f : State → State) : onHost s d ok f = .next (s.keep (s.violation 8)) := by
  simp [onHost, cmd_awake h, hr]

theorem onHostRead_unreached {s : State} {d : Nat} (ok : Bool) (h : s.inReset = false) (hr : s.reach 0 d = false)
    (f : State → State) : onHostRead s d ok f = .next (s.keep ((s.violation 8).emit (.readData 0 false))) := by
  simp [onHostRead, cmd_awake h, hr]

/-! ### Registers -/

@[simp] theorem State.reg_setReg (s : State) {d : Nat} (r : RegId) (ix : List Nat) (v : Nat) (h : d < 8) :
    (s.setReg d r ix v).reg d r ix = v := by
  simp [State.reg, State.setReg, h]

theorem State.reg_setReg_ne (s : State) {d e : Nat} {r q : RegId} {ix jx : List Nat} (v : Nat)
    (h : e ≠ d ∨ regOff q jx ≠ regOff r ix) : (s.setReg d r ix v).reg e q jx = s.reg e q jx := by
  by_cases he : e = d
  · subst he
    by_cases h8 : e < 8
    · have := h.resolve_left (by simp)
      simp [State.reg, State.setReg, h8, sgetD_sset_ne _ _ _ this]
    · have h' : 8 ≤ e := by omega
      simp [State.reg, State.setReg, State.modDie, State.die, Vector.setIfInBounds_eq_of_size_le, h']
  · simp [State.reg, State.setReg, he]

/-! ### Counters: a count changes a die's counters and nothing else -/

theorem State.setCtr_eq (s : State) (d b i : Nat) (c : Ctr) :
    s.setCtr d b i c = s.modDie d fun x => { x with ctrs := sset x.ctrs (b * 256 + i) c } := rfl

theorem State.modDie_id (s : State) (d : Nat) (f : Die → Die) (h : f (s.die d) = s.die d) : s.modDie d f = s := by
  have : s.dies.setIfInBounds d (s.die d) = s.dies := by
    apply Vector.ext
    intro i hi
    rw [Vector.getElem_setIfInBounds hi]
    split
    · rename_i e
      subst e
      simp [State.die, Vector.getD, hi]
    · rfl
  simp [State.modDie, h, this]

theorem State.count_spec (s : State) (d b i n : Nat) :
    ∃ cs, s.count d b i n = s.modDie d fun x => { x with ctrs := cs } := by
  simp only [State.count, State.setCtr_eq]
  split
  · exact ⟨(s.die d).ctrs, (s.modDie_id d _ rfl).symm⟩
  split
  · split
    · exact ⟨(s.die d).ctrs, (s.modDie_id d _ rfl).symm⟩
    · rw [State.modDie_modDie]
      by_cases h : d < 8
      · exact ⟨_, by simp [State.modDie]; rfl⟩
      · exact ⟨[], by simp [State.modDie, Vector.setIfInBounds_eq_of_size_le, Nat.le_of_not_lt h]⟩
  · exact ⟨_, rfl⟩

end Sys2Proof.Machine
end

