-- ==== Sys2Proof/Laws/Issue.lean ====
section
/-! SUPPORT. How a thread's command comes to run its instruction, and all that an instruction which is done can touch
besides its own effect. -/

namespace Sys2Proof.Machine

open Sys2Proof

/-- A thread's command issues the instruction that it names. -/
theorem exec_namesIssue {c : Instr} {t : Tid} {i : CoreInstr} (s : State) (h : namesIssue c = some (t, i)) :
    exec c s = onIssue s t i := by
  cases c <;> simp only [namesIssue, reduceCtorEq, Option.some.injEq, Prod.mk.injEq] at h <;>
    (obtain ⟨rfl, rfl⟩ := h; rfl)

theorem State.readUnit_whole {s : State} {d store cl u : Nat} {q : Bool}
    (hp : s.unitPoison d store cl u q = false) (h : (s.die d).flips (unitKey store cl u) = 0) :
    s.readUnit d store cl u q = s := by
  have : flipCount 0 = 0 := by decide
  simp [State.readUnit, hp, h, this]

theorem State.issues.run {s : State} {t : Tid} {i : CoreInstr} (h : s.issues t i) :
    onIssue s t i = .next (s.keep (s.run t.die (tkey t) i true)) := by
  have hz : flipCount 0 = 0 := by decide
  obtain ⟨w, hf, hw⟩ : ∃ w, s.fetch t.die (tkey t) = some w ∧ decodeWord w = some i :=
    ⟨_, by simp [State.fetch, Die.bad, h.whole, hz], h.word⟩
  rw [onIssue, onThread_awake h.exists_ h.awake]
  simp [State.issue, h.ready, h.single, hf, h.unforced, hw, State.readUnit_whole rfl h.whole]

theorem State.issues.exec {s : State} {c : Instr} {t : Tid} {i : CoreInstr} (h : s.issues t i)
    (hc : namesIssue c = some (t, i)) : exec c s = .next (s.keep (s.run t.die (tkey t) i true)) := by
  rw [exec_namesIssue s hc, h.run]

/-! ### What issuing touches -/

/-- Only counters, cores, threads and deadlock counts of a die differ, and the free choices drawn. -/
def State.slim (s : State) (d : Nat) (s' : State) : Prop :=
  ∃ n cs co cl th, s' = { s with draws := n }.modDie d fun x =>
    { x with ctrs := cs, cores := co, clusterSince := cl, threads := th }

theorem State.slim_refl (s : State) (d : Nat) : s.slim d s :=
  ⟨s.draws, (s.die d).ctrs, (s.die d).cores, (s.die d).clusterSince, (s.die d).threads, (State.modDie_id _ d _ rfl).symm⟩

theorem State.slim_trans {s t u : State} {d : Nat} (h : s.slim d t) (h' : t.slim d u) : s.slim d u := by
  obtain ⟨n, cs, co, cl, th, rfl⟩ := h
  obtain ⟨n', cs', co', cl', th', rfl⟩ := h'
  exact ⟨n', cs', co', cl', th', State.modDie_modDie { s with draws := n' } d
    (fun x => { x with ctrs := cs, cores := co, clusterSince := cl, threads := th }) fun x =>
      { x with ctrs := cs', cores := co', clusterSince := cl', threads := th' }⟩

theorem State.slim_setThr (s : State) (d k : Nat) (y : Thread) : s.slim d (s.setThr d k y) :=
  ⟨s.draws, (s.die d).ctrs, (s.die d).cores, (s.die d).clusterSince, _, rfl⟩

theorem State.slim_modCore (s : State) (d c : Nat) (f : Core → Core) : s.slim d (s.modCore d c f) :=
  ⟨s.draws, (s.die d).ctrs, _, (s.die d).clusterSince, (s.die d).threads, rfl⟩

theorem State.slim_count (s : State) (d b i n : Nat) : s.slim d (s.count d b i n) := by
  obtain ⟨cs, h⟩ := s.count_spec d b i n
  rw [h]
  exact ⟨s.draws, cs, (s.die d).cores, (s.die d).clusterSince, (s.die d).threads, rfl⟩

theorem State.slim_stir (s : State) (d k : Nat) : s.slim d (s.stir d k) := by
  unfold State.stir
  simp only []
  generalize hu : (if (s.core d (k / 16)).deadSince.isSome = true then _ else s) = u
  have h : s.slim d u := by
    rw [← hu]
    split
    · exact s.slim_modCore d _ _
    · exact s.slim_refl d
  split
  · exact State.slim_trans h ⟨u.draws, (u.die d).ctrs, (u.die d).cores, _, (u.die d).threads, rfl⟩
  · exact h

theorem State.slim_sampleNext (s : State) (d k : Nat) : s.slim d (s.sampleNext d k) := by
  unfold State.sampleNext
  split
  · exact s.slim_refl d
  · exact s.slim_modCore d _ _

theorem State.slim_choose (s : State) (d n : Nat) : s.slim d (s.choose n).2 :=
  ⟨s.draws + 1, (s.die d).ctrs, (s.die d).cores, (s.die d).clusterSince, (s.die d).threads, (State.modDie_id _ d _ rfl).symm⟩

theorem State.slim_qualify (s : State) (d k ev pc : Nat) (slot : Option Nat) (at_ : Nat) :
    s.slim d (s.qualify d k ev pc slot at_) := by
  unfold State.qualify
  simp only []
  split
  · generalize (if (s.core d (k / 16)).countdown = 0 then _ else (s.core d (k / 16)).countdown) = left
    split
    · exact s.slim_modCore d _ _
    · generalize hr : (if bit _ 4 = true then s.choose _ else _) = r
      have h : s.slim d r.2 := by
        rw [← hr]
        split
        · exact s.slim_choose d _
        · exact s.slim_refl d
      exact State.slim_trans h (State.slim_modCore _ d _ _)
  · exact s.slim_refl d

theorem State.slim_issued (s s0 : State) (d k : Nat) (i : CoreInstr) : s.slim d (s.issued s0 d k i) := by
  unfold State.issued
  simp only []
  have h1 := s.slim_sampleNext d k
  have h4 : ∀ (f : Thread → Thread) (pc : Nat) (o : Option Nat) (a : Nat),
      s.slim d ((((s.sampleNext d k).modThr d k f).countCore d (k / 16) 0).qualify d k 0 pc o a) := fun f pc o a =>
    State.slim_trans (State.slim_trans (State.slim_trans h1 (State.slim_setThr _ d k _)) (State.slim_count _ d _ _ _))
      (State.slim_qualify _ d k _ _ _ _)
  split
  · exact h4 _ _ _ _
  · exact State.slim_trans (h4 _ _ _ _) (State.slim_qualify _ d k _ _ _ _)

/-- The clock of a die's cores is the same in the states that differ so. -/
theorem State.slotCycle_slim {s s' : State} {d : Nat} (k : Nat) (h : s.slim d s') : s'.slotCycle d k = s.slotCycle d k := by
  obtain ⟨n, cs, co, cl, th, rfl⟩ := h
  have e : (({ s with draws := n }.modDie d fun x =>
      { x with ctrs := cs, cores := co, clusterSince := cl, threads := th }).die d).coreStart = (s.die d).coreStart := by
    by_cases h8 : d < 8
    · rw [State.die_modDie _ _ h8]
      rfl
    · simp [State.modDie, State.die, Vector.setIfInBounds_eq_of_size_le, Nat.le_of_not_lt h8]
  unfold State.slotCycle
  rw [e]
  rfl

/-! ### The threads through it -/

theorem State.threads_count (s : State) (d b i n : Nat) : ((s.count d b i n).die d).threads = (s.die d).threads := by
  obtain ⟨cs, h⟩ := s.count_spec d b i n
  rw [h]
  by_cases h8 : d < 8
  · simp [h8]
  · simp [State.modDie, State.die, Vector.setIfInBounds_eq_of_size_le, Nat.le_of_not_lt h8]

theorem State.threads_modDie (s : State) (d : Nat) (f : Die → Die) (h : (f (s.die d)).threads = (s.die d).threads) :
    ((s.modDie d f).die d).threads = (s.die d).threads := by
  by_cases h8 : d < 8
  · rw [State.die_modDie _ _ h8, h]
  · simp [State.modDie, State.die, Vector.setIfInBounds_eq_of_size_le, Nat.le_of_not_lt h8]

theorem State.threads_modCore (s : State) (d c : Nat) (f : Core → Core) :
    ((s.modCore d c f).die d).threads = (s.die d).threads := s.threads_modDie d _ rfl

theorem State.threads_stir (s : State) (d k : Nat) : ((s.stir d k).die d).threads = (s.die d).threads := by
  unfold State.stir
  simp only []
  generalize hu : (if (s.core d (k / 16)).deadSince.isSome = true then _ else s) = u
  have h : (u.die d).threads = (s.die d).threads := by
    rw [← hu]
    split
    · exact s.threads_modCore d _ _
    · rfl
  split
  · rw [u.threads_modDie d _ rfl, h]
  · exact h

theorem State.threads_sampleNext (s : State) (d k : Nat) : ((s.sampleNext d k).die d).threads = (s.die d).threads := by
  unfold State.sampleNext
  split
  · rfl
  · exact s.threads_modCore d _ _

theorem State.threads_qualify (s : State) (d k ev pc : Nat) (slot : Option Nat) (at_ : Nat) :
    ((s.qualify d k ev pc slot at_).die d).threads = (s.die d).threads := by
  unfold State.qualify
  simp only []
  split
  · generalize (if (s.core d (k / 16)).countdown = 0 then _ else (s.core d (k / 16)).countdown) = left
    split
    · exact s.threads_modCore d _ _
    · rw [State.threads_modCore]
      split <;> rfl
  · rfl

/-- A thread's mark that it has issued, as `slotUsed` writes it. -/
theorem State.slotUsed_useSlot (s s0 : State) (d k : Nat) (x : Thread) (n : Nat) (h : s.slotCycle d k = s0.slotCycle d k) :
    { x.useSlot (s0.slotCycle d k) n with issued := true } = s.slotUsed d k { x with lag := n } := by
  unfold State.slotUsed State.inSlot Thread.useSlot
  rw [h]
  cases s0.slotCycle d k <;> rfl

theorem State.threads_issued (s s0 : State) {d : Nat} (k : Nat) (i : CoreInstr) (h8 : d < 8)
    (hs : s.slotCycle d k = s0.slotCycle d k) :
    ((s.issued s0 d k i).die d).threads = sset (s.die d).threads k (s.slotUsed d k { s.thr d k with lag := i.rounds }) := by
  rw [← State.slotUsed_useSlot s s0 d k (s.thr d k) i.rounds hs]
  have e : (((s.sampleNext d k).modThr d k fun y => { y.useSlot (s0.slotCycle d k) i.rounds with issued := true }).die d).threads =
      sset (s.die d).threads k { (s.thr d k).useSlot (s0.slotCycle d k) i.rounds with issued := true } := by
    simp [State.modThr, State.setThr, h8, State.threads_sampleNext, State.thr]
  unfold State.issued
  simp only []
  split <;> simp only [State.threads_qualify, State.countCore, State.threads_count] <;> exact e

/-- What issuing adds to a state is a thread's mark, samples, counters and deadlock counts. -/
theorem State.issued_only (s s0 : State) {d : Nat} (k : Nat) (i : CoreInstr) (h8 : d < 8)
    (hs : s.slotCycle d k = s0.slotCycle d k) :
    ∃ n cs co cl, s.issued s0 d k i = s.onlyThread d k n cs co cl { s.thr d k with lag := i.rounds } := by
  obtain ⟨n, cs, co, cl, th, hx⟩ := s.slim_issued s0 d k i
  refine ⟨n, cs, co, cl, ?_⟩
  have h2 := s.threads_issued s0 k i h8 hs
  rw [hx] at h2 ⊢
  rw [State.die_modDie _ _ h8] at h2
  subst h2
  rfl

/-- A state in which only one thread and what issuing touches has changed, changed so once more. -/
theorem State.onlyThread_slim {s s1 : State} {d : Nat} (k n : Nat) (cs : Store Ctr) (co : Store Core) (cl : Store Nat)
    (y : Thread) {z : Thread} (h8 : d < 8) (h : s.slim d s1) (ht : (s1.die d).threads = sset (s.die d).threads k z) :
    s1.onlyThread d k n cs co cl y = s.onlyThread d k n cs co cl y := by
  have hc := State.slotCycle_slim k h
  obtain ⟨n1, cs1, co1, cl1, th, rfl⟩ := h
  rw [State.die_modDie _ _ h8] at ht
  subst ht
  have hu : ∀ s2 : State, s2.slotCycle d k = s.slotCycle d k → s2.slotUsed d k y = s.slotUsed d k y := fun s2 h => by
    unfold State.slotUsed State.inSlot
    rw [h]
  unfold State.onlyThread State.changedThread
  rw [hu _ hc]
  generalize s.slotUsed d k y = v
  refine (State.modDie_modDie { s with draws := n } d
    (fun x => { x with ctrs := cs1, cores := co1, clusterSince := cl1, threads := sset (s.die d).threads k z })
    fun x => { x with ctrs := cs, cores := co, clusterSince := cl, threads := sset x.threads k v }).trans ?_
  have e : { s with draws := n }.die d = s.die d := rfl
  simp only [State.modDie, e, sset_sset]

/-- An instruction that is done, after whatever else it has changed, leaves its thread retired. -/
theorem State.run_done_after {s s' : State} {d k : Nat} {i : CoreInstr} {pc : Option Nat} (h8 : d < 8)
    (hr : (s.thr d k).rep = false) (hset : i.settles = false) (hs : s'.slotCycle d k = s.slotCycle d k)
    (he : s.effect d k i = .done s' pc) :
    ∃ n cs co cl, s.run d k i true =
      s'.onlyThread d k n cs co cl ((s'.thr d k).after (pc.getD ((s.thr d k).pc + 1)) i.rounds) := by
  simp only [State.run, he, State.finish, hr, hset, Bool.false_eq_true, if_false, if_true]
  generalize hs1 : State.modThr (s'.stir d k) d k _ = s1
  have hthr : (s'.stir d k).thr d k = s'.thr d k := by simp [State.thr, State.threads_stir]
  have ht : (s1.die d).threads = sset (s'.die d).threads k ((s'.thr d k).retire (pc.getD ((s.thr d k).pc + 1))) := by
    rw [← hs1]
    simp only [State.modThr, State.setThr, State.die_modDie _ _ h8, State.threads_stir, hthr]
  have hslim : s'.slim d s1 := by
    rw [← hs1]
    exact State.slim_trans (s'.slim_stir d k) (State.slim_setThr _ d k _)
  obtain ⟨n, cs, co, cl, hx⟩ := s1.issued_only s k i h8 ((State.slotCycle_slim k hslim).trans hs)
  refine ⟨n, cs, co, cl, ?_⟩
  have h3 : s1.thr d k = (s'.thr d k).retire (pc.getD ((s.thr d k).pc + 1)) := by simp [State.thr, ht]
  rw [hx, h3, State.onlyThread_slim k n cs co cl _ h8 hslim ht]
  rfl

/-- An instruction that is done with a new thread and no settling leaves only that thread changed, besides the core's
samples, the counters and the deadlock counts. -/
theorem State.run_done {s : State} {d k : Nat} {i : CoreInstr} {y : Thread} {pc : Option Nat} (h8 : d < 8)
    (hr : (s.thr d k).rep = false) (hset : i.settles = false) (he : s.effect d k i = .done (s.setThr d k y) pc) :
    ∃ n cs co cl, s.run d k i true = s.onlyThread d k n cs co cl (y.after (pc.getD ((s.thr d k).pc + 1)) i.rounds) := by
  have hslim := s.slim_setThr d k y
  obtain ⟨n, cs, co, cl, h⟩ := State.run_done_after h8 hr hset (State.slotCycle_slim k hslim) he
  have ht : ((s.setThr d k y).die d).threads = sset (s.die d).threads k y := by simp [State.setThr, h8]
  have hy : (s.setThr d k y).thr d k = y := by simp [State.thr, ht]
  rw [hy] at h
  exact ⟨n, cs, co, cl, h.trans (State.onlyThread_slim k n cs co cl _ h8 hslim ht)⟩

/-- An instruction that holds its thread. -/
theorem State.run_hold {s s' : State} {d k : Nat} {i : CoreInstr} (h8 : d < 8) (hs : s'.slotCycle d k = s.slotCycle d k)
    (he : s.effect d k i = .hold s') :
    ∃ n cs co cl, s.run d k i true = s'.onlyThread d k n cs co cl { s'.thr d k with lag := i.rounds } := by
  simp only [State.run, he, State.finish, if_true]
  exact s'.issued_only s k i h8 hs

end Sys2Proof.Machine
end

