-- ==== Sys2Proof/Laws/Thread.lean ====
section
/-! SUPPORT. What a write of a register, of the flags or of a tag leaves of a thread. -/

namespace Sys2Proof.Machine

open Sys2Proof

/-! ### Tags -/

theorem Thread.contains_setTag (x : Thread) (r m : Nat) (p : Bool) :
    (x.setTag r p).tags.contains m = if m = r then p else x.tags.contains m := by
  by_cases hm : m = r
  · subst hm
    cases p <;> simp [Thread.setTag]
    split <;> simp_all
  · cases p
    · simp [Thread.setTag, hm]
    · simp only [Thread.setTag, if_true, hm, if_false]
      split
      · rfl
      · simp [hm]

/-- Setting a tag changes the tags alone. -/
theorem Thread.setTag_eq (x : Thread) (r : Nat) (p : Bool) : x.setTag r p = { x with tags := (x.setTag r p).tags } := rfl

@[simp] theorem Thread.setTag_w (x : Thread) (r : Nat) (p : Bool) : (x.setTag r p).w = x.w := rfl

theorem Thread.val_congr {x y : Thread} (h : y.w = x.w) (r : BitVec 5) : y.val r = x.val r := by
  simp [Thread.val, Thread.get, h]

theorem Thread.tag_congr {x y : Thread} (h : ∀ m : Nat, m < 32 → y.tags.contains m = x.tags.contains m) (r : BitVec 5) :
    y.tag r = x.tag r := by
  simp only [Thread.tag, Thread.tagged, h _ r.isLt]

/-! ### General registers -/

theorem Thread.val_zero (x : Thread) : x.val 0 = 0 := by simp [Thread.val, Thread.get]

theorem Thread.tag_zero (x : Thread) : x.tag 0 = false := by simp [Thread.tag, Thread.tagged]

theorem Thread.val_put (x : Thread) (d : Nat) (v : Word) (p : Bool) (r : BitVec 5) :
    (x.put d v p).val r = if d = r.toNat ∧ r ≠ 0 then v else x.val r := by
  have hr : r.toNat < 32 := r.isLt
  by_cases h0 : d = 0
  · rw [if_neg fun h => h.2 (BitVec.eq_of_toNat_eq (by simp [← h.1, h0]))]
    simp [Thread.put, h0]
  · by_cases hr0 : r = 0
    · rw [if_neg fun h => h.2 hr0, hr0, Thread.val_zero, Thread.val_zero]
    · have hr0' : r.toNat ≠ 0 := fun h => hr0 (BitVec.eq_of_toNat_eq (by simp [h]))
      simp only [Thread.put, h0, if_false, Thread.val, Thread.get, Thread.setTag_w, hr0', Vector.getD]
      have hr0b : ¬r = 0#5 := hr0
      by_cases hd : d = r.toNat <;> simp [hd, hr, hr0b]

theorem Thread.tag_put (x : Thread) (d : Nat) (v : Word) (p : Bool) (r : BitVec 5) :
    (x.put d v p).tag r = if d = r.toNat ∧ r ≠ 0 then p else x.tag r := by
  by_cases h0 : d = 0
  · rw [if_neg fun h => h.2 (BitVec.eq_of_toNat_eq (by simp [← h.1, h0]))]
    simp [Thread.put, h0]
  · by_cases hr0 : r = 0
    · rw [if_neg fun h => h.2 hr0, hr0, Thread.tag_zero, Thread.tag_zero]
    · have hr0' : r.toNat ≠ 0 := fun h => hr0 (BitVec.eq_of_toNat_eq (by simp [h]))
      simp only [Thread.put, h0, if_false, Thread.tag, Thread.tagged, Thread.contains_setTag]
      by_cases hd : d = r.toNat
      · have hr0b : ¬r = 0#5 := hr0
        simp [hd, hr0b, hr0']
      · simp only [hd, Ne.symm hd, if_false, false_and]

/-- A write of a general register changes the registers and the tags alone. -/
theorem Thread.put_eq (x : Thread) (d : Nat) (v : Word) (p : Bool) :
    x.put d v p = { x with w := (x.put d v p).w, tags := (x.put d v p).tags } := by
  unfold Thread.put
  split <;> rfl

theorem Thread.contains_put (x : Thread) (d m : Nat) (v : Word) (p : Bool) (h : 32 ≤ m) (hd : d < 32) :
    (x.put d v p).tags.contains m = x.tags.contains m := by
  unfold Thread.put
  split
  · rfl
  · rw [Thread.contains_setTag]
    have : m ≠ d := by omega
    simp [this]

/-! ### Flags -/

/-- Writing flags changes the flags, DCV and the tags of FL and DCV alone. -/
theorem Thread.flags_eq (x : Thread) (f : FlagSet) (p : Bool) :
    x.flags f p = { x with tags := (x.flags f p).tags, z := f.z.getD x.z, n := f.n.getD x.n, c := f.c.getD x.c
                           v := f.v.getD x.v, dz := f.dz.getD x.dz, dcv := f.dcv.getD x.dcv } := by
  unfold Thread.flags
  simp only []
  split
  · rfl
  · split <;> rfl

theorem Thread.contains_flags (x : Thread) (f : FlagSet) (p : Bool) (m : Nat) :
    (x.flags f p).tags.contains m =
      if m = sysTag 1 ∧ (f.z.isSome ∨ f.c.isSome) then p
      else if m = sysTag 2 ∧ (p ∨ f.dcv.isSome) ∧ (f.z.isSome ∨ f.c.isSome) then p else x.tags.contains m := by
  unfold Thread.flags
  have h12 : sysTag 1 ≠ sysTag 2 := by decide
  cases hz : f.z <;> cases hc : f.c <;> cases hd : f.dcv <;> cases p <;>
    simp only [Thread.contains_setTag, Option.isNone_none, Option.isNone_some, Option.isSome_none, Option.isSome_some,
      Bool.and_self, Bool.and_true, Bool.and_false, Bool.or_false, Bool.or_true, if_true, Bool.false_eq_true, if_false,
      or_false, or_true, or_self, and_false, and_true, and_self] <;>
    split <;> simp_all

theorem Thread.flags_val (x : Thread) (f : FlagSet) (p : Bool) (r : BitVec 5) : (x.flags f p).val r = x.val r :=
  Thread.val_congr (by rw [Thread.flags_eq]) r

theorem Thread.flags_tag (x : Thread) (f : FlagSet) (p : Bool) (r : BitVec 5) : (x.flags f p).tag r = x.tag r := by
  apply Thread.tag_congr
  intro m hm
  rw [Thread.contains_flags]
  have h1 : m ≠ sysTag 1 := by simp [sysTag]; omega
  have h2 : m ≠ sysTag 2 := by simp [sysTag]; omega
  simp [h1, h2]

/-! ### One result and its flags -/

theorem Thread.flags_wrote (x : Thread) (f : FlagSet) (p q : Bool) (v : Word) : x.wrote (x.flags f p) none v q := by
  refine ⟨?_, fun r => ?_⟩
  · unfold Thread.flags
    simp only []
    split
    · rfl
    · split <;> rfl
  · simp [Thread.flags_val, Thread.flags_tag]

theorem Thread.put_wrote (x : Thread) (d : BitVec 5) (v : Word) (p : Bool) : x.wrote (x.put d.toNat v p) (some d) v p := by
  refine ⟨?_, fun r => ?_⟩
  · unfold Thread.put
    split <;> rfl
  · rw [Thread.val_put, Thread.tag_put]
    have : d.toNat = r.toNat ↔ some d = some r := by
      rw [Option.some.injEq, BitVec.toNat_inj]
    simp only [this, and_self]

theorem Thread.result_wrote (x : Thread) (d : BitVec 5) (v : Word) (f : FlagSet) (p : Bool) :
    x.wrote (x.result false d (some v) f p) (some d) v p := by
  have h := (x.flags f p).put_wrote d v p
  refine ⟨?_, fun r => ?_⟩
  · simp only [Thread.result, Bool.false_eq_true, if_false]
    unfold Thread.put Thread.flags
    simp only []
    split <;> split <;> first | rfl | (split <;> rfl)
  · have := h.2 r
    simpa only [Thread.result, Bool.false_eq_true, if_false, Thread.flags_val, Thread.flags_tag] using this

/-- The flags after a result: those of the flag set, and FL's tag. -/
theorem Thread.result_flags (x : Thread) (d : BitVec 5) (r : Option Word) (f : FlagSet) (p : Bool) :
    let y := x.result false d r f p
    y.z = f.z.getD x.z ∧ y.n = f.n.getD x.n ∧ y.c = f.c.getD x.c ∧ y.v = f.v.getD x.v ∧ y.dz = f.dz.getD x.dz ∧
      y.dcv = f.dcv.getD x.dcv := by
  cases r <;> simp only [Thread.result, Bool.false_eq_true, if_false]
  · rw [Thread.flags_eq]
    exact ⟨rfl, rfl, rfl, rfl, rfl, rfl⟩
  · rw [Thread.put_eq, Thread.flags_eq]
    exact ⟨rfl, rfl, rfl, rfl, rfl, rfl⟩

theorem Thread.result_tags (x : Thread) (d : BitVec 5) (r : Option Word) (f : FlagSet) (p : Bool) (m : Nat) (h : 32 ≤ m) :
    (x.result false d r f p).tags.contains m = (x.flags f p).tags.contains m := by
  cases r <;> simp only [Thread.result, Bool.false_eq_true, if_false]
  exact Thread.contains_put _ _ _ _ _ h d.isLt

end Sys2Proof.Machine
end

