-- ==== Sys2Proof/Tests/Slice0.lean ====
section
/-! SUPPORT. The model's own tests: ill-formed commands that WellFormed refuses, words of instructions written out from the
manual's formats, and for the statements' hypotheses concrete states that meet them together. -/

namespace Sys2Proof.Tests

open Sys2Proof Sys2Proof.Machine

set_option Elab.async false

/-! ### States -/

/-- The state after reset with die 0 changed. -/
def at0 (f : Die → Die) : State := State.reset.modDie 0 f

/-- Thread 0 of core 0 of die 0. -/
def t0 : Tid := ⟨0, 0, 0⟩

/-- A thread with the numbers 1 to 31 in its registers and the whole cluster store as its region. -/
def th : Thread := { role := 1, st := .issuing, rlast := 262143, w := Vector.ofFn fun i => BitVec.ofNat 36 i.val }

/-- Core 0 runs with thread 0 at an instruction. -/
def isa (x : Thread) (i : CoreInstr) : State :=
  at0 fun d => { d with istore := [(x.pc, encodeInstr i)], cores := [(0, { run := .running })], threads := [(0, x)] }

/-- A command at the head of a ring. -/
def ringAt (n : Nat) (c : RCmd) : State := at0 fun d => { d with rings := [(n, { cmds := [c] })] }

/-! ### Well-formed commands -/

theorem test_wf_ok : Instr.wf (.frameAdmit 7) = true := by decide

/-- A command out of range in one number, for each range that WellFormed checks. -/
theorem test_wf_numbers : (([
  .registerWrite 8 1 0 0, .registerWrite 1 8388608 0 0, .devCeRead 1 2 1, .devCeRead 1 1 20,
  .ethernetFrameReceive 1 32 (.octets []) true, .pcsLinkUp 1 1 3, .telegramPortDisable 1 8 0, .profileEnable 1 64 0,
  .selectorDisable 1 64 0, .dispatchDelivery 1 16, .commitApply 1 16384, .releaseSequenceSkip 1 256,
  .linkEnable 1 3 0, .faultNoticeDeliver 1 48, .clusterDeadlock 1 12, .bankGrant 1 1 16, .helperJobStart 1 36,
  .tableActivate 1 64, .initStart 1 64, .encoderEdge 6 true true 1, .zeroCrossing 5 true 1, .zeroCrossing 10 true 1,
  .axisHeld 0, .axisHeld 8, .pinPulseEnd 8, .readAheadRefill 1 4096, .gateListChange 1 18 1, .gateListChange 1 1 8,
  .hostRxDeliver 1 64 0 0, .dramTrainingEnd 1 true 1048576, .dramReadRequest 1 1 1099511627776 true,
  .refreshTick 1 2, .mr4Read 1 8 1, .mr4Read 1 1 8, .mapMaskWrite 1 6 1, .mapMaskWrite 1 1 4294967296,
  .bolterSramStep 1 0, .bolterSramStep 1 10, .sramWriteback 1 1 12 1, .bar2Read true 1099511627776 1,
  .dTailWrite 1 7 0, .ringEnable 1 72 0, .counterZero 1 28, .ovfClear 1 1 256 true, .brownout 5,
  .axisValueReadLatch 1 1 3] : List Instr).all fun i => !i.wf) = true := by
  decide +kernel

/-- A command out of range in a thread, a length or a code. -/
theorem test_wf_others : (([
  .pauseFrameReceive 1 1 true 0 [1], .pauseFrameReceive 1 1 false 0 [65536], .pauseExpire 1 1 (some 8),
  .spawn ⟨0, 48, 0⟩ 0 0 0, .jr ⟨8, 0, 0⟩ 1, .jr ⟨0, 0, 16⟩ 1, .dramWriteRequest 1 1 0 [] true,
  .dramWriteRequest 1 1 127 [1, 2] true, .bar2Read true 4095 2, .bar2Write true 4095 [1, 2], .bar2Read true 1 0,
  .bar2Write true 1 [], .htxFetch 1 0 0 (List.replicate 16385 0), .attestReq 0 0 0 [], .attestResp 0 0 0 [],
  .bypass 2] : List Instr).all fun i => !i.wf) = true := by
  decide +kernel

theorem test_wf_slot_a (l : List Byte) (h : 16777216 < l.length) : Instr.wf (.boot (some l) none false false 0) = false := by
  simp [Instr.wf]; omega

theorem test_wf_slot_b (l : List Byte) (h : 16777216 < l.length) : Instr.wf (.boot none (some l) false false 0) = false := by
  simp [Instr.wf]; omega

/-! ### Words of instructions, written out from the formats of R164 and the tables of R167 to R187 -/

theorem test_word_movi : decodeWord 0o054400001750 = some (.imm .movi 8 0 1000) := by decide +kernel
theorem test_word_divs : decodeWord 0o024101200004 = some (.mul .divs 2 1 8) := by decide +kernel
theorem test_word_zero_is_illegal : decodeWord 0 = none := by decide +kernel

/-! ### Witnesses: instructions on registers -/

/-- The conditions of an issue slot as one decidable check. -/
def issuesB (s : State) (t : Tid) (i : CoreInstr) : Bool :=
  tidOk t s && !s.inReset && s.canIssue t.die (tkey t) && !(s.thr t.die (tkey t)).rep && !s.forced t.die (tkey t) &&
  decide ((s.die t.die).flips (unitKey 3 (tkey t / 64) (s.thr t.die (tkey t)).pc) = 0) &&
  decide (decodeWord (sgetD (s.die t.die).istore (tkey t / 64 * 65536 + (s.thr t.die (tkey t)).pc) 0) = some i)

theorem issues_of {s : State} {t : Tid} {i : CoreInstr} (h : issuesB s t i = true) : s.issues t i := by
  simp only [issuesB, Bool.and_eq_true, Bool.not_eq_true', decide_eq_true_eq, and_assoc] at h
  obtain ⟨there, live, slot, once, free, whole, word⟩ := h
  exact ⟨there, live, slot, once, free, whole, word⟩

/-- A thread that holds an operation in slot 5 of an instance with a packet of two cells. -/
def isaOp (x : Thread) (i : CoreInstr) : State :=
  ((isa { x with op := some 5, delivered := true } i).modHop 0 fun h => { h with
    packets := [(0, { cells := [3, 9], len := 200, fcs := 0, port := 1, cfg := 0, pdef := 0, ts := 0 })] }).modDsp 0 fun y => { y with
      insts := [(2, { graph := 1, width := 1, words := List.replicate 48 0, pid := some 0 })]
      ops := [(5, { inst := 2, node := 0, kind := 0, st := .service })] }

theorem witness_AdditionsAreOneAddition :
    namesIssue (.adc t0 false 3 1 2) = some (t0, .alu .adc false 3 1 2) ∧ CoreInstr.sys (.alu .adc false 3 1 2) = false ∧
    (isa th (.alu .adc false 3 1 2)).issues t0 (.alu .adc false 3 1 2) ∧
    addition ((isa th (.alu .adc false 3 1 2)).at_ t0) (.alu .adc false 3 1 2) = some (1, 2, false) ∧
    (isa th (.alu .abs false 3 1 0)).issues t0 (.alu .abs false 3 1 0) := by
  repeat' first | decide +kernel | exact issues_of (by decide +kernel) | apply And.intro

theorem witness_LogicSetsZeroNegativeAndClearsOverflow :
    namesIssue (.xor t0 false 3 1 2) = some (t0, .alu .xor false 3 1 2) ∧ CoreInstr.sys (.alu .xor false 3 1 2) = false ∧
    (isa th (.alu .xor false 3 1 2)).issues t0 (.alu .xor false 3 1 2) ∧
    logical ((isa th (.alu .xor false 3 1 2)).at_ t0) (.alu .xor false 3 1 2) = some 3 := by
  repeat' first | decide +kernel | exact issues_of (by decide +kernel) | apply And.intro

theorem witness_MovesAndLeadingZeros :
    (isa th (.alu .clz false 3 1 0)).issues t0 (.alu .clz false 3 1 0) ∧
    namesIssue (.ins t0 3 1 4 7) = some (t0, .ins 3 1 4 7) ∧ CoreInstr.sys (.ins 3 1 4 7) = false ∧
    (isa th (.ins 3 1 4 7)).issues t0 (.ins 3 1 4 7) ∧ (movedBit ((isa th (.ins 3 1 4 7)).at_ t0) 0 (.ins 3 1 4 7)).isSome = true := by
  repeat' first | decide +kernel | exact issues_of (by decide +kernel) | apply And.intro

theorem witness_ShiftsFollowTheirTable :
    namesIssue (.rori t0 3 1 36) = some (t0, .shi .ror 3 1 36) ∧ (isa th (.shi .ror 3 1 36)).issues t0 (.shi .ror 3 1 36) ∧
    shiftOf ((isa th (.shi .ror 3 1 36)).at_ t0) (.shi .ror 3 1 36) = some (.ror, 1, 36) := by
  repeat' first | decide +kernel | exact issues_of (by decide +kernel) | apply And.intro

theorem witness_SysFormsWriteTheirRegisterOnly :
    namesIssue (.add t0 true 7 1 2) = some (t0, .alu .add true 7 1 2) ∧
    (isa th (.alu .add true 7 1 2)).issues t0 (.alu .add true 7 1 2) ∧
    aluWord ((isa th (.alu .add true 7 1 2)).at_ t0) (.alu .add true 7 1 2) = some 3 := by
  repeat' first | decide +kernel | exact issues_of (by decide +kernel) | apply And.intro

theorem witness_ProductsAndDivisionsAreExact :
    (isa th (.mul .mul 4 1 2)).issues t0 (.mul .mul 4 1 2) ∧ (isa th (.mul .mull 4 1 2)).issues t0 (.mul .mull 4 1 2) ∧
    (isa th (.mul .mullu 4 1 2)).issues t0 (.mul .mullu 4 1 2) ∧
    ((isa th (.mul .divs 4 7 2)).issues t0 (.mul .divs 4 7 2) ∧ (((isa th (.mul .divs 4 7 2)).at_ t0).val 2).toInt ≠ 0) ∧
    ((isa th (.mul .divu 4 7 0)).issues t0 (.mul .divu 4 7 0) ∧ bit ((isa th (.mul .divu 4 7 0)).coreCfg 0 0) 1 = false) ∧
    let s := (isa th (.mul .divu 4 7 0)).setReg 0 .cluCoreCfg [0, 0] 2;
    s.issues t0 (.mul .divu 4 7 0) ∧ (s.at_ t0).val 0 = 0 ∧ bit (s.coreCfg 0 0) 1 = true := by
  repeat' first | decide +kernel | exact issues_of (by decide +kernel) | apply And.intro

theorem witness_FusedDecimalAndAdjustmentsFollowTheTables :
    (isa th (.dec .dadj 3 1 0)).issues t0 (.dec .dadj 3 1 0) ∧ (isa th (.dec .dsadj 3 1 0)).issues t0 (.dec .dsadj 3 1 0) ∧
    namesIssue (.dsub t0 3 1 2) = some (t0, .dec .dsub 3 1 2) ∧ (isa th (.dec .dsub 3 1 2)).issues t0 (.dec .dsub 3 1 2) ∧
    decimalOf ((isa th (.dec .dsub 3 1 2)).at_ t0) (.dec .dsub 3 1 2) = some (true, 1, 2, true, some 3) := by
  repeat' first | decide +kernel | exact issues_of (by decide +kernel) | apply And.intro

theorem witness_FusedDecimalIsNineDigitArithmetic :
    namesIssue (.dadd t0 3 1 9) = some (t0, .dec .dadd 3 1 9) ∧ (isa th (.dec .dadd 3 1 9)).issues t0 (.dec .dadd 3 1 9) ∧
    decimalOf ((isa th (.dec .dadd 3 1 9)).at_ t0) (.dec .dadd 3 1 9) = some (false, 1, 9, false, some 3) ∧
    validDigits 1 ∧ validDigits 9 := by
  repeat' first | decide +kernel | exact issues_of (by decide +kernel) | (unfold validDigits; decide +kernel) | apply And.intro

theorem witness_DecimalConversionsAndShifts :
    (isa th (.dec .bin2d 3 1 0)).issues t0 (.dec .bin2d 3 1 0) ∧ (isa th (.dec .d2bin 3 1 0)).issues t0 (.dec .d2bin 3 1 0) ∧
    (isa th (.dec .dvalid 0 1 0)).issues t0 (.dec .dvalid 0 1 0) ∧ (isa th (.dec .dshl 3 1 9)).issues t0 (.dec .dshl 3 1 9) ∧
    (isa th (.dec .dshr 3 1 9)).issues t0 (.dec .dshr 3 1 9) := by
  repeat' first | decide +kernel | exact issues_of (by decide +kernel) | apply And.intro

/-! ### Witnesses: memory -/

theorem witness_StoreAndPacketAccesses :
    (let i := CoreInstr.mem .ldw 3 1 false 3 0;
      ((isa th i).issues t0 i ∧ ((isa th i).at_ t0).tag 1 = false ∧ (isa th i).csReady t0 (((isa th i).at_ t0).addr 1 0)) ∧
      let x := { th with rbase := 2 };
      (isa x i).issues t0 i ∧ ((isa x i).at_ t0).tag 1 = false ∧ ((isa x i).at_ t0).region (((isa x i).at_ t0).addr 1 0) = false) ∧
    (let i := CoreInstr.mem .stw 3 1 false 3 0;
      ((isa th i).issues t0 i ∧ ((isa th i).at_ t0).tag 1 = false ∧ (isa th i).csReady t0 (((isa th i).at_ t0).addr 1 0)) ∧
      let x := { th with rbase := 2 };
      (isa x i).issues t0 i ∧ ((isa x i).at_ t0).tag 1 = false ∧ ((isa x i).at_ t0).region (((isa x i).at_ t0).addr 1 0) = false) ∧
    let i := CoreInstr.mem .ldp 3 1 true 2 255;
    let j := CoreInstr.mem .ldp 3 1 true 2 251;
    ((isaOp th j).issues t0 j ∧ ((isaOp th j).at_ t0).tag 1 = false ∧ ∃ (q : Packet) (o : Op) (k : Inst),
      (isaOp th j).heldPkt 0 0 = some q ∧ (isaOp th j).held 0 0 = some (5, o, k) ∧
      ((isaOp th j).at_ t0).addr 1 251 + 4 ≤ 128 * q.cells.length ∧ (isaOp th j).readLanes 0 q 252 4 = isaOp th j) ∧
    (isaOp th i).issues t0 i ∧ ((isaOp th i).at_ t0).tag 1 = false ∧
      ∀ q : Packet, (isaOp th i).heldPkt 0 0 = some q → 128 * q.cells.length < ((isaOp th i).at_ t0).addr 1 255 + 4 := by
  repeat' first
    | decide +kernel
    | exact issues_of (by decide +kernel)
    | exact ⟨_, _, _, rfl, rfl, by decide +kernel, by decide +kernel⟩
    | apply And.intro

theorem witness_RepeatableStepsCopyAndCompare :
    (let i := CoreInstr.cpw false 3 1 2;
      (isa th i).issues t0 i ∧ ((isa th i).at_ t0).tag 1 = false ∧ ((isa th i).at_ t0).tag 2 = false ∧
      (isa th i).csReady t0 (((isa th i).at_ t0).val 1).toNat ∧ (isa th i).csReady t0 (((isa th i).at_ t0).val 2).toNat) ∧
    let i := CoreInstr.cmps 1 1;
    (isa th i).issues t0 i ∧ ((isa th i).at_ t0).tag 1 = false ∧ (isa th i).csReady t0 (((isa th i).at_ t0).val 1).toNat := by
  repeat' first | decide +kernel | exact issues_of (by decide +kernel) | apply And.intro

theorem witness_DecimalStepAddsInPlace :
    let i := CoreInstr.dstep 1 2;
    (isa th i).issues t0 i ∧ ((isa th i).at_ t0).tag 1 = false ∧ ((isa th i).at_ t0).tag 2 = false ∧
      (isa th i).csReady t0 (((isa th i).at_ t0).val 1).toNat ∧ (isa th i).csReady t0 (((isa th i).at_ t0).val 2).toNat := by
  repeat' first | decide +kernel | exact issues_of (by decide +kernel) | apply And.intro

theorem witness_LoggedStoresEnterTheCommitLog :
    let i := CoreInstr.mem .stp 3 1 true 2 251;
    namesIssue (.stp t0 3 1 true 2 251) = some (t0, i) ∧ (isaOp th i).issues t0 i ∧
    (∀ r ∈ i.pointers, ((isaOp th i).at_ t0).tag r = false) ∧ i.dataTagged ((isaOp th i).at_ t0) = false ∧
    (isaOp th i).logOf t0 i = some (.packet 252 [0, 0, 0, 3], true) ∧
    (∃ (o : Op) (j : Inst), (isaOp th i).held 0 0 = some (5, o, j) ∧ o.log.length < 64) ∧
    (isa th i).issues t0 i ∧ (isa th i).logOf t0 i = some (.packet 252 [0, 0, 0, 3], false) ∧ (isa th i).held 0 0 = none := by
  repeat' first
    | decide +kernel
    | exact issues_of (by decide +kernel)
    | exact ⟨_, _, rfl, by decide +kernel⟩
    | apply And.intro

theorem witness_OperationContextAndAnswerAccesses :
    (let i := CoreInstr.mem .ldo 3 1 false 3 62;
      let j := CoreInstr.mem .ldo 3 1 false 3 63;
      ((isaOp th i).issues t0 i ∧ ((isaOp th i).at_ t0).tag 1 = false ∧ ((isaOp th i).at_ t0).addr 1 62 = 63 ∧
        ∃ (o : Op) (k : Inst), (isaOp th i).held 0 0 = some (5, o, k) ∧
          ((isaOp th i).die 0).flips (unitKey 7 0 (o.inst * 48 + (63 - 16))) = 0) ∧
      (isaOp th j).issues t0 j ∧ ((isaOp th j).at_ t0).tag 1 = false ∧ 64 ≤ ((isaOp th j).at_ t0).addr 1 63) ∧
    (let i := CoreInstr.mem .sto 3 1 false 3 58;
      let j := CoreInstr.mem .sto 3 1 false 3 59;
      ((isaOp th i).issues t0 i ∧ ((isaOp th i).at_ t0).addr 1 58 = 59 ∧ (∃ (o : Op) (k : Inst),
        (isaOp th i).held 0 0 = some (5, o, k)) ∧ ((isaOp th i).at_ t0).tag 3 = false) ∧
      (isaOp th j).issues t0 j ∧ ((isaOp th j).at_ t0).addr 1 59 = 60) ∧
    (let i := CoreInstr.mem .lda 3 1 false 2 16383;
      (isa th i).issues t0 i ∧ ((isa th i).at_ t0).tag 1 = false) ∧
    let i := CoreInstr.mem .ldf 3 1 false 3 15;
    let x := { th with w := Vector.replicate 32 262144 };
    ((isa th i).issues t0 i ∧ (((isa th i).at_ t0).val 1).toNat < 262144) ∧
      (isa x i).issues t0 i ∧ 262144 ≤ (((isa x i).at_ t0).val 1).toNat := by
  repeat' first
    | decide +kernel
    | exact issues_of (by decide +kernel)
    | exact ⟨_, _, rfl⟩
    | exact ⟨_, _, rfl, by decide +kernel⟩
    | apply And.intro

/-! ### Witnesses: control flow, channels, waits and system registers -/

theorem witness_BranchesSetPcAndTaggedPointersFault :
    ((isa th (.bcc 13 0xFFFFFF)).issues t0 (.bcc 13 0xFFFFFF) ∧ ((isa th (.bcc 13 0xFFFFFF)).at_ t0).flTag = false) ∧
    (isa th (.jal 3 0xFFFF)).issues t0 (.jal 3 0xFFFF) ∧
    ((isa th (.jr 1)).issues t0 (.jr 1) ∧ ((isa th (.jr 1)).at_ t0).tag 1 = false) ∧
    (let x := { th with tags := [1] };
      namesIssue (.jr t0 1) = some (t0, .jr 1) ∧ (isa x (.jr 1)).issues t0 (.jr 1) ∧ (1 : BitVec 5) ∈ CoreInstr.pointers (.jr 1) ∧
      ((isa x (.jr 1)).at_ t0).tag 1 = true) ∧
    let x := { th with tags := [33] };
    (isa x (.bcc 13 1)).issues t0 (.bcc 13 1) ∧ ((isa x (.bcc 13 1)).at_ t0).flTag = true := by
  repeat' first | decide +kernel | exact issues_of (by decide +kernel) | apply And.intro

/-- Channel 0 of core 0 holds what is given. -/
def withChan (s : State) (x : Chan) : State := s.modDie 0 fun d => { d with chans := [(0, x)] }

theorem witness_ChannelsTakeWordsInOrder :
    let i := CoreInstr.chs 1 0;
    let full : Chan := { msgs := List.replicate 4 { at_ := 0, words := [(0, false)] } };
    (isa th i).issues t0 i ∧ ((isa th i).chan 0 (chanKey 0 0)).blocks 0 = false ∧ (isa th i).firstOn 0 0 (chanKey 0 0) true = true ∧
    (withChan (isa th i) full).issues t0 i ∧ ((withChan (isa th i) full).chan 0 (chanKey 0 0)).blocks 0 = true := by
  repeat' first | decide +kernel | exact issues_of (by decide +kernel) | apply And.intro

theorem witness_ChannelReceiveTakesTheOldestMessage :
    let i := CoreInstr.chr 3 0;
    let m : Msg := { at_ := 0, words := List.replicate 8 (7, true) };
    let s := { withChan (isa th i) { msgs := [m] } with now := 8 };
    (s.issues t0 i ∧ s.messageStands 0 (chanKey 0 0) m ∧ m.words.length ≤ 8 ∧ s.firstOn 0 0 (chanKey 0 0) false = true ∧
      s.mayTake 0 0 0 = true) ∧
    (isa th i).issues t0 i ∧ ∀ w : Msg, ¬(isa th i).messageStands 0 (chanKey 0 0) w := by
  repeat' first
    | decide +kernel
    | exact issues_of (by decide +kernel)
    | exact ⟨⟨[], rfl⟩, by decide +kernel⟩
    | exact by rintro w ⟨⟨ms, h⟩, -⟩; exact nomatch (show ([] : List Msg) = w :: ms from h)
    | apply And.intro

theorem witness_WaitsEndWithASource :
    (let x := { th with w := Vector.replicate 32 0x18000 };
      namesIssue (.wait t0 3 2) = some (t0, .wait 3 2) ∧ (isa x (.wait 3 2)).issues t0 (.wait 3 2) ∧
      (((isa x (.wait 3 2)).at_ t0).val 2).toNat = 0x18000 ∧ srcBad 0x18000 = true) ∧
    ((isa th (.waiti 3 0)).issues t0 (.waiti 3 0) ∧ srcBad 0 = false) ∧
    (let x := { th with timerLatch := true };
      (isa x (.waiti 3 2)).issues t0 (.waiti 3 2) ∧ srcBad 2 = false ∧ (isa x (.waiti 3 2)).sources 0 0 2 ≠ 0) ∧
    namesIssue (.wait t0 3 2) = some (t0, .wait 3 2) ∧ (isa th (.wait 3 2)).issues t0 (.wait 3 2) ∧
      (((isa th (.wait 3 2)).at_ t0).val 2).toNat = 2 ∧ ((isa th (.wait 3 2)).at_ t0).tag 2 = false ∧
      (isa th (.wait 3 2)).sources 0 0 2 = 0 := by
  repeat' first | decide +kernel | exact issues_of (by decide +kernel) | apply And.intro

theorem witness_SystemRegistersAreReadAndWritten :
    (isa th (.mfs 3 14)).issues t0 (.mfs 3 14) ∧ (isa th (.mts 11 1)).issues t0 (.mts 11 1) ∧
    ((isa { th with busy := [7] } (.htest 3 7)).issues t0 (.htest 3 7) ∧
      ((isa { th with busy := [7] } (.htest 3 7)).at_ t0).busy.contains 7 = true) ∧
    (isa th (.htest 3 7)).issues t0 (.htest 3 7) ∧ ((isa th (.htest 3 7)).at_ t0).busy.contains 7 = false := by
  repeat' first | decide +kernel | exact issues_of (by decide +kernel) | apply And.intro

theorem witness_CrcAndRepeat :
    (isa th (.crc 3 1 3 2)).issues t0 (.crc 3 1 3 2) ∧
    ((isaOp th (.crcp 3 1 0)).issues t0 (.crcp 3 1 0) ∧ ((isaOp th (.crcp 3 1 0)).at_ t0).tag 1 = false ∧
      ∃ (q : Packet) (o : Op) (k : Inst), (isaOp th (.crcp 3 1 0)).heldPkt 0 0 = some q ∧
        (isaOp th (.crcp 3 1 0)).held 0 0 = some (5, o, k) ∧ 1 < 128 * q.cells.length ∧
        (isaOp th (.crcp 3 1 0)).readLanes 0 q 1 1 = isaOp th (.crcp 3 1 0)) ∧
    ((isa th (.crcp 3 1 0)).issues t0 (.crcp 3 1 0) ∧
      ∀ q : Packet, (isa th (.crcp 3 1 0)).heldPkt 0 0 = some q → 128 * q.cells.length ≤ 1) ∧
    (let s := (isa th (.rpt 1)).modDie 0 fun d => { d with istore := [(0, encodeInstr (.rpt 1)), (1, encodeInstr (.cmps 1 2))] };
      s.issues t0 (.rpt 1) ∧ s.nextInstr 0 0 = some (.cmps 1 2) ∧ repeatable (.cmps 1 2) = true ∧ (s.at_ t0).tag 1 = false) ∧
    (isa th (.rpt 1)).issues t0 (.rpt 1) ∧
      ∀ i : CoreInstr, (isa th (.rpt 1)).nextInstr 0 0 = some i → repeatable i = false := by
  repeat' first
    | decide +kernel
    | exact issues_of (by decide +kernel)
    | exact ⟨_, _, _, rfl, rfl, by decide +kernel, by decide +kernel⟩
    | apply And.intro

/-! ### Witnesses: graph, table and helper instructions -/

/-- Graph 0: one node of kind 0, enabled. -/
def withGraph (s : State) : State :=
  (s.modDsp 0 fun y => { y with gstore := [(0, 65), (9, 1)] }).setReg 0 .dspGraphCtl [0] 1

theorem witness_GraphInstructionsReportTheirStatus :
    ((isa th (.opend 1)).issues t0 (.opend 1) ∧ (isa th (.opend 1)).held 0 0 = none) ∧
    ((isaOp th (.opend 1)).issues t0 (.opend 1) ∧ ∃ (o : Op) (i : Inst), (isaOp th (.opend 1)).held 0 0 = some (5, o, i)) ∧
    (let s := withGraph (isa th (.spawn 1 2 0));
      s.issues t0 (.spawn 1 2 0) ∧ (s.at_ t0).tag 1 = false ∧ (s.at_ t0).tag 2 = false ∧ s.readGraph 0 0 = s) ∧
    ((isa th (.enq 1)).issues t0 (.enq 1) ∧ (isa th (.enq 1)).held 0 0 = none) ∧
    ((isaOp th (.enq 1)).issues t0 (.enq 1) ∧ (∀ j : Nat, j < 3 → ((isaOp th (.enq 1)).at_ t0).tagged (1 + j) = false) ∧
      ∃ (o : Op) (i : Inst), (isaOp th (.enq 1)).held 0 0 = some (5, o, i) ∧ i.pid.isSome = true ∧
        i.enqs.length + loggedEnqs o.log < 8 ∧ o.log.length < 64) ∧
    ((isa th (.pgrow 1)).issues t0 (.pgrow 1) ∧ (isa th (.pgrow 1)).heldPkt 0 0 = none) ∧
    (isaOp th (.pgrow 1)).issues t0 (.pgrow 1) ∧ ∃ (o : Op) (i : Inst) (p : Packet), (isaOp th (.pgrow 1)).held 0 0 = some (5, o, i) ∧
      i.pid = some 0 ∧ (isaOp th (.pgrow 1)).heldPkt 0 0 = some p := by
  repeat' first
    | decide +kernel
    | exact issues_of (by decide +kernel)
    | exact ⟨_, _, rfl⟩
    | exact ⟨_, _, rfl, by decide +kernel, by decide +kernel, by decide +kernel⟩
    | exact ⟨_, _, _, rfl, by decide +kernel, rfl⟩
    | apply And.intro

/-- Helper 0 of cluster 0 is as given. -/
def withHelper (s : State) (z : Helper) : State := s.setHelper 0 0 z

theorem witness_TableAndHelperInstructions :
    ((isa th (.tbl 3 1 0 3)).issues t0 (.tbl 3 1 0 3) ∧ ((isa th (.tbl 3 1 0 3)).at_ t0).keyTag 1 4 = false) ∧
    (let own := withHelper (isa th (.hlock 0)) { holder := some (.thread 0) };
      let free := isa th (.hlock 0);
      let late := withHelper (isa th (.hlock 0)) { holder := some (.thread 16), won := some (0, 1) };
      let kept := withHelper (isa th (.hlock 0)) { holder := some (.thread 1) };
      (own.issues t0 (.hlock 0) ∧ ((own.windowEnd 0 0).helper 0 0).holder = some (.thread 0)) ∧
      (free.issues t0 (.hlock 0) ∧ ((free.windowEnd 0 0).helper 0 0).holder = none ∧ ((free.windowEnd 0 0).helper 0 0).jobs = []) ∧
      (kept.issues t0 (.hlock 0) ∧ ((kept.windowEnd 0 0).helper 0 0).holder = some (.thread 1) ∧
        (kept.windowEnd 0 0).lateWinner 0 0 0 = none) ∧
      late.issues t0 (.hlock 0) ∧ ((late.windowEnd 0 0).helper 0 0).holder = some (.thread 16) ∧
        (late.windowEnd 0 0).lateWinner 0 0 0 = some 16) ∧
    (let own := withHelper (isa th (.hunlock 0)) { holder := some (.thread 0) };
      (own.issues t0 (.hunlock 0) ∧ (own.helper 0 0).holder = some (.thread 0)) ∧
      (isa th (.hunlock 0)).issues t0 (.hunlock 0) ∧ ((isa th (.hunlock 0)).helper 0 0).holder ≠ some (.thread 0)) ∧
    let own := withHelper (isa th (.hgo 1 0 7)) { holder := some (.thread 0) };
    (own.issues t0 (.hgo 1 0 7) ∧ (own.at_ t0).tag 1 = false ∧ (own.helper 0 0).holder = some (.thread 0) ∧
      (own.at_ t0).busy.contains 7 = false ∧ ∀ j : Nat, j < 8 → (own.die 0).flips (unitKey 2 0 (1 + j)) = 0) ∧
    (isa th (.hgo 1 0 7)).issues t0 (.hgo 1 0 7) ∧ ((isa th (.hgo 1 0 7)).helper 0 0).holder ≠ some (.thread 0) := by
  repeat' first | decide +kernel | exact issues_of (by decide +kernel) | apply And.intro

/-- A SUPERVISOR on a core in compatibility mode, with thread 1 beside it. -/
def supState (i : CoreInstr) (y : Thread) : State :=
  ((isa { th with role := 3 } i).modDie 0 fun d => { d with threads := [(0, { th with role := 3 }), (1, y)] }).setReg 0 .cluCoreCfg
    [0, 0] 1

theorem witness_SupervisorAndCoreInstructions :
    ((isa th (.tctl 1 true)).issues t0 (.tctl 1 true) ∧ ((isa th (.tctl 1 true)).at_ t0).role ≠ 3) ∧
    (let s := supState (.tctl 1 true) th;
      s.issues t0 (.tctl 1 true) ∧ (s.at_ t0).role = 3 ∧ s.compat 0 0 = true ∧ (s.at_ t0).tag 1 = false ∧
      (s.thr 0 (0 * 16 + 1 % 16)).st ≠ .faulted) ∧
    (let s := supState (.tctl 1 false) { th with st := .faulted };
      s.issues t0 (.tctl 1 false) ∧ (s.at_ t0).role = 3 ∧ s.compat 0 0 = true ∧ (s.at_ t0).tag 1 = false ∧
      (s.thr 0 1).st = .faulted ∧ ∀ i : Nat, i < 2 → (s.disposeThr 0 1).mapWord 0 1 i = s.mapWord 0 1 i) ∧
    (isa th (.cctl 1 1)).issues t0 (.cctl 1 1) ∧ ((isa th (.cctl 1 1)).at_ t0).tag 1 = false := by
  repeat' first | decide +kernel | exact issues_of (by decide +kernel) | apply And.intro

/-! ### Witnesses: threads that wait, repeats, faults and cores -/

/-- The word of an instruction at the PC of thread 0 is whole and decodes to it. -/
def wordIs (s : State) (i : CoreInstr) : Bool :=
  decide ((s.die 0).flips (unitKey 3 0 (s.thr 0 0).pc) = 0) &&
  decide (decodeWord (sgetD (s.die 0).istore (0 * 65536 + (s.thr 0 0).pc) 0) = some i)

/-- Thread 0 waits for a bank, alone. -/
def bankState : State := isa { th with st := .waiting, req := some (.bank 1), stamp := 3 } (.mem .ldw 3 1 false 3 0)

theorem bankState_serves : bankState.bankServes 0 0 1 0 := by
  have unused : sget (bankState.die 0).banks (0 * 16 + 1) = none := by decide +kernel
  refine ⟨fun e h => (nomatch unused.symm.trans h), { th with st := .waiting, req := some (.bank 1), stamp := 3 }, 0, by omega,
    by decide +kernel, ⟨by decide +kernel, by decide +kernel, by decide +kernel, by decide +kernel⟩, ?_, fun i h => by omega⟩
  intro p h e
  have only : (bankState.die 0).threads = [(0, { th with st := .waiting, req := some (.bank 1), stamp := 3 })] := by
    decide +kernel
  have h := h.1
  rw [only, List.mem_singleton] at h
  exact absurd (congrArg Prod.fst h) e

theorem witness_WaitingThreadsAndRepeatsGoOn :
    (let s := isa { th with st := .waiting, waitOn := 2, timerLatch := true } (.waiti 3 2);
      tidOk t0 s = true ∧ s.inReset = false ∧ s.slotOn 0 0 = true ∧ s.slotFree 0 0 = true ∧ (s.at_ t0).st = .waiting ∧
      (s.at_ t0).req = none ∧ s.sources 0 0 (s.at_ t0).waitOn ≠ 0) ∧
    ((isa { th with timerDue := true } (.jr 1)).at_ t0).timerDue = true ∧
    (let s := isa { th with dbg := true, stepping := true } (.jr 1);
      tidOk t0 s = true ∧ s.inReset = false ∧ (s.at_ t0).dbg = true ∧ (s.at_ t0).stepping = true ∧ (s.at_ t0).steps = 0) ∧
    (let s := { isa { th with st := .waiting, req := some (.ldf 31 5), portAt := some 0 } (.jr 1) with now := 12 };
      s.slotOn 0 0 = true ∧ (s.at_ t0).req = some (.ldf 31 5) ∧ (s.at_ t0).portAt = some 0) ∧
    (let s := isa { th with st := .waiting, req := some (.tbl 3 0 [1, 0, 0, 0]), portAt := some 0 } (.jr 1);
      let r := s.lookupFor 0 0 (s.at_ t0).stamp 0 [1, 0, 0, 0] true;
      s.slotOn 0 0 = true ∧ (s.at_ t0).req = some (.tbl 3 0 [1, 0, 0, 0]) ∧ r.2.any (fun x => x.1 ≠ 2) = true ∧
      r.1.thr 0 0 = s.at_ t0) ∧
    (let s := isa { th with st := .blocked, waitDst := 99, waitOn := 4 } (.chs 1 4);
      s.slotOn 0 0 = true ∧ s.slotFree 0 0 = true ∧ (s.at_ t0).st = .blocked ∧ (s.at_ t0).rep = false ∧ wordIs s (.chs 1 4) = true ∧
      (s.chan 0 (chanKey 0 4)).blocks 0 = false ∧ s.firstOn 0 0 (chanKey 0 4) true = true) ∧
    (let s := { withChan (isa { th with st := .blocked, waitDst := 3 } (.chr 3 0)) {
        msgs := [{ at_ := 0, words := [(7, true)] }] } with now := 8 };
      s.slotOn 0 0 = true ∧ s.slotFree 0 0 = true ∧ (s.at_ t0).st = .blocked ∧ wordIs s (.chr 3 0) = true ∧
      s.messageStands 0 (chanKey 0 0) { at_ := 0, words := [(7, true)] } ∧ s.firstOn 0 0 (chanKey 0 0) false = true ∧
      s.mayTake 0 0 0 = true) ∧
    (bankState.bankServes 0 0 1 0 ∧ wordIs bankState (.mem .ldw 3 1 false 3 0) = true ∧
      (bankState.at_ t0).addr 1 0 % 16 = 1 ∧ (bankState.at_ t0).req = some (.bank 1) ∧
      (bankState.at_ t0).region ((bankState.at_ t0).addr 1 0) = true) ∧
    (let s := isa { th with rep := true, cnt := 1 } (.cmps 1 2);
      s.canIssue 0 0 = true ∧ (s.at_ t0).rep = true ∧ (s.at_ t0).cnt ≠ 0 ∧ s.forced 0 0 = false ∧ wordIs s (.cmps 1 2) = true ∧
      s.csReady t0 ((s.at_ t0).val 1).toNat ∧ s.csReady t0 ((s.at_ t0).val 2).toNat) ∧
    (let s := isa { th with rep := true } (.cmps 1 2); s.canIssue 0 0 = true ∧ (s.at_ t0).rep = true ∧ (s.at_ t0).cnt = 0) ∧
    let s := (isa th (.jr 1)).modDie 0 fun d => { d with istore := [] };
    s.canIssue 0 0 = true ∧ (s.at_ t0).rep = false ∧ s.forced 0 0 = false ∧
      decodeWord (sgetD (s.die 0).istore (0 * 65536 + (s.at_ t0).pc) 0) = none := by
  repeat' first
    | decide +kernel
    | exact bankState_serves
    | exact ⟨⟨[], rfl⟩, by decide +kernel⟩
    | apply And.intro

theorem witness_ProgramFaultsAreNotedAndStopOrNotify :
    (let s := isa th (.jr 1);
      tidOk t0 s = true ∧ (∀ k ∈ coreThreads 0, (s.thr 0 k).op = none) ∧ s.leader 0 0 = false ∧ s.compat 0 0 = false) ∧
    let s := supState (.jr 1) th;
    tidOk ⟨0, 0, 1⟩ s = true ∧ (∀ k ∈ coreThreads 0, (s.thr 0 k).op = none) ∧ s.leader 0 0 = false ∧
      ¬(s.compat 0 0 = false ∨ (s.at_ ⟨0, 0, 1⟩).role = 3 ∨ s.hasSup 0 0 = false) := by decide +kernel

/-- An operation in slot 5 in a state, on a thread or an engine; one in an engine may end by its deadline. -/
def opState (st : OpState) (k : Option Nat) : State :=
  (isaOp th (.jr 1)).modDsp 0 fun y => { y with ops := [(5, { inst := 2, node := 0, kind := 3, st := st, thread := k, timeoutOk := st == .engine })] }

theorem witness_HardwareFaultsDeadlocksAndDeadlines :
    (let s := isa th (.jr 1);
      tidOk t0 s = true ∧ s.inReset = false ∧ s.coreLive 0 0 = true ∧ s.leader 0 0 = false ∧
      ∀ k ∈ coreThreads 0, (s.thr 0 k).op = none) ∧
    (let s := (isa th (.jr 1)).setReg 0 .cluCfg [0] 1;
      s.coreLive 0 0 = true ∧ s.leader 0 0 = true ∧ (∀ k ∈ coreThreads 0, (s.thr 0 k).op = none) ∧ bit (s.coreCfg 0 0) 2 = false) ∧
    (let s := at0 fun d => { d with cores := [(47, { run := .running, notices := [[1, 2, 3, 4]] })] };
      (s.core 0 47).notices = [[1, 2, 3, 4]] ∧ (s.chan 0 (chanKey 47 31)).places < 4 ∧ s.coreLive 0 47 = true) ∧
    (let s := { (isa { th with st := .blocked } (.chr 3 0)) with now := 10000000 }.modDie 0 fun d => { d with
        cores := [(0, { run := .running, deadSince := some 0 })] };
      (s.core 0 0).deadSince = some 0 ∧ s.coreDead 0 0 = true ∧ s.grace 0 0 ≤ s.roundsFrom 0 0 s.now ∧ s.leader 0 0 = false) ∧
    (let s := { (isa { th with st := .blocked, waitOn := 32 } (.chr 3 32)) with now := 10000000 }.modDie 0 fun d => { d with
        cores := [(0, { run := .running }), (1, { run := .running }), (2, { run := .running }), (3, { run := .running })]
        clusterSince := [(0, 0)] };
      sget (s.die 0).clusterSince 0 = some 0 ∧ s.clusterDead 0 0 = true ∧
      ∀ j : Nat, j < 4 → s.grace 0 (0 * 4 + j) ≤ s.roundsFrom 0 0 s.now) ∧
    (let s := at0 fun d => { d with cores := [(47, { run := .restarting })] };
      (s.core 0 47).run = .restarting ∧ s.helperBusy 0 47 = false ∧ s.checker 0 47 = false ∧ s.leader 0 47 = false) ∧
    (let s := opState .service (some 0);
      ∀ o : Op, s.op 0 5 = some o → o.st = .service ∧ o.thread = some 0 ∧ reached (s.time 0) o.deadline = true ∧
        s.waitFired 0 5 o = false) ∧
    (let s := opState .engine none;
      ∀ o : Op, s.op 0 5 = some o → o.st = .engine ∧ o.kind = 3 ∧ o.timeoutOk = true ∧ s.waitFired 0 5 o = false) ∧
    (opState .service (some 0)).op 0 5 ≠ none ∧ (opState .engine none).op 0 5 ≠ none ∧
    let s := opState .ready none;
    s.op 0 5 ≠ none ∧ ∀ o : Op, s.op 0 5 = some o → o.st = .ready ∧ o.timeoutOk = false ∧ s.waitFired 0 5 o = false := by
  and_intros <;> decide +kernel

/-- A core-control command of core 0, thread 0, with the DEBUG scope open. -/
def coreState (op reg val : Nat) (x : Thread) (r : CoreRun) : State :=
  ((isa x (.jr 1)).modDie 0 fun d => { d with
    cores := [(0, { run := r })]
    rings := [(3, { cmds := [{ d0 := op + reg * 2 ^ 20, d1 := 0, d2 := val, d3 := 0 }] })] }).setReg 0 .dctlUnlock [] 1

/-- The command at the head of ring 3. -/
def coreCmdOf (s : State) : RCmd := (s.ringCmd 0 3).getD { d0 := 0, d1 := 0, d2 := 0, d3 := 0 }

/-- The command at the head of ring 3 is a legal one with code op. -/
abbrev CoreHeadOk (s : State) (op : Nat) : Prop :=
  s.coreHead 0 op (coreCmdOf s) ∧ (3 ≤ op → s.threadLegal 0 (coreCmdOf s).coreCmd = true)

theorem witness_CoreControlCommandsAct :
    CoreHeadOk (coreState 1 0 0 th .debug) 1 ∧ CoreHeadOk (coreState 2 0 0 th .stopped) 2 ∧
    CoreHeadOk (coreState 3 0 0 th .running) 3 ∧
    (let held := { th with dbg := true };
      CoreHeadOk (coreState 4 0 0 held .debug) 4 ∧ CoreHeadOk (coreState 5 0 65535 held .debug) 5 ∧
      CoreHeadOk (coreState 6 0 0 held .debug) 6 ∧ CoreHeadOk (coreState 8 39 0 held .debug) 8 ∧
      CoreHeadOk (coreState 9 39 15 held .debug) 9) ∧
    CoreHeadOk (coreState 7 0 0 th .running) 7 := by
  repeat' first | decide +kernel | apply And.intro

/-! ### Witnesses: host accesses and DRAM -/

/-- A live die as a decidable condition: the two parts of `State.live`. -/
abbrev Live (s : State) (d : Nat) : Prop := s.has d = true ∧ s.inReset = false ∧ s.reach 0 d = true

theorem live_of {s : State} {d : Nat} (h : Live s d) : s.live d := ⟨h.1, h.2.1⟩

theorem hostReaches_of {s : State} {d : Nat} (h : Live s d) : s.hostReaches d := h.2

/-- The low dword of a slot register of die 0 is held. -/
def lowHeld (r : RegId) (ix : List Nat) : State := at0 fun d => { d with lows := [(regOff r ix, 5)] }

theorem witness_RegisterWritesStoreWritableBits :
    State.reset.inReset = false ∧ (14 : BitVec 4) ≠ 15 ∧ State.reset.reach 0 0 = true ∧
    (regFind (regOff .dspGsAddr []) = some (.dspGsAddr, [], 0) ∧ RegId.dspGsAddr ∈ plainRegs ∧ regLacks 0 .dspGsAddr [] = false) ∧
    (regFind (regOff .dspGsData []) = some (.dspGsData, [], 0) ∧ (regRow .dspGsData).slot = true ∧
      regAllRO (regRow .dspGsData) = false ∧ regLacks 0 .dspGsData [] = false) ∧
    Live State.reset 0 ∧ State.reset.reach 0 7 = false ∧ hostWriteOf (.tagEnable 7 1) = some 7 := by decide +kernel

/-- An admitted frame waits on die 0. -/
def admitted1 : State := State.reset.modHop 0 fun h => { h with admitted := [0] }

/-- A link leads to die 1, where an admitted frame waits or none. -/
def admittedFar (xs : List Nat) : State :=
  ({ State.reset with fab := { State.reset.fab with links := (List.range 24).map fun k => (k, .up) } }).modHop 1 fun h =>
    { h with admitted := xs }

theorem witness_ReadsReturnAndClear :
    Live State.reset 0 ∧ State.reset.reg 0 .twxCrossMax [] < 2 ^ 32 ∧ (State.reset.die 0).hop.admitted = [] ∧
    Live admitted1 0 ∧ (admitted1.die 0).hop.admitted ≠ [] ∧ (65536 : Nat) ≤ 65540 ∧ (65540 : Nat) < 131072 ∧
    State.reset.reach 0 7 = false ∧ hostReadOf (.crossMaxRead 7) = some 7 ∧
    (admittedFar [0]).inReset = false ∧ (admittedFar [0]).hopWaits 1 65540 = true ∧ (admittedFar []).hopWaits 1 65540 = false := by
  decide +kernel

/-- Core 0 runs, and the low dword of CLU.IS_DATA of cluster 0 is held. -/
def isHeld : State := (lowHeld .cluIsData [0]).modDie 0 fun d => { d with cores := [(0, { run := .running })] }

theorem witness_DataWindowsReadAndWriteOneWord :
    (Live State.reset 0 ∧ (State.reset.die 0).flips (unitKey 3 11 (State.reset.reg 0 .cluIsAddr [11] % 65536)) = 0 ∧
      (State.reset.die 0).flips (unitKey 2 11 (State.reset.reg 0 .cluCsAddr [11] % 262144)) = 0 ∧
      (State.reset.csRead 0 11 (State.reset.reg 0 .cluCsAddr [11] % 262144)).2 = false ∧
      (State.reset.die 0).flips (unitKey 4 0 0) = 0 ∧ (State.reset.die 0).ctxPoison.contains 0 = false ∧
      State.reset.reg 0 .dctlWmkTime [0] < 2 ^ 36) ∧
    (let s := lowHeld .dspGsData [];
      Live s 0 ∧ sget (s.die 0).lows (regOff .dspGsData []) = some 5 ∧ s.reg 0 .dspGsAddr [] % 512 < 264 ∧
      s.graphOn 0 (s.reg 0 .dspGsAddr [] / 512 % 256) = false) ∧
    (let s := lowHeld .cluIsData [11];
      Live s 0 ∧ sget (s.die 0).lows (regOff .cluIsData [11]) = some 5 ∧ ∀ j : Nat, j < 4 → (s.core 0 (11 * 4 + j)).run = .stopped) ∧
    (Live isHeld 0 ∧ sget (isHeld.die 0).lows (regOff .cluIsData [0]) = some 5 ∧ (isHeld.core 0 (0 * 4 + 0)).run ≠ .stopped ∧
      slotValue 5 0 ≠ isHeld.isData 0 0) ∧
    (let s := lowHeld .cluCsData [11]; Live s 0 ∧ sget (s.die 0).lows (regOff .cluCsData [11]) = some 5) ∧
    (let s := lowHeld .flcCtxData []; Live s 0 ∧ sget (s.die 0).lows (regOff .flcCtxData []) = some 5) ∧
    (let s := (lowHeld .dctlJrnData []).setReg 0 .dctlJrnAddr [] 131072;
      s.inReset = false ∧ sget (s.die 0).lows (regOff .dctlJrnData []) = some 5 ∧ 131072 ≤ s.reg 0 .dctlJrnAddr [] % 262144) ∧
    let s := (lowHeld .dctlJrnData []).setReg 0 .dctlJrnAddr [] 131071;
    s.inReset = false ∧ sget (s.die 0).lows (regOff .dctlJrnData []) = some 5 ∧ s.reg 0 .dctlJrnAddr [] % 262144 < 131072 ∧
      w36 (slotValue 5 0) ≠ s.mramWord 131071 := by
  and_intros <;> decide +kernel

/-- The controller of die 0 with one rank of DRAM, as given. -/
def dmcIs (m : Dram) : State := (at0 fun d => { d with dram := m }).setReg 0 .dmcGeom [] 1

/-- A trained controller in ACTIVE. -/
def dmActive : Dram := { st := .active, trained := true, gone := true }

theorem witness_DramControllerChangesState :
    (let s := dmcIs {}; Live s 0 ∧ (s.dmc 0).running = false ∧ (s.dmc 0).gone = false ∧ s.masksOk 0 = true ∧ s.fld 0 .dmcGeom [] 3 3 < 5) ∧
    (let s := dmcIs { running := true };
      Live s 0 ∧ (s.dmc 0).running = true ∧ (s.dmc 0).retrain = false ∧ (s.dmc 0).queue = []) ∧
    (let s := { dmcIs dmActive with now := 10 ^ 9 }.setReg 0 .dmcCtl [] 2;
      Live s 0 ∧ (s.dmc 0).st = .active ∧ (s.dmc 0).entering = false ∧ s.fld 0 .dmcCtl [] 1 1 = 1 ∧ (s.dmc 0).queue = [] ∧
      (s.dmc 0).bolts = [] ∧ s.anyPanic 0 = false ∧ (s.dmc 0).idleSince + s.srIdle 0 ≤ s.now) ∧
    (let s := dmcIs { dmActive with entering := true };
      Live s 0 ∧ (s.dmc 0).st = .active ∧ (s.dmc 0).entering = true ∧ ∀ r : Nat, r < s.ranks 0 → (s.dmc 0).debt r = 0) ∧
    (let s := dmcIs { dmActive with st := .selfRefresh, wake := true };
      Live s 0 ∧ (s.dmc 0).st = .selfRefresh ∧ (s.dmc 0).wake = true ∧ (s.dmc 0).queue = []) ∧
    (let s := (dmcIs {}).modDie 0 fun d => { d with lows := [(regOff .dmcMapLo [5], 2 ^ 18 + 2 ^ 20)] };
      Live s 0 ∧ sget (s.die 0).lows (regOff .dmcMapLo [5]) = some (2 ^ 18 + 2 ^ 20) ∧ 2 ^ 18 + 2 ^ 20 ≠ s.mapMask 0 5 ∧
      s.dmcOpen 0 = true ∧ s.maskOk 0 5 (2 ^ 18 + 2 ^ 20) = true) ∧
    let s := (dmcIs dmActive).modDie 0 fun d => { d with lows := [(regOff .dmcMapLo [5], 2 ^ 18 + 2 ^ 20)] };
    Live s 0 ∧ sget (s.die 0).lows (regOff .dmcMapLo [5]) = some (2 ^ 18 + 2 ^ 20) ∧ s.dmcOpen 0 = false := by
  and_intros <;> decide +kernel

/-- A command on ring 1 of die 0. -/
def dmcRing (m : Dram) (op d0 d1 d2 : Nat) : State :=
  (dmcIs m).modDie 0 fun d => { d with rings := [(1, { cmds := [{ d0 := op + d0, d1 := d1, d2 := d2, d3 := 0 }] })] }

theorem dmcHead_of {s : State} {op : Nat} {c : RCmd} (h : Live s 0 ∧ s.ringCmd 0 1 = some c ∧ c.op = op ∧ c.started = false ∧
    s.dmcFormed 0 c = true) : s.dmcHead 0 op c := ⟨live_of h.1, h.2⟩

theorem witness_DmcCommandsActInTheirStates :
    let maint := { dmActive with st := .maint }
    (∃ c : RCmd, (dmcRing dmActive 1 0 0 0).dmcHead 0 1 c) ∧ ((dmcRing dmActive 1 0 0 0).dmc 0).entering = false ∧
    (∃ c : RCmd, (dmcRing maint 1 0 0 0).dmcHead 0 1 c) ∧ (∃ c : RCmd, (dmcRing dmActive 2 0 0 0).dmcHead 0 2 c) ∧
    (∃ c : RCmd, (dmcRing maint 2 0 0 0).dmcHead 0 2 c) ∧ (dmcRing maint 2 0 0 0).masksOk 0 = true ∧
    (∃ c : RCmd, (dmcRing maint 3 0 0 0).dmcHead 0 3 c) ∧
    (∃ c : RCmd, (dmcRing maint 4 (13 * 65536) 0 (1 + 7 * 256)).dmcHead 0 4 c) ∧
    (∃ c : RCmd, (dmcRing { maint with modeRegs := (List.range 20).map fun j => (j * 256 + 13, 7) } 5 (13 * 65536) 128 0).dmcHead
      0 5 c) ∧
    ∀ j : Nat, j < 20 → sget ((List.range 20).map fun j => (j * 256 + 13, 7)) (j * 256 + 13) = some 7 := by
  and_intros
  all_goals first
    | decide +kernel
    | exact ⟨_, dmcHead_of ⟨by decide +kernel, rfl, by decide +kernel, rfl, by decide +kernel⟩⟩

/-- A read waits for the controller. -/
def dramWaiting : State := dmcIs { dmActive with queue := [{ who := 3, panic := false, addr := 256, at_ := 0 }] }

/-- A host's read of two bytes waits for its one granule. -/
def barWaiting : State := dmcIs { dmActive with
  queue := [{ who := 3, panic := false, addr := 256, at_ := 0, bar := some (4, 0) }]
  bars := [{ id := 4, off := 5, n := 2, granules := 1 }] }

/-- The checks of a granule's read as decidable conditions. -/
theorem granuleClean_of {s : State} {g : Nat} (h : (decodeGranule (s.dmc 0) (s.eccMode 0) (s.dramLoc 0 g)).outcome = 0) :
    s.granuleClean 0 g := h

theorem dramWaiting_gate : dramWaiting.delayGate 0 1 3 256 = (dramWaiting, true) := by decide +kernel

theorem witness_DramServesRefreshesAndIsBolted :
    (Live dramWaiting 0 ∧ dramWaiting.dramOk 0 (2 ^ 40 - 1) = false ∧ dramWaiting.dramOk 0 0 = true ∧ (dmcIs {}).dramOk 0 0 = true ∧
      ((dmcIs {}).dramTouch 0).dramNow 0 0 false = false ∧ ((dmcIs dmActive).dramTouch 0).dramNow 0 0 false = true ∧
      (dmcIs dmActive).dramOk 0 0 = true) ∧
    (dramWaiting.dramNext 0 = some { who := 3, panic := false, addr := 256, at_ := 0 } ∧
      dramWaiting.delayGate 0 1 3 256 = (dramWaiting, true) ∧ dramWaiting.granuleClean 0 2) ∧
    (barWaiting.dramNext 0 = some { who := 3, panic := false, addr := 256, at_ := 0, bar := some (4, 0) } ∧
      barWaiting.granuleClean 0 2 ∧ (barWaiting.dmc 0).bars.find? (·.id = 4) = some { id := 4, off := 5, n := 2, granules := 1 }) ∧
    (dramWaiting.inReset = false ∧ dramWaiting.reach 0 7 = false ∧ dramWaiting.reach 0 0 = true ∧ barBuffer ≤ barBuffer % 2 ^ 37 ∧
      (dramWaiting.die 0).hop.poison = [] ∧ dramWaiting.dramOk 0 (2 ^ 36) = false ∧ 2 ^ 36 < barBuffer) ∧
    (∀ l : Nat, (dramWaiting.die 0).flips (unitKey 1 0 l) = 0) ∧
    (let s := dmcIs dmActive;
      (s.dmc 0).refreshes = true ∧ 0 < s.ranks 0 ∧ sgetD (s.dmc 0).tickAt 0 0 ≤ s.now ∧ (s.dmc 0).debt 0 ≤ 3 ∧ (s.dmc 0).mr4At ≤ s.now ∧
      s.ranks 0 = 1) ∧
    (let s := dmcIs { dmActive with owed := [(2, 1)] };
      sget (s.dmc 0).chgAt 0 ≠ some s.now ∧ s.panicReady 0 = none ∧ (s.dmc 0).debt 0 ≤ 3 ∧
      (s.dmc 0).mostOwed 0 ((List.range 4).filter fun b => (decide (0 < (s.dmc 0).owes 0 b) &&
        decide (sgetD (s.dmc 0).busyTo (0 * 4 + b) 0 ≤ s.now)) && ((s.dmc 0).indexIdle 0 b && !s.indexWanted 0 0 b false)) =
          some 2) ∧
    (let s := dmcIs { dmActive with owed := [(2, 4)] };
      sget (s.dmc 0).chgAt 0 ≠ some s.now ∧ s.panicReady 0 = none ∧ 3 < (s.dmc 0).debt 0 ∧
      (s.dmc 0).mostOwed 0 (List.range 4) = some 2 ∧ sgetD (s.dmc 0).busyTo (0 * 4 + 2) 0 ≤ s.now) ∧
    (let s := (dmcIs { dmActive with revisit := [9] }).setReg 0 .eccBoltCfg [] 3;
      Live s 0 ∧ s.fld 0 .eccBoltCfg [] 0 1 = 1 ∧ s.ranks 0 ≠ 0 ∧ (s.dmc 0).trained = true ∧ s.boltable 0 0 = true ∧
      s.boltable 0 9 = true ∧ (s.dmc 0).pos % (s.capacity 0 / 128) = 0 ∧ (s.dmc 0).bolts = [] ∧ (s.dmc 0).revisit = [9] ∧
      s.fld 0 .eccBoltCfg [] 1 1 = 1 ∧ (s.die 0).flips (unitKey 9 0 0) = 0 ∧ s.granuleClean 0 0 ∧ s.granuleClean 0 9) ∧
    let s := at0 fun d => { d with wback := [unitKey 9 0 3] };
    Live s 0 ∧ (s.die 0).wback.contains (unitKey 9 0 3) = true := by
  repeat' first
    | decide +kernel
    | exact dramWaiting_gate
    | exact granuleClean_of (by decide +kernel)
    | exact fun l => rfl
    | apply And.intro

/-! ### Witnesses: ports -/

/-- Port 0 of die 0 at 10 Gb/s with its link up, and what it receives. -/
def macUp (f : Hopper → Hopper) : State :=
  (State.reset.setReg 0 .macPcfg [0] 0x22).modHop 0 fun h => f { h with linkUp := [0] }

/-- Port 16 of die 0 enabled on a synchronous line. -/
def tgpUp (f : Hopper → Hopper) : State := (State.reset.setReg 0 .tgpCfg [0] 0x101).modHop 0 f

/-- A frame of some octets in its first cell. -/
def rxf (n : Nat) : RxFrame := { cells := [0], octets := (List.range n).map (BitVec.ofNat 8) }

theorem witness_ReceivedFramesAreStoredOrDiscarded :
    (let s := macUp id;
      Live s 0 ∧ (isMac 0 || isTgp 0 0) = true ∧ s.rxOn 0 0 = true ∧ sget (s.die 0).hop.rx 0 = none ∧
      s.lineKind 0 0 = kindOf (.octets [])) ∧
    State.reset.rxOn 0 16 = false ∧ (isMac 16 || isTgp 0 16) = true ∧ (isMac 16 = false ∧ (rxf 3).decided = false) ∧
    ((rxf 14).octets.length < 15 ∧ 15 ≤ (rxf 15).octets.length ∧ beNat (((rxf 15).octets.drop 12).take 2) ≠ 0x8808 ∧
      beNat (((List.replicate 12 0 ++ [0x88, 0x08, 1] : List Byte).drop 12).take 2) = 0x8808) ∧
    (let s := macUp fun h => { h with closed := [0] }; (s.die 0).hop.shut 0 0 = true ∧ s.rxFc 0 0 0 = false) ∧
    (let s := macUp id; let f : RxFrame := { decided := true };
      f.discard = 0 ∧ f.ctl = false ∧ f.cells = [] ∧ 0 < s.rxMax 0 0 ∧ s.noCell 0 0 = false) ∧
    (let s := macUp fun h => { h with rx := [(0, rxf 3)] };
      Live s 0 ∧ sget (s.die 0).hop.rx 0 = some (rxf 3) ∧ s.rxOn 0 0 = true ∧
      (sget ((s.rxTake 0 0 (rxf 3) (.octets [1, 2])).die 0).hop.rx 0).isSome = true ∧
      s.rxMax 0 0 = (s.rxTake 0 0 (rxf 3) (.octets [1, 2])).rxMax 0 0 ∧ kindOf (.octets [1, 2]) = 0) ∧
    (let s := tgpUp fun h => { h with rx := [(16, rxf 3)] };
      Live s 0 ∧ isTgp 0 16 = true ∧ s.rxOn 0 16 = true ∧ sget (s.die 0).hop.rx 16 = some (rxf 3) ∧
      kindOf (.bits [true]) = s.lineKind 0 16 ∧ (sget ((s.rxTake 0 16 (rxf 3) (.bits [true])).die 0).hop.rx 16).isSome = true) ∧
    (let s := { ((State.reset.setReg 0 .tgpGap [0] 1).setReg 0 .tgpRate [0] 1000) with now := 10 ^ 9 }.modHop 0 fun h => { h with
        rx := [(16, rxf 3)] };
      isTgp 0 16 = true ∧ sget (s.die 0).hop.rx 16 = some (rxf 3) ∧
      s.fld 0 .tgpGap [0] 0 16 * 1000000000 < (s.now - (rxf 3).lastBit) * s.fld 0 .tgpRate [0] 0 25) ∧
    (let s := State.reset.modHop 0 fun h => { h with
        complete := [0], packets := [(0, { cells := [3], len := 60, fcs := 0, port := 1, cfg := 0, pdef := 0, ts := 0 })] };
      Live s 0 ∧ (s.die 0).hop.complete = [0] ∧ s.blocked 0 = false ∧ (s.pkt 0 0).isSome = true) ∧
    let s := State.reset.modHop 0 fun h => { h with outstanding := 262144, complete := [0] };
    Live s 0 ∧ s.blocked 0 = true := by
  and_intros <;> decide +kernel

theorem witness_PortsAreConfiguredAndLinked :
    (let s := macUp id;
      Live s 0 ∧ isMac 0 = true ∧ bit (s.reg 0 .macPcfg [0]) 5 = true ∧ s.macOn 0 0 = true ∧ s.serdesLost = false) ∧
    (let s := State.reset.setReg 0 .macPcfg [0] 0x28;
      Live s 0 ∧ isMac 1 = true ∧ bit (s.reg 0 .macPcfg [1]) 5 = false ∧ 1 ∈ s.lanesOf 0 0 ∧ bit (0x22 : Nat) 5 = true) ∧
    (let s := State.reset; Live s 0 ∧ isMac 9 = true ∧ bit (s.reg 0 .macPcfg [9]) 5 = false) ∧
    (let s := tgpUp id; Live s 0 ∧ isTgp 0 (0 + 16) = true ∧ bit (s.reg 0 .tgpCfg [0]) 8 = true) ∧
    isTgp 0 (7 + 16) = true ∧ bit (State.reset.reg 0 .tgpCfg [7]) 8 = false := by
  and_intros <;> decide +kernel

theorem witness_FlowControlIsObeyedAndSent :
    (let s := macUp id; Live s 0 ∧ isMac 0 = true ∧ s.rxOn 0 0 = true) ∧
    (let s := macUp fun h => { h with pausedTo := [(0, 7), (39, 9)] };
      sget (s.die 0).hop.pausedTo 0 = some 7 ∧ sget (s.die 0).hop.pausedTo (32 + 8 * 0 + 7) = some 9) ∧
    (let s := macUp fun h => { h with fcOwed := [(0, { quanta := 65535 })] };
      s.rxOn 0 0 = true ∧ sget (s.die 0).egr.sending 0 = none ∧ sget (s.die 0).hop.fcOwed 0 = some { quanta := 65535 } ∧
      ∀ q : Nat, q < 8 → sget (s.die 0).hop.fcOwed (32 + 8 * 0 + q) = none) ∧
    (let s := { macUp fun h => { h with fcOwed := [(0, { quanta := 2, due := false })] } with now := 10 ^ 6 };
      sget (s.die 0).hop.fcOwed 0 = some { quanta := 2, due := false } ∧ 0 + 2 * 256 * 1000 / s.macRate 0 0 ≤ s.now) ∧
    let s := State.reset.modEgr 0 fun y => { y with
      sending := [(0, { queue := 0, at_ := 0, e := { cells := 1, a := { port := 0, ticket := 0, seq := 0, pid := 0, enq := { die := 0, queue := 0, w0 := 0, w1 := 0 } } } })] };
    Live s 0 ∧ isMac 0 = true ∧ (sget (s.die 0).egr.sending 0).isSome = true := by
  and_intros <;> decide +kernel

/-! ### Witnesses: extraction, graphs and operations -/

/-- A packet of one cell, and what the extractor makes of it. -/
def pkt1 : Packet := { cells := [3], len := 60, fcs := 0, port := 1, cfg := 0, pdef := 0, ts := 0 }

/-- A staged packet with 27 words, for table 0 and one key word. -/
def stg : Staged := { pid := 0, words := List.replicate 27 0, lookup := 1 }

/-- Packet 0 lies on die 0, and the hopper is as given; every link is up. -/
def hopIs (f : Hopper → Hopper) : State :=
  ({ State.reset with fab := { State.reset.fab with links := (List.range 24).map fun k => (k, .up) } }).modHop 0 fun h =>
    f { h with packets := [(0, pkt1)], cellUse := [(3, { port := some 1 })] }

theorem witness_FramesAreClassifiedAndInstantiated :
    (let s := hopIs fun h => { h with admitted := [0] }; Live s 0 ∧ (s.die 0).hop.admitted = [0] ∧ s.pkt 0 0 = some pkt1) ∧
    (let s := (hopIs fun h => { h with extracted := [stg] }).setReg 0 .tblTabCtl [0] 1;
      Live s 0 ∧ s.frameNext 0 = some stg ∧ (s.lookupFor 0 12 0 0 stg.key false).2.map (·.1) = some 1 ∧ 27 ≤ stg.words.length ∧
      (s.lookupFor 0 12 0 0 stg.key false).2.map (fun r => bit (r.2.getD 3 0).toNat 9) = some false) ∧
    (let s := hopIs fun h => { h with toMove := [{ stg with target := 3 }] };
      Live s 0 ∧ (s.die 0).hop.toMove = [{ stg with target := 3 }] ∧ s.pkt 0 0 = some pkt1 ∧ s.routeHeld 0 3 = false ∧
      s.reach 0 3 = true ∧ pkt1.cells.length ≤ (s.die 3).hop.free ∧ s.linkGrants 0 3 true = true ∧
      s.delayGate 0 0 200 0 = (s, true)) ∧
    (let s := withGraph (hopIs fun h => { h with toInst := [stg] });
      Live s 0 ∧ (s.die 0).hop.toInst = [stg] ∧ s.readGraph 0 0 = s ∧ (s.die 0).dsp.fallbacks = [] ∧ s.graphLive 0 0 = true ∧
      s.ingressRoom 0 0 = true) ∧
    (let s := (withGraph (hopIs id)).modDsp 0 fun y => { y with fallbacks := [{ graph := 0, staged := stg, marked := true }] };
      Live s 0 ∧ (s.die 0).dsp.fallbacks = [{ graph := 0, staged := stg, marked := true }] ∧ s.readGraph 0 0 = s ∧
      s.graphLive 0 0 = true ∧ (s.die 0).dsp.width 0 ≤ (s.die 0).dsp.free) ∧
    bit (State.reset.reg 0 .hopProfCtl [63]) 0 = false ∧ bit ((State.reset.setReg 0 .hopProfCtl [63] 1).reg 0 .hopProfCtl [63]) 0 = true ∧
    bit ((State.reset.setReg 0 .hopSelAct [63] 1).reg 0 .hopSelAct [63]) 0 = true ∧ Live State.reset 0 := by
  and_intros <;> decide +kernel

/-- An operation in slot 5 as given, of an instance of graph 0 with packet 0. -/
def opIs (o : Op) : State :=
  (withGraph (hopIs id)).modDsp 0 fun y => { y with
    insts := [(2, { graph := 0, width := 1, words := List.replicate 48 0, pid := some 0, ops := [5] })], ops := [(5, o)] }

/-- An operation of instance 2. -/
def op2 (st : OpState) (kind : Nat) : Op := { inst := 2, node := 0, kind := kind, st := st }

/-- Slot 5 heads ready list 0, and a thread of core 0 waits for an operation. -/
def ready1 : State :=
  (opIs (op2 .ready 0)).modDie 0 fun d => { d with
    dsp := { d.dsp with lists := [(0, [5])] }, cores := [(0, { run := .running })]
    threads := [(0, { th with st := .waiting, waitOn := 16 })] }

theorem witness_OperationsAreDeliveredAndCommitted :
    (let s := ready1.setReg 0 .dspGroupLo [0] 1;
      Live s 0 ∧ sgetD (s.die 0).dsp.lists 0 [] = [5] ∧ s.op 0 5 = some (op2 .ready 0) ∧
      ((List.range 48).map fun j => (sgetD (s.die 0).dsp.lastCore 0 47 + 1 + j) % 48).find? (fun c =>
        match s.taker 0 c with
        | some k => s.nextList 0 k = some 0
        | none => false) = some 0 ∧ s.taker 0 0 = some 0) ∧
    (let o := { op2 .commit 0 with log := [.packet 0 [1]] };
      Live (opIs o) 0 ∧ (opIs o).op 0 5 = some o ∧ o.st = .commit ∧ o.carry = [] ∧ o.thread = none ∧
      (∀ h : Nat, h < 36 → ((opIs o).helper 0 h).atCommit ≠ some 5)) ∧
    (∀ e ∈ [LogEntry.packet 0 [1]], ∃ (off : Nat) (bs : List Byte), e = .packet off bs) ∧
    (let o := { op2 .tables 0 with tables := [{ op := 3, table := 0, key := [1] }] };
      let s := (opIs o).setReg 0 .tblTabCtl [0] 1;
      let v := (s.pipeTake 0 13 (o.updItem 5)).tblRun 0 3 0 (s.reg 0 .tblBodyGen [s.bodyOf 0 0]) [1] [] true
        (s.tblActive 0 13 (o.updItem 5));
      Live s 0 ∧ s.op 0 5 = some o ∧ s.heldItem 0 2 14 (5 + 2 ^ 20) = none ∧ s.pipeGate 0 13 (o.updItem 5) = (s, true) ∧
      v.2.isSome = true ∧ ∀ r : TblOut, v.2 = some r → v.1.delayPut 0 2 14 (5 + 2 ^ 20) [r.code] = (v.1, true)) ∧
    (let s := (opIs (op2 .engine 1)).setReg 0 .tblTabCtl [0] 1;
      let u := s.instWords 0 2 8 1;
      Live s 0 ∧ s.op 0 5 = some (op2 .engine 1) ∧
      (u.1.lookupFor 0 13 ((op2 .engine 1).lookItem 5) 0 (u.2 ++ List.replicate 3 0) false).2.isSome = true) ∧
    (let s := opIs (op2 .engine 4);
      Live s 0 ∧ s.op 0 5 = some (op2 .engine 4) ∧ (s.inst 0 2).map (fun i => decide (i.pid ≠ none ∧ i.enqs.length < 8)) = some true) ∧
    (let s := (opIs (op2 .engine 4)).modDsp 0 fun y => { y with
        insts := [(2, { graph := 0, width := 1, words := [], pid := none, ops := [5] })] };
      (s.inst 0 2).map (·.pid) = some none) ∧
    (opIs (op2 .engine 5)).op 0 5 = some (op2 .engine 5) := by
  repeat' first
    | decide +kernel
    | exact fun e h => ⟨0, [1], List.mem_singleton.1 h⟩
    | apply And.intro

/-! ### Witnesses: the machine as a whole -/

theorem witness_StepRunsTheFrontCommand :
    { State.reset with pending := [Instr.serdesRefclkReturn] }.pending = Instr.serdesRefclkReturn :: [] ∧
    (let s := State.reset;
      s.pending = [] ∧ s.inReset = false ∧ s.reg 0 .mlsTimeRate [] = 0 ∧ s.has 7 = true ∧ (s.die 7).t0frac < 2 ^ 32) ∧
    (let s := { State.reset with pwr := { State.reset.pwr with low := true } }; s.pending = [] ∧ s.inReset = true) := by
  refine ⟨rfl, ?_, ?_⟩ <;> decide +kernel

theorem witness_EveryStepKeepsTheVariantAndTheQueue :
    State.reset.inv ∧ step State.reset = .next State.reset.tick ∧
    step { State.reset with pending := [Instr.serdesRefclkReturn] } = exec .serdesRefclkReturn State.reset :=
  ⟨⟨rfl, by intro c h; cases h⟩, rfl, rfl⟩

theorem witness_ResetHoldsCommandsBack :
    (let s := { State.reset with pwr := { State.reset.pwr with low := true } }; s.inReset = true) ∧
    actsInReset (.frameAdmit 0) = false ∧ (∃ t : State, exec .serdesRefclkReturn State.reset = .next t) :=
  ⟨by decide +kernel, rfl, ⟨_, rfl⟩⟩

theorem witness_InstructionWordsAreReadBack :
    legalInstr (.imm .movi 8 0 1000) = true ∧ decodeWord 0o054400001750 = some (.imm .movi 8 0 1000) := by
  and_intros <;> decide +kernel

/-! ### Witnesses: tickets and queues -/

/-- A ticket of packet 0 that names one enqueue. -/
def tk1 (c : TicketCond) (holder : Nat) : Ticket := { number := 0, cond := c, holder := holder, pid := 0 }

/-- An enqueue of 60 bytes for a queue of a die. -/
def enq1 (die queue : Nat) : Enq := { die := die, queue := queue, w0 := 60, w1 := 0 }

/-- The enqueue of packet 0 from port 1. -/
def arr1 (die queue : Nat) : Arrival := { port := 1, ticket := 0, seq := 0, pid := 0, enq := enq1 die queue }

/-- A message in flight. -/
def flying (f : Flight) : State :=
  let s := hopIs id
  { s with fab := { s.fab with flight := [(9, f)] } }

theorem goes_of {s : State} {a b c id : Nat} {f : Flight} {fs : List (Nat × Flight)} (h : s.fab.flight = (id, f) :: fs)
    (r : s.routeHeld a b = false ∧ s.reach a b = true ∧ s.delayGate a 0 (201 + c) id = (s, true)) :
    s.messageGoes a b c id f := ⟨⟨fs, h⟩, r⟩

theorem witness_TicketsAndEnqueues :
    (let s := State.reset; Live s 0 ∧ s.board 0 31 = []) ∧
    (let s := (hopIs fun h => { h with board := [(1, [tk1 (.resolved [enq1 0 3]) 0])] }).setReg 0 .egrQCfg [3] 1;
      Live s 0 ∧ s.board 0 1 = [tk1 (.resolved [enq1 0 3]) 0] ∧ s.reach 0 0 = true ∧ s.queueOn 0 3 = true ∧
      sgetD (s.die 0).egr.outst (1 * 8 + 0) 0 < 32768 ∧
      (s.die 0).egr.skipped.contains ((0 * 32 + 1) * 65536 + sgetD (s.die 0).egr.nextSeq (1 * 8 + 0) 0) = false) ∧
    (let s := hopIs fun h => { h with board := [(1, [tk1 (.resolved [enq1 7 3]) 2])] };
      Live s 0 ∧ s.reach 0 7 = true ∧ s.reach 0 2 = true ∧ sgetD (s.die 0).egr.outst (1 * 8 + 7) 0 < 32768) ∧
    (tk1 .pending 0).cond = .pending ∧ (tk1 .retired 0).cond = .retired ∧ (tk1 .retired 0).tagged = false ∧
    (let f := Flight.resolution 2 0 { port := 1, ticket := 0, enqs := none, reason := 1, holder := 0, pid := 0 };
      Live (flying f) 0 ∧ (flying f).messageGoes 2 0 1 9 f) ∧
    (let f := Flight.grant 2 0 (arr1 0 3);
      (flying f).messageGoes 2 0 1 9 f ∧ ((flying f).die 0).egr.skipped.contains (seqKey (arr1 0 3)) = false) ∧
    (let f := Flight.grant 2 0 (arr1 7 3);
      (flying f).messageGoes 2 0 1 9 f ∧ (flying f).pkt 0 0 = some pkt1 ∧
      (flying f).enqBad (arr1 7 3).enq pkt1.cells.length = false ∧ (flying f).enqBad { enq1 7 3 with w0 := 0 } 1 = true) ∧
    (let f := Flight.credit 2 0 1; (flying f).messageGoes 2 0 1 9 f) ∧
    (let f := Flight.enqueue 2 0 (arr1 0 3);
      (flying f).messageGoes 2 0 0 9 f ∧ ((flying f).die 0).egr.skipped.contains (seqKey (arr1 0 3)) = false ∧
      ((flying f).modEgr 0 fun y => { y with skipped := [seqKey (arr1 0 3)] }).messageGoes 2 0 0 9 f) ∧
    (let s := { hopIs id with now := 100000 }.modEgr 0 fun y => { y with arrived := [arr1 0 3] };
      Live s 0 ∧ ((s.die 0).egr.arrived.filter fun x => x.port = 1) = [arr1 0 3] ∧ (arr1 0 3).heldAt + 100000 ≤ s.now ∧
      { arr1 0 3 with heldAt := 1 }.heldAt ≤ s.now ∧ s.now < { arr1 0 3 with heldAt := 1 }.heldAt + 100000 ∧
      sgetD (s.die 0).egr.expect 1 0 < 65536 ∧ (s.die 0).egr.announced = [] ∧
      ((s.die 0).egr.arrived.filter fun x => x.port = 255) = []) ∧
    (let s := (hopIs id).modEgr 0 fun y => { y with toCopy := [arr1 7 3] };
      Live s 0 ∧ (s.die 0).egr.toCopy = [arr1 7 3] ∧ s.pkt 0 0 = some pkt1 ∧ s.routeHeld 0 7 = false ∧ s.reach 0 7 = true ∧
      s.linkGrants 0 7 false = true ∧ ((arr1 7 3).enq.copied pkt1.cells).length ≤ (s.die 7).hop.free) ∧
    (let s := (hopIs id).modEgr 0 fun y => { y with arrived := [arr1 0 3] };
      s.nextArrival 0 = some (arr1 0 3) ∧ (arr1 0 3).void = false ∧ s.pkt 0 0 = some pkt1 ∧ s.enqBad (arr1 0 3).enq 1 = false ∧
      (s.queue 0 3).spilling = false ∧ (s.queue 0 3).depth + 1 ≤ s.fld 0 .egrQLim [3] 0 19 ∧
      (s.setReg 0 .egrQLim [3] 0).fld 0 .egrQLim [3] 0 19 < (s.queue 0 3).depth + 1 ∧ bit (s.reg 0 .egrQCfg [3]) 4 = false ∧
      s.enqBad { enq1 0 3 with w0 := 0 } 1 = true) ∧
    (let s := (hopIs id).modEgr 0 fun y => { y with arrived := [{ arr1 0 3 with void := true }] };
      s.nextArrival 0 = some { arr1 0 3 with void := true }) ∧
    (let s := (hopIs id).modEgr 0 fun y => { y with arrived := [{ arr1 0 3 with port := 33, remote := true }] };
      s.nextArrival 0 = some { arr1 0 3 with port := 33, remote := true } ∧ s.queueOn 0 3 = false ∧ 33 / 32 ≠ 0) ∧
    (let s := State.reset;
      bit (s.reg 0 .egrQCfg [511]) 0 = false ∧ bit ((0xFFFFFFFF : Nat) &&& 0xFFFBFFFF) 0 = true ∧ queueHere 0 511 = true ∧
      queueHere 3 256 = false) ∧
    (let s := State.reset.setReg 0 .egrQCfg [600] 1;
      bit (s.reg 0 .egrQCfg [600]) 0 = true ∧ (3 : Nat) ≠ s.reg 0 .egrQCfg [600] ∧ 0 / 2 = s.reg 0 .egrQCfg [600] / 2) := by
  repeat' first | decide +kernel | exact goes_of rfl (by decide +kernel) | apply And.intro

/-! ### Witnesses: the tailrace -/

/-- The head of queue q of port 0 or 16. -/
def head1 (q : Nat) : QEntry := { a := arr1 0 q, cells := 1 }

/-- A queue of die 0 enabled with one entry, of a port whose link is up. -/
def queueIs (q : Nat) (f : Queue → Queue) : State :=
  (((State.reset.setReg 0 .macPcfg [0] 0x22).setReg 0 .tgpCfg [0] 0x101).setReg 0 .egrQCfg [q] 1).modDie 0 fun d => { d with
    hop := { d.hop with packets := [(0, { pkt1 with refs := 1 })], cellUse := [(3, { port := some 1 })], linkUp := [0] }
    egr := { d.egr with queues := [(q, f { entries := [head1 q] })] } }

/-- A frame chosen by port p from queue q. -/
def chosenIs (p q : Nat) : State :=
  (queueIs q fun x => { x with entries := [] }).modEgr 0 fun y => { y with chosen := [(p, ⟨q, head1 q, 0⟩)] }

/-- The head of queue 3 comes back from DRAM: its last cell is in cell 5 of the spill region. -/
def spilt : State :=
  ((queueIs 3 fun x => { x with entries := [{ head1 3 with spill := [5], back := true }], spilling := true }).modDie 0 fun d =>
    { d with dram := dmActive }).setReg 0 .dmcGeom [] 1

/-- The state in which the read-ahead of queue 3 fetches that cell. -/
def spiltSet : State :=
  let y : Queue := { spilt.queue 0 3 with refill := (spilt.queue 0 3).refills }
  (spilt.setQueue 0 3 y).setQueue 0 3 y

theorem witness_FramesAreChosenAndSent :
    (let s := queueIs 3 id;
      Live s 0 ∧ sget (s.die 0).egr.chosen 0 = none ∧ sget (s.die 0).egr.sending 0 = none ∧
      ((List.range 16).map (portBase 0 + ·)).filter (s.eligible 0 0) = [3] ∧ s.members 0 3 = [3] ∧
      (s.queue 0 3).head = some (head1 3) ∧ s.guardOk 0 0 3 (head1 3).a.enq = true) ∧
    ((List.range 16).map (portBase 31 + ·)).filter (State.reset.eligible 0 31) = [] ∧
    (let s := queueIs 496 id;
      ((List.range 16).map (portBase 31 + ·)).filter (s.eligible 0 31) = [496] ∧ s.members 0 496 = [496] ∧
      (s.queue 0 496).head = some (head1 496) ∧ s.recircRoom 0 (head1 496).a.enq = true) ∧
    (let s := chosenIs 0 3;
      Live s 0 ∧ sget (s.die 0).egr.sending 0 = none ∧ sget (s.die 0).egr.chosen 0 = some ⟨3, head1 3, 0⟩ ∧
      s.pkt 0 0 = some { pkt1 with refs := 1 } ∧ s.readCells 0 ((head1 3).a.enq.copied pkt1.cells) = s ∧
      s.fld 0 .egrQShape [s.portQueue 0 3] 0 29 = 0 ∧ s.poisonAt 0 (head1 3).a.enq pkt1.cells = none) ∧
    (let s := chosenIs 16 259;
      isTgp 0 16 = true ∧ isMac 16 = false ∧ sget (s.die 0).egr.chosen 16 = some ⟨259, head1 259, 0⟩ ∧
      s.readCells 0 ((head1 259).a.enq.copied pkt1.cells) = s ∧ s.fld 0 .egrQShape [s.portQueue 0 259] 0 29 = 0 ∧
      s.poisonAt 0 (head1 259).a.enq pkt1.cells = none) ∧
    (let s := (chosenIs 0 3).modHop 0 fun h => { h with poison := [3] };
      s.readCells 0 ((head1 3).a.enq.copied pkt1.cells) = s ∧ s.poisonAt 0 (head1 3).a.enq pkt1.cells = some 0) ∧
    (let s := chosenIs 31 496;
      sget (s.die 0).egr.sending 31 = none ∧ sget (s.die 0).egr.chosen 31 = some ⟨496, head1 496, 0⟩ ∧
      s.recircRoom 0 (head1 496).a.enq = true ∧ (s.setReg 0 .hopPortQuota [31] 0).recircRoom 0 (head1 496).a.enq = false ∧
      s.readCells 0 ((head1 496).a.enq.copied pkt1.cells) = s) ∧
    (let s := (queueIs 3 id).modEgr 0 fun y => { y with sending := [(0, ⟨3, head1 3, 0⟩)] };
      sget (s.die 0).egr.sending 0 = some ⟨3, head1 3, 0⟩) ∧
    ((queueIs 3 id).queue 0 3).entries.find? (fun e => !e.spill.isEmpty) = none ∧
    (let s := queueIs 3 fun x => { x with entries := [{ head1 3 with cells := 40, back := true }, { head1 3 with spill := [5] }] };
      (s.queue 0 3).entries.find? (fun e => !e.spill.isEmpty) = some { head1 3 with spill := [5] } ∧ (s.queue 0 3).refills = false) ∧
    ((spilt.queue 0 3).entries = [{ head1 3 with spill := [5], back := true }] ∧ bit (spilt.reg 0 .egrQCfg [3]) 5 = false ∧
      (spilt.queue 0 3).refills = true ∧ spiltSet.pkt 0 0 = some { pkt1 with refs := 1 } ∧ (spiltSet.die 0).hop.free ≠ 0 ∧
      (spiltSet.dramFetch 0 (spiltSet.spillAddr 0 5) false (some 403)).2.isSome = true ∧
      let u := (spiltSet.dramFetch 0 (spiltSet.spillAddr 0 5) false (some 403)).1;
      let z := u.aheadCell 0 { head1 3 with spill := [5], back := true } { pkt1 with refs := 1 };
      z.2 = some 3 ∧ (z.1.queue 0 3).entries = [{ head1 3 with spill := [5], back := true }]) ∧
    (enq1 0 3).stamp = none ∧ (enq1 0 3).fcsMode = 0 ∧ ([1, 2] : List Byte).length ≤ 60 := by
  and_intros <;> decide +kernel

theorem witness_GateListsFollowTheirAxes :
    (Live State.reset 0 ∧ gateHere 0 17 = true) ∧
    State.reset.glStat 0 17 7 = sgetD (State.reset.die 0).egr.glState (17 * 8 + 7) (0, false, false, 0) ∧
    (let s := State.reset.modEgr 0 fun y => { y with glState := [(143, (1, false, false, 0))] };
      s.glStat 0 17 7 ≠ sgetD (s.die 0).egr.glState (17 * 8 + 7) (0, false, false, 0)) ∧
    bit (State.reset.reg 0 .egrGlCfg [17, 7]) 0 = false ∧ State.reset.glLegal 0 0 0 1 = true ∧ State.reset.glLegal 0 0 0 65 = false ∧
    (let s := State.reset.setReg 0 .egrGlCfg [17, 7] 0x81;
      Live s 0 ∧ bit (s.reg 0 .egrGlCfg [17, 7]) 0 = true ∧ bits (putBit 0x100 0 true) 0 30 ≠ s.reg 0 .egrGlCfg [17, 7] ∧
      bits (putBit 0x81 0 false) 0 30 / 2 = s.reg 0 .egrGlCfg [17, 7] / 2 ∧
      bits (putBit 0x100 0 false) 0 30 / 2 ≠ s.reg 0 .egrGlCfg [17, 7] / 2) ∧
    bits (0xF : Nat) 4 28 = 0 ∧
    (let s := State.reset.setReg 0 .egrGlAddr [] 0x3FF1;
      bits (s.reg 0 .egrGlAddr []) 0 5 < 18 ∧ s.glCfg 0 (bits (s.reg 0 .egrGlAddr []) 0 5) (bits (s.reg 0 .egrGlAddr []) 5 3) 0 1 ≠ 1) ∧
    (let s := (State.reset.setReg 0 .egrGlAddr [] 0x3FF1).setReg 0 .egrGlCfg [17, 7] 0x81;
      s.glCfg 0 (bits (s.reg 0 .egrGlAddr []) 0 5) (bits (s.reg 0 .egrGlAddr []) 5 3) 0 1 = 1 ∧ (5 : Nat) ≠ s.glData 0) ∧
    18 ≤ bits ((State.reset.setReg 0 .egrGlAddr [] 18).reg 0 .egrGlAddr []) 0 5 := by
  and_intros <;> decide +kernel

/-! ### Witnesses: links and the Waymark chain -/

/-- The end k of die 0's links as given. -/
def linkIs (x : LinkState) : State :=
  { State.reset with fab := { State.reset.fab with links := [(linkKey 8 0 1, x)] } }

/-- Both ends of every link with its ENABLE bit, or what one gives. -/
def linksOn (v : Nat) (s : State) : State :=
  (List.range 24).foldl (fun (s : State) j => s.setReg (j / 3) .twxLinkCtl [j % 3] v) s

/-- A command of ring 4. -/
def linkCmd (x : LinkState) (d0 : Nat) : State :=
  (linkIs x).modDie 0 fun d => { d with rings := [(4, { cmds := [{ d0 := d0, d1 := 0, d2 := 0, d3 := 0 }] })] }

theorem witness_LinksChangeState :
    (let s := linkIs .up; Live s 0 ∧ bit (s.reg 0 .twxLinkCtl [1]) 0 = true ∧ s.link 0 1 = .up ∧ s.linkOpen 0 1 = true) ∧
    bit ((linksOn 0 (linkIs .down)).reg 0 .twxLinkCtl [1]) 0 = false ∧
    ((linkCmd .down (1 + 256)).ringCmd 0 4).map (fun c => decide (c.op = 1 ∧ c.started = false ∧ bits c.d0 8 2 = 1 ∧ bits c.d0 10 22 = 0)) =
      some true ∧
    ((linkCmd .up (1 + 3 * 256)).ringCmd 0 4).map (fun c => bits c.d0 8 2) = some 3 ∧
    (linkCmd .up (1 + 256)).link 0 1 = .up ∧ (linkCmd .degraded (1 + 256)).link 0 1 = .degraded ∧
    (let s := linksOn 1 (linkIs .training); s.link 0 1 = .training ∧ s.bothEnds 0 1 0 = true ∧ s.bothEnds 0 1 1 = false) ∧
    (let s := linksOn 3 (linkIs .training); s.link 0 1 = .training ∧ s.bothEnds 0 1 0 = true ∧ s.bothEnds 0 1 1 = true) ∧
    (let s := linksOn 0 (linkIs .training); s.link 0 1 = .training ∧ s.bothEnds 0 1 0 = false) ∧
    (linkIs .down).linkOpen 0 1 = false ∧ (linkIs .down).link 0 1 ≠ .up ∧
    (let s := { linkIs .up with fab := { (linkIs .up).fab with run := [(1, 7)] } };
      s.linkOpen 0 1 = true ∧ 8 ≤ sgetD s.fab.run (0 * 3 + 1) 0 + 1) ∧
    (let s := hopIs id;
      s.inReset = false ∧ s.has 0 = true ∧ s.link 0 1 ≠ .training ∧ (0, 7) ∈ s.diePairs ∧ (s.link 0 0).opens = true ∧
      LinkState.training.opens = false) := by
  and_intros <;> decide +kernel

/-- A command of ring 5 on a part that runs, with the Waymark registers as given. -/
def chainIs (ctl addr : Nat) (c : RCmd) : State :=
  (((State.reset.setReg 0 .dctlPartState [] 1).setReg 0 .dctlWmkCtl [] ctl).setReg 0 .dctlWmkAddr [] addr).modDie 0 fun d =>
    { d with rings := [(5, { cmds := [c] })] }

/-- A descriptor of ring 5. -/
def ident1 (d0 : Nat) : RCmd := { d0 := d0, d1 := 0, d2 := 0, d3 := 0 }

theorem identHead_of {s : State} {c : Instr} {x : RCmd} {op m0 m2 : Nat} {arg out : Bool}
    (f : identFields c = some (op, m0, arg, out, m2))
    (h : s.inReset = false ∧ s.ringCmd 0 5 = some x ∧ x.started = false ∧ x.op = op ∧ x.named m0 arg out m2 = true) : s.identHead c x :=
  ⟨h.1, h.2.1, h.2.2.1, op, m0, m2, arg, out, f, h.2.2.2⟩

/-- A frame for a package: a release to an address. -/
def wfr (dest hops : Nat) : WFrame := { dest := dest, src := 9, type := 0x02, hops := hops, payload := [] }

theorem witness_WaymarkFramesAndChainCommands :
    (chainIs 3 128 (ident1 (1 + 62 * 256))).identHead .attest (ident1 (1 + 62 * 256)) ∧
    (chainIs 3 128 (ident1 1)).identHead .attest (ident1 1) ∧
    (chainIs 1 0 (ident1 9)).identHead .wmkEnumerate (ident1 9) ∧
    (chainIs 1 0 (ident1 10)).identHead .wmkRelease (ident1 10) ∧
    (chainIs 1 128 (ident1 (11 + 2 ^ 14))).identHead .wmkReg (ident1 (11 + 2 ^ 14)) ∧
    (let s := chainIs 3 128 (ident1 1);
      s.wmkMaster = true ∧ s.wmkState = 2 ∧ s.running = true ∧ bit (s.reg 0 .dctlWmkCtl []) 1 = true) ∧
    (let s := chainIs 1 0 (ident1 1); s.wmkMaster = true ∧ s.wmkState = 0 ∧ bit (s.reg 0 .dctlWmkCtl []) 1 = false) ∧
    (let s := { chainIs 3 128 { ident1 1 with started := true } with now := 10000000 };
      s.inReset = false ∧ s.ringCmd 0 5 = some { ident1 1 with started := true } ∧ 0 + 10000000 ≤ s.now ∧
      (s.chainWaits 1).isSome = true) ∧
    (let s := { chainIs 3 64 { ident1 9 with started := true } with now := 1000000 };
      s.ringCmd 0 5 = some { ident1 9 with started := true } ∧ bit (s.reg 0 .dctlWmkCtl []) 1 = true ∧ 0 + 1000000 ≤ s.now ∧
      s.wmkState = 1 ∧ (s.chainWaits 9).isSome = true) ∧
    ((chainIs 3 128 { ident1 11 with started := true }).chainWaits 11).isSome = true ∧ State.reset.wmk.seq = (0 : Byte).toNat ∧
    4 ≤ ({ State.reset with wmk := { starts := [1, 2, 3, 4] } }.wmk.starts.filter (State.reset.now < ·)).length ∧
    (State.reset.wmk.starts.filter (State.reset.now < ·)).length < 4 ∧ State.reset.fld 0 .dctlWmkStat [] 8 16 < 65535 ∧
    (let s := chainIs 0 (128 + 5) (ident1 1);
      s.wmkMaster = false ∧ s.frameMine (wfr 5 61) ∧ s.frameForAll (wfr 63 0) ∧ s.framePasses (wfr 6 0) ∧ 63 ≤ (wfr 6 62).hops + 1) ∧
    (chainIs 0 (128 + 5) (ident1 1)).wmkState ≠ 0 ∧ (chainIs 0 0 (ident1 1)).wmkState = 0 ∧ (61 : Byte).toNat < 62 ∧
    (chainIs 4 (128 + 5) (ident1 1)).frameMine (wfr 5 61) ∧ bit ((chainIs 4 133 (ident1 1)).reg 0 .dctlWmkCtl []) 2 = true ∧
    (chainIs 0 0 (ident1 1)).frameForAll (wfr 63 0) ∧ (62 : Byte).toNat = 62 ∧
    (let s := { chainIs 9 0 (ident1 1) with now := 5 };
      s.wmkMaster = true ∧ s.fld 0 .dctlWmkCtl [] 3 8 ≠ 0 ∧ s.wmk.timeAt ≤ s.now) := by
  repeat' first
    | decide +kernel
    | exact identHead_of rfl (by decide +kernel)
    | apply And.intro

/-! ### Witnesses: helpers -/

/-- A job with its descriptor words 0 to 6, for thread 0, with the cluster store from word 0 to 4095. -/
def job (func opt src len dst w4 w5 w6 : Nat) : Job :=
  { who := .thread 0, desc := [w36 (func + 256 * opt), w36 src, w36 len, w36 dst, w36 w4, w36 w5, w36 w6, 0], first := 0, last := 4095 }

/-- The first job of helper h of die 0, in a phase; word 1 of the stores of clusters 0 and 11 holds octets. -/
def jobIs (h : Nat) (p : JobPhase) (j : Job) : State :=
  (at0 fun d => { d with cstore := [(1, 0x11223344), (2883585, 0x11223344)] }).setHelper 0 h { jobs := [{ j with phase := p }] }

theorem jobRuns_of {s : State} {h kind func : Nat} {j : Job} (hs : s.has 0 = true ∧ s.inReset = false) (hh : h < 36 ∧ h % 3 = kind)
    (e : (s.helper 0 h).jobs = [j]) (f : j.func = func ∧ j.phase = .started ∧ s.helperBanks 0 h (s.jobBanks 0 h j) = true) :
    s.jobRuns 0 h kind func j :=
  ⟨hs, hh.1, hh.2, ⟨[], e⟩, f⟩

theorem witness_HelperJobsStartAndComplete :
    Live State.reset 0 ∧ (State.reset.helper 0 35).jobs = [] ∧
    (let j := job 1 0 0 4 100 0 0 0; let s := jobIs 2 .queued j;
      (s.helper 0 2).jobs = [j] ∧ j.phase = .queued ∧ (s.jobCheck 0 2 (s.withRange 0 2 j)).2 = none) ∧
    (let j := job 11 0 0 4 100 0 0 0; let s := jobIs 2 .queued j;
      (s.jobCheck 0 2 (s.withRange 0 2 j)).2 = some cMALFORMED ∧ j.row 2 = none) ∧
    (let j := { job 1 0 0 4 100 0 0 0 with phase := .ended cDONE none }; let s := jobIs 2 (.ended cDONE none) j;
      (s.helper 0 2).jobs = [j] ∧ s.helperBanks 0 2 [] = true ∧ ((s.helperTake 0 2 []).delayGate 0 3 2 (0 * 8 + j.sb)).2 = true ∧
      j.squashed = false) ∧
    (let j := { job 1 0 0 4 100 0 0 0 with phase := .ended cDONE (some 7) };
      let s := (jobIs 2 (.ended cDONE (some 7)) j).modDie 0 fun d => { d with banks := [(7, (0, 0, 1))] };
      (s.helper 0 2).jobs = [j] ∧ s.helperBanks 0 2 [2 / 3 * 16 + (j.addr + 7) % 16] = false ∧ s.helperBanks 0 2 [9] = true) ∧
    (let j := { job 1 0 0 4 100 0 0 0 with phase := .ended cDONE none, who := .op 5 }; let s := jobIs 2 (.ended cDONE none) j;
      (s.helper 0 2).jobs = [j] ∧ ((s.helperTake 0 2 []).delayGate 0 3 2 (65536 + 5)).2 = true) ∧
    { job 1 0 0 4 100 0 0 0 with badRegion := true }.badRegion = true ∧
    (let j := { job 1 0 0 4 100 0 0 0 with poisoned := true }; j.badRegion = false ∧ j.poisoned = true) ∧
    ((job 1 0 0 4 100 0 0 0).row 2).map (fun r => (r.formed (job 1 0 0 4 100 0 0 0), r.lens, r.lensOk, r.overlapOk)) =
      some (true, [4], true, true) ∧
    ((job 1 1 0 4 100 0 0 0).row 2).map (fun r => r.formed (job 1 1 0 4 100 0 0 0)) = some false ∧
    ((job 1 0 0 0 100 0 0 0).row 2).map (fun r => r.lens) = some [0] ∧
    ((job 1 0 0 20000 100 0 0 0).row 2).map (fun r => r.lensOk) = some false ∧
    ((job 5 0 0 100 20 0 0 0).row 0).map (fun r => r.overlapOk) = some false ∧
    (let s := { (at0 id).setHelper 0 3 { window := some 7, fifo := [5] } with now := 7 };
      Live s 0 ∧ (s.helper 0 3).window = some 7 ∧ (s.helper 0 3).free = true ∧ (s.helper 0 3).fifo = [5]) ∧
    (let s := { (at0 id).setHelper 0 3 { window := some 7 } with now := 7 }; (s.helper 0 3).fifo = [] ∧ 7 ≤ s.now) := by
  and_intros <;> decide +kernel

theorem witness_HelperFunctionsGiveTheirOutputs :
    (let j := { job 5 0 1 4 100 0 0 0 with phase := .started }; let s := jobIs 0 .started j;
      oneSource (.sha256 0 0) = some (0, 0, 0, 5) ∧ s.jobRuns 0 0 0 5 j ∧
      ((s.jobBanked 0 0 j).spanRead 0 0 j (ptrSpan (j.word 1) j.len)).2 = ([0x11, 0x22, 0x33, 0x44], none)) ∧
    (let j := { job 1 0 (2 ^ 34) 4 100 0 0 0 with phase := .started }; let s := jobIs 2 .started j;
      oneSource (.copy 0 2) = some (0, 2, 2, 1) ∧ s.jobRuns 0 2 2 1 j ∧
      ((s.jobBanked 0 2 j).spanRead 0 2 j (ptrSpan (j.word 1) j.len)).2 = ([], some 0) ∧ (s.helper 0 2).jobs = [j]) ∧
    (let j := { job 1 0 1 4 100 0 0 0 with phase := .started }; let s := jobIs 34 .started j;
      s.jobRuns 0 34 1 1 j ∧ ((s.jobBanked 0 34 j).freeValue.2.spanRead 0 34 j (ptrSpan (j.word 1) j.len)).2 = ([0x11, 0x22, 0x33, 0x44], none)) ∧
    (let j := { job 4 0 1 4 100 0 0 0 with phase := .started }; let s := jobIs 34 .started j;
      s.jobRuns 0 34 1 4 j ∧ (((s.jobBanked 0 34 j).choose 16385).2.spanRead 0 34 j (ptrSpan (j.word 1) j.len)).2 = ([0x11, 0x22, 0x33, 0x44], none)) ∧
    (let j := { job 2 0 0 4 100 7 0 0 with phase := .started }; (jobIs 35 .started j).jobRuns 0 35 2 2 j) ∧
    (let j := { job 3 0 0 4 100 0 1 50 with phase := .started }; let s := jobIs 35 .started j;
      s.jobRuns 0 35 2 3 j ∧ ((s.jobBanked 0 35 j).gatherRead 0 35 j ((s.jobBanked 0 35 j).segments 0 35 j)).2.2 = false) ∧
    (let j := { job 4 0 1 4 0 200 0 0 with phase := .started }; let s := jobIs 35 .started j;
      let u := s.jobBanked 0 35 j;
      s.jobRuns 0 35 2 4 j ∧ (u.compareGo 0 35 j (ptrSpan (j.word 1) j.len) (ptrSpan (j.word 4) j.len) j.len 0).2 = some (0, false) ∧
      (u.compareGo 0 35 j (ptrSpan (j.word 1) j.len) (ptrSpan (j.word 1) j.len) j.len 0).2 = none ∧
      (u.octet 0 35 j (ptrSpan (j.word 1) j.len) 0).2 = (0x11, false) ∧ (u.octet 0 35 j (ptrSpan (j.word 4) j.len) 0).2 = (0, false)) ∧
    (let j := { job 4 0 1 4 (2 ^ 34) 200 0 0 with phase := .started }; let s := jobIs 35 .started j;
      s.jobRuns 0 35 2 4 j ∧ ((s.jobBanked 0 35 j).compareGo 0 35 j (ptrSpan (2 ^ 34) j.len) (ptrSpan (j.word 4) j.len) j.len 0).2 =
        some (0, true)) ∧
    (let j := { job 1 0 1 4 100 0 0 300 with phase := .started }; let s := jobIs 33 .started j;
      s.jobRuns 0 33 0 1 j ∧ ((s.jobBanked 0 33 j).gcmRead 0 33 j false).2.2 = false ∧
      (((s.jobBanked 0 33 j).gcmRead 0 33 j false).1.spanRead 0 33 j (ptrSpan (j.word 1) j.len)).2 = ([0x11, 0x22, 0x33, 0x44], none)) ∧
    (let j := { job 2 0 1 4 100 0 0 300 with phase := .started }; let s := jobIs 33 .started j;
      s.jobRuns 0 33 0 2 j ∧ ((s.jobBanked 0 33 j).gcmRead 0 33 j true).2.2 = false) ∧
    (let j := { job 3 0 1 4 0 0 0 300 with phase := .started }; let s := jobIs 33 .started j;
      s.jobRuns 0 33 0 3 j ∧ ((s.jobBanked 0 33 j).keyRead 0 33 j).2.2 = false) ∧
    (let j := { job 4 0 1 4 0 0 0 300 with phase := .started }; let s := jobIs 33 .started j;
      s.jobRuns 0 33 0 4 j ∧ (((s.jobBanked 0 33 j).keyRead 0 33 j).1.paramRead 0 33 j 11 (tagLen j.opt)).2.2 = false) ∧
    let j := { job 6 0 1 32 0 0 0 300 with phase := .started }; let s := jobIs 33 .started j;
    s.jobRuns 0 33 0 6 j ∧ ((s.jobBanked 0 33 j).paramRead 0 33 j 0 128).2.2 = false ∧
      (((s.jobBanked 0 33 j).paramRead 0 33 j 0 128).1.spanRead 0 33 j (ptrSpan (j.word 1) j.len)).2.2 = none := by
  repeat' first
    | decide +kernel
    | exact jobRuns_of (by decide +kernel) (by decide +kernel) rfl (by decide +kernel)
    | apply And.intro

/-! ### Witnesses: tables -/

/-- An entry of body 0 with key 1 and three result words. -/
def entry1 : List Word := entNew 0 0 [1, 0, 0, 0] [7, 8, 9]

/-- The first n slots of bucket 0 filled. -/
def slotsOf (n : Nat) (e : List Word) : Store Word := (List.range (8 * n)).map fun i => (i, e.getD (i % 8) 0)

/-- Tables 0 and 1 ACTIVE; table 0 has an on-chip body of one bucket. -/
def tblIs (st : Store Word) (s : State) : State :=
  (((s.setReg 0 .tblTabCtl [0] 1).setReg 0 .tblTabCtl [1] 1).setReg 0 .tblBodyCfg [0] (1 + 16 * 256)).modTbl 0 fun x => { x with store := st }

/-- A table command alone in ring 0. -/
def tcmd (op d2 : Nat) (key : List Nat) : RCmd := { d0 := op, d1 := 0, d2 := d2, d3 := 0, arg := key ++ List.replicate (7 - key.length) 0 }

/-- Ring 0 holds a table command. -/
def tblCmdIs (st : Store Word) (c : RCmd) : State := tblIs st (ringAt 0 c)

/-- The command at the head of ring 0 has its access point, as decidable conditions. -/
abbrev Granted (s : State) (c : RCmd) : Prop :=
  ((s.tblNote 0).tblReq 0 14 c.order).isSome = true ∧ (s.tblNote 0).pipeGate 0 14 c.order = (s.tblNote 0, true)

theorem tableGranted_of {s : State} {c : RCmd} (h : Granted s c) : ∃ r : TblReq, s.tableGranted 0 c r :=
  let ⟨r, e⟩ := Option.isSome_iff_exists.1 h.1
  ⟨r, e, h.2⟩

/-- The tables of its request are ACTIVE, or not. -/
abbrev ActiveFor (s : State) (c : RCmd) (b : Bool) : Prop :=
  ∀ r : TblReq, (s.tblNote 0).tblReq 0 14 c.order = some r → s.tableActiveFor 0 r = b

/-- A WALK of body 0 from the start. -/
def walk0 : Walk := { body := 0, pos := 0, lay := false, left := 4 }

/-- Die 0 holds a command of die 3's ring. -/
def replicaIs (c : RCmd) : State := (tblIs (slotsOf 1 entry1) (hopIs id)).modDie 0 fun d => { d with replicas := [(3, c)] }

theorem witness_TableCommandsActOnTheirBucket :
    (let c := tcmd 1 0 [1]; let s := tblCmdIs (slotsOf 1 entry1) c;
      tableCommand (.lookup 0) = some (0, 1) ∧ s.tableHead 0 1 c ∧ s.tblFormed 0 c = true ∧ (∃ r : TblReq, s.tableGranted 0 c r) ∧
      ((s.tableTaken 0 c).tblRun 0 1 0 0 (argWords c 0 4) (argWords c 4 3) false true).2.isSome = true) ∧
    (let c := tcmd 1 0 [1];
      let s := (tblCmdIs (slotsOf 1 entry1) c).modTbl 0 fun x => { x with pipes := (List.range 4).map fun p => (p, { at_ := some 0 }) };
      ((s.tblNote 0).tblReq 0 14 c.order).isSome = true ∧ ((s.tblNote 0).pipeGate 0 14 c.order).2 = false ∧
      ∀ r : TblReq, (s.tblNote 0).tblReq 0 14 c.order = some r → r.pipe.isSome = true ∧
        ((s.pipeOf 0 (r.pipe.getD 0)).at_ = some s.now)) ∧
    (let c := tcmd 1 0 [1]; let s := tblCmdIs (slotsOf 1 entry1) c;
      ∀ r : TblReq, s.tblReq 0 14 c.order = some r → r.pipe.isSome = true ∧ s.granted 0 r = true ∧ r ∈ s.tblReqs 0 ∧
        s.competes 0 (s.tblReqs 0) r = true) ∧
    (let c := tcmd 1 5 [1]; (tblCmdIs [] c).tableHead 0 1 c ∧ (tblCmdIs [] c).tblFormed 0 c = false) ∧
    (let s := (tblIs [] State.reset).setReg 0 .tblBodyCfg [0] 2; s.bodyLoc 0 (s.bodyOf 0 0) = 2 ∧ ([1, 0, 0, 5] : List Word).getD 3 0 ≠ 0) ∧
    State.reset.bodyLoc 0 (State.reset.bodyOf 0 0) = 0 ∧ (tblIs [] State.reset).bodyLoc 0 ((tblIs [] State.reset).bodyOf 0 0) = 1 ∧
    (let s := tblIs [] State.reset;
      s.tableOpen 0 0 [1, 0, 0, 0] ∧
      (s.tblView 0 0 (s.homeBucket 0 0 [1, 0, 0, 0])).2.map (fun v => (v.poisoned, (v.find 0 0 (s.genCheck 0 0) [1, 0, 0, 0]).isSome,
        entValid (v.slots.getD 0 []), decide (s.layUsedBy 0 0 < min 4096 (s.fld 0 .tblBodyCfg [0] 8 13)))) =
        some (false, false, false, true)) ∧
    (let s := tblIs (slotsOf 4 entry1) State.reset;
      (s.tblView 0 0 (s.homeBucket 0 0 [1, 0, 0, 0])).2.map (fun v => (v.poisoned,
        (v.find 0 0 (s.genCheck 0 0) [1, 0, 0, 0]).map fun r => (r.1.isLay, r.2), (v.find 0 0 (s.genCheck 0 0) [2, 0, 0, 0]).isNone,
        (List.range 4).all fun j => entValid (v.slots.getD j []))) = some (false, some (false, entry1), true, true)) ∧
    (let s := (tblIs (slotsOf 4 entry1) State.reset).setReg 0 .tblBodyCfg [0] 1;
      min 4096 (s.fld 0 .tblBodyCfg [0] 8 13) ≤ s.layUsedBy 0 0) ∧
    (let s := (tblIs [] State.reset).modTbl 0 fun x => { x with layby := [(4095, { words := entry1, home := 0 })] };
      (s.tblView 0 0 (s.homeBucket 0 0 [1, 0, 0, 0])).2.map (fun v => (v.find 0 0 (s.genCheck 0 0) [1, 0, 0, 0]).map fun r =>
        (r.1.isLay, r.2)) = some (some (true, entry1)) ∧ entHit entry1 = true ∧ entHit (entSetHit entry1 false) = false) ∧
    (let s := (tblIs (slotsOf 4 entry1) State.reset).modTbl 0 fun x => { x with poison := [31] };
      (s.tblView 0 0 0).2.map (fun v => v.poisoned) = some true) ∧
    (let c := tcmd 7 (4 * 2 ^ 32) []; let s := tblCmdIs (slotsOf 4 entry1) c;
      s.tableHead 0 7 c ∧ s.tblFormed 0 c = true ∧ (∃ r : TblReq, s.tableGranted 0 c r) ∧ ActiveFor s c true ∧
      (s.tableTaken 0 c).bodyLoc 0 ((s.tableTaken 0 c).bodyOf 0 0) = 1 ∧ (s.tableTaken 0 c).bodyFits 0 0 = true ∧
      bits c.d2 32 16 ≠ 0 ∧ bits c.d2 24 2 = 0 ∧ bits c.d2 0 24 < 4 * (s.tableTaken 0 c).bodySize 0 0) ∧
    (let c := tcmd 7 0 []; let s := tblCmdIs [] c;
      s.tableHead 0 7 c ∧ s.tblFormed 0 c = true ∧ (∃ r : TblReq, s.tableGranted 0 c r) ∧ bits c.d2 32 16 = 0 ∧
      let z := s.setReg 0 .tblBodyCfg [0] 0;
      z.tableHead 0 7 c ∧ z.tblFormed 0 c = true ∧ (∃ r : TblReq, z.tableGranted 0 c r) ∧
        (z.tableTaken 0 c).bodyLoc 0 ((z.tableTaken 0 c).bodyOf 0 0) = 0) ∧
    (State.reset.reach 0 0 = true ∧ entValid [] = false ∧ entValid entry1 = true ∧ entBody entry1 = walk0.body) ∧
    (4 * 1 ≤ walk0.pos + 4 ∧ 3 < walk0.left ∧ walk0.pos + 3 < 4 * 1 ∧ { walk0 with left := 2 }.left ≤ 3 ∧
      4096 ≤ { walk0 with lay := true, pos := 4095 }.pos + 1) ∧
    (let s := (tblIs (slotsOf 4 entry1) State.reset).modTbl 0 fun x => { x with poison := [0] };
      s.bodyDead 0 0 = false ∧ walk0.pos < 4 * s.bodySize 0 0 ∧
      (s.bucketRead 0 0 (s.bodyBase 0 0 + walk0.pos / 4) false).2.map (·.2) = some true) ∧
    (let c := { tcmd 7 (4 * 2 ^ 32) [] with started := true, walk := some { walk0 with left := 2 } };
      let s := tblCmdIs (slotsOf 4 entry1) c;
      walk0.next ≤ s.now ∧ s.pipeGate 0 (cmdSource 0 0) c.order = (s, true) ∧
      (match ((s.pipeTake 0 (cmdSource 0 0) c.order).walkNext 0 0 c.d3 (bit c.d0 28) { walk0 with left := 2 }).2 with
        | .fin code _ _ => decide (code = cDONE) | _ => false) = true) := by
  repeat' first | decide +kernel | exact tableGranted_of (by decide +kernel) | apply And.intro

theorem witness_TableStatesChange :
    (let c := tcmd 8 0 []; let s := tblCmdIs [] c;
      s.tableHead 0 8 c ∧ s.tblFormed 0 c = true ∧ ∃ r : TblReq, s.tableGranted 0 c r) ∧
    (let c := tcmd 9 1 []; let s := tblCmdIs [] c; let z := s.setReg 0 .tblTabCtl [1] 0;
      (s.tableHead 0 9 c ∧ s.tblFormed 0 c = true ∧ (∃ r : TblReq, s.tableGranted 0 c r) ∧ ActiveFor s c true ∧
        (s.tableTaken 0 c).bodyLoc 0 ((s.tableTaken 0 c).bodyOf 0 0) ≠ 0) ∧
      z.tableHead 0 9 c ∧ z.tblFormed 0 c = true ∧ (∃ r : TblReq, z.tableGranted 0 c r) ∧ ActiveFor z c false) ∧
    (let c := { tcmd 9 1 [] with started := true, since := 4 }; let s := tblCmdIs [] c;
      let q := s.modDie 0 fun d => { d with threads := [(0, { th with req := some (.tbl 3 0 [1, 0, 0, 0]), portAt := some 0 })] };
      Live s 0 ∧ s.begun 0 9 (fun _ c => !(s.tblReqs 0).any (s.beforeSwap 0 c)) = some (0, c) ∧
      q.begun 0 9 (fun _ c => !(q.tblReqs 0).any (q.beforeSwap 0 c)) = none ∧ c ∈ q.swapsWaiting 0 ∧
      q.threadReqs 0 ≠ [] ∧ (∀ r ∈ q.threadReqs 0, (q.noteOf 0 r).order < c.since ∧ ∃ t ∈ r.tables, t ∈ c.tables) ∧
      (∀ r ∈ q.threadReqs 0, ({ q with stamps := 4 }.noteOf 0 r).order ≥ c.since)) ∧
    (let c := { tcmd 8 0 [] with started := true }; let s := (tblCmdIs [] c).modTbl 0 fun x => { x with fences := [{ src := 0, tag := 0 }] };
      Live s 0 ∧ (s.die 0).tbl.fences = [{ src := 0, tag := 0 }] ∧
      s.begun 0 8 (fun src c => src = 0 && c.tag = 0) = some (0, c)) ∧
    (let c := tcmd 1 0 [1]; let s := replicaIs c; let z := { s with fab := { s.fab with rerouting := [(24, true)] } };
      Live s 0 ∧ readyReplica [] (s.die 0).replicas = some (3, c) ∧ s.routeHeld 3 0 = false ∧ s.routeHeld 0 3 = false ∧
      s.delayGate 3 0 (100 + 0) (c.tag + 2 ^ 32 * c.op) = (s, true) ∧
      (match (s.tblAccess 0 15 3 c).2 with | .fin code _ _ => decide (code = cDONE) | _ => false) = true ∧
      z.routeHeld 3 0 = true) ∧
    (let c := tcmd 8 0 []; let s := replicaIs c;
      (match (s.tblAccess 0 15 3 c).2 with | .begun _ => true | _ => false) = true) ∧
    (let e : Delayed := { target := 2, src := 1000, item := 5, until_ := 7, data := [0, 0, 0, 1, 2, 3, 4] };
      let s := at0 fun d => { d with delayed := [e] };
      Live s 0 ∧ (s.die 0).delayed = [e] ∧ e.gone = false ∧ s.now < e.until_ ∧ e.until_ ≤ { s with now := 7 }.now) ∧
    (let s := State.reset; Live s 0 ∧ s.tabActive 0 63 = false ∧ s.bodyFits 0 (s.bodyOf 0 63) = true ∧ (s.die 0).tbl.init ≠ some 0) ∧
    (let s := State.reset.setReg 0 .tblBodyCfg [0] 0x7D; s.tabActive 0 0 = false ∧ s.bodyFits 0 (s.bodyOf 0 0) = false) ∧
    (let s := tblIs [] State.reset; s.bodyActive 0 0 = true ∧ s.bodyActive 0 63 = false ∧ (s.die 0).tbl.init = none) ∧
    (let s := (tblIs (slotsOf 1 entry1) State.reset).modTbl 0 fun x => { x with init := some 0 };
      Live s 0 ∧ (s.die 0).tbl.init = some 0 ∧ s.bodyFits 0 0 = true ∧ s.bodyLoc 0 0 = 1 ∧ s.bodySize 0 0 = 1 ∧
      (s.die 0).tbl.initPos < 1 ∧ 1 ≤ ((s.modTbl 0 fun x => { x with initPos := 1 }).die 0).tbl.initPos ∧
      (s.pipeOf 0 0).at_ ≠ some s.now ∧
      ((s.modTbl 0 fun x => { x with pipes := [(0, { at_ := some 0 })] }).pipeOf 0 0).at_ = some s.now ∧
      ((s.die 0).tbl.store.map (·.1)).Pairwise (· < ·) ∧ (s.die 0).tbl.initSlot 0 (7 / 8) = true ∧
      (s.die 0).tbl.initSlot 5 (7 / 8) = false) ∧
    (let s := State.reset.modTbl 0 fun x => { x with init := some 63 }; (s.die 0).tbl.init = some 63 ∧ s.bodyLoc 0 63 = 0) := by
  repeat' first | decide +kernel | exact tableGranted_of (by decide +kernel) | apply And.intro

/-! ### Witnesses: axes and milestones -/

/-- Axis n counts an input with a type, and its record is as given. -/
def axisIs (n cfg : Nat) (m : AxisMaster) : State := (State.reset.setReg 0 .mlsAxisCfg [n - 1] cfg).setMaster n m

/-- An ACTIVE record at an edge. -/
def rec1 (st te : Nat) : AxisMaster := { cur := { st := st, te := te } }

theorem witness_AxesFollowTheirInputs :
    (let s := axisIs 7 1 (rec1 2 0); let cfg := s.reg 0 .mlsInputCfg [0];
      s.inReset = false ∧ true ≠ bit (sgetD s.ax.enc 0 0) 0 ∧ false = bit (sgetD s.ax.enc 0 0) 1 ∧ bits cfg 0 6 ≤ 63 ∧
      encoderCounts (bits cfg 6 2) true true = true ∧ s.axesOf 0 (· < 2) = [7]) ∧
    (let s := State.reset.setReg 0 .mlsInputCfg [5] 0xBF; let cfg := s.reg 0 .mlsInputCfg [5];
      62 < bits cfg 0 6 ∧ bits cfg 6 2 = 2 ∧ encoderCounts (bits cfg 6 2) false true = false) ∧
    ((rec1 1 5).forced = none ∧ (rec1 1 5).hidden = none ∧ (rec1 1 5).idxAt ≠ some 9) ∧
    (let s := axisIs 7 (1 + 256) (rec1 2 0); s.axCfg 7 8 2 = 1 ∧ (s.master 7).forced = none) ∧
    (let s := axisIs 7 (1 + 512) (rec1 2 0); s.axCfg 7 8 2 = 2 ∧ (s.master 7).idxDone = false) ∧
    (let s := axisIs 3 (1 + 4 + 6 * 8) (rec1 2 0); let cfg := s.reg 0 .mlsInputCfg [6];
      bits cfg 0 6 ≤ 63 ∧ bit cfg 6 = false ∧ s.axesOf 6 (· = 2) = [3] ∧ s.axesOf 9 (· = 2) = [] ∧ (s.master 3).last = none) ∧
    (let s := axisIs 3 (1 + 4 + 6 * 8) { rec1 1 5 with last := some (5, false) };
      (s.master 3).last = some (5, false) ∧ zcEarly (bits (s.reg 0 .mlsInputCfg [6]) 8 2) (since 9 5) = true ∧
      zcEarly (bits (s.reg 0 .mlsInputCfg [6]) 8 2) (since (5 + 10 ^ 9) 5) = false) ∧
    (State.reset.has 0 = true ∧ State.reset.has 7 = true ∧ State.reset.inReset = false ∧ State.reset.now < (State.reset.die 7).mls.frameAt + 64 ∧
      ({ State.reset with now := 64 }.die 7).mls.frameAt + 64 ≤ { State.reset with now := 64 }.now ∧ (State.reset.die 7).mls.lost = false) ∧
    (let s := State.reset.modAx fun a => { a with recs := [⟨1, { st := 1, te := 9 }, 1⟩, ⟨2, { st := 1, te := 0 }, 1⟩] };
      let u := s.modDie 0 fun d => { d with t0 := 48 };
      s.inReset = false ∧ s.ax.recs = [⟨1, { st := 1, te := 9 }, 1⟩, ⟨2, { st := 1, te := 0 }, 1⟩] ∧ s.ax.jumps = [] ∧
      (∀ x ∈ s.ax.recs, reached (s.time 0) ((x.recd.te + 48) % 2 ^ 72) = false) ∧
      reached (u.time 0) ((9 + 48) % 2 ^ 72) = false ∧ reached (u.time 0) ((0 + 48) % 2 ^ 72) = true) ∧
    ((State.reset.view 0 1).1.born ≠ ({ born := 3 } : AxisRec).born ∧ (State.reset.view 0 1).1.st ≠ 2 ∧
      ({ st := 2 } : AxisRec).st = 2) ∧
    (let s := (axisIs 7 1 (rec1 1 0)).modDie 0 fun d => { d with t0 := 10 ^ 9 };
      (s.master 7).cur.st = 1 ∧ (∀ x ∈ s.ax.recs, x.axis ≠ 7) ∧ s.holdBound 7 (s.master 7).cur < since (s.time 0) (s.master 7).cur.te) ∧
    (State.reset.master 7).cur.st ≠ 1 ∧
    (bit (State.reset.reg 0 .mlsAxisCfg [6]) 0 = false ∧ bits (bits (putBit 1 0 true) 0 27) 1 2 < 3 ∧
      bits (bits (putBit 1 0 true) 0 27) 3 4 < 6 ∧ ¬bits (bits (putBit 7 0 true) 0 27) 1 2 < 3) ∧
    (let s := axisIs 7 1 (rec1 2 0); bit (s.reg 0 .mlsAxisCfg [6]) 0 = true ∧ bits (putBit 3 0 true) 0 27 ≠ s.reg 0 .mlsAxisCfg [6]) ∧
    (let s := (State.reset.setReg 0 .mlsPpsCfg [] 0x801).modDie 0 fun d => { d with t0 := 10 ^ 9 };
      bit (s.reg 0 .mlsPpsCfg []) 0 = true ∧ reached (s.time 0) s.ax.ppsNext = true ∧ bit (s.reg 0 .mlsPpsCfg []) 11 = true ∧
      bit (s.reg 0 .mlsPpsCfg []) 12 = false) ∧
    (let s := State.reset.modAx fun a => { a with ppsFall := some 0 }; s.ax.ppsFall = some 0 ∧ 0 ≤ s.now) ∧
    (let s := State.reset.modAx fun a => { a with jumps := [⟨0, 7, 0, 0⟩] };
      s.ax.jumps = [⟨0, 7, 0, 0⟩] ∧ 0 ≤ s.now ∧ s.ax.recs = [] ∧ State.reset.now < 48) ∧
    (let s := { State.reset.setReg 0 .mlsJrnCtl [] 1 with mram := [(6144, 5), (6159, w36 (crcWords (w36 5 :: List.replicate 14 0)))], now := 10 ^ 7 };
      s.ax.jrnNext ≤ s.now ∧ bit (s.reg 0 .mlsJrnCtl []) 0 = true ∧ axisRecordOk (s.axisRecord 0) = true) ∧
    State.reset.now < State.reset.ax.jrnNext := by
  and_intros <;> decide +kernel

/-- Milestone 1023 of die 0 with its words, and ring 2 with a command. -/
def msIs (w : List Word) (c : List RCmd) : State :=
  at0 fun d => { d with mls := { d.mls with ms := [(1023, w)] }, rings := [(2, { cmds := c })] }

/-- A milestone command on milestone 1023. -/
def msc (op : Nat) (arg : List Nat) : RCmd := { d0 := op + 1023 * 256, d1 := 0, d2 := 0, d3 := 0, arg := arg }

/-- A due firing of milestone 1023. -/
def fire1 : Firing := { ms := 1023, axis := 1, c := 5, down := false, late := false, jump := false, time := 2 ^ 40 }

/-- A move of the time axis. -/
def move1 : Move := { axis := 0, p := 3, q := 9, down := false, wrap := false, sc := 1, edges := false, jump := false, time := none }

theorem witness_MilestonesFireAndActOnTheirRing :
    move1.wrap = false ∧
    (let s := (msIs (List.replicate 8 0) []).modMls 0 fun m => { m with due := [fire1] };
      let full := (s.modMls 0 fun m => { m with fires := { at_ := 0, used := 4 } }).msEval 0;
      Live s 0 ∧ ((s.msEval 0).die 0).mls.due = [fire1] ∧ (sgetD (s.die 0).mls.ms fire1.ms (List.replicate 8 0)).length = 8 ∧
      ((s.msEval 0).die 0).mls.fires.used < 4 ∧ (full.die 0).mls.due = [fire1] ∧ (full.die 0).mls.fires.at_ = s.now ∧
      4 ≤ (full.die 0).mls.fires.used ∧ ((State.reset.msEval 0).die 0).mls.due = []) ∧
    (let le := fun (a b : Hit) => a.far < b.far ∨ (a.far = b.far ∧ a.ms ≤ b.ms);
      [(⟨1, 9, move1⟩ : Hit), ⟨1, 10, move1⟩].Pairwise le) ∧
    (let s := msIs (w36 (4 * 256) :: List.replicate 7 0) [];
      4 ≤ bits (s.msWord 0 fire1.ms 0) 8 3 ∧ (s.die 0).mls.caps.length < 64 ∧
      64 ≤ ((s.modMls 0 fun m => { m with caps := List.replicate 64 fire1 }).die 0).mls.caps.length) ∧
    (let m : SendMsg := { chan := 5, thread := 0, words := [1, 2, 3, 4], stamp := 0 }; let s := State.reset.modMls 0 fun x => { x with sends := [m] };
      Live s 0 ∧ (s.die 0).mls.sends = [m] ∧ s.sendFits 0 m = true) ∧
    (let o := { op2 .engine 3 with order := 6 }; let s := (opIs o).modMls 0 fun x => { x with waits := [5 + 16384 * 6] };
      Live s 0 ∧ (s.die 0).mls.waits = [5 + 16384 * 6] ∧ s.op 0 ((5 + 16384 * 6) % 16384) = some o ∧ o.order = (5 + 16384 * 6) / 16384 ∧
      (s.die 0).mls.done.used < 4 ∧ 4 ≤ ({ at_ := 0, used := 4 } : Quota).used ∧ s.now = ({ at_ := 0, used := 4 } : Quota).at_) ∧
    (let s := State.reset.modAx fun a => { a with pinQ := [(7, 3, 0)], pulses := [(7, 0)] };
      s.inReset = false ∧ s.ax.pinQ = [(7, 3, 0)] ∧ 0 ≤ s.now ∧ State.reset.now < 10 ∧ sget s.ax.pulses 7 = some 0) ∧
    (let c := msc 1 [4 * 256, 5, 2 ^ 30, 100, 0]; let s := msIs (List.replicate 8 0) [c];
      let late := (s.modMls 0 fun m => { m with due := [fire1], fires := { at_ := 0, used := 4 } });
      s.msHead 0 1 c ∧ (s.msFlush 0).msWaits 0 1 (bits c.d0 8 10) = false ∧
      ((s.msFlush 0).msEntryOk 0 fun i => c.arg.getD i 0) = true ∧ (s.msFlush 0).msArmed 0 c = false ∧
      late.msHead 0 1 c ∧ (late.msFlush 0).msWaits 0 1 (bits c.d0 8 10) = true) ∧
    (let c := msc 1 [5 * 256, 5, 0, 100, 0]; let s := msIs (List.replicate 8 0) [c];
      s.msHead 0 1 c ∧ ((s.msFlush 0).msEntryOk 0 fun i => c.arg.getD i 0) = false) ∧
    (let c := msc 2 []; let s := msIs [0, 9, 0, 0, 0, 1, 0, 0] [c];
      let late := (s.modMls 0 fun m => { m with due := [fire1], fires := { at_ := 0, used := 4 } });
      s.msHead 0 2 c ∧ (s.msFlush 0).msWaits 0 2 (bits c.d0 8 10) = false ∧ (s.msFlush 0).msArmed 0 c = true ∧
      (msIs (List.replicate 8 0) [c]).msHead 0 2 c ∧ late.msHead 0 2 c ∧ (late.msFlush 0).msWaits 0 2 (bits c.d0 8 10) = true) ∧
    (let c := msc 3 []; let s := msIs (List.replicate 8 0) [c];
      s.msHead 0 3 c ∧ ((s.msFlush 0).die 0).flips (unitKey 9 0 (cfgMilestone 1023)) = 0) ∧
    (let c : RCmd := { d0 := 4, d1 := 0, d2 := 0, d3 := 0, arg := [2 ^ 36 - 1, 2 ^ 36 - 1] }; let s := msIs (List.replicate 8 0) [c];
      s.msHead 0 4 c ∧ bits c.d0 18 3 = 0) ∧
    (let c : RCmd := { d0 := 4 + 7 * 2 ^ 18, d1 := 0, d2 := 0, d3 := 0, arg := [2 ^ 36 - 1, 0] }; let s := msIs (List.replicate 8 0) [c];
      s.msHead 0 4 c ∧ bits c.d0 18 3 ≠ 0 ∧ ((s.msFlush 0).view 0 7).1.st = 0 ∧
      ((s.setView 0 7 { st := 2 } 0).msFlush 0).view 0 7 = ({ st := 2 }, 0)) ∧
    (let s := State.reset.setReg 0 .mlsMsAddr [] 0x1FFF;
      Live s 0 ∧ (s.die 0).flips (unitKey 9 0 (cfgMilestone (bits (s.reg 0 .mlsMsAddr []) 0 10))) = 0) := by
  repeat' first | decide +kernel | apply And.intro


/-! ### Witnesses: host rings and the Answer Port -/

/-- A part that runs, with its endpoint up. -/
def hostUp : State := { State.reset.setReg 0 .dctlPartState [] 1 with pcieUp := true }

/-- Ring 1 of die 0 enabled with rings of 16 entries and one descriptor to fetch. -/
def fedRing (s : State) : State := (s.setReg 0 .ringCtl [1] (1 + 4 * 4 + 4 * 128)).setReg 0 .ringTail [1] 1

/-- The transmit ring of die 0 enabled with an entry to fetch. -/
def fedHtx (s : State) : State := (s.setReg 0 .htxCtl [] (1 + 4 * 4)).setReg 0 .htxTail [] 1

/-- Host queue h of die 0 with a frame and a posted buffer. -/
def fedHrx (h : Nat) (s : State) : State :=
  ((s.setReg 0 .hrxCtl [h] (1 + 4 * 4)).setReg 0 .hrxTail [h] 1).modDie 0 fun d => { d with
    hop := { d.hop with packets := [(0, { pkt1 with refs := 1 })], cellUse := [(3, { port := some 1 })] }
    egr := { d.egr with queues := [(384 + h, { entries := [head1 (384 + h)] })] } }

theorem witness_HostRingsCarryCommandsAndFrames :
    (let s := hostUp;
      Live s 0 ∧ bit (s.reg 0 .ringCtl [6]) 0 = false ∧ s.ringIdle 0 6 = true ∧ s.running = true ∧ bits (0x210 : Nat) 2 5 = 4 ∧
      bits (0x210 : Nat) 7 5 = 4) ∧
    (State.reset.running = false ∧ State.reset.ringIdle 0 1 = true) ∧
    (let s := fedRing hostUp; let new := putBits (putBit 0x210 0 false &&& (regRow .ringCtl).rw) 12 2 (bits (s.reg 0 .ringCtl [1]) 12 2);
      bit (s.reg 0 .ringCtl [1]) 0 = true ∧ bits new 2 10 = bits (s.reg 0 .ringCtl [1]) 2 10) ∧
    (let s := fedRing hostUp;
      s.ringReady 0 1 = true ∧ (s.ring 0 1).fetchAt ≠ some s.now ∧ 8 ≤ s.ringFree 0 1 ∧ s.running = true ∧ s.hostSleeps = false ∧ s.hostLive false = true ∧ ringKnows 1 5 = true) ∧
    (let s := fedRing { hostUp with pcieUp := false }; s.ringReady 0 1 = true ∧ s.hostSleeps = false ∧ s.hostLive false = false) ∧
    (let s := fedHtx hostUp;
      s.ringReady 0 7 = true ∧ (s.die 0).hop.closed.contains 24 = false ∧ s.blocked 0 = false ∧ s.hostSleeps = false ∧
      s.hostLive (bit (s.reg 0 .htxCtl []) 14) = true ∧ bits (60 : Nat) 14 50 = 0 ∧ bits (60 : Nat) 0 14 = 60 ∧
      (s.die 0).hop.occ 24 + ceilDiv 60 128 ≤ s.fld 0 .hopPortQuota [24] 0 19 ∧ ceilDiv 60 128 ≤ (s.die 0).hop.free ∧
      16000 < bits (16001 : Nat) 0 14) ∧
    (let s := fedHtx { hostUp with pcieUp := false }; s.ringReady 0 7 = true ∧ s.hostLive false = false) ∧
    (let s := fedHrx 63 hostUp;
      s.hostNext 0 = some 63 ∧ s.hostSleeps = false ∧ s.hostLive (bit (s.reg 0 .hrxCtl [63]) 14) = true ∧
      (s.queue 0 (384 + 63)).head = some (head1 447) ∧ s.pkt 0 0 = some { pkt1 with refs := 1 } ∧ (head1 447).a.enq.len = 60 ∧
      s.readCells 0 ((head1 447).a.enq.copied pkt1.cells) = s) ∧
    (let s := fedHrx 63 { hostUp with pcieUp := false }; s.hostNext 0 = some 63 ∧ s.hostLive (bit (s.reg 0 .hrxCtl [63]) 14) = false) ∧
    hostUp.hostNext 0 ≠ some 0 ∧ { hostUp with pciePower := .d3hot }.hostSleeps = true := by
  and_intros <;> decide +kernel

theorem witness_AnswerPortReadsWritesAndPublishes :
    (State.reset.inReset = false ∧ State.reset.ansOn = false) ∧
    (let s := State.reset.setReg 0 .ansCfg [] 1; s.ansOn = true ∧ bit (s.reg 0 .ansCfg []) 1 = false) ∧
    (let s := State.reset.setReg 0 .ansCfg [] 3;
      s.ansOn = true ∧ bit (s.reg 0 .ansCfg []) 1 = true ∧ (s.die 0).hop.shut 25 0 = false ∧ s.noCell 0 25 = false) ∧
    (let s := (State.reset.setReg 0 .ansCfg [] 3).modHop 0 fun h => { h with closed := [25] }; (s.die 0).hop.shut 25 0 = true) ∧
    (let s := State.reset.modAns fun a => { a with pending := [15] };
      s.ans.pending.contains (15 : BitVec 4).toNat = true ∧ s.ans.seqPage ≠ some 15) ∧
    (State.reset.modAns fun a => { a with seqPage := some 15 }).ans.seqPage = some (15 : BitVec 4).toNat ∧
    (bit ((State.reset.setReg 0 .ansHaddr [] 0x7FFF).reg 0 .ansHaddr []) 14 = true ∧ bit (State.reset.reg 0 .ansHaddr []) 14 = false ∧
      sgetD (State.reset.setReg 0 .ansHaddr [] 0x7FFF).ans.front 0x3FFF 0 ≠ 5 ∧
      sgetD (State.reset.setReg 0 .ansHaddr [] 0x7FFF).ans.front 0x3FFF 0 = 0) ∧
    (let s := { State.reset.modAns fun a => { a with clkSeen := true, lastEdge := some 0 } with now := 1000 };
      s.ans.clkSeen = true ∧ s.ans.lastEdge = some 0 ∧ 0 + 1000 ≤ s.now) := by
  and_intros <;> decide +kernel

/-! ### Witnesses: identity, reset and the TAP -/

/-- The part with an identity, a scope of the unlock in force, and a command of ring 5. -/
def idIs (f : Ident → Ident) (scope : Nat) (c : RCmd) : State :=
  let s := (chainIs 0 0 c).setReg 0 .dctlUnlock [] scope
  { s with ident := f s.ident }

/-- A descriptor of ring 5 with all that it may name. -/
def identCmd (d0 d2 : Nat) (arg : List Nat) : RCmd := { d0 := d0, d1 := 0, d2 := d2, d3 := 0, arg := arg }

theorem witness_IdentityAndBootFollowTheirRules :
    (let x := identCmd 2 1 []; let s := idIs id 0 x;
      identFields .readCert = some (2, 0xFF0000, false, true, 0) ∧ s.ringCmd 0 5 = some x ∧ x.named 0xFF0000 false true 0 = false) ∧
    (let x := identCmd (2 + 4 * 2 ^ 16) 0 []; (idIs id 0 x).identHead .readCert x ∧ (idIs id 0 x).certLen 4 = 0 ∧
      ({ idIs id 0 x with mram := [(9, 3)] }).certLen 4 ≠ 0 ∧ 4 < bits (2 + 5 * 2 ^ 16) 16 8) ∧
    (let x := identCmd (3 + 2 ^ 16) 2 [0x30]; let s := idIs id 4 x;
      s.identHead .installCert x ∧ bit s.scope 2 = true ∧ derSequence (x.argBytes 2) = true ∧ bit (idIs id 3 x).scope 2 = false) ∧
    (let x := identCmd (3 + 2 ^ 16) 2 [0x31]; (idIs id 4 x).identHead .installCert x ∧ derSequence (x.argBytes 2) = false) ∧
    (idIs id 0 (identCmd 4 0 [])).identHead .unlockChallenge (identCmd 4 0 []) ∧
    (let x := identCmd 5 0 (List.replicate 16 0 ++ [0x80510107]); let s := idIs (fun i => { i with challenge := some ([1], 0) }) 0 x;
      let a := x.argBytes 132;
      s.ringCmd 0 5 = some x ∧ x.named 0 true false 0 = true ∧ a.getD 128 0 = 7 ∧ natOf ((a.drop 129).take 3) = 86400 ∧
      s.ident.challenge = some ([1], 0) ∧ s.responseOk a ([1], 0) = false) ∧
    (idIs id 7 (identCmd 6 0 [])).identHead .lock (identCmd 6 0 []) ∧
    (let s := (idIs id 7 (identCmd 6 0 [])).setWindow (some 0); s.ident.window = some 0 ∧ 0 ≤ s.now) ∧
    ((idIs id 0 (identCmd 7 0 [5])).identHead .ownerClaim (identCmd 7 0 [5]) ∧ (idIs id 0 (identCmd 7 0 [5])).ident.owner = none) ∧
    (let x := identCmd 8 3 []; let s := idIs (fun i => { i with version := 3 }) 4 x;
      s.identHead .setMinVersion x ∧ bit s.scope 2 = true ∧ s.running = true ∧ s.minVersion ≤ 3 ∧ 3 ≤ s.ident.version ∧
      (idIs id 4 x).ident.version < 3) ∧
    (let r : JRec := { kind := 1, time := 2 ^ 71, die := 7, reason := 255, w4 := 0 }; let s := { State.reset with journal := [r], journalLost := 300 };
      s.journal = [r] ∧ State.reset.journal = [] ∧ ∀ d : Nat, d < 8 → (s.ring d 6).cmds = []) ∧
    (State.reset.pwr.booted = false ∧ State.reset.pwr.causes = [] ∧ State.reset.ident.owner = none ∧
      (∀ d : Nat, d < 8 → ∀ k : Nat, k < 3 → (hopIs id).link d k ≠ .training) ∧
      (State.reset.has 0 = true ∧ State.reset.has (farEnd State.reset.fuses.dies 0 0) = true ∧ State.reset.link 0 0 = .training)) ∧
    (let s := { State.reset with ident := { State.reset.ident with owner := some 5 } }; s.ident.owner ≠ none ∧ s.slotVerdict none ≠ 0) ∧
    (let x := identCmd 12 12 []; let s := (idIs id 0 x).setReg 0 .dctlPartState [] 0; let u := { s with pwr := { s.pwr with booted := true } };
      x.named 0x8000 true false (2 ^ 32 - 1) = true ∧ u.ringCmd 0 5 = some x ∧ u.pwr.booted = true ∧ u.running = false ∧
      u.verifyImage (x.argBytes 12) ≠ 0 ∧ s.pwr.booted = false) := by
  repeat' first
    | decide +kernel
    | exact identHead_of rfl (by decide +kernel)
    | apply And.intro

theorem witness_ResetsClocksTemperatureAndTap :
    (let s := { State.reset with pwr := { State.reset.pwr with low := true } }; s.inReset = true ∧ State.reset.inReset = false) ∧
    (let s := { State.reset with pwr := { State.reset.pwr with causes := [3] }, now := 1000000 };
      ¬(s.pwr.causes = [] ∨ s.now < s.pwr.causeAt + 1000000 ∨ (s.pwr.causes.contains 4 = true ∧ s.tripClears = false))) ∧
    (State.reset.pcieUp = false ∧ { State.reset with pcieUp := true, pwr := { State.reset.pwr with twoEnds := true } }.pcieLive = true) ∧
    (State.reset.has 7 = true ∧ (134 : BitVec 9).toInt < 135 ∧ 135 ≤ (135 : BitVec 9).toInt ∧ State.reset.pwr.causes.contains 4 = false) ∧
    (State.reset.tap.dbg = none ∧ State.reset.has (dbgDie 0) = true) ∧
    { State.reset with tap := { State.reset.tap with dbg := some (0, 1) } }.tap.dbg ≠ none := by
  and_intros <;> decide +kernel

/-! ### Witnesses: counters and grit -/

/-- A sampled event whose latency is known. -/
def due1 : SampleDue := { pc := 5, thr := 0, ev := 0, slot := none, t0 := 0, at_ := 0, next := some 9 }

theorem witness_CountersSnapshotsAndSamples :
    (State.reset.chained 0 31 255 = false ∧ State.reset.zeroedNow 0 31 = false ∧ Live State.reset 0 ∧ 0 < ctrSize 1 ∧
      (State.reset.zeroWrite 0 (2 ^ 31 + 31)).zeroedNow 0 31 = true ∧ Store.sorted (State.reset.die 0).ctrs = true) ∧
    (let s := at0 fun d => { d with cores := [(47, { sampleDue := [due1] })] };
      (s.core 0 47).sampleDue = [due1] ∧ due1.next = some 9 ∧ (s.core 0 47).ring.length < 512) ∧
    (let s := at0 fun d => { d with cores := [(47, { sampleDue := [due1], ring := List.replicate 512 (0, 0) })] };
      512 ≤ (s.core 0 47).ring.length) ∧
    (State.reset.core 0 47).sampleDue = [] ∧
    (let s := { hostUp.setReg 0 .tlySnapCfg [] 3 with now := 1 }.setReg 0 .tlySnapRing [] 4;
      bit (s.reg 0 .tlySnapCfg []) 0 = true ∧ bit (s.reg 0 .tlySnapCfg []) 1 = true ∧ reached (s.time 0) (s.die 0).tly.nextTick = true ∧
      (s.die 0).tly.snap = none ∧ (s.die 0).tly.cap = none ∧
      (s.reg 0 .tlySnapTail [] + 1) % 2 ^ s.reg 0 .tlySnapRing [] ≠ s.reg 0 .tlySnapHead [] % 2 ^ s.reg 0 .tlySnapRing []) ∧
    (let s := (hostUp.setReg 0 .tlySnapCfg [] 3).modTly 0 fun t => { t with cap := some { tick := 0, bytes := [], next := 26 } };
      (s.die 0).tly.cap = some { tick := 0, bytes := [], next := 26 } ∧ bit (s.reg 0 .tlySnapCfg []) 1 = true ∧
      s.pcieLive = true ∧ { s with pcieUp := false }.pcieLive = false) ∧
    (let s := (State.reset.setReg 0 .tlySnapCfg [] 3).setReg 0 .tlySnapRing [] 4; s.pcieLive = false ∧ bits (2 : Nat) 0 23 = putBit (s.reg 0 .tlySnapCfg []) 0 false) ∧
    (let s := ((State.reset.setReg 0 .tlySnapCfg [] 1).setReg 0 .tlySnapRing [] 4).setReg 0 .tlySnapTail [] 15;
      (s.reg 0 .tlySnapTail [] + 1) % 2 ^ 4 = s.reg 0 .tlySnapHead [] % 2 ^ 4 ∧ bit (s.reg 0 .tlySnapCfg []) 2 = false) ∧
    (let s := State.reset.setReg 0 .tlySnapRing [] 16; bit (s.reg 0 .tlySnapCfg []) 0 = false ∧ s.reg 0 .tlySnapRing [] ≤ 16) ∧
    (let s := (hostUp.setReg 0 .tlySmpRing [] (64 + 32 + 8)).modDie 0 fun d => { d with cores := [(47, { ring := [(1, 2)] })] };
      bit (s.reg 0 .tlySmpRing []) 6 = true ∧ bit (s.reg 0 .tlySmpRing []) 5 = true ∧ s.sampleSource 0 = some 47 ∧
      (s.die 0).tly.wrote ≠ some s.now ∧ ((s.sampleWrite 0).die 0).tly.wrote = some s.now ∧
      (s.sampleHead 0 47).length / 2 ≤ 2 ^ 8 - s.reg 0 .tlySmpTail [] ∧ s.pcieLive = true) ∧
    (let s := hostUp.setReg 0 .tlySmpRing [] (64 + 32 + 8); bit (s.reg 0 .tlySmpRing []) 6 = true ∧ s.sampleSource 0 = none) ∧
    bit ((State.reset.setReg 0 .tlyTagCfg [] 1).reg 0 .tlyTagCfg []) 0 = true := by
  and_intros <;> decide +kernel

/-- Ring 6 of die 0 with a grit command under a scope, and cores 0 to 3 RUNNING. -/
def grit (scope : Nat) (c : RCmd) : State :=
  ((ringAt 6 c).modDie 0 fun d => { d with cores := (List.range 4).map fun k => (k, { run := .running }) }).setReg 0 .dctlUnlock [] scope

theorem witness_GritCommandsTakeTheirEffects :
    (let c := identCmd (1 + 3 * 256 + 2 ^ 11) 0xFFFF []; let s := grit 2 c;
      gritCommand (.setDelay 0) = some (0, 1) ∧ s.gritHead 0 1 c ∧ s.gritFormed 0 c = true ∧ bit s.scope 1 = true ∧ s.gritLegal 0 c = true ∧
      bit (grit 5 c).scope 1 = false) ∧
    (let c := identCmd (1 + 4 * 256) 0 []; (grit 2 c).gritHead 0 1 c ∧ (grit 2 c).gritFormed 0 c = false) ∧
    (let c := identCmd 5 (1 + 2 ^ 20) []; let s := (grit 2 c).setReg 0 .dmcGeom [] 1;
      s.gritHead 0 5 c ∧ s.gritFormed 0 c = true ∧ s.gritLegal 0 c = false) ∧
    (let c := identCmd 7 fILLEGAL []; (grit 2 c).gritHead 0 7 c ∧ (grit 2 c).gritFormed 0 c = true ∧ (grit 2 c).gritLegal 0 c = true) ∧
    (let c := identCmd 7 fSTUCK []; (grit 2 c).gritHead 0 7 c ∧ (grit 2 c).gritFormed 0 c = true ∧ (grit 2 c).gritLegal 0 c = true ∧
      bits c.d2 0 8 ≠ fILLEGAL) ∧
    (let s := (grit 2 (identCmd 7 fSTUCK [])).modDie 0 fun d => { d with gritHw := some (16, fSTUCK) };
      (s.die 0).gritHw = some (16, fSTUCK) ∧ s.ringCmd 0 6 = some (identCmd 7 fSTUCK []) ∧ s.journal.length < 64 ∧
      s.coreLive 0 1 = true ∧ s.coreLive 0 4 = false) ∧
    (let s := { grit 2 (identCmd 2 0 []) with journal := List.replicate 64 { kind := 0, time := 0, die := 0, reason := 0, w4 := 0 } };
      64 ≤ s.journal.length ∧ Live s 0) ∧
    (let s := (grit 2 { identCmd 7 fILLEGAL [] with started := true }).modDie 0 fun d => { d with gritForce := some (16, 0) };
      (s.die 0).gritForce = some (16, 0) ∧ s.journal.length < 64 ∧ (s.core 0 1).run ≠ .stopped ∧ (s.core 0 4).run = .stopped ∧
      0 + 1000000 ≤ { s with now := 1000000 }.now) ∧
    (let s := State.reset.setMaster 7 { forced := some 0 }; (s.master 7).forced = some 0 ∧ 0 ≤ s.now) := by
  repeat' first | decide +kernel | apply And.intro

end Sys2Proof.Tests
end

section
/-! SUPPORT. The shape of every command's answer, read off its arm of the dispatch once: what reset holds back, what no
command touches, and what becomes of a host access to a die that is out of reach. -/

namespace Sys2Proof.Machine

open Sys2Proof

/-! ### The two answers of a command -/

/-- The answers of a command that runs its change in one way: what that leaves, or absent. -/
inductive Answers (run : (State → State) → Res) : Res → Prop where
  | runs (f : State → State) : Answers run (run f)
  | absent : Answers run (.fault .absent)

variable {run : (State → State) → Res}

theorem Answers.of_if (p : Prop) [Decidable p] (f : State → State) :
    Answers run (if p then run f else .fault .absent) := by
  split
  · exact .runs f
  · exact .absent

theorem Answers.of_unless (p : Prop) [Decidable p] (f : State → State) :
    Answers run (if p then .fault .absent else run f) := by
  split
  · exact .absent
  · exact .runs f

theorem Answers.elim {r : Res} (h : Answers run r) : (∃ f : State → State, r = run f) ∨ r = .fault .absent := by
  cases h with
  | runs f => exact .inl ⟨f, rfl⟩
  | absent => exact .inr rfl

/-! ### The commands -/

/-- A command that does not act in reset is held back by it (R463): a host access and an event of die 0 run at once, any
other checks its operands first. -/
theorem exec_heldBack {c : Instr} (h : actsInReset c = false) (s : State) : Answers (cmd s) (exec c s) := by
  cases c with
  | registerWrite | slotLowDwordWrite | wmkDropsRead | jrnDropsRead | twipexRegisterTransaction | rerouteComplete
  | axisBroadcast | axisRecordEffect | axisEnable | axisDisable | ppsOutRise | ppsOutFall | ppsInEdge | eventPinChange
  | jumpEffect | axisJournalRecord | bar2Read | bar2Write | ansRead | ansWrite | pagePublish | ansPublishWrite
  | hdataWrite | hdataRead | ansClkLoss | enumerate | release | regRead | regWrite | regResp | attestReq | attestResp
  | time | wmkBadFrame | timeFrameSend | attest | readCert | installCert | unlockChallenge | unlockResponse | lock
  | ownerClaim | setMinVersion | wmkEnumerate | wmkRelease | wmkReg | recoverLoad | chainResponseTimeout
  | unlockExpire | journalWrite | jrnDataWrite | jrnDataRead | pcieLinkUp | pciePowerState | ppsInReadLatch
  | wmkTimeReadLatch | eventW1cClear | tableActivate | tableFreeze | initStart | ctxDataWrite | capturePop
  | glDataWrite | trainGo | mapMaskWrite | errorRingPop | htxHeadAck | snapshotEnable | counterZero | ovfClear
  | sampleWriterEnable | tagEnable | macPortConfig | telegramPortDisable | profileEnable | profileDisable
  | selectorDisable | linkEnable | linkDisable | graphEnable | gsDataWrite | isDataWrite | csDataWrite
  | gateListEnable | gateListDisable | gateListEndWrite | queueEnable | dTailWrite | cHeadWrite | ringEnable
  | ringDisable | hrxTailWrite | crossMaxRead | devCeRead | hopRegisterRead | isDataRead | csDataRead | ctxDataRead
  | msDataRead | counterReadLatch | timeReadLatch | axisValueReadLatch => apply Answers.runs
  | encoderEdge | indexEdge | zeroCrossing | axisHeld | pinPulseEnd | forceHeldExpire => apply Answers.of_unless
  | boot | resetNAssert | brownout | selfResetEnd | sysclkLoss | serdesRefclkLoss | serdesRefclkReturn
  | pcieRefclkLoss | tapReset | extest | samplePreload | idcode | highz | clamp | bypass | dbg | linkTrainingEnd
  | temperatureSample => cases h
  | _ => apply Answers.of_if

/-- A command that acts in reset runs its change whether or not reset lasts; an event of a missing die is absent. -/
theorem exec_unheld {c : Instr} (h : actsInReset c = true) (s : State) : Answers (cmdAlways s) (exec c s) := by
  cases c with
  | linkTrainingEnd | temperatureSample => apply Answers.of_if
  | boot | resetNAssert | brownout | selfResetEnd | sysclkLoss | serdesRefclkLoss | serdesRefclkReturn
  | pcieRefclkLoss | tapReset | extest | samplePreload | idcode | highz | clamp | bypass | dbg => apply Answers.runs
  | _ => cases h

/-- A command is one change, run under `cmd` or past reset, or absent. -/
theorem exec_cases (c : Instr) (s : State) :
    (∃ f : State → State, exec c s = cmd s f) ∨ (actsInReset c = true ∧ ∃ f : State → State, exec c s = cmdAlways s f) ∨
      exec c s = .fault .absent := by
  cases hc : actsInReset c with
  | false => exact (exec_heldBack hc s).elim.imp_right .inr
  | true => exact .inr ((exec_unheld hc s).elim.imp_left fun hf => ⟨rfl, hf⟩)

theorem exec_of_reset {s : State} {c : Instr} (hc : actsInReset c = false) (hr : s.inReset = true) :
    exec c s = .next s ∨ exec c s = .fault .absent :=
  (exec_heldBack hc s).elim.imp_left fun ⟨f, hf⟩ => hf.trans (cmd_reset hr f)

theorem exec_next_or_absent (s : State) (c : Instr) : (∃ t : State, exec c s = .next t) ∨ exec c s = .fault .absent := by
  rcases exec_cases c s with ⟨f, hf⟩ | ⟨-, f, hf⟩ | ha
  · exact .inl ⟨_, hf⟩
  · exact .inl ⟨_, hf⟩
  · exact .inr ha

/-- No command touches the fuses or the queue of commands, nor the clock unless it acts in reset. -/
theorem exec_keeps {s t : State} {c : Instr} (h : exec c s = .next t) :
    t.fuses = s.fuses ∧ t.pending = s.pending ∧ (actsInReset c = false → t.now = s.now) := by
  rcases exec_cases c s with ⟨f, hf⟩ | ⟨hc, f, hf⟩ | ha
  · cases hf.symm.trans h
    exact ⟨rfl, rfl, fun _ => rfl⟩
  · cases hf.symm.trans h
    exact ⟨rfl, rfl, fun hn => absurd (hc.symm.trans hn) (by decide)⟩
  · cases ha.symm.trans h

/-- A step keeps the fuses, and takes at most the front command from the queue. -/
theorem step_keeps {s t : State} (h : step s = .next t) : t.fuses = s.fuses ∧ t.pending = s.pending.tail := by
  cases hp : s.pending with
  | nil =>
    have hs : step s = .next s.tick := by simp only [step, hp]
    cases hs.symm.trans h
    exact ⟨rfl, hp⟩
  | cons c cs =>
    have hs : step s = exec c { s with pending := cs } := by simp only [step, hp]
    obtain ⟨hf, hq, -⟩ := exec_keeps (hs.symm.trans h)
    exact ⟨hf, hq⟩

/-! ### Host accesses to a die out of reach (R378, R379) -/

theorem exec_hostWrite_unreached {s : State} {c : Instr} {d : Nat} (h : hostWriteOf c = some d) (ha : s.inReset = false)
    (hr : s.reach 0 d = false) : exec c s = .next (s.keep (s.violation 8)) := by
  cases c <;> simp only [hostWriteOf, reduceCtorEq, Option.some.injEq] at h <;> subst h <;>
    apply onHost_unreached _ ha hr

theorem exec_hostRead_unreached {s : State} {c : Instr} {d : Nat} (h : hostReadOf c = some d) (ha : s.inReset = false)
    (hr : s.reach 0 d = false) : exec c s = .next (s.keep ((s.violation 8).emit (.readData 0 false))) := by
  cases c <;> simp only [hostReadOf, reduceCtorEq, Option.some.injEq] at h <;> subst h <;>
    apply onHostRead_unreached _ ha hr

end Sys2Proof.Machine
end

section
/-! PROOFS. The whole machine: what every step keeps, and what reset holds back. -/

namespace Sys2Proof.Machine

open Sys2Proof

/-- Settles O3: the invariant speaks of the fuses and of the queue only, and a step keeps the one and shortens the other. -/
theorem everyStepKeepsTheVariantAndTheQueue : Obligations.EveryStepKeepsTheVariantAndTheQueue := by
  intro s t ⟨hv, hq⟩ h
  obtain ⟨hf, hp⟩ := step_keeps h
  have hv' : t.variantOk = true := by
    rw [State.variantOk, hf]
    exact hv
  exact ⟨⟨hv', fun c hc => hq c (List.mem_of_mem_tail (hp ▸ hc))⟩, hf, hp⟩

/-- Settles O4: a command that does not act in reset is one change under `cmd`, which reset holds back, or absent. -/
theorem resetHoldsCommandsBack : Obligations.ResetHoldsCommandsBack :=
  ⟨fun _ _ hr hc => exec_of_reset hc hr, exec_next_or_absent, fun _ _ _ h => exec_keeps h⟩

end Sys2Proof.Machine
end

section
/-! SUPPORT. What a host's write and read of a register come to: what the settling of the sluices and the sending of an
interrupt leave of the registers, and each step of a write and of a read. -/

namespace Sys2Proof.Machine

open Sys2Proof

/-! ### Changes that leave the registers -/

theorem State.reg_modDie (s : State) (d e : Nat) (f : Die → Die) (r : RegId) (ix : List Nat)
    (h : (f (s.die d)).regs = (s.die d).regs) : (s.modDie d f).reg e r ix = s.reg e r ix := by
  by_cases he : e = d
  · subst he
    by_cases h8 : e < 8
    · simp only [State.reg, State.die_modDie _ _ h8, h]
    · simp [State.reg, State.modDie, State.die, Vector.setIfInBounds_eq_of_size_le, Nat.le_of_not_lt h8]
  · simp only [State.reg, State.die_modDie_ne _ _ he]

theorem State.reg_count (s : State) (d b i n e : Nat) (r : RegId) (ix : List Nat) :
    (s.count d b i n).reg e r ix = s.reg e r ix := by
  obtain ⟨cs, h⟩ := s.count_spec d b i n
  rw [h]
  exact s.reg_modDie d e _ r ix rfl

/-! ### Settling the sluices (R49, R61): it changes a die's hopper and nothing else -/

/-- Two states differ at most in the hopper of a die. -/
def State.hopOnly (s : State) (d : Nat) (t : State) : Prop := ∃ h : Hopper, t = s.modHop d fun _ => h

theorem State.hopOnly_refl (s : State) (d : Nat) : s.hopOnly d s := ⟨(s.die d).hop, (s.modDie_id d _ rfl).symm⟩

theorem State.hopOnly_modHop {s t : State} {d : Nat} (h : s.hopOnly d t) (f : Hopper → Hopper) :
    s.hopOnly d (t.modHop d f) := by
  obtain ⟨g, rfl⟩ := h
  exact ⟨f g, s.modDie_modDie d (fun x => { x with hop := g }) fun x => { x with hop := f x.hop }⟩

theorem State.hopOnly_trans {s t u : State} {d : Nat} (h : s.hopOnly d t) (h' : t.hopOnly d u) : s.hopOnly d u := by
  obtain ⟨g, rfl⟩ := h'
  exact State.hopOnly_modHop h _

theorem State.hopOnly_foldl {α : Type} {s t : State} {d : Nat} (l : List α) (f : State → α → State)
    (hf : ∀ (u : State) (a : α), u.hopOnly d (f u a)) (h : s.hopOnly d t) : s.hopOnly d (l.foldl f t) :=
  List.foldlRecOn l f h fun u hu a _ => State.hopOnly_trans hu (hf u a)

theorem State.hopOnly_oweFc (s : State) (d : Nat) (old : Hopper) : s.hopOnly d (s.oweFc d old) := by
  unfold State.oweFc
  apply State.hopOnly_foldl
  · intro u p
    have owe : ∀ (v : State) (b : Bool) (c : Bool) (g : Hopper → Hopper), v.hopOnly d (if b = c then v else v.modHop d g) := by
      intro v b c g
      split
      · exact v.hopOnly_refl d
      · exact State.hopOnly_modHop (v.hopOnly_refl d) g
    dsimp only
    split
    · exact owe ..
    · split
      · exact State.hopOnly_foldl _ _ (fun v q => owe ..) (u.hopOnly_refl d)
      · exact u.hopOnly_refl d
  · split
    · exact s.hopOnly_refl d
    · exact State.hopOnly_modHop (s.hopOnly_refl d) _

/-- Settling changes only the hopper of the die. -/
theorem State.hopOnly_settle (s : State) (d : Nat) : s.hopOnly d (s.settle d) := by
  unfold State.settle
  refine State.hopOnly_trans ?_ (State.hopOnly_oweFc ..)
  exact State.hopOnly_modHop (s.hopOnly_refl d) _

theorem State.reg_settle (s : State) (d e : Nat) (r : RegId) (ix : List Nat) : (s.settle d).reg e r ix = s.reg e r ix := by
  obtain ⟨h, hs⟩ := s.hopOnly_settle d
  rw [hs]
  exact s.reg_modDie d e _ r ix rfl

/-! ### Interrupts (R380): a message sent or held back leaves every register but the pending bits -/

theorem State.reg_sendMsix (s : State) {d src e : Nat} {r : RegId} {ix : List Nat}
    (h : e ≠ 0 ∨ regOff r ix ≠ regOff .dctlMsixPba [(d * 32 + src) / 32]) : (s.sendMsix d src).reg e r ix = s.reg e r ix := by
  unfold State.sendMsix
  dsimp only
  split
  · split
    · exact s.reg_setReg_ne _ h
    · exact State.reg_count ..
  · rfl

theorem State.reg_retest (s : State) {d src e : Nat} {r : RegId} {ix : List Nat}
    (h : e ≠ 0 ∨ regOff r ix ≠ regOff .dctlMsixPba [(d * 32 + src) / 32]) : (s.retest d src).reg e r ix = s.reg e r ix := by
  unfold State.retest
  split
  · exact s.reg_sendMsix h
  · rfl

/-- EVENT and EVENT_EN of a block lie apart, and neither is a word of the MSI-X pending bits. -/
theorem evRegs_apart (b : EvBlock) :
    regOff (evRegs b).2 [] ≠ regOff (evRegs b).1 [] ∧ regOff (evRegs b).1 [] ≠ regOff .dctlMsixPba [evSource b / 32] ∧
      regOff (evRegs b).2 [] ≠ regOff .dctlMsixPba [evSource b / 32] := by
  cases b <;> decide

/-- A message of a block's source leaves a register of its die that is no pending word of die 0. -/
theorem State.reg_retest_evSource (s : State) (d : Nat) (b : EvBlock) {r : RegId}
    (h : regOff r [] ≠ regOff .dctlMsixPba [evSource b / 32]) :
    (s.retest d (evSource b)).reg d r [] = s.reg d r [] := by
  apply s.reg_retest
  by_cases hd : d = 0
  · subst hd
    exact .inr (by simpa using h)
  · exact .inl hd

/-! ### Writes (R9, R375) -/

theorem exec_registerWrite (s : State) (d off : Nat) (v : Dword) (be : BitVec 4) :
    exec (.registerWrite d off v be) s = cmd s fun s => s.barWrite d off v.toNat be.toNat := rfl

theorem exec_slotLowDwordWrite (s : State) (d : Nat) {off : Nat} (v : Dword) {r : RegId} {ix : List Nat}
    (hf : regFind off = some (r, ix, 0)) (hs : (regRow r).slot = true) :
    exec (.slotLowDwordWrite d off v) s = cmd s fun s => s.hostWrite d off v.toNat := by
  change execSlotLowDwordWrite d off v s = _
  simp only [execSlotLowDwordWrite, hf, hs, if_true]

theorem exec_eventW1cClear (s : State) (d : Nat) (b : EvBlock) (v : Dword) :
    exec (.eventW1cClear d b v) s = onHost s d (b ≠ .ans || d = 0) fun s => s.eventClear d b v.toNat := rfl

theorem State.reach_lt {s : State} {a d : Nat} (h : s.reach a d = true) : d < 8 := by
  simp only [State.reach, Bool.and_eq_true] at h
  obtain ⟨⟨-, hd⟩, -⟩ := h
  exact State.has_lt hd

/-- A host write of a register that the die has and that is not all RO writes it and settles the sluices. -/
theorem State.hostWrite_found {s : State} {d off half : Nat} {r : RegId} {ix : List Nat} (v : Nat)
    (hr : s.reach 0 d = true) (hf : regFind off = some (r, ix, half)) (hl : regLacks d r ix = false)
    (ho : regAllRO (regRow r) = false) : s.hostWrite d off v = (s.regWrite d r ix half v).settle d := by
  simp [State.hostWrite, hr, hf, hl, ho]

theorem State.regWrite_slotLow (s : State) (d : Nat) {r : RegId} (ix : List Nat) (v : Nat) (hs : (regRow r).slot = true) :
    s.regWrite d r ix 0 v = s.holdLow d r ix v := by
  simp [State.regWrite, hs]

theorem State.regWrite_dword (s : State) (d : Nat) {r : RegId} (ix : List Nat) (half v : Nat)
    (hs : (regRow r).slot = false) : s.regWrite d r ix half v = s.regStore d r ix v := by
  simp [State.regWrite, hs]

/-- The address registers of the data windows are dwords whose written bits are all RW, with no rule of their own. -/
theorem plainRegs_rule {r : RegId} (h : r ∈ plainRegs) :
    (regRow r).slot = false ∧ regAllRO (regRow r) = false ∧ (regRow r).w1c = 0 ∧
      ∀ (s : State) (d : Nat) (ix : List Nat) (v : Nat), s.regStore d r ix v = s.plainWrite d r ix v := by
  simp only [plainRegs, List.mem_cons, List.not_mem_nil, or_false] at h
  rcases h with rfl | rfl | rfl | rfl | rfl | rfl | rfl <;> exact ⟨rfl, rfl, rfl, fun _ _ _ _ => rfl⟩

theorem State.onlyReg_setReg (s : State) {d : Nat} (r : RegId) (ix : List Nat) (v : Nat) (h8 : d < 8) :
    s.onlyReg (s.setReg d r ix v) d r ix v :=
  ⟨s.reg_setReg r ix v h8, fun _ _ _ h => s.reg_setReg_ne v h⟩

theorem State.onlyReg_trans {s t u : State} {d v w : Nat} {r : RegId} {ix : List Nat} (h : s.onlyReg t d r ix v)
    (h' : t.onlyReg u d r ix w) : s.onlyReg u d r ix w := by
  obtain ⟨-, hst⟩ := h
  obtain ⟨hu, htu⟩ := h'
  exact ⟨hu, fun e q jx hne => (htu e q jx hne).trans (hst e q jx hne)⟩

theorem State.onlyReg_settle {s u : State} {d v : Nat} {r : RegId} {ix : List Nat} (h : s.onlyReg u d r ix v) (e : Nat) :
    s.onlyReg (u.settle e) d r ix v := by
  obtain ⟨hu, hs⟩ := h
  exact ⟨(u.reg_settle e d r ix).trans hu, fun a q jx hne => (u.reg_settle e a q jx).trans (hs a q jx hne)⟩

/-- Without W1C bits the plain rule of a write stores the RW bits and nothing else. -/
theorem State.onlyReg_plainWrite (s : State) {d : Nat} {r : RegId} (ix : List Nat) (v : Nat) (h8 : d < 8)
    (hw : (regRow r).w1c = 0) : s.onlyReg (s.plainWrite d r ix v) d r ix (writtenBits r (s.reg d r ix) v) := by
  have h1 := s.onlyReg_setReg r ix (writtenBits r (s.reg d r ix) v) h8
  have h2 := (s.setRW d r ix v).onlyReg_setReg r ix (writtenBits r (s.reg d r ix) v) h8
  have e : s.plainWrite d r ix v = (s.setRW d r ix v).setReg d r ix (writtenBits r (s.reg d r ix) v) := by
    simp [State.plainWrite, State.clearW1c, hw, State.setRW, h8, writtenBits]
  exact e ▸ State.onlyReg_trans h1 h2

/-- All four byte enables of an access are set. -/
theorem byteEnables_all (be : BitVec 4) : be.toNat = 15 ↔ be = 15 := BitVec.toNat_inj (y := (15 : BitVec 4))

theorem State.barWrite_whole (s : State) (d off v : Nat) {be : BitVec 4} (h : be = 15) :
    s.barWrite d off v be.toNat = s.hostWrite d off v := by
  subst h
  rfl

/-- A write without all four byte enables, to a die out of reach or to no register is a violation. -/
theorem State.barWrite_violation (s : State) (d off v : Nat) (be : BitVec 4)
    (h : be ≠ 15 ∨ s.reach 0 d = false ∨ regFind off = none) :
    s.barWrite d off v be.toNat = s.violation (if s.reach 0 d then d else 8) := by
  unfold State.barWrite State.hostWrite
  cases hr : s.reach 0 d
  · simp
  · rcases h with hb | hr' | hn
    · have hb' : be.toNat ≠ 15 := fun e => hb ((byteEnables_all be).mp e)
      simp [hb']
    · cases hr.symm.trans hr'
    · simp [hn]

/-! ### Reads (R9, R33, R72) -/

/-- A read that clears a register's RC fields. -/
def State.readClear (s : State) (d : Nat) (r : RegId) (ix : List Nat) : State :=
  s.setReg d r ix (s.reg d r ix - (s.reg d r ix &&& (regRow r).rc))

theorem State.regRead_crossMax (s : State) (d : Nat) :
    s.regRead d .twxCrossMax [] 0 = (bits (s.reg d .twxCrossMax []) 0 32, s.readClear d .twxCrossMax []) := rfl

/-- WMK_STAT is read as it is stored but for bit 0, the activity of the input. -/
theorem State.regRead_wmkStat (s : State) : ∃ b : Bool, s.regRead 0 .dctlWmkStat [] 0 =
    (bits (putBit (s.reg 0 .dctlWmkStat []) 0 b) 0 32, s.readClear 0 .dctlWmkStat []) := ⟨_, rfl⟩

/-- JRN_STAT is read as it is stored but for the count of waiting records. -/
theorem State.regRead_jrnStat (s : State) : s.regRead 0 .dctlJrnStat [] 0 =
    (bits (putBits (s.reg 0 .dctlJrnStat []) 12 7 s.journal.length) 0 32, s.readClear 0 .dctlJrnStat []) := rfl

/-- A replaced field leaves what lies above it. -/
theorem putBits_div (n lo w v : Nat) : putBits n lo w v / 2 ^ (lo + w) = n / 2 ^ (lo + w) := by
  have hn : n % 2 ^ lo + 2 ^ lo * (n / 2 ^ lo % 2 ^ w + 2 ^ w * (n / 2 ^ lo / 2 ^ w)) = n := by
    rw [Nat.mod_add_div, Nat.mod_add_div]
  have hp : putBits n lo w v = n % 2 ^ lo + 2 ^ lo * (v % 2 ^ w + 2 ^ w * (n / 2 ^ lo / 2 ^ w)) := by
    simp only [putBits, bits, Nat.mul_add, Nat.mul_comm _ (2 ^ lo)] at hn ⊢
    omega
  have hlo : n % 2 ^ lo < 2 ^ lo := Nat.mod_lt _ (Nat.two_pow_pos lo)
  have hw : v % 2 ^ w < 2 ^ w := Nat.mod_lt _ (Nat.two_pow_pos w)
  rw [hp, Nat.pow_add, ← Nat.div_div_eq_div_mul, ← Nat.div_div_eq_div_mul,
    Nat.add_mul_div_left _ _ (Nat.two_pow_pos lo), Nat.div_eq_of_lt hlo, Nat.zero_add,
    Nat.add_mul_div_left _ _ (Nat.two_pow_pos w), Nat.div_eq_of_lt hw, Nat.zero_add]

/-- A field that lies above a replaced one is as it was. -/
theorem bits_putBits_above (n v : Nat) {lo w lo' : Nat} (w' : Nat) (h : lo + w ≤ lo') :
    bits (putBits n lo w v) lo' w' = bits n lo' w' := by
  obtain ⟨k, rfl⟩ := Nat.exists_eq_add_of_le h
  simp only [bits, Nat.pow_add 2 (lo + w), ← Nat.div_div_eq_div_mul, putBits_div]

/-- A field of a dword's value is that of the number. -/
theorem bits_bits_low (n : Nat) {k lo w : Nat} (h : lo + w ≤ k) : bits (bits n 0 k) lo w = bits n lo w := by
  obtain ⟨j, rfl⟩ := Nat.exists_eq_add_of_le h
  have hd : 2 ^ w ∣ 2 ^ (w + j) := Nat.pow_dvd_pow 2 (Nat.le_add_right w j)
  simp only [bits, Nat.pow_zero, Nat.div_one, Nat.add_assoc, Nat.pow_add 2 lo, Nat.mod_mul_right_div_self,
    Nat.mod_mod_of_dvd _ hd]

theorem exec_crossMaxRead (s : State) (d : Nat) :
    exec (.crossMaxRead d) s = onHostRead s d true fun s => readOut (s.regRead d .twxCrossMax [] 0) := rfl

theorem exec_wmkDropsRead (s : State) :
    exec .wmkDropsRead s = cmd s fun s => readOut (s.regRead 0 .dctlWmkStat [] 0) := rfl

theorem exec_jrnDropsRead (s : State) :
    exec .jrnDropsRead s = cmd s fun s => readOut (s.regRead 0 .dctlJrnStat [] 0) := rfl

theorem exec_hopRegisterRead (s : State) (d off : Nat) :
    exec (.hopRegisterRead d off) s = onHostRead s d true fun s =>
      if 0x10000 ≤ off && off < 0x20000 && (s.die d).hop.admitted.isEmpty then readOut (s.hostRead d off) else s := rfl

/-- A write of another die's register is the write itself. -/
theorem exec_twipexWrite (s : State) {d : Nat} (off : Nat) (v : Dword) (be : BitVec 4) (hd : d ≠ 0) :
    exec (.twipexRegisterTransaction d off (some v) be) s = exec (.registerWrite d off v be) s := by
  change execTwipexRegisterTransaction d off (some v) be s = execRegisterWrite d off v be s
  simp only [execTwipexRegisterTransaction, execRegisterWrite, hd, if_false]

/-- A read of another die's register needs all byte enables, and waits for the hopper. -/
theorem exec_twipexRead (s : State) {d : Nat} (off : Nat) (be : BitVec 4) (hd : d ≠ 0) :
    exec (.twipexRegisterTransaction d off none be) s = cmd s fun s =>
      if be = 15 then (if s.hopWaits d off then s else readOut (s.hostRead d off))
      else (s.violation (if s.reach 0 d then d else 8)).emit (.readData 0 false) := by
  change execTwipexRegisterTransaction d off none be s = _
  simp only [execTwipexRegisterTransaction, hd, if_false, byteEnables_all]

end Sys2Proof.Machine
end

section
/-! PROOFS. The host's accesses to registers. -/

namespace Sys2Proof.Machine

open Sys2Proof

/-- Settles O33: each clause is one step of the write, and neither the sluices' settling nor an interrupt's message touches
a register that the clause speaks of. -/
theorem registerWritesStoreWritableBits : Obligations.RegisterWritesStoreWritableBits := by
  refine ⟨fun s c d ha hc hr => exec_hostWrite_unreached hc ha hr, ?_, ?_, ?_, ?_⟩
  · intro s d off v be ha h
    rw [exec_registerWrite, cmd_awake ha, s.barWrite_violation d off v.toNat be h]
  · intro s d off v r ix ha hr hf hp hl
    obtain ⟨hs, ho, hw, hst⟩ := plainRegs_rule hp
    refine ⟨_, (exec_registerWrite ..).trans (cmd_awake ha _), ?_⟩
    rw [s.barWrite_whole d off v.toNat rfl, State.hostWrite_found _ hr hf hl ho, s.regWrite_dword d ix 0 _ hs, hst]
    exact State.onlyReg_settle (s.onlyReg_plainWrite ix _ (State.reach_lt hr) hw) d
  · intro s d off v r ix ha hr hf hs ho hl
    rw [exec_slotLowDwordWrite s d v hf hs, cmd_awake ha, State.hostWrite_found _ hr hf hl ho,
      State.regWrite_slotLow s d ix _ hs]
    rfl
  · intro s d b v h hb
    have h8 : d < 8 := State.reach_lt h.2
    obtain ⟨hne, h1, h2⟩ := evRegs_apart b
    refine ⟨_, (exec_eventW1cClear ..).trans (onHost_reached h (by simpa using hb) _), ?_, ?_⟩
    · exact (State.reg_retest_evSource _ d b h1).trans (s.reg_setReg _ _ _ h8)
    · exact (State.reg_retest_evSource _ d b h2).trans (s.reg_setReg_ne _ (.inr hne))

/-- Settles O34: a read of a die out of reach is the violation alone; the others run one register's read, whose RC fields it
clears. -/
theorem readsReturnAndClear : Obligations.ReadsReturnAndClear := by
  refine ⟨fun s c d ha hc hr => exec_hostRead_unreached hc ha hr, ?_, ?_, ?_, ?_, ?_⟩
  · intro s d h v hv
    have hb : bits v 0 32 = v := by simpa [bits] using hv
    rw [exec_crossMaxRead, onHostRead_reached h rfl, s.regRead_crossMax]
    exact congrArg (fun w => Host.Outcome.next (s.keep ((s.readClear d .twxCrossMax []).emit (.readData w false)))) hb
  · intro s ha
    obtain ⟨b, hb⟩ := s.regRead_wmkStat
    rw [exec_wmkDropsRead, cmd_awake ha, hb]
    have hw := bits_bits_low (putBit (s.reg 0 .dctlWmkStat []) 0 b) (k := 32) (lo := 8) (w := 16) (by decide)
    exact ⟨_, rfl, hw.trans (bits_putBits_above _ _ 16 (by decide))⟩
  · intro s ha
    rw [exec_jrnDropsRead, cmd_awake ha, s.regRead_jrnStat]
    have hw := bits_bits_low (putBits (s.reg 0 .dctlJrnStat []) 12 7 s.journal.length) (k := 32) (lo := 19) (w := 13)
      (by decide)
    exact ⟨_, rfl, hw.trans (bits_putBits_above _ _ 13 (by decide))⟩
  · intro s d off h hlo hhi
    rw [exec_hopRegisterRead, onHostRead_reached h rfl]
    constructor
    · intro ha
      simp [hlo, hhi, ha, readOut]
    · intro ha
      simp [ha]
  · intro s d off be ha hd
    refine ⟨fun v => exec_twipexWrite s off v be hd, fun hw => ?_, fun hw => ?_, fun hb => ?_⟩
    · simp only [exec_twipexRead s off _ hd, cmd_awake ha, hw, if_true, Bool.false_eq_true, if_false, readOut]
    · simp only [exec_twipexRead s off _ hd, cmd_awake ha, hw, if_true]
    · simp only [exec_twipexRead s off _ hd, cmd_awake ha, hb, if_false]

end Sys2Proof.Machine
end

section
/-! SUPPORT. Commands that make the same change answer alike. -/

namespace Sys2Proof.Machine

open Sys2Proof

/-- Equal changes of a state, settled, are one answer. -/
theorem next_settle_congr {s t u : State} (d : Nat) (h : t = u) :
    (.next (s.keep (t.settle d)) : Res) = .next (s.keep (u.settle d)) := by
  rw [h]

end Sys2Proof.Machine
end

section
/-! SUPPORT. What reports leave alone: counts, register writes, events with their interrupts, journal and tag records, and
completions of command rings touch neither the fabric nor any die's tailrace, and take back no output. -/

namespace Sys2Proof.Machine

open Sys2Proof

/-- Two states have the same fuses, clock and fabric and the same tailrace in every die, and the outputs of the first are
the oldest of the second. -/
structure State.keepsTraffic (s t : State) : Prop where
  fuses : t.fuses = s.fuses
  now : t.now = s.now
  fab : t.fab = s.fab
  egr : ∀ e : Nat, (t.die e).egr = (s.die e).egr
  out : s.out <+: t.out

variable {s t u : State}

theorem State.keepsTraffic.refl (s : State) : s.keepsTraffic s := ⟨rfl, rfl, rfl, fun _ => rfl, List.prefix_rfl⟩

theorem State.keepsTraffic.trans (h : s.keepsTraffic t) (h' : t.keepsTraffic u) : s.keepsTraffic u :=
  ⟨h'.fuses.trans h.fuses, h'.now.trans h.now, h'.fab.trans h.fab, fun e => (h'.egr e).trans (h.egr e), h.out.trans h'.out⟩

/-- What a change of a die leaves of that die, it leaves of every die. -/
theorem State.proj_modDie {α : Type} (g : Die → α) (s : State) (d e : Nat) (f : Die → Die)
    (hf : g (f (s.die d)) = g (s.die d)) : g ((s.modDie d f).die e) = g (s.die e) := by
  by_cases he : e = d
  · subst he
    by_cases h8 : e < 8
    · rw [State.die_modDie _ _ h8, hf]
    · simp [State.modDie, State.die, Vector.setIfInBounds_eq_of_size_le, Nat.le_of_not_lt h8]
  · rw [State.die_modDie_ne _ _ he]

theorem State.proj_count {α : Type} (g : Die → α) (hg : ∀ (x : Die) (cs : Store Ctr), g { x with ctrs := cs } = g x)
    (s : State) (d b i n e : Nat) : g ((s.count d b i n).die e) = g (s.die e) := by
  obtain ⟨cs, hc⟩ := s.count_spec d b i n
  rw [hc]
  exact s.proj_modDie g d e _ (hg _ cs)

/-! ### Registers, counters and interrupts -/

theorem State.keepsTraffic.modDie (h : s.keepsTraffic t) (d : Nat) (f : Die → Die)
    (hf : (f (t.die d)).egr = (t.die d).egr) : s.keepsTraffic (t.modDie d f) :=
  h.trans ⟨rfl, rfl, rfl, fun e => t.proj_modDie Die.egr d e f hf, List.prefix_rfl⟩

theorem State.keepsTraffic.modHop (h : s.keepsTraffic t) (d : Nat) (f : Hopper → Hopper) : s.keepsTraffic (t.modHop d f) :=
  h.modDie d _ rfl

theorem State.keepsTraffic.setReg (h : s.keepsTraffic t) (d : Nat) (r : RegId) (ix : List Nat) (v : Nat) :
    s.keepsTraffic (t.setReg d r ix v) :=
  h.modDie d _ rfl

theorem State.keepsTraffic.emit (h : s.keepsTraffic t) (o : Out) : s.keepsTraffic (t.emit o) :=
  h.trans ⟨rfl, rfl, rfl, fun _ => rfl, List.prefix_append t.out [o]⟩

theorem State.keepsTraffic.count (h : s.keepsTraffic t) (d b i n : Nat) :
    s.keepsTraffic (t.count d b i n) := by
  obtain ⟨cs, hc⟩ := t.count_spec d b i n
  exact hc ▸ h.modDie d _ rfl

theorem State.keepsTraffic.sendMsix (h : s.keepsTraffic t) (d src : Nat) : s.keepsTraffic (t.sendMsix d src) := by
  unfold State.sendMsix
  dsimp only
  split
  · split
    · exact h.setReg ..
    · exact (h.emit _).count ..
  · exact h

theorem State.keepsTraffic.watch (h : s.keepsTraffic t) (d src : Nat) {f : State → State} (hf : t.keepsTraffic (f t)) :
    s.keepsTraffic (t.watch d src f) := by
  unfold State.watch
  dsimp only
  split
  · exact h.trans hf
  · split
    · exact (h.trans hf).sendMsix ..
    · exact h.trans hf

theorem State.keepsTraffic.event (h : s.keepsTraffic t) (d : Nat) (b : EvBlock) (i : Nat) : s.keepsTraffic (t.event d b i) :=
  h.watch _ _ ((State.keepsTraffic.refl t).setReg ..)

/-! ### Journal and tag records, discards (R305, R424, R441) -/

theorem State.keepsTraffic.journalBy (h : s.keepsTraffic t) (d kind reason w4 w5 w6 : Nat) :
    s.keepsTraffic (t.journalBy d kind reason w4 w5 w6) := by
  have queued : ∀ (j : List JRec) (l : Nat), t.keepsTraffic { t with journal := j, journalLost := l } :=
    fun _ _ => ⟨rfl, rfl, rfl, fun _ => rfl, List.prefix_rfl⟩
  unfold State.journalBy State.journalRec
  split
  · split
    · exact h.trans (queued _ _)
    · exact (h.trans (queued _ _)).setReg ..
  · exact h

theorem State.keepsTraffic.journalDrop (h : s.keepsTraffic t) (d reason port queue : Nat) :
    s.keepsTraffic (t.journalDrop d reason port queue) := h.journalBy ..

theorem State.keepsTraffic.tagPush (h : s.keepsTraffic t) (d : Nat) (r : TagRec) : s.keepsTraffic (t.tagPush d r) := by
  unfold State.tagPush
  split
  · exact State.keepsTraffic.count (h.modDie d _ rfl) ..
  · exact (h.count ..).event ..

theorem State.keepsTraffic.tagLost (h : s.keepsTraffic t) (a : Arrival) (reason : Nat) :
    s.keepsTraffic (t.tagLost a reason) := by
  unfold State.tagLost
  split
  · exact h
  · exact h.tagPush ..

theorem State.keepsTraffic.lastDrop (h : s.keepsTraffic t) (d port queue reason : Nat) :
    s.keepsTraffic (t.lastDrop d port queue reason) := h.setReg ..

theorem State.keepsTraffic.dropLength (h : s.keepsTraffic t) (d port queue : Nat) :
    s.keepsTraffic (t.dropLength d port queue) := ((h.count ..).event ..).lastDrop ..

theorem State.keepsTraffic.reap (h : s.keepsTraffic t) (d pid : Nat) : s.keepsTraffic (t.reap d pid) := by
  unfold State.reap State.freeCells
  split
  · split
    · exact (h.modHop ..).modHop ..
    · exact h
  · exact h

theorem State.keepsTraffic.dropRef (h : s.keepsTraffic t) (d pid : Nat) : s.keepsTraffic (t.dropRef d pid) := by
  refine State.keepsTraffic.reap ?_ d pid
  unfold State.modPkt
  split
  · exact h.modHop ..
  · exact h

/-! ### Command rings (R383, R386, R387) -/

theorem State.keepsTraffic.setRing (h : s.keepsTraffic t) (d r : Nat) (x : Ring) : s.keepsTraffic (t.setRing d r x) :=
  h.modDie d _ rfl

theorem State.keepsTraffic.post (h : s.keepsTraffic t) (d r die code tag c0 c1 : Nat) :
    s.keepsTraffic (t.post d r die code tag c0 c1) := by
  unfold State.post
  dsimp only
  refine State.keepsTraffic.watch (State.keepsTraffic.setRing ?_ ..) _ _ ((State.keepsTraffic.refl _).setReg ..)
  have written : ∀ (o : Out), s.keepsTraffic (if t.pcieLive = true then t.emit o else t.ringHalt d r) := by
    intro o
    split
    · exact h.emit _
    · exact (h.setReg ..).event ..
  split
  · exact (written _).count ..
  · split
    · exact (written _).count ..
    · exact written _

theorem State.keepsTraffic.dramStir (h : s.keepsTraffic t) (d : Nat) : s.keepsTraffic (t.dramStir d) := by
  have idle : s.keepsTraffic (t.modDram d fun m => { m with idleSince := t.now }) := h.modDie d _ rfl
  unfold State.dramStir
  dsimp only
  split
  · exact State.keepsTraffic.count (idle.modDie d _ rfl) ..
  · exact idle

theorem State.keepsTraffic.gritNote (h : s.keepsTraffic t) (d cmd code d0 d1 d2 : Nat) :
    s.keepsTraffic (t.gritNote d cmd code d0 d1 d2) := by
  unfold State.gritNote
  dsimp only
  split
  · exact (((h.journalBy ..).setReg ..).count ..).event ..
  · split
    · exact (((h.journalBy ..).setReg ..).count ..).event ..
    · exact (h.journalBy ..).setReg ..

theorem State.keepsTraffic.skipBad (h : s.keepsTraffic t) (d r n : Nat) : s.keepsTraffic (t.skipBad d r n) := by
  induction n generalizing t with
  | zero => exact h
  | succ n ih =>
    unfold State.skipBad
    split
    · exact h
    · split
      · exact h
      · refine ih (State.keepsTraffic.post (State.keepsTraffic.setRing ?_ ..) ..)
        split
        · exact h.gritNote ..
        · split
          · exact h.dramStir d
          · exact h

theorem State.keepsTraffic.ringDone (h : s.keepsTraffic t) (d r code c0 c1 : Nat) :
    s.keepsTraffic (t.ringDone d r code c0 c1) := by
  unfold State.ringDone
  split
  · exact h
  · exact ((h.setRing ..).post ..).skipBad ..

end Sys2Proof.Machine
end

section
/-! SUPPORT. Fields of numbers, and tables after many writes. -/

namespace Sys2Proof.Machine

open Sys2Proof

theorem bits_low (n k : Nat) : bits n 0 k = n % 2 ^ k := by simp [bits]

theorem bit_eq_testBit (n i : Nat) : bit n i = n.testBit i := Nat.testBit_eq_decide_div_mod_eq.symm

theorem bit_eq_bits (n i : Nat) : bit n i = decide (bits n i 1 = 1) := by simp [bit, bits]

/-- What lies below a replaced field is as it was. -/
theorem putBits_mod (n lo w v : Nat) : putBits n lo w v % 2 ^ lo = n % 2 ^ lo := by
  have hle : 2 ^ lo * bits n lo w ≤ n :=
    (Nat.mul_le_mul_left _ (Nat.mod_le _ _)).trans (Nat.mul_div_le n (2 ^ lo))
  rw [putBits, Nat.add_mul_mod_self_right, Nat.mul_comm, Nat.sub_mul_mod hle]

/-- A field that lies below a replaced one is as it was. -/
theorem bits_putBits_below (n v : Nat) {lo' w' lo : Nat} (w : Nat) (h : lo' + w' ≤ lo) :
    bits (putBits n lo w v) lo' w' = bits n lo' w' := by
  rw [← bits_bits_low _ h, bits_low, putBits_mod, ← bits_low, bits_bits_low _ h]

/-- A replaced field holds the new value. -/
theorem bits_putBits_self (n lo w v : Nat) : bits (putBits n lo w v) lo w = v % 2 ^ w := by
  have hlo := Nat.two_pow_pos lo
  have hd : putBits n lo w v / 2 ^ lo = n / 2 ^ lo - bits n lo w + v % 2 ^ w := by
    rw [putBits, Nat.add_mul_div_right _ _ hlo, Nat.mul_comm (bits n lo w), Nat.sub_mul_div]
  rw [bits, hd, bits, ← Nat.mod_add_div (n / 2 ^ lo) (2 ^ w), Nat.add_mul_mod_self_left, Nat.mod_mod,
    Nat.add_sub_cancel_left, Nat.mul_add_mod, Nat.mod_mod]

theorem bit_putBit_self (n i : Nat) (b : Bool) : bit (putBit n i b) i = b := by
  rw [bit_eq_bits, putBit, bits_putBits_self]
  cases b <;> decide

theorem bit_putBits_below (n v : Nat) {i lo : Nat} (w : Nat) (h : i < lo) : bit (putBits n lo w v) i = bit n i := by
  rw [bit_eq_bits, bits_putBits_below n v w h, bit_eq_bits]

theorem bit_and (m n i : Nat) : bit (m &&& n) i = (bit m i && bit n i) := by
  simp only [bit_eq_testBit, Nat.testBit_and]

/-- A table in which the keys of a list were set to a value holds it at each of them. -/
theorem sgetD_foldl_sset {α β : Type} (f : β → Nat) (v dflt : α) {l : List β} {b : β} (h : b ∈ l) (m : Store α) :
    sgetD (l.foldl (fun m p => sset m (f p) v) m) (f b) dflt = v := by
  have later : ∀ (l : List β) (m : Store α), sgetD m (f b) dflt = v →
      sgetD (l.foldl (fun m p => sset m (f p) v) m) (f b) dflt = v := by
    intro l m hm
    refine List.foldlRecOn (motive := fun m => sgetD m (f b) dflt = v) l _ hm fun m hm p _ => ?_
    by_cases e : f b = f p
    · rw [e, sgetD_sset_self]
    · rwa [sgetD_sset_ne m v dflt e]
  induction l generalizing m with
  | nil => cases h
  | cons p l ih =>
    rcases List.mem_cons.mp h with rfl | h
    · exact later l _ (sgetD_sset_self ..)
    · exact ih h _

end Sys2Proof.Machine
end

section
/-! SUPPORT. The Twipex links: what a change of a link's state leaves of the fabric, and what each command about a link
runs. -/

namespace Sys2Proof.Machine

open Sys2Proof

/-! ### Reach depends on the variant and the links alone (R36) -/

theorem State.reach_congr {s t : State} (hf : t.fuses = s.fuses) (hl : t.fab.links = s.fab.links) (x y : Nat) :
    t.reach x y = s.reach x y := by
  have hh : t.has = s.has := by
    funext d
    simp only [State.has, hf]
  have ho : t.linkOpen = s.linkOpen := by
    funext d k
    rw [State.linkOpen, State.linkOpen, State.link, State.link, hf, hl]
  have hs : hopsStep t = hopsStep s := by
    funext m
    simp only [hopsStep, hh, ho, hf]
  simp only [State.reach, State.hops, State.hopsTo, hh, hs]

/-! ### A change of a link's state (R37, R39) -/

/-- One end's part in a change of state leaves the variant and the states of the links. -/
theorem State.linkEnd_links (s : State) (e k : Nat) (old new : LinkState) :
    (s.linkEnd e k old new).fuses = s.fuses ∧ (s.linkEnd e k old new).fab.links = s.fab.links := by
  let u : State := { s with fab := { s.fab with
    run := if new = LinkState.down then s.fab.run else sdel s.fab.run (e * 3 + k) } }
  have h : u.keepsTraffic (s.linkEnd e k old new) := by
    have noted := (((State.keepsTraffic.refl u).count e ctrTWX (4 * k + 3) 1).event e .twx k).journalBy e 4 0
      (k + new.code * 4) 0 0
    unfold State.linkEnd
    dsimp only
    split
    · split
      · exact noted.ringDone ..
      · exact noted
    · exact noted
  exact ⟨h.fuses, (congrArg Fabric.links h.fab :)⟩

theorem State.linkEnds_links (s : State) (es : List Nat) (k : Nat) (old new : LinkState) :
    let t := es.foldl (fun s e => s.linkEnd e k old new) s
    t.fuses = s.fuses ∧ t.fab.links = s.fab.links := by
  refine List.foldlRecOn (motive := fun t : State => t.fuses = s.fuses ∧ t.fab.links = s.fab.links) es _ ⟨rfl, rfl⟩ ?_
  intro t ⟨hf, hl⟩ e _
  obtain ⟨hf', hl'⟩ := t.linkEnd_links e k old new
  exact ⟨hf'.trans hf, hl'.trans hl⟩

/-- The pairs of dies whose traffic waits for a reroute when a link takes a new state (R39). -/
def State.reroutes (s : State) (d k : Nat) (new : LinkState) : List (Nat × Nat) :=
  if (s.link d k).opens && !new.opens then
    s.diePairs.filter fun p => s.pathUses (linkKey s.fuses.dies d k) p.2 8 p.1
  else []

/-- A change of a link's state: at both of its ends, with the traffic of its routes held, and R486 for the pairs of dies that
lose their last route. -/
theorem State.setLink_spec {s : State} {d k : Nat} {new : LinkState} (h : s.link d k ≠ new) :
    ∃ t : State, t.fuses = s.fuses ∧ t.fab.links = sset s.fab.links (linkKey s.fuses.dies d k) new ∧
      (∀ p ∈ s.reroutes d k new, t.routeHeld p.1 p.2 = true) ∧
      s.setLink d k new = ((s.diePairs.filter fun p => s.reach p.1 p.2).filter fun p => !t.reach p.1 p.2).foldl
        (fun s p => s.unreachable p.1 p.2) t := by
  obtain ⟨hf, hl⟩ := State.linkEnds_links
    { s with fab := { s.fab with links := sset s.fab.links (linkKey s.fuses.dies d k) new } }
    (linkEnds s.fuses.dies d k) k (s.link d k) new
  refine ⟨_, ?_, ?_, ?_, if_neg h⟩
  · exact hf
  · exact hl
  · exact fun p hp => sgetD_foldl_sset (fun p : Nat × Nat => p.1 * 8 + p.2) true false hp _

/-- A change after which every pair of dies that had a route has one still discards nothing (R39, R486). -/
theorem State.setLink_of_routes_left {s : State} {d k : Nat} {new : LinkState} (h : s.link d k ≠ new)
    (hr : ∀ x y : Nat, s.reach x y = true → State.reach { s with fab := { s.fab with
      links := sset s.fab.links (linkKey s.fuses.dies d k) new } } x y = true) :
    (s.setLink d k new).fab.links = sset s.fab.links (linkKey s.fuses.dies d k) new ∧
      ∀ p ∈ s.reroutes d k new, (s.setLink d k new).routeHeld p.1 p.2 = true := by
  obtain ⟨t, hf, hl, hheld, ht⟩ := State.setLink_spec h
  have none_lost : ((s.diePairs.filter fun p => s.reach p.1 p.2).filter fun p => !t.reach p.1 p.2) = [] := by
    refine List.filter_eq_nil_iff.mpr fun p hp => ?_
    have hs : s.reach p.1 p.2 = true := (List.mem_filter.mp hp).2
    simp only [State.reach_congr (s := { s with fab := { s.fab with
      links := sset s.fab.links (linkKey s.fuses.dies d k) new } }) hf hl, hr p.1 p.2 hs, Bool.not_true,
      Bool.false_eq_true, not_false_eq_true]
  rw [ht, none_lost]
  exact ⟨hl, hheld⟩

theorem State.mem_reroutes {s : State} {d k x y : Nat} {new : LinkState} (hm : (x, y) ∈ s.diePairs)
    (ho : (s.link d k).opens = true) (hn : new.opens = false)
    (hp : s.pathUses (linkKey s.fuses.dies d k) y 8 x = true) : (x, y) ∈ s.reroutes d k new := by
  simp only [State.reroutes, ho, hn, Bool.not_false, Bool.and_true, if_true]
  exact List.mem_filter.mpr ⟨hm, hp⟩

/-! ### Dies that become unreachable (R486) -/

/-- A die writes off the credits of every pair with a die that it no longer reaches. -/
theorem State.outst_unreachable (s : State) {x : Nat} (y : Nat) {p : Nat} (hx : x < 8) (hp : p < 32) :
    sgetD ((s.unreachable x y).die x).egr.outst (p * 8 + y) 0 = 0 := by
  unfold State.unreachable
  dsimp only
  generalize (((((s.loseFlights x y).loseReplicas x y).loseWaiting x y).loseTickets x y).loseWork x y) = t
  rw [((State.keepsTraffic.refl (t.loseCredits x y)).event x .twx 3).egr x]
  simp only [State.loseCredits, State.modEgr, State.die_modDie _ _ hx]
  exact sgetD_foldl_sset (fun p : Nat => p * 8 + y) 0 0 (List.mem_range.mpr hp) _

/-! ### The commands about a link -/

theorem exec_linkEnable {s : State} {d k : Nat} (h : s.hostReaches d) (hk : k < 3) (v : Dword) :
    exec (.linkEnable d k v) s = .next (s.keep ((s.linkCtlWrite d k (putBit v.toNat 0 true)).settle d)) :=
  onHostS_reached h (decide_eq_true hk) fun s => s.linkCtlWrite d k (putBit v.toNat 0 true)

theorem exec_linkDisable {s : State} {d k : Nat} (h : s.hostReaches d) (hk : k < 3) (v : Dword) :
    exec (.linkDisable d k v) s = .next (s.keep ((s.linkCtlWrite d k (putBit v.toNat 0 false)).settle d)) :=
  onHostS_reached h (decide_eq_true hk) fun s => s.linkCtlWrite d k (putBit v.toNat 0 false)

/-- A write that sets ENABLE trains the link when that completes the bits of both ends (R487). -/
theorem State.linkCtlWrite_enable (s : State) (d k n : Nat) :
    s.linkCtlWrite d k (putBit n 0 true) =
      let u := s.setReg d .twxLinkCtl [k] (bits (putBit n 0 true) 0 2)
      if bit (s.reg d .twxLinkCtl [k]) 0 = false ∧ u.bothEnds d k 0 = true then u.train d k else u := by
  simp [State.linkCtlWrite, bit_putBit_self]

/-- A write that clears ENABLE takes the link DOWN (R37). -/
theorem State.linkCtlWrite_disable (s : State) (d k n : Nat) :
    s.linkCtlWrite d k (putBit n 0 false) =
      let w := s.setReg d .twxLinkCtl [k] (bits (putBit n 0 false) 0 2)
      if bit (s.reg d .twxLinkCtl [k]) 0 = true then w.setLink d k .down else w := by
  simp [State.linkCtlWrite, bit_putBit_self]

/-- LINK_RETRAIN at the head of ring 4 that has not started (R40, R390). -/
theorem exec_linkRetrain {s : State} {d : Nat} {c : RCmd} (h : s.live d) (hc : s.ringCmd d 4 = some c) (ho : c.op = 1)
    (hs : c.started = false) : exec (.linkRetrain d) s = .next (s.keep (State.settle (
      if 3 ≤ bits c.d0 8 2 ∨ bits c.d0 10 22 ≠ 0 ∨ c.d1 ≠ 0 ∨ c.d2 ≠ 0 ∨ c.d3 ≠ 0 then s.ringDone d 4 cMALFORMED
      else if s.link d (bits c.d0 8 2) = .degraded ∨ s.link d (bits c.d0 8 2) = .down then
        (s.ringSet d 4 { c with started := true, since := s.now }).train d (bits c.d0 8 2)
      else s.ringDone d 4 cSTATE) d)) := by
  refine (onDieS_live h _).trans ?_
  simp [hc, ho, hs, or_assoc]

/-- Training that ends while both ends are enabled (R37, R487). -/
theorem State.linkTrained_both {s : State} {d k : Nat} {lo hi : Bool} (ht : s.link d k = .training)
    (hb : s.bothEnds d k 0 = true) : s.linkTrained d k lo hi =
      if lo = true ∧ hi = true then s.setLink d k .up
      else if (lo = true ∨ hi = true) ∧ s.bothEnds d k 1 = true then s.setLink d k .degraded
      else s.setLink d k .down := by
  simp [State.linkTrained, ht, hb]

theorem exec_linkTrainingEnd {s : State} {d k : Nat} (hd : s.has d = true) (hk : k < 3) (lo hi : Bool) :
    exec (.linkTrainingEnd d k lo hi) s = .next (s.keepAlways ((s.linkTrained d k lo hi).settle d)) := by
  change execLinkTrainingEnd d k lo hi s = _
  simp [execLinkTrainingEnd, hd, hk, cmdAlways, State.keepAlways]

theorem exec_laneFailure {s : State} {d k : Nat} (h : s.live d) (hk : k < 3) :
    exec (.laneFailure d k) s = .next (s.keep (State.settle (if s.link d k = .up then s.train d k else s) d)) :=
  onPort_live (p := 0) h (decide_eq_true hk) fun s => if s.link d k = .up then s.train d k else s

theorem exec_rerouteComplete {s : State} (h : s.inReset = false) :
    exec .rerouteComplete s = .next (s.keep { s with fab := { s.fab with rerouting := [] } }) :=
  cmd_awake h fun s => { s with fab := { s.fab with rerouting := [] } }

/-- The run of failed retries at a link's end after one more retry (R38). -/
def State.retryRun (s : State) (d k : Nat) (failed : Bool) : Nat := if failed then sgetD s.fab.run (d * 3 + k) 0 + 1 else 0

/-- A flit is sent again: the retry is counted and the run kept. -/
def State.retried (s : State) (d k : Nat) (failed : Bool) : State :=
  let t := s.count d ctrTWX (4 * k + 2)
  { t with fab := { t.fab with run := sset t.fab.run (d * 3 + k) (s.retryRun d k failed) } }

theorem exec_flitError {s : State} {d k : Nat} (h : s.live d) (hk : k < 3) (failed : Bool) :
    exec (.flitError d k failed) s = .next (s.keep (State.settle (
      if s.linkOpen d k = false then s
      else if 8 ≤ s.retryRun d k failed then (s.retried d k failed).setLink d k .down else s.retried d k failed) d)) := by
  refine (onPort_live (p := 0) h (decide_eq_true hk) _).trans ?_
  cases s.linkOpen d k with
  | false => rfl
  | true => rfl

end Sys2Proof.Machine
end

section
/-! PROOFS. The Twipex links. -/

namespace Sys2Proof.Machine

open Sys2Proof

/-- Settles O47: each command is one write, training or change of a link's state, and a change that leaves every die its
routes discards nothing. -/
theorem linksChangeState : Obligations.LinksChangeState := by
  refine ⟨?_, ?_, ?_, ?_, ?_, fun s h => exec_rerouteComplete h, ?_, fun s x y p hx _ hp => s.outst_unreachable y hx hp⟩
  · -- LINK_ENABLE and LINK_DISABLE
    intro s d k v h hk on off u w
    rw [exec_linkEnable h hk, exec_linkDisable h hk, s.linkCtlWrite_enable, s.linkCtlWrite_disable]
    exact ⟨fun hb => by simp [hb, u, on], fun hb => by simp [hb, u, on], fun hb => by simp [hb, w, off],
      fun hb => by simp [hb, w, off]⟩
  · -- LINK_RETRAIN
    intro s d c h hc ho hs
    rw [exec_linkRetrain h hc ho hs]
    dsimp only
    refine ⟨fun hm => by rw [if_pos hm], fun hk h0 h1 h2 h3 => ?_⟩
    rw [if_neg (by simp [Nat.not_le.mpr hk, h0, h1, h2, h3])]
    refine ⟨fun hl => by rw [if_pos hl], fun hl => ?_⟩
    rw [if_neg (by rcases hl with hl | hl <;> simp [hl])]
  · -- LINK_TRAINING_END
    intro s d k lo hi hd hk ht half
    have not_both : lo = false ∨ hi = false → ¬(lo = true ∧ hi = true) := by
      cases lo <;> cases hi <;> decide
    rw [exec_linkTrainingEnd hd hk]
    refine ⟨fun hb hlo hhi => ?_, fun hb hn hh => ?_, fun hb => ?_⟩
    · rw [State.linkTrained_both ht hb, if_pos ⟨hlo, hhi⟩]
    · rw [State.linkTrained_both ht hb, if_neg (not_both hn), if_pos hh]
    · cases h0 : s.bothEnds d k 0 with
      | false => simp [State.linkTrained, ht, h0]
      | true =>
        obtain ⟨hn, hh⟩ := hb.resolve_left (by simp [h0])
        rw [State.linkTrained_both ht h0, if_neg (not_both hn), if_neg hh]
  · -- LANE_FAILURE
    intro s d k h hk
    rw [exec_laneFailure h hk]
    exact ⟨fun hu => by rw [if_pos hu], fun hu => by rw [if_neg hu]⟩
  · -- FLIT_ERROR
    intro s d k failed h hk run t u
    rw [exec_flitError h hk]
    refine ⟨fun ho => ?_, fun ho hr => ?_, fun ho hr => ?_⟩
    · rw [if_pos ho]
    · rw [if_neg (by simp [ho]), if_pos (show 8 ≤ s.retryRun d k failed from hr)]
      rfl
    · rw [if_neg (by simp [ho]), if_neg (show ¬8 ≤ s.retryRun d k failed from Nat.not_le.mpr hr)]
      rfl
  · -- a change of state that leaves every die its routes
    intro s d k new hd hk hne key v hr
    obtain ⟨hl, hheld⟩ := State.setLink_of_routes_left hne hr
    exact ⟨hl, fun x y hm ho hn hp => hheld _ (State.mem_reroutes hm ho hn hp)⟩

end Sys2Proof.Machine
end

section
/-! SUPPORT. Command rings and the host port's rings: what a change that is watched leaves, and what each command about a
ring runs. -/

namespace Sys2Proof.Machine

open Sys2Proof

/-! ### A change that is watched: it may send a message, and that leaves registers and rings (R380) -/

theorem State.watch_cases (s : State) (d src : Nat) (f : State → State) :
    s.watch d src f = f s ∨ s.watch d src f = (f s).sendMsix d src := by
  unfold State.watch
  dsimp only
  split
  · exact .inl rfl
  · split
    · exact .inr rfl
    · exact .inl rfl

theorem State.reg_watch (s : State) {d src e : Nat} {r : RegId} {ix : List Nat} (f : State → State)
    (h : e ≠ 0 ∨ regOff r ix ≠ regOff .dctlMsixPba [(d * 32 + src) / 32]) :
    (s.watch d src f).reg e r ix = (f s).reg e r ix := by
  rcases s.watch_cases d src f with hw | hw
  · rw [hw]
  · rw [hw, State.reg_sendMsix _ h]

theorem State.rings_sendMsix (s : State) (d src e : Nat) : ((s.sendMsix d src).die e).rings = (s.die e).rings := by
  unfold State.sendMsix
  dsimp only
  split
  · split
    · exact s.proj_modDie Die.rings _ _ _ rfl
    · exact State.proj_count Die.rings (fun _ _ => rfl) ..
  · rfl

theorem State.ring_watch (s : State) (d src e r : Nat) (f : State → State) :
    (s.watch d src f).ring e r = (f s).ring e r := by
  rcases s.watch_cases d src f with hw | hw
  · rw [hw]
  · rw [hw, State.ring, State.rings_sendMsix, State.ring]

/-! ### The registers of a command ring (R385, R388) -/

/-- The registers of a command ring that the part and the host move. -/
def ringPointers : List RegId := [.ringTail, .ringHead, .ringCTail, .ringCHead]

/-- CTL of a command ring lies apart from its pointers. -/
theorem ringCtl_apart : ∀ q ∈ ringPointers, ∀ r < 7, regOff .ringCtl [r] ≠ regOff q [r] := by decide

/-- The registers of a die's command ring lie apart from the pending bits of its interrupts. -/
theorem ringRegs_notPending {d r : Nat} (hd : d < 8) (hr : r < 7) {q : RegId} (hq : q ∈ RegId.ringCtl :: ringPointers) :
    d ≠ 0 ∨ regOff q [r] ≠ regOff .dctlMsixPba [(d * 32 + r) / 32] := by
  have apart : ∀ q ∈ RegId.ringCtl :: ringPointers, ∀ r < 7, regOff q [r] ≠ regOff .dctlMsixPba [0] := by decide
  have hi : (d * 32 + r) / 32 = d := by omega
  rw [hi]
  by_cases h0 : d = 0
  · subst h0
    exact .inr (apart q hq r hr)
  · exact .inl h0

/-- Registers that are set to 0 one after another are all 0. -/
theorem State.reg_foldl_zero {d : Nat} (hd : d < 8) (ix : List Nat) (q : RegId) (l : List RegId) (s : State)
    (h : s.reg d q ix = 0 ∨ q ∈ l) : (l.foldl (fun s x => s.setReg d x ix 0) s).reg d q ix = 0 := by
  induction l generalizing s with
  | nil => exact h.resolve_right (by simp)
  | cons x l ih =>
    refine ih _ ?_
    by_cases e : regOff q ix = regOff x ix
    · left
      simp only [State.reg, State.setReg, State.die_modDie _ _ hd, e, sgetD_sset_self]
    · rw [s.reg_setReg_ne 0 (.inr e)]
      exact h.imp_right fun hm => (List.mem_cons.mp hm).resolve_left fun hx => e (by rw [hx])

theorem State.reg_foldl_zero_ne (d : Nat) (ix : List Nat) (q : RegId) (l : List RegId) (s : State)
    (h : ∀ x ∈ l, regOff q ix ≠ regOff x ix) : (l.foldl (fun s x => s.setReg d x ix 0) s).reg d q ix = s.reg d q ix :=
  List.foldlRecOn (motive := fun t : State => t.reg d q ix = s.reg d q ix) l _ rfl fun t ht x hx =>
    (t.reg_setReg_ne 0 (.inr (h x hx))).trans ht

/-- A command ring starts: HALTED, its pointers and PHASE take their first values (R388). -/
def State.ringStart (s : State) (d r new : Nat) : State :=
  let t := ringPointers.foldl (fun s x => s.setReg d x [r] 0)
    ((s.setReg d .ringCtl [r] new).setReg d .ringCtl [r] (putBit new 12 false))
  t.setRing d r { t.ring d r with phase := true }

theorem State.reg_ringStart (s : State) {d r : Nat} (new : Nat) (hd : d < 8) (hr : r < 7) :
    (s.ringStart d r new).reg d .ringCtl [r] = putBit new 12 false ∧
      ∀ q ∈ ringPointers, (s.ringStart d r new).reg d q [r] = 0 := by
  have same : ∀ (t : State) (x : Ring) (q : RegId), (t.setRing d r x).reg d q [r] = t.reg d q [r] :=
    fun t x q => t.reg_modDie d d _ q [r] rfl
  refine ⟨?_, fun q hq => (same _ _ q).trans (State.reg_foldl_zero hd [r] q _ _ (.inr hq))⟩
  rw [State.ringStart, same, State.reg_foldl_zero_ne _ _ _ _ _ fun q hq => ringCtl_apart q hq r hr,
    State.reg_setReg _ _ _ _ hd]

theorem State.ring_setRing (s : State) {d : Nat} (r : Nat) (x : Ring) (hd : d < 8) : (s.setRing d r x).ring d r = x := by
  simp only [State.ring, State.setRing, State.die_modDie _ _ hd, sgetD_sset_self]

/-- A write of a command ring's CTL: the bits that it would store (R381). -/
def State.ringCtlNew (s : State) (d r v : Nat) : Nat :=
  putBits (v &&& (regRow .ringCtl).rw) 12 2 (bits (s.reg d .ringCtl [r]) 12 2)

theorem State.bit_ringCtlNew (s : State) (d r n : Nat) (b : Bool) : bit (s.ringCtlNew d r (putBit n 0 b)) 0 = b := by
  have hrw : bit (regRow .ringCtl).rw 0 = true := by decide
  rw [State.ringCtlNew, bit_putBits_below _ _ _ (by decide), bit_and, bit_putBit_self, hrw, Bool.and_true]

/-- A write of a command ring's CTL: a change of sizes of a ring in use is a violation, and so is a start with sizes that
are not allowed or, but for ring 5 of die 0, before the part runs (R381, R388). -/
theorem State.ringCtlWrite_eq (s : State) (d v : Nat) {r : Nat} (hr : r < 7) :
    s.ringCtlWrite d r v =
      let old := s.reg d .ringCtl [r]
      let new := s.ringCtlNew d r v
      if bits new 2 10 ≠ bits old 2 10 && (bit old 0 || !s.ringIdle d r) then s.violation d
      else if bit new 0 && !bit old 0 &&
        (!(sizeOk (bits new 2 5) && sizeOk (bits new 7 5)) || (!s.running && !(d = 0 && r = 5))) then s.violation d
      else s.watch d r fun s => if bit new 0 && !bit old 0 then s.ringStart d r new else s.setReg d .ringCtl [r] new := by
  have h7 : ¬7 ≤ r := Nat.not_le.mpr hr
  unfold State.ringCtlWrite
  rw [ringRegs, if_pos hr]
  simp only [hr, h7, if_true, decide_true, decide_false, Bool.true_and, Bool.false_or]
  rfl

/-- The sizes of a command ring that a CTL value names are allowed. -/
def ringSizesOk (v : Nat) : Prop := 4 ≤ bits v 2 5 ∧ bits v 2 5 ≤ 16 ∧ 4 ≤ bits v 7 5 ∧ bits v 7 5 ≤ 16

theorem ringSizesOk_iff (v : Nat) : ringSizesOk v ↔ (sizeOk (bits v 2 5) && sizeOk (bits v 7 5)) = true := by
  simp [ringSizesOk, sizeOk, and_assoc]

/-- A command ring that is disabled and idle starts when its sizes are allowed and the part runs; ring 5 of die 0 starts
before (R388). -/
theorem State.ringCtlWrite_enable {s : State} {d r : Nat} (n : Nat) (hr : r < 7)
    (hoff : bit (s.reg d .ringCtl [r]) 0 = false) (hidle : s.ringIdle d r = true) :
    let new := s.ringCtlNew d r (putBit n 0 true)
    (ringSizesOk new → s.running = true ∨ (d = 0 ∧ r = 5) →
      s.ringCtlWrite d r (putBit n 0 true) = s.watch d r fun s => s.ringStart d r new) ∧
    (¬ringSizesOk new ∨ (s.running = false ∧ ¬(d = 0 ∧ r = 5)) →
      s.ringCtlWrite d r (putBit n 0 true) = s.violation d) := by
  have hon := s.bit_ringCtlNew d r n true
  simp only [s.ringCtlWrite_eq d _ hr, ringSizesOk_iff, hoff, hidle, hon, Bool.not_true, Bool.or_false, Bool.and_false,
    Bool.false_eq_true, if_false, Bool.not_false, Bool.and_true, Bool.true_and, if_true]
  constructor
  · intro hsz hrun
    rw [if_neg (by simpa [hsz] using fun h => hrun.resolve_left (by simp [h]))]
  · intro hbad
    rw [if_pos (by simpa [← Bool.not_eq_true, imp_iff_not_or] using hbad)]

theorem State.phase_ringStart (s : State) {d : Nat} (r new : Nat) (hd : d < 8) :
    ((s.ringStart d r new).ring d r).phase = true := by
  rw [State.ringStart, State.ring_setRing _ _ _ hd]

/-- A command ring that has started is enabled and clean (R388). -/
theorem State.ringStarted (s : State) {d r : Nat} (new : Nat) (hd : d < 8) (hr : r < 7) :
    let u := s.watch d r fun s => s.ringStart d r new
    u.reg d .ringCtl [r] = putBit new 12 false ∧ u.reg d .ringTail [r] = 0 ∧ u.reg d .ringHead [r] = 0 ∧
      u.reg d .ringCTail [r] = 0 ∧ u.reg d .ringCHead [r] = 0 ∧ (u.ring d r).phase = true := by
  obtain ⟨hctl, hptr⟩ := s.reg_ringStart new hd hr
  have kept := fun q hq => s.reg_watch (fun s => s.ringStart d r new) (ringRegs_notPending (q := q) hd hr hq)
  have clean := fun q hq => (kept q (List.mem_cons_of_mem _ hq)).trans (hptr q hq)
  refine ⟨(kept _ List.mem_cons_self).trans hctl, clean .ringTail ?_, clean .ringHead ?_, clean .ringCTail ?_,
    clean .ringCHead ?_, ?_⟩
  · simp [ringPointers]
  · simp [ringPointers]
  · simp [ringPointers]
  · simp [ringPointers]
  · rw [s.ring_watch]
    exact s.phase_ringStart r new hd

/-- A command ring that is enabled keeps its sizes when it is disabled (R388). -/
theorem State.ringCtlWrite_disable {s : State} {d r : Nat} (n : Nat) (hr : r < 7)
    (hon : bit (s.reg d .ringCtl [r]) 0 = true) :
    let new := s.ringCtlNew d r (putBit n 0 false)
    (bits new 2 10 = bits (s.reg d .ringCtl [r]) 2 10 →
      s.ringCtlWrite d r (putBit n 0 false) = s.watch d r fun s => s.setReg d .ringCtl [r] new) ∧
    (bits new 2 10 ≠ bits (s.reg d .ringCtl [r]) 2 10 → s.ringCtlWrite d r (putBit n 0 false) = s.violation d) := by
  have hoff := s.bit_ringCtlNew d r n false
  constructor
  · intro hsz
    simp [s.ringCtlWrite_eq d _ hr, hon, hoff, hsz]
  · intro hsz
    simp [s.ringCtlWrite_eq d _ hr, hon, hsz]

/-! ### Fetching (R385) -/

/-- The fetch of a command ring waits for nothing: the ring has descriptors and room for completions, has not fetched in this
fabric cycle, and the part runs, or it is ring 5 of die 0. -/
def State.ringFed (s : State) (d r : Nat) : Prop :=
  s.ringReady d r = true ∧ (s.ring d r).fetchAt ≠ some s.now ∧ 8 ≤ s.ringFree d r ∧
    (s.running = true ∨ (d = 0 ∧ r = 5)) ∧ s.hostSleeps = false

/-- A descriptor is fetched: HEAD moves on, and the command is the last of its ring. -/
def State.fetched (s : State) (d r : Nat) (c : RCmd) : State :=
  { (s.headNext d r).setRing d r { s.ring d r with
      cmds := (s.ring d r).cmds ++ [{ c with order := s.stamps }], fetchAt := some s.now } with
    stamps := s.stamps + 1 }

theorem State.fetchDesc_unfed {s : State} {d r : Nat} (c : RCmd) (h : ¬s.ringFed d r) : s.fetchDesc d r c = s := by
  refine if_pos ?_
  by_contra hn
  refine h ?_
  simpa [State.ringFed, and_assoc, ← Bool.not_eq_true, ← or_iff_not_imp_left] using hn

theorem State.headNext_eq (s : State) (d r : Nat) :
    ∃ (x : RegId) (ix : List Nat) (v : Nat), s.headNext d r = s.setReg d x ix v := ⟨_, _, _, rfl⟩

theorem State.ring_headNext (s : State) (d r e q : Nat) : (s.headNext d r).ring e q = s.ring e q := by
  obtain ⟨x, ix, v, h⟩ := s.headNext_eq d r
  rw [h, State.ring, State.ring, State.setReg, s.proj_modDie Die.rings d e _ rfl]

theorem State.fetchDesc_fed {s : State} {d r : Nat} (c : RCmd) (h : s.ringFed d r) :
    s.fetchDesc d r c =
      if s.hostLive false = false then s.ringHalt d r
      else if ((s.fetched d r c).ring d r).cmds.length ≠ 1 then s.fetched d r c
      else if r = 0 then (s.fetched d r c).tblSkip d 1
      else (s.fetched d r c).skipBad d r 1 := by
  obtain ⟨hready, hat, hfree, hrun, hawake⟩ := h
  unfold State.fetchDesc
  rw [if_neg (by simpa [hready, hat, hawake, hfree, ← Bool.not_eq_true, ← or_iff_not_imp_left] using hrun)]
  dsimp only
  rw [s.ring_headNext]
  cases s.hostLive false with
  | false => rfl
  | true => rfl

theorem State.skipBad_known {s : State} {d r : Nat} {c : RCmd} {cs : List RCmd} (n : Nat) (hc : (s.ring d r).cmds = c :: cs)
    (hk : ringKnows r c.op = true) : s.skipBad d r n = s := by
  cases n with
  | zero => rfl
  | succ n => simp [State.skipBad, hc, hk]

theorem State.tblSkip_known {s : State} {d : Nat} {c : RCmd} (n : Nat) (hc : s.ringCmd d 0 = some c)
    (hk : ringKnows 0 c.op = true) : s.tblSkip d n = s := by
  cases n with
  | zero => rfl
  | succ n => simp [State.tblSkip, hc, hk]

/-- Nothing follows the fetch of a command that waits behind another or that the ring's engine knows. -/
theorem State.fetchDesc_known {s : State} {d r : Nat} {c : RCmd} (hd : d < 8) (h : s.ringFed d r)
    (hl : s.hostLive false = true) (hk : (s.ring d r).cmds ≠ [] ∨ ringKnows r c.op = true) :
    s.fetchDesc d r c = s.fetched d r c := by
  have hcmds : ((s.fetched d r c).ring d r).cmds = (s.ring d r).cmds ++ [{ c with order := s.stamps }] :=
    congrArg Ring.cmds (State.ring_setRing _ r _ hd)
  rw [State.fetchDesc_fed c h, if_neg (by simp [hl]), hcmds]
  cases hq : (s.ring d r).cmds with
  | cons x xs => simp
  | nil =>
    have hop : ringKnows r c.op = true := hk.resolve_left (fun hn => hn hq)
    rw [hq, List.nil_append] at hcmds
    rw [if_neg (by simp)]
    split
    · rename_i h0
      subst h0
      exact State.tblSkip_known 1 (congrArg List.head? hcmds) hop
    · exact State.skipBad_known 1 hcmds hop

/-! ### The commands about a command ring -/

theorem ringHere_of_lt {d r : Nat} (hr : r < 7) (h5 : r = 5 → d = 0) : ringHere d r = true := by
  have : r < 72 := by omega
  simpa [ringHere, this, imp_iff_not_or] using h5

theorem State.ringCtlOf_cmd (s : State) (d : Nat) {r : Nat} (hr : r < 7) : s.ringCtlOf d r = s.reg d .ringCtl [r] := by
  rw [State.ringCtlOf, ringRegs, if_pos hr]

section
variable {s : State} {d r : Nat}

theorem exec_ringEnable (h : s.hostReaches d) (hr : r < 7) (h5 : r = 5 → d = 0) (v : Dword) :
    exec (.ringEnable d r v) s = .next (s.keep ((s.ringCtlWrite d r (putBit v.toNat 0 true)).settle d)) :=
  onHostS_reached h (ringHere_of_lt hr h5) fun s => s.ringCtlWrite d r (putBit v.toNat 0 true)

theorem exec_ringDisable (h : s.hostReaches d) (hr : r < 7) (h5 : r = 5 → d = 0) (v : Dword) :
    exec (.ringDisable d r v) s = .next (s.keep ((s.ringCtlWrite d r (putBit v.toNat 0 false)).settle d)) :=
  onHostS_reached h (ringHere_of_lt hr h5) fun s => s.ringCtlWrite d r (putBit v.toNat 0 false)

theorem exec_dTailWrite (h : s.hostReaches d) (hr : r < 7) (h5 : r = 5 → d = 0) (v : Dword) :
    exec (.dTailWrite d r v) s = .next (s.keep ((s.setReg d .ringTail [r] (v.toNat % 65536)).settle d)) :=
  onHostS_reached h (Bool.and_eq_true_iff.mpr ⟨ringHere_of_lt hr h5, decide_eq_true hr⟩)
    fun s => s.setReg d .ringTail [r] (v.toNat % 65536)

theorem exec_cHeadWrite (h : s.hostReaches d) (hr : r < 7) (h5 : r = 5 → d = 0) (v : Dword) :
    exec (.cHeadWrite d r v) s = .next (s.keep ((s.cHeadWrite d r v.toNat).settle d)) :=
  onHostS_reached h (Bool.and_eq_true_iff.mpr ⟨ringHere_of_lt hr h5, decide_eq_true hr⟩) fun s => s.cHeadWrite d r v.toNat

theorem exec_ringHalt (h : s.live d) (hr : r < 7) (h5 : r = 5 → d = 0) :
    exec (.ringHalt d r) s =
      .next (s.keep (State.settle (if bit (s.reg d .ringCtl [r]) 0 then s.ringHalt d r else s) d)) := by
  refine (onPort_live (p := 0) h (ringHere_of_lt hr h5) _).trans ?_
  rw [s.ringCtlOf_cmd d hr, State.anyHalt, if_pos hr]

theorem exec_descriptorFetch (h : s.live d) (hr : r < 7) (h5 : r = 5 → d = 0) (d0 d1 d2 d3 : BitVec 64)
    (arg : List (BitVec 64)) : exec (.descriptorFetch d r d0 d1 d2 d3 arg) s = .next (s.keep ((s.fetchDesc d r
      { d0 := d0.toNat, d1 := d1.toNat, d2 := d2.toNat, d3 := d3.toNat, arg := arg.map (·.toNat) }).settle d)) :=
  onPort_live (p := 0) h (Bool.and_eq_true_iff.mpr ⟨ringHere_of_lt hr h5, decide_eq_true hr⟩) fun s => s.fetchDesc d r
    { d0 := d0.toNat, d1 := d1.toNat, d2 := d2.toNat, d3 := d3.toNat, arg := arg.map (·.toNat) }

end

/-! ### The transmit ring (R391) -/

theorem exec_htxFetch {s : State} {d : Nat} (h : s.live d) (e1 e3 : BitVec 64) (bytes : List Byte) :
    exec (.htxFetch d e1 e3 bytes) s = .next (s.keep ((s.htxFetch d e1.toNat e3.toNat bytes).settle d)) :=
  onDieS_live h fun s => s.htxFetch d e1.toNat e3.toNat bytes

/-- The transmit ring has an entry that the part can take: port 24 is open and the hopper is not blocked (R61, R391). -/
def State.htxReady (s : State) (d : Nat) : Prop :=
  s.ringReady d 7 = true ∧ (s.die d).hop.closed.contains 24 = false ∧ s.blocked d = false ∧ s.hostSleeps = false

theorem State.htxFetch_unready {s : State} {d : Nat} (e1 e3 : Nat) (bytes : List Byte) (h : ¬s.htxReady d) :
    s.htxFetch d e1 e3 bytes = s := by
  refine if_pos ?_
  by_contra hn
  refine h ?_
  simpa [State.htxReady, and_assoc] using hn

theorem State.htxFetch_ready {s : State} {d : Nat} (e1 e3 : Nat) (bytes : List Byte) (h : s.htxReady d) :
    s.htxFetch d e1 e3 bytes =
      let n := bits e1 0 14
      let k := ceilDiv n 128
      if s.hostLive (bit (s.reg d .htxCtl []) 14) = false then (s.setFld d .htxCtl [] 12 1 1).event d .dctl 1
      else if bits e1 14 50 ≠ 0 ∨ e3 ≠ 0 then s.htxDone d cMALFORMED 0
      else if n = 0 ∨ 16000 < n then s.htxDone d cRANGE 0
      else if (s.die d).hop.occ 24 + k ≤ s.fld d .hopPortQuota [24] 0 19 ∧ k ≤ (s.die d).hop.free then
        s.htxFrame d ((bytes ++ List.replicate n 0).take n)
      else s := by
  obtain ⟨hready, hopen, hfree, hawake⟩ := h
  unfold State.htxFetch
  dsimp only
  rw [if_neg (by simp only [hready, hopen, hfree, hawake]; decide)]
  simp [State.anyHalt, State.ringCtlOf, ringRegs]

theorem State.out_htxDone (s : State) (d code ticket : Nat) :
    s.out ++ [.hostWrite d (s.entryAddr d 7 + 16) (natLE 8 (code + ticket * 256 + 2 ^ 63))] <+:
      (s.htxDone d code ticket).out := by
  rw [← State.emit_out, State.htxDone]
  generalize s.emit _ = t
  obtain ⟨x, ix, v, h⟩ := t.headNext_eq d 7
  refine ((State.keepsTraffic.refl t).watch d 7 ?_).out
  rw [h]
  exact ((State.keepsTraffic.refl t).setReg ..).modDie d _ rfl

theorem exec_htxHeadAck {s : State} {d : Nat} (h : s.hostReaches d) (v : Dword) :
    exec (.htxHeadAck d v) s = .next (s.keep (s.htxAckWrite d v.toNat)) :=
  onHost_reached h rfl fun s => s.htxAckWrite d v.toNat

/-! ### Receive rings (R392) -/

theorem exec_hrxTailWrite {s : State} {d h : Nat} (hs : s.hostReaches d) (hh : h < 64) (v : Dword) :
    exec (.hrxTailWrite d h v) s = .next (s.keep ((s.setReg d .hrxTail [h] (v.toNat % 65536)).settle d)) :=
  onHostS_reached hs (decide_eq_true hh) fun s => s.setReg d .hrxTail [h] (v.toNat % 65536)

theorem exec_hostRxDeliver {s : State} {d h : Nat} (hs : s.live d) (hh : h < 64) (e0 e1 : BitVec 64) :
    exec (.hostRxDeliver d h e0 e1) s = .next (s.keep ((s.hostDeliver d h e0.toNat (bits e1.toNat 0 15)).settle d)) :=
  onPort_live (p := 0) hs (decide_eq_true hh) fun s => s.hostDeliver d h e0.toNat (bits e1.toNat 0 15)

theorem ringRegs_hrx (h : Nat) : ringRegs (8 + h) = ([h], .hrxCtl, .hrxTail, .hrxHead, .hrxCTail, .hrxHeadAck) := by
  rw [ringRegs, if_neg (by omega), if_neg (by omega), Nat.add_sub_cancel_left]

theorem State.hostDeliver_waits {s : State} {d h : Nat} (buf n : Nat) (hw : s.hostNext d ≠ some h ∨ s.hostSleeps = true) :
    s.hostDeliver d h buf n = s :=
  if_pos (by simpa using hw)

theorem State.hostDeliver_next {s : State} {d h : Nat} (buf n : Nat) (hn : s.hostNext d = some h)
    (hs : s.hostSleeps = false) :
    s.hostDeliver d h buf n =
      if s.hostLive (bit (s.reg d .hrxCtl [h]) 14) = false then (s.setFld d .hrxCtl [h] 12 1 1).event d .dctl 2
      else match (s.queue d (384 + h)).head with
        | none => s
        | some e => match s.pkt d e.a.pid with
          | none => s.takeHead d (384 + h)
          | some k =>
            if n < e.a.enq.len then
              ((((s.takeHead d (384 + h)).dropLength d e.a.port (384 + h)).count d ctrDCTL 5).dropRef d e.a.pid).tagLost e.a
                rLENGTH
            else s.hostWriteFrame d h buf e k := by
  have h7 : ¬8 + h < 7 ∧ ¬8 + h = 7 := by omega
  unfold State.hostDeliver
  rw [if_neg (by simp [hn, hs]), State.anyHalt, if_neg h7.1, if_neg h7.2, State.ringCtlOf, ringRegs_hrx]
  cases s.hostLive (bit (s.reg d .hrxCtl [h]) 14) with
  | false => rfl
  | true => rfl

/-- A frame for a posted buffer is delivered, or discarded when the buffer is too short (R392). -/
theorem State.hostDeliver_frame {s : State} {d h buf n : Nat} {e : QEntry} {k : Packet} (hn : s.hostNext d = some h)
    (hs : s.hostSleeps = false) (hl : s.hostLive (bit (s.reg d .hrxCtl [h]) 14) = true)
    (hq : (s.queue d (384 + h)).head = some e) (hk : s.pkt d e.a.pid = some k) :
    s.hostDeliver d h buf n =
      if n < e.a.enq.len then
        ((((s.takeHead d (384 + h)).dropLength d e.a.port (384 + h)).count d ctrDCTL 5).dropRef d e.a.pid).tagLost e.a rLENGTH
      else s.hostWriteFrame d h buf e k := by
  simp [State.hostDeliver_next buf n hn hs, hl, hq, hk]

/-! ### A delivered frame (R392) -/

theorem State.keepsTraffic.handed {s t : State} (h : s.keepsTraffic t) (d p : Nat) (e : QEntry) :
    s.keepsTraffic (t.handed d p e) := by
  unfold State.handed
  dsimp only
  split
  · exact (h.count ..).count ..
  · exact ((h.count ..).count ..).tagPush ..

/-- A count of poisoned cells that are read changes a die's counters and nothing else. -/
theorem State.countCells_spec (s : State) (d : Nat) (cells : List Nat) :
    ∃ cs, s.countCells d cells = s.modDie d fun x => { x with ctrs := cs } := by
  unfold State.countCells
  dsimp only
  split
  · exact ⟨(s.die d).ctrs, (s.modDie_id d _ rfl).symm⟩
  · exact s.count_spec ..

theorem State.out_shapeTake (s : State) (d q n : Nat) : (s.shapeTake d q n).out = s.out := by
  unfold State.shapeTake
  dsimp only
  split <;> rfl

/-- What follows the two writes of a delivered frame: its counts and record, the buffer's cells, the shaper, HEAD, and the
interrupt of its queue. -/
def State.hostSent (s : State) (d h n : Nat) (e : QEntry) : State :=
  let s := ((s.handed d 30 e).modEgr d fun x => { x with lastHost := h }).dropRef d e.a.pid
  let s := ((s.shapeTake d (384 + h) n).countPort d 24 5).countPort d 24 6 n
  let s := (s.headNext d (8 + h)).count d ctrDCTL 4
  if bit (s.ringCtlOf d (8 + h)) 1 then
    s.watch d 8 fun s => s.setReg d .dctlHqEvent [h / 32] (putBit (s.reg d .dctlHqEvent [h / 32]) (h % 32) true)
  else s

theorem State.out_hostSent (s : State) (d h n : Nat) (e : QEntry) : s.out <+: (s.hostSent d h n e).out := by
  have sent : s.out <+: (s.handed d 30 e).out := ((State.keepsTraffic.refl s).handed ..).out
  unfold State.hostSent
  dsimp only
  generalize s.handed d 30 e = t at sent ⊢
  have freed : s.out <+: ((t.modEgr d fun x => { x with lastHost := h }).dropRef d e.a.pid).out :=
    sent.trans ((State.keepsTraffic.refl (t.modEgr d fun x => { x with lastHost := h })).dropRef ..).out
  generalize (t.modEgr d fun x => { x with lastHost := h }).dropRef d e.a.pid = u at freed ⊢
  rw [← u.out_shapeTake d (384 + h) n] at freed
  generalize u.shapeTake d (384 + h) n = v at freed ⊢
  obtain ⟨x, ix, w, hw⟩ := ((v.countPort d 24 5).countPort d 24 6 n).headNext_eq d (8 + h)
  rw [hw]
  have counted := ((((State.keepsTraffic.refl v).count d ctrPORT (8 * 24 + 5) 1).count d ctrPORT (8 * 24 + 6) n).setReg d x ix
    w).count d ctrDCTL 4 1
  split
  · refine freed.trans (counted.watch d 8 ?_).out
    exact (State.keepsTraffic.refl _).setReg ..
  · exact freed.trans counted.out

theorem State.hostWriteFrame_eq (s : State) (d h buf : Nat) (e : QEntry) (k : Packet) :
    s.hostWriteFrame d h buf e k =
      let t := (s.readCells d (e.a.enq.copied k.cells)).countCells d (e.a.enq.copied k.cells)
      let r := (t.die d).hop.cleanBytes e.a.enq k
      State.hostSent (((t.takeHead d (384 + h)).emit (.hostWrite d buf r.1)).emit (.hostWrite d (t.entryAddr d (8 + h) + 16)
        (natLE 8 (e.a.enq.len + (if r.2 then 2 ^ 14 else 0) + e.a.port * 2 ^ 16 + e.a.ticket % 2 ^ 24 * 2 ^ 32 + 2 ^ 63) ++
          natLE 8 (e.a.ts % 2 ^ 64)))) d h r.1.length e := rfl

theorem State.entryAddr_count (s : State) (d r : Nat) (cs : Store Ctr) :
    (s.modDie d fun x => { x with ctrs := cs }).entryAddr d r = s.entryAddr d r := by
  have same : ∀ (q : RegId) (ix : List Nat), (s.modDie d fun x => { x with ctrs := cs }).reg d q ix = s.reg d q ix :=
    fun q ix => s.reg_modDie d d _ q ix rfl
  unfold State.entryAddr
  simp only [same]

/-- A frame's bytes go to its buffer, then its completion to the ring's entry (R392). -/
theorem State.out_hostWriteFrame {s : State} {d h buf : Nat} {e : QEntry} {k : Packet}
    (hclean : s.readCells d (e.a.enq.copied k.cells) = s) :
    let r := (s.die d).hop.cleanBytes e.a.enq k
    s.out ++ [.hostWrite d buf r.1, .hostWrite d (s.entryAddr d (8 + h) + 16)
      (natLE 8 (e.a.enq.len + (if r.2 then 2 ^ 14 else 0) + e.a.port * 2 ^ 16 + e.a.ticket % 2 ^ 24 * 2 ^ 32 + 2 ^ 63) ++
        natLE 8 (e.a.ts % 2 ^ 64))] <+: (s.hostWriteFrame d h buf e k).out := by
  obtain ⟨cs, hc⟩ := s.countCells_spec d (e.a.enq.copied k.cells)
  rw [s.hostWriteFrame_eq, hclean, hc]
  dsimp only
  rw [s.entryAddr_count, s.proj_modDie Die.hop d d (fun x => { x with ctrs := cs }) rfl]
  refine (List.IsPrefix.trans ⟨[], ?_⟩ (State.out_hostSent ..))
  simp [State.takeHead, State.setQueue, State.modEgr]

end Sys2Proof.Machine
end

section
/-! PROOFS. The host's rings. -/

namespace Sys2Proof.Machine

open Sys2Proof

/-- Settles O55: a write of a command ring's CTL starts or stops it or is a violation, a fetch and a delivery are taken branch
by branch, and what comes after a write to host memory takes no output back. -/
theorem hostRingsCarryCommandsAndFrames : Obligations.HostRingsCarryCommandsAndFrames := by
  refine ⟨?_, ?_, ?_, ?_, ?_, ?_, ?_, ?_, ?_, ?_, ?_⟩
  · -- RING_ENABLE
    intro s d r v h hr h5 hoff
    have hd : d < 8 := State.reach_lt h.2
    have hctl := fun hidle => State.ringCtlWrite_enable (d := d) v.toNat hr hoff hidle
    refine ⟨fun hidle hl hrun => ⟨_, (exec_ringEnable h hr h5 v).trans (next_settle_congr d ((hctl hidle).1 hl hrun)), ?_⟩,
      fun hidle hbad => (exec_ringEnable h hr h5 v).trans (next_settle_congr d ((hctl hidle).2 hbad))⟩
    exact s.ringStarted _ hd hr
  · -- RING_DISABLE
    intro s d r v h hr h5 hon
    have hctl := State.ringCtlWrite_disable (d := d) v.toNat hr hon
    exact ⟨fun hsz => (exec_ringDisable h hr h5 v).trans (next_settle_congr d (hctl.1 hsz)),
      fun hsz => (exec_ringDisable h hr h5 v).trans (next_settle_congr d (hctl.2 hsz))⟩
  · -- D_TAIL_WRITE and C_HEAD_WRITE
    intro s d r v h hr h5
    exact ⟨exec_dTailWrite h hr h5 v, exec_cHeadWrite h hr h5 v⟩
  · -- RING_HALT
    intro s d r h hr h5
    exact ⟨fun hon => (exec_ringHalt h hr h5).trans (next_settle_congr d (if_pos hon)),
      fun hoff => (exec_ringHalt h hr h5).trans (next_settle_congr d (if_neg (by simp [hoff])))⟩
  · -- DESCRIPTOR_FETCH
    intro s d r d0 d1 d2 d3 arg h hr h5
    have hfetch := exec_descriptorFetch h hr h5 d0 d1 d2 d3 arg
    exact ⟨fun hn => hfetch.trans (next_settle_congr d (State.fetchDesc_unfed _ hn)),
      fun hf hl => hfetch.trans (next_settle_congr d ((State.fetchDesc_fed _ hf).trans (if_pos hl))),
      fun hf hl hk => hfetch.trans (next_settle_congr d (State.fetchDesc_known (State.has_lt h.1) hf hl hk))⟩
  · -- HTX_FETCH
    intro s d e1 e3 bytes h
    dsimp only
    refine ⟨fun hn => (exec_htxFetch h e1 e3 bytes).trans (next_settle_congr d (State.htxFetch_unready _ _ _ hn)),
      fun hr hl => ?_, fun hr hl hb => ?_, fun hr hl h1 h3 => ⟨fun hn => ?_, fun h0 hn hb hocc hfree => ?_⟩⟩ <;>
      rw [exec_htxFetch h, State.htxFetch_ready _ _ _ hr]
    · rw [if_pos hl]
    · have reserved : bits e1.toNat 14 50 ≠ 0 ∨ e3.toNat ≠ 0 := hb.imp_right fun h3 h0 => h3 (BitVec.eq_of_toNat_eq h0)
      rw [if_neg (by simp [hl]), if_pos reserved]
    · rw [if_neg (by simp [hl]), if_neg (by simp [h1, h3]), if_pos hn]
    · rw [if_neg (by simp [hl]), if_neg (by simp [h1, h3]), if_neg (by omega), if_pos ⟨hocc, hfree⟩, ← hb, List.take_left]
  · -- the completion of a transmit entry
    intro s d code ticket
    obtain ⟨l, hl⟩ := s.out_htxDone d code ticket
    exact ⟨l, hl.symm⟩
  · exact fun s d v h => exec_htxHeadAck h v
  · exact fun s d h v hs hh => exec_hrxTailWrite hs hh v
  · -- HOST_RX_DELIVER
    intro s d h e0 e1 hs hh
    have hdel := exec_hostRxDeliver hs hh e0 e1
    refine ⟨fun hw => hdel.trans (next_settle_congr d (State.hostDeliver_waits _ _ hw)),
      fun hn ha hl => hdel.trans (next_settle_congr d ((State.hostDeliver_next _ _ hn ha).trans (if_pos hl))),
      fun e k hn ha hl hq hk => ?_⟩
    rw [hdel, State.hostDeliver_frame hn ha hl hq hk]
    exact ⟨fun hs => by rw [if_pos hs], fun hf => by rw [if_neg (Nat.not_lt.mpr hf)]⟩
  · -- the writes of a delivered frame
    intro s d h buf e k hclean
    obtain ⟨l, hl⟩ := State.out_hostWriteFrame (d := d) (h := h) (buf := buf) hclean
    exact ⟨l, hl.symm⟩

end Sys2Proof.Machine
end

section
/-! SUPPORT. The tailrace: messages between dies that arrive, the enqueues of a ticket that leave it, copies, and what the
admission of an enqueue and the configuration of a descriptor come to. -/

namespace Sys2Proof.Machine

open Sys2Proof

/-! ### Messages between dies (R26 to R29) -/

/-- A message that goes is taken from the flight and acted on. -/
theorem State.recvMsg_goes {α : Type} {s : State} {sel : Flight → Option (Nat × Nat × Nat × α)} (f : State → α → State)
    {src dst cls id : Nat} {m : Flight} {x : α} (h : s.messageGoes src dst cls id m)
    (hsel : sel m = some (src, dst, cls, x)) : s.recvMsg sel f = f (s.messageTaken id) x := by
  obtain ⟨⟨fs, hfl⟩, hheld, hreach, hgate⟩ := h
  have ht : s.takeMsg sel s.fab.flight [] = (s, some (id, x)) := by
    rw [hfl]
    simp [State.takeMsg, hsel, hheld, hreach, hgate]
  rw [State.recvMsg, ht]
  rfl

theorem exec_resolutionRecord {s : State} {d a id : Nat} {r : Resolution} (h : s.live d)
    (hm : s.messageGoes a d 1 id (.resolution a d r)) :
    exec (.resolutionRecord d) s = .next (s.keep (((s.messageTaken id).settleTicket r).settle d)) :=
  (onDieS_live h _).trans (next_settle_congr d (State.recvMsg_goes _ hm (if_pos rfl)))

theorem exec_releaseGrant {s : State} {d a id : Nat} {r : Arrival} (h : s.live d)
    (hm : s.messageGoes a d 1 id (.grant a d r)) :
    exec (.releaseGrant d) s = .next (s.keep (((s.messageTaken id).place d r).settle d)) :=
  (onDieS_live h _).trans (next_settle_congr d (State.recvMsg_goes _ hm (if_pos rfl)))

theorem exec_creditReturn {s : State} {d a id p : Nat} (h : s.live d) (hm : s.messageGoes a d 1 id (.credit a d p)) :
    exec (.creditReturn d) s = .next (s.keep (((s.messageTaken id).creditIn d p a).settle d)) := by
  change execCreditReturn d s = _
  rw [execCreditReturn, onDieS_live h, State.recvMsg_goes (x := (a, p)) _ hm (by simp)]

theorem exec_remoteEnqueueArrive {s : State} {d a id : Nat} {r : Arrival} (h : s.live d)
    (hm : s.messageGoes a d 0 id (.enqueue a d r)) :
    exec (.remoteEnqueueArrive d) s = .next (s.keep (((s.messageTaken id).arrive d r).settle d)) :=
  (onDieS_live h _).trans (next_settle_congr d (State.recvMsg_goes _ hm (if_pos rfl)))

/-! ### An enqueue reaches its queue's die (R27, R305) -/

theorem State.modDie_congr (s : State) (d : Nat) {f g : Die → Die} (h : f (s.die d) = g (s.die d)) :
    s.modDie d f = s.modDie d g := by
  rw [State.modDie, State.modDie, h]

/-- An enqueue whose sequence was not skipped waits for its turn, and nothing else of the die changes but its counts and the
announcement of the sequence. -/
theorem State.arrive_due {s : State} {d : Nat} {a : Arrival} (hd : d < 8)
    (h : (s.die d).egr.skipped.contains (seqKey a) = false) :
    ∃ cs, s.arrive d a = s.modDie d fun x => { x with ctrs := cs, egr := { x.egr with
      announced := unmark x.egr.announced (seqKey a), arrived := x.egr.arrived ++ [{ a with heldAt := s.now }] } } := by
  unfold State.arrive
  dsimp only
  rw [if_neg (by simpa [State.modEgr, hd] using h)]
  simp only [State.modEgr, State.modDie_modDie]
  split
  · obtain ⟨cs, hc⟩ := State.count_spec (s.modDie d fun x => { x with egr := { x.egr with
      announced := unmark x.egr.announced (seqKey a)
      arrived := x.egr.arrived ++ [{ a with heldAt := s.now }] } }) d ctrEGR 10 1
    exact ⟨cs, hc.trans (State.modDie_modDie ..)⟩
  · exact ⟨(s.die d).ctrs, s.modDie_congr d rfl⟩

/-- An enqueue whose sequence was skipped is discarded: it leaves the arrivals and the expected sequences. -/
theorem State.arrive_skipped {s : State} {d : Nat} {a : Arrival} (hd : d < 8)
    (h : (s.die d).egr.skipped.contains (seqKey a) = true) :
    State.keepsTraffic (s.modEgr d fun x => { x with
      announced := unmark x.announced (seqKey a), skipped := unmark x.skipped (seqKey a) }) (s.arrive d a) := by
  have hu : (((s.modEgr d fun x => { x with announced := unmark x.announced (seqKey a) }).modEgr d fun x => { x with
      skipped := unmark x.skipped (seqKey a) })) = s.modEgr d fun x => { x with
      announced := unmark x.announced (seqKey a), skipped := unmark x.skipped (seqKey a) } := State.modDie_modDie ..
  unfold State.arrive
  dsimp only
  rw [if_pos (by simpa [State.modEgr, hd] using h), hu]
  split
  · exact State.keepsTraffic.refl _
  · exact (((State.keepsTraffic.refl _).lastDrop ..).dropRef ..).tagLost ..

/-- An enqueue that reaches its queue's die is the last of the arrivals there, unless its sequence was skipped. -/
theorem State.arrive_spec (s : State) {d : Nat} (a : Arrival) (hd : d < 8) :
    ((s.arrive d a).die d).egr.arrived = (s.die d).egr.arrived ++
        (if (s.die d).egr.skipped.contains (seqKey a) = true then [] else [{ a with heldAt := s.now }]) ∧
      ((s.arrive d a).die d).egr.expect = (s.die d).egr.expect ∧ (s.arrive d a).fab = s.fab := by
  cases h : (s.die d).egr.skipped.contains (seqKey a) with
  | false =>
    obtain ⟨cs, hcs⟩ := State.arrive_due hd h
    rw [hcs]
    simp [hd]
  | true =>
    have hk := State.arrive_skipped hd h
    rw [hk.egr d, hk.fab]
    simp [State.modEgr, hd]

/-- An enqueue whose queue lies on another die waits for its copy when it passes the checks of R303. -/
theorem State.place_copy {s : State} {d : Nat} {a : Arrival} {k : Packet} (he : a.enq.die ≠ d) (hk : s.pkt d a.pid = some k)
    (hb : s.enqBad a.enq k.cells.length = false) :
    s.place d a = s.modEgr d fun x => { x with toCopy := x.toCopy ++ [a] } := by
  simp [State.place, he, hk, hb]

/-- An enqueue that fails the checks of R303 is discarded, and its sequence goes on without it. -/
theorem State.place_void {s : State} {d : Nat} {a : Arrival} {k : Packet} (he : a.enq.die ≠ d) (hk : s.pkt d a.pid = some k)
    (hb : s.enqBad a.enq k.cells.length = true) :
    ∃ t : State, s.keepsTraffic t ∧ s.place d a = t.send (.enqueue d a.enq.die { a with void := true, tag := [] }) := by
  refine ⟨_, (((State.keepsTraffic.refl s).dropLength d a.port a.enq.queue).dropRef d a.pid).tagLost a rLENGTH, ?_⟩
  simp [State.place, he, hk, hb]

theorem State.place_here {s : State} {d : Nat} {a : Arrival} (he : a.enq.die = d) : s.place d a = s.arrive d a := if_pos he

/-! ### The head of a scoreboard (R20, R21, R28) -/

theorem State.board_setBoard (s : State) {d : Nat} (p : Nat) (b : List Ticket) (hd : d < 8) :
    (s.setBoard d p b).board d p = b := by
  simp [State.board, State.setBoard, State.modHop, hd]

theorem exec_ticketRelease {s : State} {d p : Nat} (h : s.live d) (hp : p < 32) :
    exec (.ticketRelease d p) s = .next (s.keep ((s.ticketRelease d p).settle d)) :=
  onPort_live (p := p) h (decide_eq_true hp) fun s => s.ticketRelease d p

/-- A release takes the next sequence of its pair, and one more is outstanding. -/
def State.stamped (s : State) (d key : Nat) : State :=
  s.modEgr d fun x => { x with
    nextSeq := sset x.nextSeq key ((sgetD (s.die d).egr.nextSeq key 0 + 1) % 65536)
    outst := sset x.outst key (sgetD x.outst key 0 + 1) }

/-- The enqueue of a ticket as it leaves the scoreboard. -/
def State.released (s : State) (d p : Nat) (t : Ticket) (e : Enq) : Arrival :=
  { port := d * 32 + p, ticket := t.number, seq := sgetD (s.die d).egr.nextSeq (p * 8 + e.die) 0, pid := t.pid, enq := e
    ts := t.ts, tag := if t.tagged && !t.begun then [t.admitAt, t.resolvedAt, s.time d] else [] }

/-- A resolved ticket whose one enqueue has its routes, its queue and a credit leaves the scoreboard. -/
theorem State.ticketRelease_one {s : State} {d p : Nat} {t : Ticket} {ts : List Ticket} {e : Enq} (hb : s.board d p = t :: ts)
    (hc : t.cond = .resolved [e]) (he : s.reach d e.die = true) (ht : s.reach d t.holder = true)
    (hq : e.die = d → s.queueOn d e.queue = true) (ho : sgetD (s.die d).egr.outst (p * 8 + e.die) 0 < 32768) :
    s.ticketRelease d p = ((if t.holder = d then (s.stamped d (p * 8 + e.die)).place d (s.released d p t e)
      else (s.stamped d (p * 8 + e.die)).send (.grant d t.holder (s.released d p t e))).setBoard d p ts).modHop d
        fun h => { h with outstanding := h.outstanding - 1 } := by
  have hq' : ¬(e.die = d ∧ s.queueOn d e.queue = false) := fun ⟨h, h'⟩ => by simp [hq h] at h'
  simp [State.ticketRelease, hb, hc, State.releaseAll, State.releaseOne, he, ht, hq', Nat.not_le.mpr ho, State.stamped,
    State.released]

/-- An enqueue for a queue of the ingress die, whose packet lies there, waits for its turn. -/
theorem State.ticketRelease_here {s : State} {d p : Nat} {t : Ticket} {ts : List Ticket} {e : Enq} (hd : d < 8)
    (hb : s.board d p = t :: ts) (hc : t.cond = .resolved [e]) (he : e.die = d) (ht : t.holder = d)
    (hr : s.reach d d = true) (hq : s.queueOn d e.queue = true) (ho : sgetD (s.die d).egr.outst (p * 8 + d) 0 < 32768)
    (hs : (s.die d).egr.skipped.contains ((d * 32 + p) * 65536 + sgetD (s.die d).egr.nextSeq (p * 8 + d) 0) = false) :
    (s.ticketRelease d p).board d p = ts ∧
      ((s.ticketRelease d p).die d).hop.outstanding = (s.die d).hop.outstanding - 1 ∧
      sgetD ((s.ticketRelease d p).die d).egr.nextSeq (p * 8 + d) 0 =
        (sgetD (s.die d).egr.nextSeq (p * 8 + d) 0 + 1) % 65536 ∧
      sgetD ((s.ticketRelease d p).die d).egr.outst (p * 8 + d) 0 = sgetD (s.die d).egr.outst (p * 8 + d) 0 + 1 ∧
      ((s.ticketRelease d p).die d).egr.arrived = (s.die d).egr.arrived ++ [{ s.released d p t e with heldAt := s.now }] := by
  have hkey : seqKey (s.released d p t e) = (d * 32 + p) * 65536 + sgetD (s.die d).egr.nextSeq (p * 8 + d) 0 := by
    rw [seqKey, State.released, he]
  obtain ⟨cs, hcs⟩ := State.arrive_due (s := s.stamped d (p * 8 + d)) (a := s.released d p t e) hd
    (by simpa [State.stamped, State.modEgr, hd, hkey] using hs)
  rw [State.ticketRelease_one hb hc (he ▸ hr) (ht ▸ hr) (fun _ => hq) (he ▸ ho), if_pos ht, State.place_here he, he, hcs]
  simp [State.stamped, State.board, State.setBoard, State.modHop, State.modEgr, hd]

/-- An enqueue for another die, whose packet lies on another die, goes on with a release grant (R29). -/
theorem State.ticketRelease_grant {s : State} {d p : Nat} {t : Ticket} {ts : List Ticket} {e : Enq} (hd : d < 8)
    (hb : s.board d p = t :: ts) (hc : t.cond = .resolved [e]) (he : e.die ≠ d) (ht : t.holder ≠ d)
    (hre : s.reach d e.die = true) (hrt : s.reach d t.holder = true)
    (ho : sgetD (s.die d).egr.outst (p * 8 + e.die) 0 < 32768) :
    (s.ticketRelease d p).board d p = ts ∧
      (s.ticketRelease d p).fab.flight = s.fab.flight ++ [(s.stamps, .grant d t.holder (s.released d p t e))] := by
  rw [State.ticketRelease_one hb hc hre hrt (fun h => absurd h he) ho, if_neg ht]
  simp [State.stamped, State.send, State.board, State.setBoard, State.modHop, State.modEgr, hd]

/-! ### A ticket is settled (R20) -/

theorem State.board_settleTicket {s : State} {r : Resolution} {t : Ticket} {ts : List Ticket} (hp : r.port < 256)
    (hb : s.board (r.port / 32) (r.port % 32) = t :: ts) (hn : t.number = r.ticket) (hc : t.cond = .pending) :
    (s.settleTicket r).board (r.port / 32) (r.port % 32) = { t with
      cond := match r.enqs with | some (e :: es) => .resolved (e :: es) | _ => .retired
      holder := r.holder, pid := r.pid, reason := r.reason, tagged := r.tagged, resolvedAt := s.time (r.port / 32) } ::
        ts := by
  have hd : r.port / 32 < 8 := by omega
  have counted : ∀ (u : State) (c : Prop) [Decidable c],
      (if c then u.modHop (r.port / 32) fun h => { h with outstanding := h.outstanding - 1 } else u).board (r.port / 32)
        (r.port % 32) = u.board (r.port / 32) (r.port % 32) := by
    intro u c _
    split
    · simp [State.board, State.modHop, hd]
    · rfl
  have first : ∀ f : Ticket → Ticket, setPending f r.ticket (t :: ts) = f t :: ts :=
    fun f => if_pos (by simp [hn, hc])
  unfold State.settleTicket
  dsimp only
  refine (counted _ _).trans ((s.board_setBoard _ _ hd).trans ?_)
  rw [hb]
  exact first _

/-! ### Skipped sequences (R27) -/

theorem length_skipRun (n q : Nat) : (skipRun (fun _ => false) n q).length = n := by
  induction n generalizing q with
  | zero => rfl
  | succ n ih => simp [skipRun, ih]

/-- A credit leaves the arrivals and the expected sequences of every die. -/
theorem State.creditBack_egr (s : State) (d port e : Nat) :
    ((s.creditBack d port).die e).egr.expect = (s.die e).egr.expect ∧
      ((s.creditBack d port).die e).egr.arrived = (s.die e).egr.arrived := by
  unfold State.creditBack
  split
  · exact ⟨s.proj_modDie (fun x => x.egr.expect) d e _ rfl, s.proj_modDie (fun x => x.egr.arrived) d e _ rfl⟩
  · split <;> exact ⟨rfl, rfl⟩

/-- The records of skipped sequences and their credits leave the arrivals and the expected sequences (R27). -/
theorem State.skipRecords_egr (s : State) (d g : Nat) (qs : List Nat) :
    let u := qs.foldl (fun s _ => ((s.journalDrop d rFAULT g 0).lastDrop d g 0 rFAULT).creditBack d g) s
    (u.die d).egr.expect = (s.die d).egr.expect ∧ (u.die d).egr.arrived = (s.die d).egr.arrived := by
  refine List.foldlRecOn (motive := fun u : State => (u.die d).egr.expect = (s.die d).egr.expect ∧
    (u.die d).egr.arrived = (s.die d).egr.arrived) qs _ ⟨rfl, rfl⟩ fun u ⟨hx, hr⟩ _ _ => ?_
  have noted := ((State.keepsTraffic.refl u).journalDrop d rFAULT g 0).lastDrop d g 0 rFAULT
  obtain ⟨hx', hr'⟩ := State.creditBack_egr ((u.journalDrop d rFAULT g 0).lastDrop d g 0 rFAULT) d g d
  rw [hx', hr', noted.egr d]
  exact ⟨hx, hr⟩

theorem State.sequenceSkip_none {s : State} {d g : Nat} (h : ((s.die d).egr.arrived.filter fun x => x.port = g) = []) :
    s.sequenceSkip d g = s := by
  simp [State.sequenceSkip, h]

/-- Nothing is skipped until the oldest enqueue held has waited for 100 µs. -/
theorem State.sequenceSkip_early {s : State} {d g : Nat} {a : Arrival}
    (h : ((s.die d).egr.arrived.filter fun x => x.port = g) = [a]) (hle : a.heldAt ≤ s.now)
    (hlt : s.now < a.heldAt + 100000) : s.sequenceSkip d g = s := by
  simp [State.sequenceSkip, h, Nat.min_eq_right hle, hlt]

/-- After 100 µs the sequences before the one held are skipped: it is the one expected, and still held. -/
theorem State.sequenceSkip_late {s : State} {d g : Nat} {a : Arrival} (hd : d < 8)
    (h : ((s.die d).egr.arrived.filter fun x => x.port = g) = [a]) (hle : a.heldAt + 100000 ≤ s.now) (hs : a.seq < 65536)
    (he : sgetD (s.die d).egr.expect g 0 < 65536) (ha : (s.die d).egr.announced = []) :
    sgetD ((s.sequenceSkip d g).die d).egr.expect g 0 = a.seq ∧
      ((s.sequenceSkip d g).die d).egr.arrived = (s.die d).egr.arrived := by
  have distance : heldDistance (sgetD (s.die d).egr.expect g 0) [a] =
      (a.seq + 65536 - sgetD (s.die d).egr.expect g 0) % 65536 :=
    Nat.min_eq_right (Nat.mod_lt _ (by decide)).le
  unfold State.sequenceSkip
  dsimp only
  rw [h, if_neg (by simpa [Nat.min_eq_right (Nat.le_of_add_right_le hle)] using hle), distance]
  simp only [ha, List.contains_nil]
  obtain ⟨hx, hr⟩ := State.skipRecords_egr _ d g (skipRun (fun _ => false)
    ((a.seq + 65536 - sgetD (s.die d).egr.expect g 0) % 65536)
    (sgetD (s.die d).egr.expect g 0))
  rw [hx, hr, length_skipRun]
  simp only [State.modEgr, State.die_modDie _ _ hd, Egress.expectAt, sgetD_sset_self, and_true]
  omega

theorem exec_releaseSequenceSkip {s : State} {d g : Nat} (h : s.live d) (hg : g < 256) :
    exec (.releaseSequenceSkip d g) s = .next (s.keep ((s.sequenceSkip d g).settle d)) :=
  onPort_live (p := 0) h (decide_eq_true hg) fun s => s.sequenceSkip d g

/-! ### Copies between dies (R305) -/

theorem bits_w36 (n : Nat) {lo w : Nat} (h : lo + w ≤ 36) : bits (w36 n).toNat lo w = bits n lo w := by
  rw [w36, BitVec.toNat_ofNat, ← bits_low, bits_bits_low n h]

/-- A copy ends with the enqueue on its way to its queue's die, which starts in its first cell there. -/
theorem State.copyOut_sends (s : State) (d : Nat) (a : Arrival) (k : Packet) :
    ∃ (t : State) (b : Arrival), s.copyOut d a k = t.send (.enqueue d a.enq.die b) ∧ b.remote = true ∧ b.seq = a.seq ∧
      b.port = a.port ∧ b.ticket = a.ticket ∧ b.enq.queue = a.enq.queue ∧ b.enq.len = a.enq.len ∧
      b.enq.start = a.enq.start % 128 := by
  refine ⟨_, _, rfl, rfl, rfl, rfl, rfl, rfl, ?_, ?_⟩
  · exact (bits_w36 _ (by decide)).trans (bits_putBits_below _ _ _ (by decide))
  · refine ((bits_w36 _ (by decide)).trans (bits_putBits_self ..)).trans (Nat.mod_eq_of_lt ?_)
    exact (Nat.mod_lt _ (by decide)).trans (by decide)

/-- The first copy that can cross and whose link grants it goes. -/
theorem exec_egressCopy {s : State} {d : Nat} {a : Arrival} {rest : List Arrival} {k : Packet} (h : s.live d)
    (hc : (s.die d).egr.toCopy = a :: rest) (hk : s.pkt d a.pid = some k)
    (hr : s.canCross d a.enq.die (a.enq.copied k.cells).length = true) (hg : s.linkGrants d a.enq.die false = true) :
    exec (.egressCopy d) s = .next (s.keep (State.settle (State.copyOut
      ((s.linkGranted d a.enq.die false).modEgr d fun x => { x with toCopy := x.toCopy.erase a }) d a k) d)) := by
  have hn : s.copyNext d (a :: rest) = (s, some (a, k)) := by
    simp [State.copyNext, State.copyReady, hk, hr, hg]
  change execEgressCopy d s = _
  rw [execEgressCopy, onDieS_live h, hc, hn]

theorem exec_egressCopy_none {s : State} {d : Nat} (h : s.live d) (hc : (s.die d).egr.toCopy = []) :
    exec (.egressCopy d) s = .next (s.keep (s.settle d)) := by
  change execEgressCopy d s = _
  rw [execEgressCopy, onDieS_live h, hc]
  rfl

/-! ### Admission (R300, R302 to R304) -/

/-- An enqueue is done with: the next sequence of its port is due, and its credit returns (R27, R28). -/
def State.admitNext (s : State) (d : Nat) (a : Arrival) : State :=
  (s.modEgr d fun x => { x with arrived := x.arrived.erase a }.expectAt a.port ((a.seq + 1) % 65536)).creditBack d a.port

theorem exec_queueAdmit {s : State} {d : Nat} {a : Arrival} {k : Packet} (h : s.live d) (hn : s.nextArrival d = some a)
    (hv : a.void = false) (hk : s.pkt d a.pid = some k) :
    exec (.queueAdmit d) s = .next (s.keep (((s.admitTo d a k).admitNext d a).settle d)) := by
  change execQueueAdmit d s = _
  rw [execQueueAdmit, onDieS_live h, hn]
  simp only [hv, Bool.false_eq_true, if_false, hk]
  rfl

theorem exec_queueAdmit_void {s : State} {d : Nat} {a : Arrival} (h : s.live d) (hn : s.nextArrival d = some a)
    (hv : a.void = true) : exec (.queueAdmit d) s = .next (s.keep ((s.admitNext d a).settle d)) := by
  change execQueueAdmit d s = _
  rw [execQueueAdmit, onDieS_live h, hn]
  simp only [hv, if_true]
  rfl

section
variable {s : State} {d : Nat} {a : Arrival} {k : Packet}

theorem State.admitTo_off (hp : a.port / 32 ≠ d) (hq : s.queueOn d a.enq.queue = false) :
    s.admitTo d a k = ((s.dropQueue d a.port a.enq.queue).dropRef d a.pid).tagLost a rFAULT :=
  if_pos (by simp [hp, hq])

theorem State.admitTo_bad (hq : a.port / 32 = d ∨ s.queueOn d a.enq.queue = true) (hr : a.remote = false)
    (hb : s.enqBad a.enq k.cells.length = true) :
    s.admitTo d a k = ((s.dropLength d a.port a.enq.queue).dropRef d a.pid).tagLost a rLENGTH := by
  refine (if_neg ?_).trans (if_pos (by simp [hr, hb]))
  simpa [imp_iff_not_or] using hq

/-- An enqueue for a queue in use that passes the checks of R303 enters it when there is room, or spills. -/
theorem State.admitTo_good (hq : a.port / 32 = d ∨ s.queueOn d a.enq.queue = true)
    (hb : a.remote = true ∨ s.enqBad a.enq k.cells.length = false) :
    ((s.queue d a.enq.queue).spilling = false →
      (s.queue d a.enq.queue).depth + k.cells.length ≤ s.fld d .egrQLim [a.enq.queue] 0 19 →
      s.admitTo d a k = s.enqueue d a.enq.queue { a := a, cells := k.cells.length } false) ∧
    ((s.queue d a.enq.queue).spilling = true ∨
        s.fld d .egrQLim [a.enq.queue] 0 19 < (s.queue d a.enq.queue).depth + k.cells.length →
      bit (s.reg d .egrQCfg [a.enq.queue]) 4 = false →
      s.admitTo d a k = ((s.dropTail d a.port a.enq.queue).dropRef d a.pid).tagLost a rSLUICE) := by
  have on : ¬(decide (a.port / 32 ≠ d) && !s.queueOn d a.enq.queue) = true := by simpa [imp_iff_not_or] using hq
  have good : ¬(!a.remote && s.enqBad a.enq k.cells.length) = true := by simpa [imp_iff_not_or] using hb
  refine ⟨fun hs hl => ?_, fun hf hc => ?_⟩
  · exact (if_neg on).trans ((if_neg good).trans (if_pos (by simp [hs, hl])))
  · refine (if_neg on).trans ((if_neg good).trans ((if_neg ?_).trans (if_pos (by simp [hc]))))
    simpa [imp_iff_not_or] using hf

end

/-- An entry goes to the tail of its queue, and every other queue is as it was. -/
theorem State.queue_enqueue (s : State) {d : Nat} (q : Nat) (e : QEntry) (b : Bool) (hd : d < 8) :
    ((s.enqueue d q e b).queue d q).entries = (s.queue d q).entries ++ [e] ∧
      ((s.enqueue d q e b).queue d q).spilling = b ∧ ∀ r : Nat, r ≠ q → (s.enqueue d q e b).queue d r = s.queue d r := by
  have counted : ∀ r : Nat, (s.enqueue d q e b).queue d r =
      (s.setQueue d q { s.queue d q with entries := (s.queue d q).entries ++ [e], spilling := b }).queue d r := by
    intro r
    have h : State.keepsTraffic (s.setQueue d q { s.queue d q with entries := (s.queue d q).entries ++ [e], spilling := b })
        (s.enqueue d q e b) := by
      unfold State.enqueue
      dsimp only
      split
      · exact ((State.keepsTraffic.refl _).count ..).count ..
      · exact (State.keepsTraffic.refl _).count ..
    exact congrArg (fun x : Egress => sgetD x.queues r {}) (h.egr d)
  have here : ∀ x : Queue, (s.setQueue d q x).queue d q = x := by
    intro x
    simp [State.queue, State.setQueue, State.modEgr, hd]
  rw [counted, here]
  refine ⟨rfl, rfl, fun r hr => ?_⟩
  rw [counted]
  simp [State.queue, State.setQueue, State.modEgr, hd, sgetD_sset_ne _ _ _ hr]

/-! ### Descriptors (R299, R301) -/

theorem exec_queueEnable {s : State} {d q : Nat} (h : s.hostReaches d) (hq : q < 4096) (v : Dword) :
    exec (.queueEnable d q v) s = .next (s.keep ((s.qCfgWrite d q v.toNat).settle d)) :=
  onHostS_reached h (decide_eq_true hq) fun s => s.qCfgWrite d q v.toNat

section
variable {s : State} {d q v : Nat}

/-- A descriptor word is written with fresh check bits. -/
def State.qCfgStored (s : State) (d q w : Nat) : State :=
  (s.setReg d .egrQCfg [q] w).modDie d fun x => x.freshUnit 9 0 (cfgQueue q)

theorem State.qCfgWrite_enable (ho : bit (s.reg d .egrQCfg [q]) 0 = false) (hn : bit (v &&& 0xFFFBFFFF) 0 = true)
    (hq : q < 512) : s.qCfgWrite d q v =
      if queueHere d q = true then s.qCfgStored d q (v &&& 0xFFFBFFFF) else s.violation d := by
  cases hh : queueHere d q <;> simp [State.qCfgWrite, ho, hn, Nat.not_le.mpr hq, hh, State.qCfgStored]

theorem State.qCfgWrite_change (ho : bit (s.reg d .egrQCfg [q]) 0 = true) (hn : bit (v &&& 0xFFFBFFFF) 0 = true)
    (hw : v &&& 0xFFFBFFFF ≠ s.reg d .egrQCfg [q]) : s.qCfgWrite d q v = s.violation d := by
  simp [State.qCfgWrite, ho, hn, hw]

theorem State.qCfgWrite_disable (ho : bit (s.reg d .egrQCfg [q]) 0 = true) (hn : bit (v &&& 0xFFFBFFFF) 0 = false)
    (hw : (v &&& 0xFFFBFFFF) / 2 = s.reg d .egrQCfg [q] / 2) (hq : 512 ≤ q) :
    s.qCfgWrite d q v = s.qCfgStored d q (v &&& 0xFFFBFFFF) := by
  simp [State.qCfgWrite, ho, hn, hw, Nat.not_lt.mpr hq, State.qCfgStored]

end

end Sys2Proof.Machine
end

section
/-! PROOFS. The tailrace. -/

namespace Sys2Proof.Machine

open Sys2Proof

/-- Settles O44: a ticket with one enqueue is followed through its release, a message that goes is taken from the flight, and
an arrival, a copy, an admission and a descriptor's write are taken branch by branch. -/
theorem ticketsAndEnqueues : Obligations.TicketsAndEnqueues := by
  refine ⟨⟨?_, ?_, ?_, ?_, ?_, ?_, ?_, ?_⟩, ?_, ?_, ?_, ?_, ?_, ?_⟩
  · -- TICKET_RELEASE
    intro s d p h hp
    have hd := State.has_lt h.1
    refine ⟨fun hb => ?_, fun t ts hb => ⟨fun hc => ?_, fun hc ht => ?_, fun e hc he ht hr hq ho hs => ?_,
      fun e hc he ht hre hrt _ ho => ?_⟩⟩
    · exact (exec_ticketRelease h hp).trans (next_settle_congr d (by simp [State.ticketRelease, hb]))
    · exact (exec_ticketRelease h hp).trans (next_settle_congr d (by simp [State.ticketRelease, hb, hc]))
    · exact (exec_ticketRelease h hp).trans (next_settle_congr d (by simp [State.ticketRelease, hb, hc, ht]))
    · obtain ⟨hboard, hout, hseq, houtst, harr⟩ := State.ticketRelease_here hd hb hc he ht hr hq ho hs
      refine ⟨_, exec_ticketRelease h hp, hboard, hout, hseq, houtst, (s.released d p t e).tag, harr.trans ?_⟩
      rw [State.released, he]
    · obtain ⟨hboard, hflight⟩ := State.ticketRelease_grant hd hb hc he ht hre hrt ho
      exact ⟨_, _, exec_ticketRelease h hp, hboard, hflight, rfl, rfl, rfl, rfl⟩
  · exact fun s d a id r h hm => exec_resolutionRecord h hm
  · exact fun s r t ts hp hb hn hc => State.board_settleTicket hp hb hn hc
  · -- RELEASE_GRANT for a queue of this die
    intro s d a id r h hm he hs
    have hs' : ((s.messageTaken id).die d).egr.skipped.contains (seqKey r) = false := hs
    obtain ⟨harr, hexp, hfab⟩ := (s.messageTaken id).arrive_spec r (State.has_lt h.1)
    rw [hs', if_neg Bool.false_ne_true] at harr
    refine ⟨_, exec_releaseGrant h hm, ?_⟩
    rw [State.place_here he]
    exact ⟨harr, hexp, congrArg Fabric.flight hfab⟩
  · -- RELEASE_GRANT for a queue of another die
    intro s d a id r k h hm he hk
    refine ⟨fun hb => ?_, fun hb => ?_⟩
    · exact (exec_releaseGrant h hm).trans (next_settle_congr d (State.place_copy (s := s.messageTaken id) he hk hb))
    · obtain ⟨t, ht, hp⟩ := State.place_void (s := s.messageTaken id) he hk hb
      refine ⟨_, t.stamps, exec_releaseGrant h hm, ?_⟩
      rw [hp]
      exact ⟨congrArg Egress.toCopy (ht.egr d), congrArg (·.flight ++ _) ht.fab⟩
  · exact fun s d a id p h hm => exec_creditReturn h hm
  · -- REMOTE_ENQUEUE_ARRIVE
    intro s d a id r h hm
    obtain ⟨harr, hexp, hfab⟩ := (s.messageTaken id).arrive_spec r (State.has_lt h.1)
    exact ⟨_, exec_remoteEnqueueArrive h hm, harr, hexp, congrArg Fabric.flight hfab⟩
  · -- RELEASE_SEQUENCE_SKIP
    intro s d g h hg
    refine ⟨fun hf => ?_, fun a hf => ⟨fun hle hlt => ?_, fun hle hs he ha => ?_⟩⟩
    · rw [exec_releaseSequenceSkip h hg, State.sequenceSkip_none hf]
    · rw [exec_releaseSequenceSkip h hg, State.sequenceSkip_early hf hle hlt]
    · exact ⟨_, exec_releaseSequenceSkip h hg, State.sequenceSkip_late (State.has_lt h.1) hf hle hs he ha⟩
  · -- EGRESS_COPY
    intro s d a rest k h hc hk hheld hreach hg hroom
    obtain ⟨t, b, hsend, hb⟩ := State.copyOut_sends
      ((s.linkGranted d a.enq.die false).modEgr d fun x => { x with toCopy := x.toCopy.erase a }) d a k
    refine ⟨_, t.fab.flight, t.stamps, b, exec_egressCopy h hc hk ?_ hg, ?_, hb⟩
    · simp [State.canCross, hheld, hreach, hroom]
    · rw [hsend, State.send]
  · exact fun s d h hc => exec_egressCopy_none h hc
  · -- QUEUE_ADMIT
    intro s d a k h hn hv hk
    have hadmit := exec_queueAdmit h hn hv hk
    refine ⟨fun hp hq => ?_, fun hq hr hb => ?_, fun hq hb => ⟨fun hs hl => ?_, fun hf hc => ?_⟩⟩
    · rw [hadmit, State.admitTo_off hp hq]
      rfl
    · rw [hadmit, State.admitTo_bad hq hr hb]
      rfl
    · rw [hadmit, (State.admitTo_good hq hb).1 hs hl]
      rfl
    · rw [hadmit, (State.admitTo_good hq hb).2 hf hc]
      rfl
  · exact fun s d a h hn hv => exec_queueAdmit_void h hn hv
  · exact fun s d q e b hd => s.queue_enqueue q e b hd
  · -- QUEUE_ENABLE
    intro s d q v h hq
    have hwrite := exec_queueEnable h hq v
    exact ⟨fun ho hn hlt => hwrite.trans (next_settle_congr d (State.qCfgWrite_enable ho hn hlt)),
      fun ho hn hw => hwrite.trans (next_settle_congr d (State.qCfgWrite_change ho hn hw)),
      fun ho hn hw hge => hwrite.trans (next_settle_congr d (State.qCfgWrite_disable ho hn hw hge))⟩

end Sys2Proof.Machine
end

section
/-! SUPPORT. The ports: what each command about a MAC's or a telegram port's configuration and link runs. -/

namespace Sys2Proof.Machine

open Sys2Proof

variable {s : State} {d p : Nat}

/-! ### Changes of a hopper -/

theorem State.hop_modHop (s : State) {d : Nat} (f : Hopper → Hopper) (hd : d < 8) :
    ((s.modHop d f).die d).hop = f (s.die d).hop :=
  congrArg Die.hop (s.die_modDie _ hd)

theorem State.reg_modHop (s : State) (d e : Nat) (f : Hopper → Hopper) (r : RegId) (ix : List Nat) :
    (s.modHop d f).reg e r ix = s.reg e r ix :=
  s.reg_modDie d e _ r ix rfl

/-! ### MAC.PCFG (R43, R44) -/

theorem exec_macPortConfig (h : s.hostReaches d) (hp : isMac p = true) (v : Dword) :
    exec (.macPortConfig d p v) s = .next (s.keep ((s.macPortConfig d p v.toNat).settle d)) :=
  onHostS_reached h hp fun s => s.macPortConfig d p v.toNat

/-- The MODE that a write of MAC.PCFG leaves: one that the port cannot take is ignored. -/
def State.pcfgMode (s : State) (d p v : Nat) : Nat := if macModeOk p (v % 16) then v % 16 else s.reg d .macPcfg [p] % 16

/-- The value that a write of MAC.PCFG would store. -/
def State.pcfgNew (s : State) (d p v : Nat) : Nat := v % 256 / 16 * 16 + s.pcfgMode d p v

/-- A lane MAC of a mode would lie across its lanes' groups, or share a lane with another one in use (R44). -/
def State.lanesClash (s : State) (d p mode : Nat) : Bool :=
  p < 8 && (p % macLanes mode ≠ 0 || (List.range 8).any fun q =>
    q ≠ p && (s.lanesOf d q).any ((List.range (macLanes mode)).map (p + ·)).contains)

theorem State.lanesClash_iff (s : State) (d p mode : Nat) : s.lanesClash d p mode = true ↔
    p < 8 ∧ (p % macLanes mode ≠ 0 ∨
      ∃ q : Nat, q < 8 ∧ q ≠ p ∧ ∃ l ∈ (List.range (macLanes mode)).map (p + ·), l ∈ s.lanesOf d q) := by
  have shared : ∀ xs ys : List Nat, (∃ l ∈ xs, l ∈ ys) ↔ ∃ l ∈ ys, l ∈ xs := fun xs ys =>
    exists_congr fun l => and_comm
  simp only [State.lanesClash, shared, Bool.and_eq_true, Bool.or_eq_true, decide_eq_true_eq, List.any_eq_true,
    List.mem_range, List.contains_iff_mem]

/-- A replaced low nibble is added to the number without it. -/
theorem putBits_nibble (n : Nat) {m : Nat} (h : m < 16) : putBits n 0 4 m = n / 16 * 16 + m := by
  simp only [putBits, bits_low]
  omega

/-- A write of MAC.PCFG, with R44's checks in their order. -/
theorem State.macPortConfig_eq (s : State) (d p v : Nat) :
    s.macPortConfig d p v =
      let old := s.reg d .macPcfg [p]
      let new := s.pcfgNew d p v
      if bit old 5 = true ∧ (s.pcfgMode d p v ≠ old % 16 ∨ bits new 6 2 ≠ bits old 6 2) then s.violation d
      else if bit new 5 = true ∧ bit old 5 = false ∧ s.lanesClash d p (s.pcfgMode d p v) = true then s.violation d
      else if bit old 5 = true ∧ bit new 5 = false then (s.setReg d .macPcfg [p] new).pcsDown d p
      else s.setReg d .macPcfg [p] new := by
  have hlt : s.pcfgMode d p v < 16 := by
    unfold State.pcfgMode
    split <;> exact Nat.mod_lt _ (by decide)
  have hmode : (if macModeOk p (bits v 0 4) = true then bits v 0 4 else bits (s.reg d .macPcfg [p]) 0 4) =
      s.pcfgMode d p v := by
    simp only [bits_low]
    rfl
  have hnew : putBits (bits v 0 8) 0 4 (s.pcfgMode d p v) = s.pcfgNew d p v := by
    rw [putBits_nibble _ hlt, bits_low]
    rfl
  unfold State.macPortConfig
  dsimp only
  rw [hmode, hnew, ← State.lanesClash]
  simp [bits_low, and_assoc]

/-! ### Links of MACs (R45 to R47) -/

theorem exec_pcsLinkUp (h : s.live d) (hp : isMac p = true) (speed : Nat) :
    exec (.pcsLinkUp d p speed) s = .next (s.keep ((s.pcsUp d p speed).settle d)) :=
  onPort_live (p := p) h hp fun s => s.pcsUp d p speed

theorem exec_pcsLinkDown (h : s.live d) (hp : isMac p = true) :
    exec (.pcsLinkDown d p) s = .next (s.keep ((s.pcsDown d p).settle d)) :=
  onPort_live (p := p) h hp fun s => s.pcsDown d p

theorem State.pcsUp_on (speed : Nat) (hon : s.macOn d p = true) (hl : s.serdesLost = false) :
    s.pcsUp d p speed = s.modHop d fun h => { h with
      linkUp := p :: h.linkUp.filter (· ≠ p)
      speed := if 8 ≤ p then sset h.speed p (if s.fld d .macPcfg [p] 0 4 = 10 then 3
        else if s.fld d .macPcfg [p] 0 4 = 9 ∧ s.fld d .macPcfg [p] 6 2 ≠ 0 then s.fld d .macPcfg [p] 6 2 - 1
        else min speed 2) else h.speed } := by
  simp [State.pcsUp, hon, hl]

theorem State.pcsUp_off (speed : Nat) (h : s.macOn d p = false ∨ s.serdesLost = true) : s.pcsUp d p speed = s :=
  if_pos (by simpa using h)

theorem State.macOn_eq_false : s.macOn d p = false ↔
    bit (s.reg d .macPcfg [p]) 5 = false ∨ s.fld d .macPcfg [p] 0 4 = 0 := by
  simp [State.macOn, imp_iff_not_or]

/-! ### TGP.CFG (R53, R57) -/

theorem exec_telegramPortDisable {i : Nat} (h : s.hostReaches d) (hi : isTgp d (i + 16) = true) (v : Dword) :
    exec (.telegramPortDisable d i v) s = .next (s.keep ((s.tgpCfgWrite d i v.toNat).settle d)) :=
  onHostS_reached h hi fun s => s.tgpCfgWrite d i v.toNat

/-- The telegram ports are those from 16 to 23 of dies 0 and 1. -/
theorem isTgp_iff : isTgp d p = true ↔ d < 2 ∧ 16 ≤ p ∧ p < 24 := by
  simp [isTgp, and_assoc]

theorem not_isMac_of_isTgp (h : isTgp d p = true) : isMac p = false := by
  obtain ⟨-, hp, -⟩ := isTgp_iff.mp h
  simp [isMac]
  omega

/-- A telegram port's receiver runs when it is enabled in a mode of a synchronous or asynchronous line. -/
theorem State.rxOn_tgp {i : Nat} (hi : isTgp d (i + 16) = true) : s.rxOn d (i + 16) =
    (bit (s.reg d .tgpCfg [i]) 8 && decide (s.reg d .tgpCfg [i] % 4 = 1 ∨ s.reg d .tgpCfg [i] % 4 = 2)) := by
  simp [State.rxOn, not_isMac_of_isTgp hi, hi, State.fld, bits_low]

/-- A write of TGP.CFG: while the port is enabled only its disabling acts, and a port that comes on sends its idle line. -/
theorem State.tgpCfgWrite_eq (s : State) {d i : Nat} (v : Nat) (hi : isTgp d (i + 16) = true) :
    s.tgpCfgWrite d i v =
      let old := s.reg d .tgpCfg [i]
      let new := v % 1024
      if bit old 8 = true then
        if bit new 8 = false then (s.setReg d .tgpCfg [i] (putBit old 8 false)).rxDiscard d (i + 16) rGAP
        else if new = old then s else s.violation d
      else if bit new 8 = true ∧ (new % 4 = 1 ∨ new % 4 = 2) then
        (s.setReg d .tgpCfg [i] new).emit (.telegramIdle d (i + 16) (bit new 7))
      else s.setReg d .tgpCfg [i] new := by
  have hd : d < 8 := by
    obtain ⟨hd, -⟩ := isTgp_iff.mp hi
    omega
  simp [State.tgpCfgWrite, bits_low, State.rxOn_tgp hi, State.tgpIdle, hd]

end Sys2Proof.Machine
end

section
/-! PROOFS. The ports. -/

namespace Sys2Proof.Machine

open Sys2Proof

/-- Settles O40: a write of MAC.PCFG and of TGP.CFG is taken check by check, and a link's change is one change of the port. -/
theorem portsAreConfiguredAndLinked : Obligations.PortsAreConfiguredAndLinked := by
  refine ⟨?_, ?_, fun s d p h hp => exec_pcsLinkDown h hp, ?_⟩
  · -- MAC_PORT_CONFIG
    intro s d p v h hp old mode new lanes clash
    have hclash : s.lanesClash d p (s.pcfgMode d p v.toNat) = true ↔ clash := s.lanesClash_iff d p _
    rw [exec_macPortConfig h hp, s.macPortConfig_eq]
    refine ⟨fun hon hne => ?_, fun hoff hen hc => ?_, fun hoff hok => ?_, fun hon hm hs hdis => ?_⟩
    · rw [if_pos ⟨hon, hne⟩]
    · rw [if_neg fun ⟨hon, _⟩ => Bool.eq_false_iff.mp hoff hon, if_pos ⟨hen, hoff, hclash.mpr hc⟩]
    · have fits : ¬(bit (s.pcfgNew d p v.toNat) 5 = true ∧ bit (s.reg d .macPcfg [p]) 5 = false ∧
          s.lanesClash d p (s.pcfgMode d p v.toNat) = true) := fun ⟨hen, _, hc⟩ =>
        hok.elim (fun hdis => Bool.eq_false_iff.mp hdis hen) fun hn => hn (hclash.mp hc)
      rw [if_neg fun ⟨hon, _⟩ => Bool.eq_false_iff.mp hoff hon, if_neg fits,
        if_neg fun ⟨hon, _⟩ => Bool.eq_false_iff.mp hoff hon]
      rfl
    · rw [if_neg fun ⟨_, hne⟩ => hne.elim (fun h => h hm) fun h => h hs,
        if_neg fun ⟨hen, _⟩ => Bool.eq_false_iff.mp hdis hen, if_pos ⟨hon, hdis⟩]
      rfl
  · -- PCS_LINK_UP
    intro s d p speed h hp
    exact ⟨fun hon hl => (exec_pcsLinkUp h hp speed).trans (next_settle_congr d (State.pcsUp_on speed hon hl)),
      fun hoff => (exec_pcsLinkUp h hp speed).trans (next_settle_congr d
        (State.pcsUp_off speed (by rwa [State.macOn_eq_false, or_assoc])))⟩
  · -- TELEGRAM_PORT_DISABLE
    intro s d i v h hi old new
    rw [exec_telegramPortDisable h hi, s.tgpCfgWrite_eq _ hi]
    refine ⟨fun hon hdis => ?_, fun hon hen hne => ?_, fun hoff hidle => ?_, fun hoff hen hmode => ?_⟩
    · rw [if_pos hon, if_pos hdis]
    · rw [if_pos hon, if_neg (Bool.ne_false_iff.mpr hen), if_neg hne]
    · rw [if_neg (Bool.eq_false_iff.mp hoff), if_neg hidle]
    · rw [if_neg (Bool.eq_false_iff.mp hoff), if_pos ⟨hen, hmode⟩]

end Sys2Proof.Machine
end

section
/-! SUPPORT. Flow control of a MAC: what a received PAUSE or PFC frame, its end, and the frames that are owed come to. -/

namespace Sys2Proof.Machine

open Sys2Proof

/-! ### Tables that need not be sorted -/

/-- What a table holds at a key stays when another key goes. -/
theorem sget_sdel_of_some {α : Type} {m : Store α} {k j : Nat} {v : α} (hne : j ≠ k) (h : sget m j = some v) :
    sget (sdel m k) j = some v := by
  induction m with
  | nil => exact h
  | cons q m ih =>
    obtain ⟨i, w⟩ := q
    by_cases hj : i = j
    · subst hj
      simpa [sdel, sget, hne] using h
    · have hlt : ¬j < i := fun hlt => by simp [sget, hj, hlt] at h
      have hm : sget m j = some v := by simpa [sget, hj, hlt] using h
      by_cases hk : i = k
      · simpa [sdel, hk] using ih hm
      · simpa [sdel, sget, hk, hj, hlt] using ih hm

/-- A key below another one goes without the other's notice. -/
theorem sget_sdel_below {α : Type} (m : Store α) {k j : Nat} (h : k < j) : sget (sdel m k) j = sget m j := by
  induction m with
  | nil => rfl
  | cons q m ih =>
    obtain ⟨i, w⟩ := q
    by_cases hk : i = k
    · have hj : ¬k = j := by omega
      have hlt : ¬j < k := by omega
      simpa [sdel, sget, hk, hj, hlt] using ih
    · have hd : sdel ((i, w) :: m) k = (i, w) :: sdel m k := by simp [sdel, hk]
      simp [hd, sget, ih]

/-- No entry is left at a key that goes. -/
theorem sget_sdel_gone {α : Type} (m : Store α) (k : Nat) : sget (sdel m k) k = none := by
  have absent : ∀ m : Store α, (∀ q ∈ m, q.1 ≠ k) → sget m k = none := by
    intro m
    induction m with
    | nil => exact fun _ => rfl
    | cons q m ih =>
      intro hm
      have hq : ¬q.1 = k := hm q List.mem_cons_self
      have ht := ih fun r hr => hm r (List.mem_cons_of_mem _ hr)
      simp [sget, hq, ht]
  exact absent _ fun q hq => by simpa using (List.mem_filter.mp hq).2

/-! ### Received PAUSE and PFC frames (R49, R311) -/

section
variable {s : State} {d p : Nat}

theorem exec_pauseFrameReceive (h : s.live d) (hp : isMac p = true) (pfc : Bool) (enable : Byte) (times : List Nat) :
    exec (.pauseFrameReceive d p pfc enable times) s =
      .next (s.keep ((s.pauseReceive d p pfc enable.toNat times).settle d)) :=
  onPort_live (p := p) h hp fun s => s.pauseReceive d p pfc enable.toNat times

/-- A time in quanta of 512 bit times is put at a key of the pauses; time 0 ends the pause. -/
def pausePut (m : Store Nat) (key upto quanta : Nat) : Store Nat := if quanta = 0 then sdel m key else sset m key upto

/-- When a pause of a number of quanta ends on a port. -/
def State.pauseEnd (s : State) (d p q : Nat) : Nat := s.now + q * 512 * 1000 / s.macRate d p

/-- The pauses of a port's priorities after a PFC frame that names some of them. -/
def State.pfcPut (s : State) (d p : Nat) (times : List Nat) (m : Store Nat) (qs : List Nat) : Store Nat :=
  qs.foldl (fun m q => pausePut m (32 + 8 * p + q) (s.pauseEnd d p (times.getD q 0)) (times.getD q 0)) m

theorem State.pauseReceive_pause (q : Nat) (qs : List Nat) (enable : Nat) (hon : s.rxOn d p = true) :
    s.pauseReceive d p false enable (q :: qs) =
      s.modHop d fun h => { h with pausedTo := pausePut h.pausedTo p (s.pauseEnd d p q) q } := by
  simp [State.pauseReceive, hon]
  rfl

theorem State.pauseReceive_pfc (enable : Nat) (times : List Nat) (hon : s.rxOn d p = true) :
    s.pauseReceive d p true enable times =
      s.modHop d fun h => { h with pausedTo := s.pfcPut d p times h.pausedTo (maskList enable 8) } := by
  have folded : ∀ (qs : List Nat) (t : State),
      qs.foldl (fun (t : State) q => t.modHop d fun h => { h with
        pausedTo := pausePut h.pausedTo (32 + 8 * p + q) (s.pauseEnd d p (times.getD q 0)) (times.getD q 0) }) t =
      t.modHop d fun h => { h with pausedTo := s.pfcPut d p times h.pausedTo qs } := by
    intro qs
    induction qs with
    | nil => exact fun t => (t.modDie_id d _ rfl).symm
    | cons q qs ih =>
      intro t
      refine (ih _).trans ?_
      simp only [State.modHop, State.modDie_modDie]
      rfl
  rw [← folded, State.pauseReceive, if_neg (by simp [hon])]
  rfl

/-- Every priority that a PFC frame names with a time other than 0 is paused until its end. -/
theorem State.sget_pfcPut (s : State) {d p q : Nat} {times : List Nat} (hq : times.getD q 0 ≠ 0) {qs : List Nat} (hm : q ∈ qs)
    (m : Store Nat) : sget (s.pfcPut d p times m qs) (32 + 8 * p + q) = some (s.pauseEnd d p (times.getD q 0)) := by
  have named : ∀ m : Store Nat, sget (pausePut m (32 + 8 * p + q) (s.pauseEnd d p (times.getD q 0)) (times.getD q 0))
      (32 + 8 * p + q) = some (s.pauseEnd d p (times.getD q 0)) := fun m => by
    rw [pausePut, if_neg hq, sget_sset_self]
  have kept : ∀ (r : Nat) (m : Store Nat), sget m (32 + 8 * p + q) = some (s.pauseEnd d p (times.getD q 0)) →
      sget (pausePut m (32 + 8 * p + r) (s.pauseEnd d p (times.getD r 0)) (times.getD r 0)) (32 + 8 * p + q) =
        some (s.pauseEnd d p (times.getD q 0)) := by
    intro r m hm
    by_cases hr : r = q
    · subst hr
      exact named m
    · have hne : 32 + 8 * p + q ≠ 32 + 8 * p + r := by omega
      unfold pausePut
      split
      · exact sget_sdel_of_some hne hm
      · rwa [sget_sset_ne _ _ hne]
  have later : ∀ (qs : List Nat) (m : Store Nat), sget m (32 + 8 * p + q) = some (s.pauseEnd d p (times.getD q 0)) →
      sget (s.pfcPut d p times m qs) (32 + 8 * p + q) = some (s.pauseEnd d p (times.getD q 0)) := fun qs m hm =>
    List.foldlRecOn (motive := fun m => sget m (32 + 8 * p + q) = some (s.pauseEnd d p (times.getD q 0))) qs _ hm
      fun m hm r _ => kept r m hm
  induction qs generalizing m with
  | nil => cases hm
  | cons r qs ih =>
    rcases List.mem_cons.mp hm with rfl | hm
    · exact later qs _ (named m)
    · exact ih hm _

/-! ### The end of a pause (R311) -/

theorem exec_pauseExpire {t : Nat} {pri : Option Nat} (h : s.live d) (hp : isMac p = true)
    (ht : sget (s.die d).hop.pausedTo (pauseKey p pri) = some t) :
    exec (.pauseExpire d p pri) s = .next (s.keep (State.settle (if t ≤ s.now then
      s.modHop d fun h => { h with pausedTo := sdel h.pausedTo (pauseKey p pri) } else s) d)) := by
  refine (onPort_live (p := p) h hp _).trans (next_settle_congr d ?_)
  rw [ht]

/-! ### What a MAC owes (R48, R49) -/

/-- A frame that a MAC owes at a key goes when it is due. -/
def State.fcSend (d p : Nat) (due : State → FcOwed → Bool) (s : State) (k : Nat) : State :=
  match sget (s.die d).hop.fcOwed k with
  | some o => if due s o then s.sendFc d p k o else s
  | none => s

/-- The frames that a MAC owes and that are due go one by one, the port's own first. -/
def State.fcSends (s : State) (d p : Nat) (due : State → FcOwed → Bool) : State :=
  (fcKeys p).foldl (State.fcSend d p due) s

/-- Half of PAUSE_TIME has passed since a frame was sent. -/
def State.fcHalfOver (d p : Nat) (s : State) (o : FcOwed) : Bool :=
  !o.due && decide (o.sentAt + o.quanta * 256 * 1000 / s.macRate d p ≤ s.now)

theorem exec_pauseSend (h : s.live d) (hp : isMac p = true) :
    exec (.pauseSend d p) s = .next (s.keep (State.settle (if s.txBusy d p || !s.rxOn d p then s
      else s.fcSends d p fun _ o => o.due) d)) :=
  onPort_live (p := p) h hp fun s => if s.txBusy d p || !s.rxOn d p then s else s.fcSends d p fun _ o => o.due

theorem exec_pauseRepeat (h : s.live d) (hp : isMac p = true) :
    exec (.pauseRepeat d p) s = .next (s.keep (State.settle (if s.txBusy d p || !s.rxOn d p then s
      else s.fcSends d p (State.fcHalfOver d p)) d)) :=
  onPort_live (p := p) h hp fun s => if s.txBusy d p || !s.rxOn d p then s else s.fcSends d p (State.fcHalfOver d p)

/-- The PAUSE frame of a port is sent; while the sluice stays closed it is owed again, later. -/
def State.pauseSent (s : State) (d p : Nat) (o : FcOwed) : State :=
  ((s.emit (.pause d p false 0 o.quanta)).countPort d p 7).modHop d fun h => { h with
    fcOwed := if o.quanta = 0 then sdel h.fcOwed p else sset h.fcOwed p { o with due := false, sentAt := s.now } }

theorem State.now_countPort (s : State) (d p i n : Nat) : (s.countPort d p i n).now = s.now :=
  ((State.keepsTraffic.refl s).count d ctrPORT (8 * p + i) n).now

theorem State.sendFc_port (o : FcOwed) (hp : p < 32) : s.sendFc d p p o = s.pauseSent d p o := by
  unfold State.sendFc
  dsimp only
  rw [if_neg (Nat.not_le.mpr hp), State.now_countPort]
  rfl

/-- A PAUSE frame leaves what the port owes for its priorities. -/
theorem State.fcOwed_pauseSent (s : State) {d p k : Nat} (o : FcOwed) (hd : d < 8) (hk : p < k) :
    sget ((s.pauseSent d p o).die d).hop.fcOwed k = sget (s.die d).hop.fcOwed k := by
  have hop : (((s.emit (.pause d p false 0 o.quanta)).countPort d p 7).die d).hop = (s.die d).hop :=
    State.proj_count Die.hop (fun _ _ => rfl) ..
  simp only [State.pauseSent, State.hop_modHop _ _ hd, hop]
  split
  · exact sget_sdel_below _ hk
  · exact sget_sset_ne _ _ (by omega)

/-- Where a port owes nothing for its priorities, its own frame alone can go. -/
theorem State.fcSends_port {o : FcOwed} (due : State → FcOwed → Bool) (hd : d < 8) (hp : p < 32)
    (ho : sget (s.die d).hop.fcOwed p = some o)
    (hpri : ∀ q : Nat, q < 8 → sget (s.die d).hop.fcOwed (32 + 8 * p + q) = none) :
    s.fcSends d p due = if due s o = true then s.pauseSent d p o else s := by
  have first : State.fcSend d p due s p = if due s o = true then s.pauseSent d p o else s := by
    rw [State.fcSend, ho, ← State.sendFc_port o hp]
  have idle : ∀ q ∈ List.range 8,
      sget ((if due s o = true then s.pauseSent d p o else s).die d).hop.fcOwed (32 + 8 * p + q) = none := by
    intro q hq
    have hs := hpri q (List.mem_range.mp hq)
    split
    · rwa [State.fcOwed_pauseSent s o hd (by omega)]
    · exact hs
  rw [State.fcSends, fcKeys, List.foldl_cons, first, List.foldl_map]
  generalize (if due s o = true then s.pauseSent d p o else s) = t at idle ⊢
  refine List.foldlRecOn (motive := fun u => u = t) _ _ rfl fun u hu q hq => ?_
  rw [hu, State.fcSend, idle q hq]

end

end Sys2Proof.Machine
end

section
/-! PROOFS. Flow control. -/

namespace Sys2Proof.Machine

open Sys2Proof

/-- Settles O41: a received frame moves the port's pauses, and of what is owed the port's own frame alone can go. -/
theorem flowControlIsObeyedAndSent : Obligations.FlowControlIsObeyedAndSent := by
  refine ⟨?_, ?_, ?_, ?_, ?_⟩
  · -- PAUSE_FRAME_RECEIVE of a PAUSE
    intro s d p q enable qs h hp hon
    rw [exec_pauseFrameReceive h hp, State.pauseReceive_pause q qs _ hon]
    rfl
  · -- PAUSE_FRAME_RECEIVE of a PFC frame
    intro s d p enable times h hp hon
    refine ⟨{ (s.die d).hop with pausedTo := s.pfcPut d p times (s.die d).hop.pausedTo (maskList enable.toNat 8) }, ?_, rfl,
      fun q hq hb ht => s.sget_pfcPut ht (List.mem_filter.mpr ⟨List.mem_range.mpr hq, hb⟩) _⟩
    rw [exec_pauseFrameReceive h hp, State.pauseReceive_pfc _ _ hon]
    rfl
  · -- PAUSE_EXPIRE
    intro s d p pri t h hp key ht
    cases pri with
    | none => exact exec_pauseExpire h hp ht
    | some q => exact exec_pauseExpire h hp ht
  · -- PAUSE_SEND and PAUSE_REPEAT
    intro s d p o h hp hon hidle ho hpri sent
    have hlt : p < 32 := (of_decide_eq_true hp).trans (by decide)
    have free : ¬(s.txBusy d p || !s.rxOn d p) = true := by simp [State.txBusy, hidle, hon]
    have sends := fun due => State.fcSends_port due (State.has_lt h.1) hlt ho hpri
    rw [exec_pauseSend h hp, exec_pauseRepeat h hp, if_neg free, if_neg free, sends, sends]
    refine ⟨fun hdue => ?_, fun hdue => ?_, fun hdue hat => ?_⟩
    · rw [if_pos hdue]
      rfl
    · rw [if_neg (Bool.eq_false_iff.mp hdue)]
    · rw [if_pos (by simp [State.fcHalfOver, hdue, hat])]
      rfl
  · -- a port that is sending or that is down
    intro s d p h hp hbusy
    have busy : (s.txBusy d p || !s.rxOn d p) = true := by simpa [State.txBusy] using hbusy
    rw [exec_pauseSend h hp, exec_pauseRepeat h hp, if_pos busy, if_pos busy]
    exact ⟨rfl, rfl⟩

end Sys2Proof.Machine
end

section
/-! SUPPORT. Reception: what line data, the sluice, the cells, the end of a frame and its admission come to. -/

namespace Sys2Proof.Machine

open Sys2Proof

section
variable {s : State} {d p : Nat}

/-! ### Line data (R46, R51, R59) -/

theorem exec_frameFirstCell (h : s.live d) (hp : (isMac p || isTgp d p) = true) (line : Line) :
    exec (.frameFirstCell d p line) s = .next (s.keep ((s.frameFirstCell d p line).settle d)) :=
  onPort_live (p := p) h hp fun s => s.frameFirstCell d p line

theorem exec_cellAllocate (h : s.live d) (hp : (isMac p || isTgp d p) = true) (line : Line) :
    exec (.cellAllocate d p line) s = .next (s.keep ((s.rxMore d p line).settle d)) :=
  onPort_live (p := p) h hp fun s => s.rxMore d p line

theorem State.frameFirstCell_starts (line : Line) (hon : s.rxOn d p = true) (hn : sget (s.die d).hop.rx p = none) :
    s.frameFirstCell d p line = if kindOf line = s.lineKind d p then s.rxTake d p (s.rxStart d p) line else s := by
  simp [State.frameFirstCell, hon, hn]

theorem State.frameFirstCell_off (line : Line) (hoff : s.rxOn d p = false) : s.frameFirstCell d p line = s :=
  if_pos (by simp [hoff])

theorem State.rxMore_frame {f : RxFrame} (line : Line) (hf : sget (s.die d).hop.rx p = some f) :
    s.rxMore d p line = if kindOf line = s.lineKind d p then s.rxTake d p f line else s := by
  simp [State.rxMore, hf]

/-! ### The sluice (R48, R49, R63) -/

theorem State.rxDecide_early {f : RxFrame} (hp : isMac p = true) (hn : f.octets.length < 15) :
    s.rxDecide d p f = (s, f) :=
  if_pos (by simp [rxKnown, hp, hn])

theorem State.rxDecide_control {f : RxFrame} (hf : f.decided = false) (hp : isMac p = true) (hn : 15 ≤ f.octets.length)
    (ht : beNat ((f.octets.drop 12).take 2) = 0x8808) : s.rxDecide d p f = (s, { f with decided := true, ctl := true }) := by
  have hc : isControl f.octets = true := by simp [isControl, ht, Nat.le_of_succ_le hn]
  have hk : rxKnown p f = true := by simp [rxKnown, hn]
  simp [State.rxDecide, hf, hk, hp, hc]

/-- A frame that is no MAC control frame is discarded where the sluice is closed for it and no flow control covers it. -/
theorem State.rxDecide_sluice {f : RxFrame} (hf : f.decided = false)
    (hk : isMac p = false ∨ 15 ≤ f.octets.length ∧ beNat ((f.octets.drop 12).take 2) ≠ 0x8808) :
    s.rxDecide d p f =
      let pri := if isMac p then s.rxPri d p f.octets else 0
      let g := { f with decided := true, pri := pri }
      if (s.die d).hop.shut p pri = true ∧ s.rxFc d p pri = false then
        (s.countDiscard d p rSLUICE, { g with discard := rSLUICE })
      else (s, g) := by
  have known : rxKnown p f = true := by
    rcases hk with hm | ⟨hn, -⟩
    · simp [rxKnown, hm]
    · simp [rxKnown, hn]
  have data : ¬(isMac p && isControl f.octets) = true := by
    rcases hk with hm | ⟨-, ht⟩
    · simp [hm]
    · simp [isControl, ht]
  unfold State.rxDecide
  rw [if_neg (by simp [hf, known]), if_neg data]
  simp

/-! ### The first cell of a frame (R58, R64) -/

theorem State.fld_modHop (s : State) (d e : Nat) (f : Hopper → Hopper) (r : RegId) (ix : List Nat) (lo w : Nat) :
    (s.modHop d f).fld e r ix lo w = s.fld e r ix lo w := by
  rw [State.fld, State.reg_modHop, State.fld]

theorem State.rxMax_modHop (f : Hopper → Hopper) : (s.modHop d f).rxMax d p = s.rxMax d p := by
  simp only [State.rxMax, State.fld_modHop]

theorem State.noCell_modHop {f : Hopper → Hopper} (hd : d < 8) (hf : (f (s.die d).hop).cellUse = (s.die d).hop.cellUse) :
    (s.modHop d f).noCell d p = s.noCell d p := by
  rw [State.noCell, State.fld_modHop, State.hop_modHop _ _ hd, Hopper.occ, Hopper.free, hf]
  rfl

/-- A frame with the cells that its octets need takes no more. -/
theorem State.rxGrow_full {f : RxFrame} (n : Nat) (hc : ceilDiv (min f.octets.length (s.rxMax d p)) 128 ≤ f.cells.length) :
    s.rxGrow d p n f = s.modHop d fun h => { h with rx := sset h.rx p f } := by
  cases n with
  | zero => rfl
  | succ n => exact if_pos (by simp [hc])

/-- A frame that is received takes a cell for octets beyond those of its cells. -/
theorem State.rxGrow_takes {f : RxFrame} (n : Nat) (hf : f.discard = 0) (hctl : f.ctl = false) (hdec : f.decided = true)
    (hc : f.cells.length < ceilDiv (min f.octets.length (s.rxMax d p)) 128) (hroom : s.noCell d p = false) :
    s.rxGrow d p (n + 1) f =
      let r := s.takeCell d { port := some p, pri := f.pri }
      r.2.rxGrow d p n { f with cells := f.cells ++ [r.1] } :=
  (if_neg (by simp [hf, hctl, hdec, hc])).trans (if_neg (by simp [hroom]))

theorem State.rx_rxStore (s : State) (d p : Nat) : ((s.rxStore d p).die d).hop.rx = (s.die d).hop.rx := by
  unfold State.rxStore
  split
  · rfl
  · exact s.proj_modDie (fun x => x.hop.rx) d d _ rfl

/-- The first octets of a frame that passed the sluice lie in one cell (R58). -/
theorem State.rxTake_first {f : RxFrame} {o : List Byte} (hd : d < 8) (hf : f.discard = 0) (hdec : f.decided = true)
    (hctl : f.ctl = false) (hcells : f.cells = []) (ho : o ≠ []) (hlen : (f.octets ++ o).length ≤ 128)
    (hmax : 0 < s.rxMax d p) (hroom : s.noCell d p = false) :
    ∃ c : Nat, sget ((s.rxTake d p f (.octets o)).die d).hop.rx p =
      some { f with octets := f.octets ++ o, lastBit := s.now, cells := [c] } := by
  let g : RxFrame := { f with octets := f.octets ++ o, lastBit := s.now }
  let t := s.modHop d fun h => { h with lineSeen := sset h.lineSeen p s.now }
  have hdecide : s.rxDecide d p g = (s, g) := if_pos (by simp [g, hdec])
  have hpos : 0 < (f.octets ++ o).length := List.length_pos_of_ne_nil (by simp [ho])
  have needs : g.cells.length < ceilDiv (min g.octets.length (t.rxMax d p)) 128 := by
    simp only [g, t, hcells, State.rxMax_modHop, ceilDiv, List.length_nil]
    omega
  have fits : ∀ m : Nat, ceilDiv (min (f.octets ++ o).length m) 128 ≤ 1 := by
    intro m
    simp only [ceilDiv]
    omega
  have htake : s.rxTake d p f (.octets o) = (t.rxGrow d p (g.octets.length + 1) g).rxStore d p := by
    unfold State.rxTake
    rw [show { s.rxFeed d p f (.octets o) with lastBit := s.now } = g from rfl, hdecide]
  refine ⟨(t.takeCell d { port := some p, pri := g.pri }).1, ?_⟩
  rw [htake, State.rx_rxStore,
    State.rxGrow_takes (f := g) _ hf hctl hdec needs ((State.noCell_modHop hd rfl).trans hroom)]
  dsimp only
  rw [State.rxGrow_full _ (by simpa [g, hcells] using fits _)]
  simp only [State.hop_modHop _ _ hd, sget_sset_self, g, hcells, List.nil_append]

/-! ### The end of a frame (R46, R47, R53, R54) -/

theorem exec_ethernetFrameReceive {f : RxFrame} {rest : Line} (h : s.live d) (hp : isMac p = true) (hon : s.rxOn d p = true)
    (hf : sget (s.die d).hop.rx p = some f) (hk : kindOf rest = 0) (err : Bool) :
    exec (.ethernetFrameReceive d p rest err) s =
      .next (s.keep (((s.rxTake d p f rest).ethernetEnd d p err).settle d)) := by
  have kind : kindOf rest = s.lineKind d p := by rw [hk, State.lineKind, if_pos hp]
  refine (onPort_live (p := p) h hp _).trans (next_settle_congr d ?_)
  rw [if_pos (by simp [hon, kind]), State.rxMore_frame rest hf, if_pos kind]

theorem State.ethernetEnd_frame {g : RxFrame} (err : Bool) (hg : sget (s.die d).hop.rx p = some g) :
    s.ethernetEnd d p err =
      let n := g.octets.length
      if err ∨ n < 64 ∨ leNat (g.octets.drop (n - 4)) ≠ crc32 (g.octets.take (n - 4)) then s.rxDiscard d p rFCS
      else if s.rxMax d p < n then s.rxDiscard d p rLENGTH
      else if g.ctl then (s.modHop d fun h => { h with rx := sdel h.rx p }).controlReceive d p g.octets
      else s.rxDone d p 2 := by
  simp [State.ethernetEnd, hg, fcsGood, or_assoc]

theorem exec_telegramFrameReceive {f : RxFrame} {rest : Line} (h : s.live d) (hp : isTgp d p = true) (hon : s.rxOn d p = true)
    (hf : sget (s.die d).hop.rx p = some f) (hk : kindOf rest = s.lineKind d p) :
    exec (.telegramFrameReceive d p rest) s = .next (s.keep (((s.rxTake d p f rest).telegramEnd d p).settle d)) := by
  refine (onPort_live (p := p) h hp _).trans (next_settle_congr d ?_)
  rw [if_pos (by simp [hon, hk]), State.rxMore_frame rest hf, if_pos hk]

theorem State.telegramEnd_frame {g : RxFrame} (hg : sget (s.die d).hop.rx p = some g) :
    s.telegramEnd d p =
      let n := s.tgpFcs d p
      if g.abort ∨ g.esc then (s.rxDiscard d p rFCS).countPort d p 7
      else if s.rxMax d p < g.octets.length then s.rxDiscard d p rLENGTH
      else if g.bad ∨ g.part ≠ [] ∨ g.octets.length < n + 1 ∨ telegramFcsGood n g.octets = false then s.rxDiscard d p rFCS
      else s.rxDone d p (if n = 4 then 2 else 1) := by
  simp [State.telegramEnd, hg, or_assoc]

theorem exec_telegramAbort {f : RxFrame} (h : s.live d) (hp : isTgp d p = true) (hf : sget (s.die d).hop.rx p = some f) :
    exec (.telegramAbort d p) s = .next (s.keep (((s.rxDiscard d p rFCS).countPort d p 7).settle d)) := by
  refine (onPort_live (p := p) h hp _).trans (next_settle_congr d ?_)
  rw [hf]

theorem exec_gapTimeout {f : RxFrame} (h : s.live d) (hp : isTgp d p = true) (hf : sget (s.die d).hop.rx p = some f)
    (hgap : s.fld d .tgpGap [p - 16] 0 16 * 1000000000 < (s.now - f.lastBit) * s.fld d .tgpRate [p - 16] 0 25) :
    exec (.gapTimeout d p) s = .next (s.keep ((s.rxDiscard d p rGAP).settle d)) := by
  refine (onPort_live (p := p) h hp _).trans (next_settle_congr d ?_)
  rw [hf]
  exact if_pos hgap

/-! ### Admission (R58, R61) -/

theorem exec_frameAdmit (h : s.live d) : exec (.frameAdmit d) s = .next (s.keep ((s.frameAdmit d).settle d)) :=
  onDieS_live h fun s => s.frameAdmit d

theorem State.frameAdmit_next {pid : Nat} {rest : List Nat} {k : Packet} (hc : (s.die d).hop.complete = pid :: rest)
    (hb : s.blocked d = false) (hk : s.pkt d pid = some k) :
    s.frameAdmit d = (s.modHop d fun h => { h with complete := rest }).admitAt d (k.port % 32) pid := by
  simp [State.frameAdmit, hc, hb, hk]

theorem State.frameAdmit_blocked (hb : s.blocked d = true) : s.frameAdmit d = s := by
  unfold State.frameAdmit
  cases (s.die d).hop.complete with
  | nil => rfl
  | cons pid rest => exact if_pos hb

end

end Sys2Proof.Machine
end

section
/-! PROOFS. Reception. -/

namespace Sys2Proof.Machine

open Sys2Proof

/-- Settles O39: each command takes the frame through one function of the port, whose branches are taken one by one. -/
theorem receivedFramesAreStoredOrDiscarded : Obligations.ReceivedFramesAreStoredOrDiscarded := by
  refine ⟨?_, ?_, ?_, ?_, ?_, ?_, ?_, ?_, ?_, ?_⟩
  · -- FRAME_FIRST_CELL on a port that receives
    intro s d p line h hp hon hn f
    exact (exec_frameFirstCell h hp line).trans (next_settle_congr d (State.frameFirstCell_starts line hon hn))
  · -- FRAME_FIRST_CELL on a port that does not
    intro s d p line h hp hoff
    exact (exec_frameFirstCell h hp line).trans (next_settle_congr d (State.frameFirstCell_off line hoff))
  · -- CELL_ALLOCATE
    intro s d p line f h hp hf
    exact (exec_cellAllocate h hp line).trans (next_settle_congr d (State.rxMore_frame line hf))
  · -- the sluice
    intro s d p f hf pri g
    exact ⟨State.rxDecide_early, State.rxDecide_control hf, State.rxDecide_sluice hf⟩
  · -- the first cell
    intro s d p f o hd hf hdec hctl hcells ho hlen hmax hroom
    obtain ⟨c, hc⟩ := State.rxTake_first hd hf hdec hctl hcells ho hlen hmax hroom
    exact ⟨_, c, hc, rfl, rfl, hf, rfl⟩
  · -- ETHERNET_FRAME_RECEIVE
    intro s d p rest err f g h hp hon hf hk u n hg hmax
    rw [exec_ethernetFrameReceive h hp hon hf hk, State.ethernetEnd_frame err hg, hmax]
  · -- TELEGRAM_FRAME_RECEIVE
    intro s d p rest f g h hp hon hf hk u n hg
    exact (exec_telegramFrameReceive h hp hon hf hk).trans (next_settle_congr d (State.telegramEnd_frame hg))
  · -- TELEGRAM_ABORT and GAP_TIMEOUT
    intro s d p f h hp hf
    exact ⟨exec_telegramAbort h hp hf, exec_gapTimeout h hp hf⟩
  · -- FRAME_ADMIT
    intro s d pid rest k h hc hb hk
    exact (exec_frameAdmit h).trans (next_settle_congr d (State.frameAdmit_next hc hb hk))
  · intro s d h hb
    exact (exec_frameAdmit h).trans (next_settle_congr d (State.frameAdmit_blocked hb))

end Sys2Proof.Machine
end

section
/-! SUPPORT. Stations 3 to 5: extraction, classification, moves between dies and instantiation, and the registers that enable
profiles, selectors and graphs. -/

namespace Sys2Proof.Machine

open Sys2Proof

variable {s : State} {d : Nat}

/-! ### Extraction (R66, R77) -/

theorem State.pkt_modHop (f : Hopper → Hopper) (pid : Nat) (hd : d < 8)
    (hf : (f (s.die d).hop).packets = (s.die d).hop.packets) : (s.modHop d f).pkt d pid = s.pkt d pid := by
  rw [State.pkt, State.hop_modHop _ _ hd, hf, State.pkt]

/-- What the extractor makes of a packet goes to its default action, to the fingerpost, or to the classifier. -/
def State.extracted (s : State) (d : Nat) (r : Staged × Option Nat) : State :=
  match r.2 with
  | some reason => s.defaultStage d r.1 reason
  | none => if r.1.lookup = 0 then s.fingerpost d r.1
      else s.modHop d fun h => { h with extracted := h.extracted ++ [r.1] }

theorem exec_extract {pid : Nat} {rest : List Nat} {p : Packet} (h : s.live d) (ha : (s.die d).hop.admitted = pid :: rest)
    (hp : s.pkt d pid = some p) :
    exec (.extract d) s = .next (s.keep (State.settle (
      let u := s.modHop d fun h => { h with admitted := rest }
      u.extracted d (u.extractOf d pid p)) d)) := by
  have hpkt := (State.pkt_modHop (s := s) (fun h => { h with admitted := rest }) pid (State.has_lt h.1) rfl).trans hp
  refine (onDieS_live h fun s => s.extract d).trans (next_settle_congr d ?_)
  simp only [State.extract, ha, hpkt]
  generalize (s.modHop d fun h => { h with admitted := rest }).extractOf d pid p = r
  obtain ⟨st, reason⟩ := r
  cases reason with
  | none => rfl
  | some reason => rfl

/-! ### Classification (R241) -/

theorem exec_classifierLookup {u : State} {st : Staged} {r : LookRes} (h : s.live d) (hn : s.frameNext d = some st)
    (hl : s.lookupFor d 12 st.pid st.table st.key false = (u, some r)) :
    exec (.classifierLookup d) s = .next (s.keep (((u.modHop d fun h => { h with
      extracted := h.extracted.erase st }).classified d st r).settle d)) := by
  refine (onDieS_live h _).trans (next_settle_congr d ?_)
  simp only [hn, hl]

/-- The words of a frame whose lookup hits. -/
def Staged.hitWords (st : Staged) (r : LookRes) : List Word :=
  (((setOutcome st.words 0 0).set 24 (r.2.getD 0 0)).set 25 (r.2.getD 1 0)).set 26 (r.2.getD 2 0)

theorem Staged.hitWords_result {st : Staged} (r : LookRes) (h : 27 ≤ st.words.length) {j : Nat} (hj : j < 3) :
    (st.hitWords r)[24 + j]? = some (r.2.getD j 0) := by
  have h24 : 24 < st.words.length := by omega
  have h25 : 25 < st.words.length := by omega
  have h26 : 26 < st.words.length := by omega
  match j, hj with
  | 0, _ => simp [Staged.hitWords, setOutcome, h24]
  | 1, _ => simp [Staged.hitWords, setOutcome, h25]
  | 2, _ => simp [Staged.hitWords, setOutcome, h26]

theorem State.classified_poisoned {st : Staged} {r : LookRes} (h : r.1 = 2) :
    s.classified d st r = s.dropPkt d st.pid rPOISON := if_pos h

theorem State.classified_hit {st : Staged} {r : LookRes} (h : r.1 = 0) :
    s.classified d st r = s.fingerpost d { st with
      words := st.hitWords r
      graph := if bit (r.2.getD 3 0).toNat 8 then bits (r.2.getD 2 0).toNat 28 8 else bits (r.2.getD 3 0).toNat 0 8 } := by
  simp [State.classified, h, Staged.hitWords]

theorem State.classified_miss {st : Staged} {r : LookRes} (h : r.1 = 1) (hd : bit (r.2.getD 3 0).toNat 9 = false) :
    s.classified d st r = s.fingerpost d { st with words := setOutcome st.words 1 0 } := by
  simp only [State.classified, h, hd]
  rfl

/-! ### Frames bound for the dispatcher stay there: reads of units, crossings and the taking of cells -/

/-- Two states have the same frames waiting for the dispatcher of every die. -/
structure State.keepsToInst (s t : State) : Prop where
  toInst : ∀ e : Nat, (t.die e).hop.toInst = (s.die e).hop.toInst

section
variable {t u : State}

theorem State.keepsToInst.refl (s : State) : s.keepsToInst s := ⟨fun _ => rfl⟩

theorem State.keepsToInst.trans (h : s.keepsToInst t) (h' : t.keepsToInst u) : s.keepsToInst u :=
  ⟨fun e => (h'.toInst e).trans (h.toInst e)⟩

theorem State.keepsToInst.modDie (h : s.keepsToInst t) (d : Nat) (f : Die → Die)
    (hf : (f (t.die d)).hop.toInst = (t.die d).hop.toInst) : s.keepsToInst (t.modDie d f) :=
  h.trans ⟨fun e => t.proj_modDie (fun x => x.hop.toInst) d e f hf⟩

theorem State.keepsToInst.modHop (h : s.keepsToInst t) (d : Nat) (f : Hopper → Hopper)
    (hf : (f (t.die d).hop).toInst = (t.die d).hop.toInst) : s.keepsToInst (t.modHop d f) :=
  h.modDie d _ hf

theorem State.keepsToInst.setReg (h : s.keepsToInst t) (d : Nat) (r : RegId) (ix : List Nat) (v : Nat) :
    s.keepsToInst (t.setReg d r ix v) :=
  h.modDie d _ rfl

/-- What lies outside the dies may change. -/
theorem State.keepsToInst.of_dies (h : s.keepsToInst t) (hd : u.dies = t.dies) : s.keepsToInst u :=
  h.trans ⟨fun e => by rw [State.die, hd, State.die]⟩

theorem State.keepsToInst.count (h : s.keepsToInst t) (d b i n : Nat) : s.keepsToInst (t.count d b i n) :=
  h.trans ⟨fun e => State.proj_count (fun x => x.hop.toInst) (fun _ _ => rfl) t d b i n e⟩

theorem State.keepsToInst.event (h : s.keepsToInst t) (d : Nat) (b : EvBlock) (i : Nat) :
    s.keepsToInst (t.event d b i) := by
  have set : s.keepsToInst (t.setReg d (evRegs b).1 [] (putBit (t.reg d (evRegs b).1 []) i true)) := h.modDie d _ rfl
  unfold State.event
  rcases t.watch_cases d (evSource b) fun s => s.setReg d (evRegs b).1 [] (putBit (s.reg d (evRegs b).1 []) i true) with
    hw | hw <;> rw [hw]
  · exact set
  · unfold State.sendMsix
    dsimp only
    split
    · split
      · exact set.setReg ..
      · exact (set.of_dies (State.emit_dies ..)).count ..
    · exact set

theorem State.keepsToInst.journalBy (h : s.keepsToInst t) (d kind reason w4 w5 w6 : Nat) :
    s.keepsToInst (t.journalBy d kind reason w4 w5 w6) := by
  unfold State.journalBy State.journalRec
  split
  · split
    · exact h.of_dies rfl
    · exact (h.of_dies (u := { t with journalLost := min 255 (t.journalLost + 1) }) rfl).setReg ..
  · exact h

theorem State.keepsToInst.errRecord (h : s.keepsToInst t) (d : Nat) (r : ErrRec) : s.keepsToInst (t.errRecord d r) := by
  have put : s.keepsToInst (if r.kind = 0 && !bit (t.reg d .eccCfg []) 1 then t
      else if (t.die d).errRing.length < 256 then t.modDie d fun x => { x with errRing := x.errRing ++ [r] }
      else (t.count d ctrECC 11).event d .ecc 3) := by
    split
    · exact h
    · split
      · exact h.modDie d _ rfl
      · exact (h.count ..).event ..
  unfold State.errRecord
  dsimp only
  split
  · exact put
  · exact put.journalBy ..

theorem State.keepsToInst.poisonUnit (h : s.keepsToInst t) (d store cluster unit : Nat) :
    s.keepsToInst (t.poisonUnit d store cluster unit) := by
  unfold State.poisonUnit
  split
  case h_8 => exact h
  all_goals exact h.modDie d _ rfl

theorem State.keepsToInst.readUnit (h : s.keepsToInst t) (d store cluster unit : Nat) (demand : Bool) :
    s.keepsToInst (t.readUnit d store cluster unit demand) := by
  have counted : s.keepsToInst (if t.unitPoison d store cluster unit demand then t.count d ctrECC 2 else t) := by
    split
    · exact h.count ..
    · exact h
  unfold State.readUnit
  generalize (if t.unitPoison d store cluster unit demand then t.count d ctrECC 2 else t) = u at counted ⊢
  have failed := fun (r : ErrRec) => ((counted.count d ctrECC 4 1).errRecord d r)
  dsimp only
  split
  · exact counted
  split
  · exact State.keepsToInst.modDie ((counted.count ..).errRecord ..) d _ rfl
  split
  · split
    · exact counted
    · refine State.keepsToInst.modDie (State.keepsToInst.poisonUnit ?_ ..) d _ rfl
      split
      · exact ((failed _).event ..).event ..
      · exact (failed _).event ..
  · exact (failed _).event ..

theorem State.keepsToInst.readCells (s : State) (d : Nat) (cells : List Nat) : s.keepsToInst (s.readCells d cells) :=
  List.foldlRecOn (motive := s.keepsToInst) _ _ (State.keepsToInst.refl s) fun _ h _ _ => h.readUnit ..

theorem State.keepsToInst.zeroCells (h : s.keepsToInst t) (d : Nat) (cells : List Nat) :
    s.keepsToInst (t.zeroCells d cells) := by
  unfold State.zeroCells
  exact h.modDie d _ rfl

theorem State.keepsToInst.takeCell (h : s.keepsToInst t) (d : Nat) (c : Charge) : s.keepsToInst (t.takeCell d c).2 := by
  have drawn : s.keepsToInst (t.pick ((t.die d).hop.cellUse.map (·.1)) poolCells).2 := h.of_dies rfl
  unfold State.takeCell State.allocNow
  exact ((drawn.modHop d _ rfl).modHop d _ rfl).zeroCells ..

theorem State.keepsToInst.takeCells (h : s.keepsToInst t) (d : Nat) (c : Charge) (n : Nat) :
    s.keepsToInst (t.takeCells d c n).2 := by
  induction n generalizing t with
  | zero => exact h
  | succ n ih => exact ih (h.takeCell d c)

theorem State.keepsToInst.newPkt (h : s.keepsToInst t) (d : Nat) (p : Packet) : s.keepsToInst (t.newPkt d p).2 :=
  h.modHop d (fun h => { h with
    packets := sset h.packets (t.die d).hop.nextPid p, nextPid := (t.die d).hop.nextPid + 1 }) rfl

theorem State.keepsToInst.crossGo (h : s.keepsToInst t) (cur dst n fuel : Nat) : s.keepsToInst (t.crossGo cur dst n fuel) := by
  induction fuel generalizing t cur with
  | zero => exact h
  | succ fuel ih =>
    unfold State.crossGo
    split
    · exact h
    · cases t.nextLink cur dst with
      | none => exact h
      | some k =>
        have counted := (h.count cur ctrTWX (4 * k) n).count (farEnd t.fuses.dies cur k) ctrTWX (4 * k + 1) n
        dsimp only
        refine ih (counted.of_dies ?_) _
        rfl

theorem State.keepsToInst.crossCells (h : s.keepsToInst t) (src dst n : Nat) : s.keepsToInst (t.crossCells src dst n) := by
  unfold State.crossCells
  dsimp only
  split
  · have drawn : s.keepsToInst (t.choose (t.crossBound src dst n + 1)).2 := h.of_dies rfl
    exact (drawn.crossGo ..).setReg ..
  · exact h

theorem State.keepsToInst.copyCells (h : s.keepsToInst t) (src dst : Nat) (cells new : List Nat) :
    s.keepsToInst (t.copyCells src dst cells new) := by
  obtain ⟨cs, hc⟩ := t.countCells_spec src cells
  unfold State.copyCells
  rw [hc]
  exact ((h.modDie src (fun x => { x with ctrs := cs }) rfl).modHop dst _ rfl).crossCells ..

end

/-! ### Moves between dies (R26, R60) -/

theorem State.length_takeCells (s : State) (d : Nat) (c : Charge) (n : Nat) : (s.takeCells d c n).1.length = n := by
  induction n generalizing s with
  | zero => rfl
  | succ n ih => exact congrArg (· + 1) (ih _)

theorem State.dies_linkGranted (s : State) (d x : Nat) (move : Bool) : (s.linkGranted d x move).dies = s.dies := by
  unfold State.linkGranted
  split <;> rfl

/-- A packet of a die is written to another die: the number it gets there, and the state with both. -/
def State.moveIn (s : State) (d x : Nat) (p : Packet) : Nat × State :=
  let t := (s.linkGranted d x true).readCells d p.cells
  let r := t.takeCells x { port := none } p.cells.length
  (r.2.copyCells d x p.cells r.1).newPkt x { p with cells := r.1, refs := 0, held := true }

/-- A packet that lies on another die leaves: its ticket names the new holder, and the frame waits for the dispatcher there. -/
def State.moveOut (s : State) (d : Nat) (st : Staged) (rest : List Staged) (p : Packet) (pid : Nat) : State :=
  let s := (s.freeCells d p.cells).modHop d fun h => { h with toMove := rest, packets := sdel h.packets st.pid }
  let s := s.setBoard d (p.port % 32)
    (setPending (fun t => { t with holder := st.target, pid := pid }) p.ticket (s.board d (p.port % 32)))
  s.modHop st.target fun h => { h with toInst := h.toInst ++ [{ st with pid := pid }] }

theorem exec_hopperMove {st : Staged} {rest : List Staged} {p : Packet} (h : s.live d)
    (hm : (s.die d).hop.toMove = st :: rest) (hp : s.pkt d st.pid = some p)
    (hcross : s.canCross d st.target p.cells.length = true) (hl : s.linkGrants d st.target true = true)
    (hgate : s.delayGate d 0 200 st.pid = (s, true)) :
    exec (.hopperMove d) s = .next (s.keep
      (((s.moveIn d st.target p).2.moveOut d st rest p (s.moveIn d st.target p).1).settle d)) := by
  refine (onDieS_live h _).trans (next_settle_congr d ?_)
  simp only [hm, hp, hcross, hl, hgate, Bool.not_true, Bool.or_self, Bool.false_eq_true, if_false, State.moveIn,
    State.moveOut]

/-- The packet that arrives is the one that left, in as many cells, and the dispatchers' queues are as they were. -/
theorem State.moveIn_spec (s : State) (d : Nat) {x : Nat} (p : Packet) (hx : x < 8) :
    ∃ q : Packet, (s.moveIn d x p).2.pkt x (s.moveIn d x p).1 = some q ∧ q.len = p.len ∧ q.cells.length = p.cells.length ∧
      q.held = true ∧ s.keepsToInst (s.moveIn d x p).2 := by
  have read := ((State.keepsToInst.refl s).of_dies (s.dies_linkGranted d x true)).trans
    (State.keepsToInst.readCells (s.linkGranted d x true) d p.cells)
  have taken := read.takeCells x { port := none } p.cells.length
  have length := State.length_takeCells ((s.linkGranted d x true).readCells d p.cells) x { port := none } p.cells.length
  unfold State.moveIn
  dsimp only
  generalize ((s.linkGranted d x true).readCells d p.cells).takeCells x { port := none } p.cells.length = r at taken length ⊢
  have copied := taken.copyCells d x p.cells r.1
  refine ⟨{ p with cells := r.1, refs := 0, held := true }, ?_, rfl, length, rfl, ?_⟩
  · simp only [State.newPkt, State.pkt, State.hop_modHop _ _ hx, sget_sset_self]
  · exact copied.newPkt ..

/-- A frame that has moved is off its die's queue and packets, and last in the queue of the other die. -/
theorem State.moveOut_spec (s : State) {d : Nat} {st : Staged} (rest : List Staged) (p : Packet) (pid : Nat) (hd : d < 8)
    (hx : st.target < 8) (hne : st.target ≠ d) :
    let u := s.moveOut d st rest p pid
    (u.die d).hop.toMove = rest ∧ u.pkt d st.pid = none ∧ u.pkt st.target pid = s.pkt st.target pid ∧
      (u.die st.target).hop.toInst = (s.die st.target).hop.toInst ++ [{ st with pid := pid }] := by
  have far : ∀ (t : State) (f : Hopper → Hopper), (t.modHop d f).die st.target = t.die st.target :=
    fun t f => t.die_modDie_ne _ hne
  have near : ∀ (t : State) (f : Hopper → Hopper), (t.modHop st.target f).die d = t.die d :=
    fun t f => t.die_modDie_ne _ hne.symm
  dsimp only
  unfold State.moveOut State.setBoard State.freeCells
  refine ⟨?_, ?_, ?_, ?_⟩
  · rw [near, State.hop_modHop _ _ hd, State.hop_modHop _ _ hd]
  · rw [State.pkt, near, State.hop_modHop _ _ hd, State.hop_modHop _ _ hd]
    exact sget_sdel_gone ..
  · rw [State.pkt, State.hop_modHop _ _ hx, far, far, far, State.pkt]
  · rw [State.hop_modHop _ _ hx, far, far, far]

/-! ### Instantiation (R91 to R93, R112) -/

theorem exec_instantiate {st : Staged} {rest : List Staged} (h : s.live d) (hi : (s.die d).hop.toInst = st :: rest)
    (hr : s.readGraph d st.graph = s) (hf : (s.die d).dsp.fallbacks = []) (hg : s.graphLive d st.graph = true)
    (hroom : s.ingressRoom d st.graph = true) :
    exec (.instantiate d) s = .next (s.keep ((((s.modHop d fun h => { h with toInst := rest }).count d ctrDSP 0).createInst d
      { graph := st.graph, width := (s.die d).dsp.width st.graph, words := stagedWords st, pid := some st.pid
        ingress := true, fp := st.fp }).settle d)) := by
  have hdsp : ((s.modHop d fun h => { h with toInst := rest }).die d).dsp = (s.die d).dsp :=
    s.proj_modDie Die.dsp d d _ rfl
  refine (onDieS_live h fun s => s.instantiate d).trans (next_settle_congr d ?_)
  simp [State.instantiate, hi, hr, hf, hg, hroom, hdsp]

theorem exec_fallbackInstantiate {f : Fallback} {rest : List Fallback} (h : s.live d)
    (hf : (s.die d).dsp.fallbacks = f :: rest) (hr : s.readGraph d f.graph = s) (hg : s.graphLive d f.graph = true)
    (hw : (s.die d).dsp.width f.graph ≤ (s.die d).dsp.free) :
    exec (.fallbackInstantiate d) s = .next (s.keep ((((s.modDsp d fun y => { y with fallbacks := rest }).count d ctrDSP
      2).createInst d { graph := f.graph, width := (s.die d).dsp.width f.graph, words := stagedWords f.staged
                        pid := some f.staged.pid, fallback := f.marked, fp := f.staged.fp }).settle d)) := by
  refine (onDieS_live h fun s => s.fallbackInst d).trans (next_settle_congr d ?_)
  simp [State.fallbackInst, hf, hr, hg, hw]

/-! ### The registers of profiles, selectors and graphs (R70, R71, R88) -/

theorem exec_profileEnable {pr : Nat} (h : s.hostReaches d) (hp : pr < 64) (v : Dword) :
    exec (.profileEnable d pr v) s = .next (s.keep ((s.profCtlWrite d pr (putBit v.toNat 0 true)).settle d)) :=
  onHostS_reached h (decide_eq_true hp) fun s => s.profCtlWrite d pr (putBit v.toNat 0 true)

theorem exec_profileDisable {pr : Nat} (h : s.hostReaches d) (hp : pr < 64) (v : Dword) :
    exec (.profileDisable d pr v) s = .next (s.keep ((s.profCtlWrite d pr (putBit v.toNat 0 false)).settle d)) :=
  onHostS_reached h (decide_eq_true hp) fun s => s.profCtlWrite d pr (putBit v.toNat 0 false)

/-- Bit 0 of a register's value is that of the number written. -/
theorem bit_bits_zero (n : Nat) {w : Nat} (hw : 0 < w) : bit (bits n 0 w) 0 = bit n 0 := by
  rw [bit_eq_bits, bits_bits_low n (by omega), bit_eq_bits]

theorem State.profCtlWrite_enable {pr : Nat} (n : Nat) (hoff : bit (s.reg d .hopProfCtl [pr]) 0 = false) :
    s.profCtlWrite d pr (putBit n 0 true) = if 64 < s.profKeyLen d pr then s.violation d
      else s.setReg d .hopProfCtl [pr] (putBit n 0 true % 2 ^ 26) := by
  have hon : bit (bits (putBit n 0 true) 0 26) 0 = true := by rw [bit_bits_zero _ (by decide), bit_putBit_self]
  simp [State.profCtlWrite, hoff, hon]
  simp [bits]

theorem State.profCtlWrite_disable {pr : Nat} (n : Nat) (hon : bit (s.reg d .hopProfCtl [pr]) 0 = true) :
    s.profCtlWrite d pr (putBit n 0 false) =
      s.setReg d .hopProfCtl [pr] (putBit (s.reg d .hopProfCtl [pr]) 0 false) := by
  simp [State.profCtlWrite, hon, bit_bits_zero _ (by decide : 0 < 26), bit_putBit_self]

theorem exec_selectorDisable {e : Nat} (h : s.hostReaches d) (he : e < 64) (v : Dword)
    (hon : bit (s.reg d .hopSelAct [e]) 0 = true) :
    exec (.selectorDisable d e v) s = .next (s.keep ((s.setReg d .hopSelAct [e]
      (putBit (s.reg d .hopSelAct [e]) 0 false)).settle d)) := by
  refine (onHostS_reached h (decide_eq_true he) fun s => s.selActWrite d e (putBit v.toNat 0 false)).trans
    (next_settle_congr d ?_)
  simp [State.selActWrite, hon, bit_bits_zero _ (by decide : 0 < 15), bit_putBit_self]

theorem exec_graphEnable {g : Nat} (h : s.hostReaches d) (hg : g < 256) :
    exec (.graphEnable d g) s = .next (s.keep (State.settle (if s.graphOn d g = false ∧ s.graphBad d g = true then s.violation d
      else s.setReg d .dspGraphCtl [g] 1) d)) := by
  refine (onHostS_reached h (decide_eq_true hg) fun s => s.graphCtlWrite d g 1).trans (next_settle_congr d ?_)
  simp [State.graphCtlWrite, bit, bits]

end Sys2Proof.Machine
end

section
/-! PROOFS. Stations 3 to 5. -/

namespace Sys2Proof.Machine

open Sys2Proof

/-- Settles O42: each command is one change of the stations, a lookup's answer is taken case by case, and a frame that moves
is followed to the other die and out of this one. -/
theorem framesAreClassifiedAndInstantiated : Obligations.FramesAreClassifiedAndInstantiated := by
  refine ⟨?_, ?_, ?_, ?_, ?_, ?_, ?_, ?_⟩
  · -- EXTRACT
    intro s d pid rest p h ha hp u r
    exact exec_extract h ha hp
  · -- CLASSIFIER_LOOKUP
    intro s u d st r h hn hl v cls
    have hlook := exec_classifierLookup h hn hl
    refine ⟨fun hr => hlook.trans (next_settle_congr d (State.classified_poisoned hr)), fun hr => ⟨st.hitWords r, ?_, ?_⟩,
      fun hr hb => hlook.trans (next_settle_congr d (State.classified_miss hr hb))⟩
    · exact hlook.trans (next_settle_congr d (State.classified_hit hr))
    · exact fun hlen j hj => Staged.hitWords_result r hlen hj
  · -- HOPPER_MOVE
    intro s d st rest p h hm hp hne hheld hreach hroom hl hgate
    have hcross : s.canCross d st.target p.cells.length = true := by simp [State.canCross, hheld, hreach, hroom]
    have hx : st.target < 8 := State.reach_lt hreach
    obtain ⟨q, hq, hlen, hcells, hhold, hinst⟩ := s.moveIn_spec d p hx
    obtain ⟨hmove, hgone, hpkt, htoInst⟩ := (s.moveIn d st.target p).2.moveOut_spec rest p (s.moveIn d st.target p).1
      (State.has_lt h.1) hx hne
    exact ⟨_, _, q, exec_hopperMove h hm hp hcross hl hgate, hmove, hgone, hpkt.trans hq, hlen, hcells, hhold,
      htoInst.trans (congrArg (· ++ _) (hinst.toInst st.target))⟩
  · -- INSTANTIATE
    intro s d st rest h hi hr hf hg hroom
    exact exec_instantiate h hi hr hf hg hroom
  · -- FALLBACK_INSTANTIATE
    intro s d f rest h hf hr hg hw
    exact exec_fallbackInstantiate h hf hr hg hw
  · -- PROFILE_ENABLE and PROFILE_DISABLE
    intro s d pr v h hp
    exact ⟨fun hoff => (exec_profileEnable h hp v).trans (next_settle_congr d (State.profCtlWrite_enable _ hoff)),
      fun hon => (exec_profileDisable h hp v).trans (next_settle_congr d (State.profCtlWrite_disable _ hon))⟩
  · exact fun s d e v h he hon => exec_selectorDisable h he v hon
  · exact fun s d g h hg => exec_graphEnable h hg

end Sys2Proof.Machine
end

section
/-! SUPPORT. Egress: the choice of a frame, its transmission and release, the read-ahead of a spilled packet, and the form of
what a line carries. -/

namespace Sys2Proof.Machine

open Sys2Proof

variable {s : State} {d p : Nat}

/-! ### Changes of a tailrace and of a queue -/

theorem State.egr_modEgr (s : State) {d : Nat} (f : Egress → Egress) (hd : d < 8) :
    ((s.modEgr d f).die d).egr = f (s.die d).egr :=
  congrArg Die.egr (s.die_modDie _ hd)

theorem State.hop_modEgr (s : State) (d e : Nat) (f : Egress → Egress) : ((s.modEgr d f).die e).hop = (s.die e).hop :=
  s.proj_modDie Die.hop d e _ rfl

theorem State.queue_setQueue (s : State) {d : Nat} (q : Nat) (x : Queue) (hd : d < 8) : (s.setQueue d q x).queue d q = x := by
  rw [State.queue, State.setQueue, State.egr_modEgr _ _ hd, sgetD_sset_self]

theorem State.queue_modHop (s : State) (d e q : Nat) (f : Hopper → Hopper) : (s.modHop d f).queue e q = s.queue e q :=
  s.proj_modDie (fun x => sgetD x.egr.queues q {}) d e _ rfl

theorem State.queue_modEgr (s : State) (d e q : Nat) {f : Egress → Egress} (hf : ∀ x, (f x).queues = x.queues) :
    (s.modEgr d f).queue e q = s.queue e q :=
  s.proj_modDie (fun x => sgetD x.egr.queues q {}) d e _ (congrArg (sgetD · q {}) (hf _))

theorem State.queue_count (s : State) (d b i n e q : Nat) : (s.count d b i n).queue e q = s.queue e q :=
  State.proj_count (fun x => sgetD x.egr.queues q {}) (fun _ _ => rfl) s d b i n e

/-! ### The deficit round robin (R310) -/

/-- The bytes that the frame at a queue's head needs of its deficit. -/
def State.headBytes (s : State) (d p q : Nat) : Nat :=
  match (s.queue d q).head with | some e => e.a.enq.drrBytes p | none => 0

/-- A queue alone in the round gets as many turns as its head frame needs, and none that it does not. -/
theorem State.drr_alone (s : State) (d p q m : Nat) (df : Store Nat) (hdf : ∀ v : Nat, sset df q v = [(q, v)])
    (hm : s.headBytes d p q ≤ sgetD df q (s.queue d q).deficit + m * s.quantum d q) :
    ∃ n : Nat, s.drr d p (m + 1) [q] df =
        some (q, [(q, sgetD df q (s.queue d q).deficit + n * s.quantum d q - s.headBytes d p q)]) ∧
      (s.headBytes d p q ≤ sgetD df q (s.queue d q).deficit → n = 0) ∧
      s.headBytes d p q ≤ sgetD df q (s.queue d q).deficit + n * s.quantum d q := by
  have step : ∀ (m : Nat) (df : Store Nat), s.drr d p (m + 1) [q] df =
      if s.headBytes d p q ≤ sgetD df q (s.queue d q).deficit then
        some (q, sset df q (sgetD df q (s.queue d q).deficit - s.headBytes d p q))
      else s.drr d p m [q] (sset df q (sgetD df q (s.queue d q).deficit + s.quantum d q)) := fun _ _ => rfl
  induction m generalizing df with
  | zero =>
    have hle : s.headBytes d p q ≤ sgetD df q (s.queue d q).deficit := by simpa using hm
    exact ⟨0, by rw [step, if_pos hle, hdf]; simp, fun _ => rfl, by simpa using hm⟩
  | succ m ih =>
    by_cases hle : s.headBytes d p q ≤ sgetD df q (s.queue d q).deficit
    · exact ⟨0, by rw [step, if_pos hle, hdf]; simp, fun _ => rfl, by simpa using hle⟩
    · have hdf' : ∀ v : Nat, sset (sset df q (sgetD df q (s.queue d q).deficit + s.quantum d q)) q v = [(q, v)] :=
        fun v => (sset_sset ..).trans (hdf v)
      have turn : ∀ n : Nat, sgetD df q (s.queue d q).deficit + s.quantum d q + n * s.quantum d q =
          sgetD df q (s.queue d q).deficit + (n + 1) * s.quantum d q := fun n => by
        rw [Nat.succ_mul]
        omega
      obtain ⟨n, hn, -, hcov⟩ := ih _ hdf' (by rwa [sgetD_sset_self, turn])
      rw [sgetD_sset_self, turn] at hn hcov
      exact ⟨n + 1, by rw [step, if_neg hle, hn], fun h => absurd h hle, hcov⟩

/-- A frame's bytes for the round robin are fewer than 300 times the least quantum. -/
theorem Enq.drrBytes_le (e : Enq) (p : Nat) : e.drrBytes p ≤ 300 * 64 := by
  have hlen : e.len < 2 ^ 14 := Nat.mod_lt _ (by decide)
  unfold Enq.drrBytes Enq.macOctets
  split
  · dsimp only
    split <;> omega
  · omega

theorem State.quantum_ge (s : State) (d q : Nat) : 64 ≤ s.quantum d q :=
  Nat.le_mul_of_pos_right 64 (Nat.lt_of_lt_of_le Nat.zero_lt_one (Nat.le_max_left ..))

/-! ### The choice of a frame (R309, R310) -/

theorem exec_transmitSelect (h : s.live d) (hp : (isMac p || isTgp d p || p = 31) = true) :
    exec (.transmitSelect d p) s = .next (s.keep ((s.transmitSelect d p).settle d)) :=
  onPort_live (p := p) h hp fun s => s.transmitSelect d p

/-- The port queues of a port that are eligible (R309). -/
def State.eligibles (s : State) (d p : Nat) : List Nat := ((List.range 16).map (portBase p + ·)).filter (s.eligible d p)

theorem State.choosePort_nil (s : State) (d p : Nat) : s.choosePort d p [] = none := by
  have round : ∀ last : Option Nat, s.rrFrom d last [] = [] := fun last => by cases last <;> rfl
  simp [State.choosePort, round, State.drr]

theorem State.transmitSelect_waits (h : (sget (s.die d).egr.chosen p).isSome = true ∨
    (sget (s.die d).egr.sending p).isSome = true ∨ s.eligibles d p = []) : s.transmitSelect d p = s := by
  by_cases hbusy : ((sget (s.die d).egr.chosen p).isSome || (sget (s.die d).egr.sending p).isSome) = true
  · exact if_pos hbusy
  · have hk : s.eligibles d p = [] := by
      rw [Bool.or_eq_true] at hbusy
      exact (or_assoc.mpr h).resolve_left hbusy
    have none_left : s.selectGo d p 17 [] = (s, none) := by simp only [State.selectGo, State.choosePort_nil]
    refine (if_neg hbusy).trans ?_
    rw [State.eligibles] at hk
    simp only [hk, none_left]

/-- One port queue, alone in its set, is chosen after the turns that its head frame needs. -/
theorem State.choosePort_alone (s : State) (d p k : Nat) (hm : s.members d k = [k]) :
    ∃ n : Nat, s.choosePort d p [k] = some (k, [(k, (s.queue d k).deficit + n * s.quantum d k - s.headBytes d p k)]) ∧
      (s.headBytes d p k ≤ (s.queue d k).deficit → n = 0) ∧
      s.headBytes d p k ≤ (s.queue d k).deficit + n * s.quantum d k := by
  have round : ∀ last : Option Nat, s.rrFrom d last [k] = [k] := by
    intro last
    cases last with
    | none => rfl
    | some q =>
      by_cases hq : s.rrKey d q ≤ s.rrKey d k
      · simp [State.rrFrom, State.rrInsert, hq, Nat.not_lt.mpr hq]
      · simp [State.rrFrom, State.rrInsert, hq, Nat.lt_of_not_le hq]
  have choose : s.choosePort d p [k] = s.drr d p 301 [k] [] := by
    simp [State.choosePort, hm, round]
  have bytes : s.headBytes d p k ≤ 300 * 64 := by
    unfold State.headBytes
    split
    · exact Enq.drrBytes_le ..
    · exact Nat.zero_le _
  have enough : s.headBytes d p k ≤ (s.queue d k).deficit + 300 * s.quantum d k :=
    (bytes.trans (Nat.mul_le_mul_left 300 (s.quantum_ge d k))).trans (Nat.le_add_left ..)
  rw [choose]
  exact s.drr_alone d p k 300 [] (fun v => rfl) enough

/-- A chosen frame leaves its queue for its port. -/
def State.chooses (s : State) (d p k v : Nat) (e : QEntry) : State :=
  let t := (s.setQueue d k { s.queue d k with deficit := v }).takeHead d k
  (t.modEgr d fun x => { x with
    lastServed := sset x.lastServed (p * 8 + s.fld d .egrQCfg [k] 1 3) k, chosen := sset x.chosen p ⟨k, e, t.now⟩ }).handed d p e

theorem State.transmitSelect_one {k : Nat} {e : QEntry} (hc : sget (s.die d).egr.chosen p = none)
    (hs : sget (s.die d).egr.sending p = none) (hk : s.eligibles d p = [k]) (hlt : k < 512) (hm : s.members d k = [k])
    (hh : (s.queue d k).head = some e) (hguard : p ≠ 31 → s.guardOk d p (k % 16) e.a.enq = true)
    (hroom : p = 31 → s.recircRoom d e.a.enq = true) :
    ∃ n : Nat, s.transmitSelect d p =
        s.chooses d p k ((s.queue d k).deficit + n * s.quantum d k - e.a.enq.drrBytes p) e ∧
      (e.a.enq.drrBytes p ≤ (s.queue d k).deficit → n = 0) ∧
      e.a.enq.drrBytes p ≤ (s.queue d k).deficit + n * s.quantum d k := by
  have bytes : s.headBytes d p k = e.a.enq.drrBytes p := by rw [State.headBytes, hh]
  have own : s.portQueue d k = k := if_neg (Nat.not_le.mpr hlt)
  obtain ⟨n, hn, hzero, hcov⟩ := s.choosePort_alone d p k hm
  rw [bytes] at hn hzero hcov
  have guarded : ¬(p ≠ 31 && !s.guardOk d p (k % 16) e.a.enq) = true := by simpa [or_iff_not_imp_left] using hguard
  have stopped : ¬(p = 31 && !s.recircRoom d e.a.enq) = true := by simpa using hroom
  have select : s.selectGo d p 17 [k] =
      (s, some (k, [(k, (s.queue d k).deficit + n * s.quantum d k - e.a.enq.drrBytes p)])) := by
    simp only [State.selectGo, hn, own, hh, if_neg guarded, if_neg stopped]
  refine ⟨n, ?_, hzero, hcov⟩
  unfold State.transmitSelect
  rw [State.eligibles] at hk
  simp only [hc, hs, hk, select, hh, own]
  rfl

/-- The port holds the chosen frame, and its queue has lost it and the bytes that it cost. -/
theorem State.chooses_spec (s : State) {d : Nat} (p k v : Nat) (e : QEntry) (hd : d < 8) :
    sget ((s.chooses d p k v e).die d).egr.chosen p = some ⟨k, e, s.now⟩ ∧
      ((s.chooses d p k v e).queue d k).entries = (s.queue d k).entries.tail ∧
      ((s.chooses d p k v e).queue d k).deficit = if (s.queue d k).entries.length ≤ 1 then 0 else v := by
  have handed : ∀ t : State, ((t.handed d p e).die d).egr = (t.die d).egr :=
    fun t => ((State.keepsTraffic.refl t).handed d p e).egr d
  have left : (s.chooses d p k v e).queue d k = { s.queue d k with
      entries := (s.queue d k).entries.tail, deficit := if (s.queue d k).entries.length ≤ 1 then 0 else v } := by
    rw [State.chooses, State.queue, handed, State.egr_modEgr _ _ hd]
    refine (State.queue_setQueue _ k _ hd).trans ?_
    rw [State.queue_setQueue _ k _ hd]
  refine ⟨?_, ?_, ?_⟩
  · simp only [State.chooses, handed, State.egr_modEgr _ _ hd, sget_sset_self]
    rfl
  · rw [left]
  · rw [left]

/-! ### Transmission (R307, R308, R312, R362) -/

theorem exec_portTransmit (h : s.live d) (hp : (isMac p || isTgp d p || p = 31) = true)
    (hs : sget (s.die d).egr.sending p = none) :
    exec (.portTransmit d p) s = .next (s.keep ((s.portTransmit d p).settle d)) := by
  refine (onPort_live (p := p) h hp _).trans (next_settle_congr d ?_)
  rw [hs]
  rfl

theorem exec_portTransmit_busy {c : Chosen} (h : s.live d) (hp : (isMac p || isTgp d p || p = 31) = true)
    (hs : sget (s.die d).egr.sending p = some c) :
    exec (.portTransmit d p) s = .next (s.keep (s.settle d)) := by
  refine (onPort_live (p := p) h hp _).trans (next_settle_congr d ?_)
  rw [hs]
  rfl

/-- A port starts to send the frame that it chose. -/
def State.startsSending (s : State) (d p : Nat) (c : Chosen) : State :=
  s.modEgr d fun x => { x with chosen := sdel x.chosen p, sending := sset x.sending p c }

/-- A queue without a shaper pays nothing for a frame, whatever else has changed than the registers. -/
theorem State.shapeTake_unshaped {t : State} {q : Nat} (n : Nat) (hreg : ∀ r ix, t.reg d r ix = s.reg d r ix)
    (h : s.fld d .egrQShape [s.portQueue d q] 0 29 = 0) : t.shapeTake d q n = t := by
  have hfld : ∀ r ix lo w, t.fld d r ix lo w = s.fld d r ix lo w := fun r ix lo w => by rw [State.fld, hreg, State.fld]
  refine if_pos ?_
  simpa only [State.portQueue, hfld] using h

section
variable {c : Chosen} {k : Packet}

/-- The first poisoned cell stops a frame before it starts (R362). -/
theorem State.portTransmit_poisoned (hne : p ≠ 31) (hc : sget (s.die d).egr.chosen p = some c)
    (hk : s.pkt d c.e.a.pid = some k) (hr : s.readCells d (c.e.a.enq.copied k.cells) = s)
    (hp : s.poisonAt d c.e.a.enq k.cells = some 0) :
    s.portTransmit d p = (((s.startsSending d p c).count d ctrECC 2).count d ctrECC 12).journalDrop d rPOISON c.e.a.port
      c.queue := by
  have cut : (s.startsSending d p c).poisonAt d c.e.a.enq k.cells = some 0 := by
    rwa [State.poisonAt, State.startsSending, State.hop_modEgr]
  unfold State.startsSending at cut ⊢
  simp [State.portTransmit, hc, hk, hne, hr, cut]

/-- A frame without poison is sent whole, with a MAC's timestamp and FCS or between a telegram's flags. -/
theorem State.portTransmit_whole (hne : p ≠ 31) (hc : sget (s.die d).egr.chosen p = some c)
    (hk : s.pkt d c.e.a.pid = some k) (hr : s.readCells d (c.e.a.enq.copied k.cells) = s)
    (hshape : s.fld d .egrQShape [s.portQueue d c.queue] 0 29 = 0) (hp : s.poisonAt d c.e.a.enq k.cells = none) :
    s.portTransmit d p =
      let e := c.e.a.enq
      let u := s.startsSending d p c
      let bs := (s.die d).hop.pktBytes k e.start e.len
      let out := if isMac p then macFrame e bs (s.txStamp d p) else bs
      let v := u.emit (if isMac p then .frame d p out false else u.telegramOut d p out false)
      ((if isMac p && e.stamp.isSome then v.count d ctrEGR 14 else v).countPort d p 5).countPort d p 6 out.length := by
  have hop : ((s.startsSending d p c).die d).hop = (s.die d).hop := State.hop_modEgr ..
  have time : ((s.startsSending d p c).die d).t0 = (s.die d).t0 := s.proj_modDie Die.t0 d d _ rfl
  have regs : ∀ r ix, (s.startsSending d p c).reg d r ix = s.reg d r ix := fun r ix => s.reg_modDie d d _ r ix rfl
  have cut : (s.startsSending d p c).poisonAt d c.e.a.enq k.cells = none := by rwa [State.poisonAt, hop]
  have stamp : (s.startsSending d p c).txStamp d p = s.txStamp d p := by
    rw [State.txStamp, State.time, time, State.fld, regs]
    rfl
  have unshaped : ∀ (o : Out) (n : Nat) (P : Prop) [Decidable P],
      (if P then ((s.startsSending d p c).emit o).count d ctrEGR 14 else (s.startsSending d p c).emit o).shapeTake d c.queue n =
        if P then ((s.startsSending d p c).emit o).count d ctrEGR 14 else (s.startsSending d p c).emit o := by
    intro o n P _
    refine State.shapeTake_unshaped (s := s) n (fun r ix => ?_) hshape
    split
    · exact (State.reg_count ..).trans (regs r ix)
    · exact regs r ix
  unfold State.startsSending at hop cut stamp unshaped ⊢
  simp [State.portTransmit, hc, hk, hne, hr, cut, hop, stamp, unshaped]

end

/-! ### Port 31 (R25, R64, R305) -/

theorem State.portTransmit_recirculates {c : Chosen} {k : Packet} (hc : sget (s.die d).egr.chosen 31 = some c)
    (hk : s.pkt d c.e.a.pid = some k) :
    (s.recircRoom d c.e.a.enq = false → s.portTransmit d 31 = s) ∧
      (s.recircRoom d c.e.a.enq = true → s.readCells d (c.e.a.enq.copied k.cells) = s → s.portTransmit d 31 =
        (((s.startsSending d 31 c).recirculate d c.e.a.enq k).shapeTake d c.queue c.e.a.enq.len).countPort d 31 6
          c.e.a.enq.len) := by
  refine ⟨fun hroom => ?_, fun hroom hr => ?_⟩
  · simp [State.portTransmit, hc, hk, hroom]
  · simp [State.portTransmit, hc, hk, hroom, hr, State.startsSending]

/-! ### Release (R53, R305) -/

theorem State.reg_dropRef (s : State) (d pid e : Nat) (r : RegId) (ix : List Nat) :
    (s.dropRef d pid).reg e r ix = s.reg e r ix := by
  have counted : ∀ f : Packet → Packet, (s.modPkt d pid f).reg e r ix = s.reg e r ix := by
    intro f
    unfold State.modPkt
    split
    · exact State.reg_modHop ..
    · rfl
  refine Eq.trans ?_ (counted fun p => { p with refs := p.refs - 1 })
  unfold State.dropRef
  generalize (s.modPkt d pid fun p => { p with refs := p.refs - 1 }) = t
  unfold State.reap State.freeCells
  split
  · split
    · rw [State.reg_modHop, State.reg_modHop]
    · rfl
  · rfl

theorem State.reg_modEgr (s : State) (d e : Nat) (f : Egress → Egress) (r : RegId) (ix : List Nat) :
    (s.modEgr d f).reg e r ix = s.reg e r ix :=
  s.reg_modDie d e _ r ix rfl

theorem exec_enqueueTransmitted {c : Chosen} (h : s.live d) (hp : (isMac p || isTgp d p || p = 31) = true)
    (hs : sget (s.die d).egr.sending p = some c) :
    exec (.enqueueTransmitted d p) s = .next (s.keep (State.settle (
      let u := (s.modEgr d fun x => { x with sending := sdel x.sending p }).dropRef d c.e.a.pid
      if isTgp d p then (u.modEgr d fun x => { x with tgpEnd := sset x.tgpEnd p s.now }).emit
        (.telegramIdle d p (bit (s.reg d .tgpCfg [p - 16]) 7)) else u) d)) := by
  refine (onPort_live (p := p) h hp _).trans (next_settle_congr d ?_)
  rw [hs]
  dsimp only
  split
  · rw [State.tgpIdle, State.reg_modEgr, State.reg_dropRef, State.reg_modEgr, ((State.keepsTraffic.refl _).dropRef ..).now]
    rfl
  · rfl

/-! ### Read-ahead (R319, R320) -/

theorem exec_readAheadRefill {q : Nat} (h : s.live d) (hq : q < 4096) :
    exec (.readAheadRefill d q) s = .next (s.keep ((s.readAhead d q).settle d)) :=
  onPort_live (p := 0) h (decide_eq_true hq) fun s => s.readAhead d q

section
variable {q : Nat} {e : QEntry}

theorem State.readAhead_none (h : ((s.queue d q).entries.find? fun e => !e.spill.isEmpty) = none) : s.readAhead d q = s := by
  unfold State.readAhead
  simp only [h]

theorem State.readAhead_full (h : ((s.queue d q).entries.find? fun e => !e.spill.isEmpty) = some e)
    (hr : (s.queue d q).refills = false) (hb : e.back = false ∨ e.cells ≤ 64) :
    s.readAhead d q = s.setQueue d q { s.queue d q with refill := false } := by
  have full : ¬64 < e.cells ∨ e.back = false := hb.symm.imp_left Nat.not_lt.mpr
  unfold State.readAhead
  simp only [h, hr, Bool.false_or]
  exact if_pos (by simpa [and_comm, or_comm] using full)

/-- A queue's first cell in DRAM comes back to the buffer (R320). -/
theorem State.unspill_fetched {u z : State} {g c : Nat} {gs : List Nat} {k : Packet} {bs : List Byte} {bad : Bool}
    (hg : e.spill = g :: gs) (hk : s.pkt d e.a.pid = some k)
    (hfree : (s.die d).hop.free ≠ 0 ∨ e.cells - e.spill.length < k.cells.length)
    (hf : s.dramFetch d (s.spillAddr d g) false (some (400 + q)) = (u, some (bs, bad))) (hc : u.aheadCell d e k = (z, some c)) :
    s.unspill d q e false =
      (((z.modHop d fun h => { h with
          buf := Memory.writeBytes h.buf (c * 128) bs, poison := if bad then mark h.poison c else h.poison }).modEgr d
        fun y => { y with spillUsed := y.spillUsed.erase g }).count d ctrEGR 6, some { e with spill := gs }) := by
  have room : ¬((s.die d).hop.free = 0 ∧ k.cells.length ≤ e.cells - (gs.length + 1)) := by
    rw [hg, List.length_cons] at hfree
    omega
  simp [State.unspill, hg, hk, room, hf, hc]

theorem State.readAhead_returns {u z : State} {g c : Nat} {gs : List Nat} {es : List QEntry} {k : Packet} {bs : List Byte}
    {bad : Bool} (hd : d < 8) (hes : (s.queue d q).entries = e :: es) (hg : e.spill = g :: gs) (hb : e.back = true)
    (hrt : bit (s.reg d .egrQCfg [q]) 5 = false) (hr : (s.queue d q).refills = true ∨ 64 < e.cells) :
    let y := { s.queue d q with refill := (s.queue d q).refills }
    let v := (s.setQueue d q y).setQueue d q y
    v.pkt d e.a.pid = some k → (v.die d).hop.free ≠ 0 ∨ e.cells - e.spill.length < k.cells.length →
    v.dramFetch d (v.spillAddr d g) false (some (400 + q)) = (u, some (bs, bad)) → u.aheadCell d e k = (z, some c) →
    (z.queue d q).entries = e :: es →
    let w := z.modHop d fun h => { h with
      buf := Memory.writeBytes h.buf (c * 128) bs, poison := if bad then mark h.poison c else h.poison }
    let x := (w.modEgr d fun y => { y with spillUsed := y.spillUsed.erase g }).count d ctrEGR 6
    s.readAhead d q = x.setQueue d q { x.queue d q with
      entries := { e with spill := gs } :: es
      spilling := ({ e with spill := gs } :: es).any fun y => !y.spill.isEmpty } := by
  intro y v hk hfree hf hc hz w x
  have spilled : (!e.spill.isEmpty) = true := by rw [hg]; rfl
  have refills : ¬((s.queue d q).refills = false ∧ e.cells ≤ 64) := fun ⟨hno, hle⟩ =>
    hr.elim (by simp [hno]) (Nat.not_lt.mpr hle)
  have calm : (s.setQueue d q y).aheadPanic d q = false := by
    rw [State.aheadPanic, State.setQueue, State.reg_modEgr, hrt]
    simp
  have same : replaceFirst (fun y => !y.spill.isEmpty) e (s.queue d q).entries = (s.queue d q).entries := by
    rw [hes, replaceFirst, if_pos spilled]
  have back : v.unspill d q e false = (x, some { e with spill := gs }) := State.unspill_fetched hg hk hfree hf hc
  have left : (x.queue d q).entries = e :: es := by
    rw [State.queue_count, State.queue_modEgr, State.queue_modHop]
    · exact hz
    · exact fun _ => rfl
  have find : (s.queue d q).entries.find? (fun e => !e.spill.isEmpty) = some e := by
    rw [hes]
    exact List.find?_cons_of_pos spilled
  simp only [y, v] at back calm
  simp [State.readAhead, find, refills, hb, calm, State.queue_setQueue _ _ _ hd, same, back, left, replaceFirst, spilled]

end

/-! ### The form of what is sent (R51, R307) -/

/-- A frame without a timestamp and with the FCS to add is padded to 60 bytes, and its FCS follows (R307). -/
theorem macFrame_padded {e : Enq} {bs : List Byte} (t : Nat) (hs : e.stamp = none) (hf : e.fcsMode = 0) :
    macFrame e bs t = bs ++ List.replicate (60 - bs.length) 0 ++ natLE 4 (crc32 (bs ++ List.replicate (60 - bs.length) 0)) := by
  simp only [macFrame, hs, hf]

/-- After n ones in a row the stuffed bits begin with at most 5 - n ones (R51). -/
theorem stuffBits_ones_le (bs : List Bool) {n m : Nat} (hn : n < 5) {post : List Bool}
    (h : stuffBits n bs = List.replicate m true ++ post) : n + m ≤ 5 := by
  induction bs generalizing n m with
  | nil =>
    have hm : m = 0 := by
      have := congrArg List.length h
      simp [stuffBits] at this
      omega
    omega
  | cons b bs ih =>
    cases m with
    | zero => omega
    | succ m =>
      rw [List.replicate_succ, List.cons_append] at h
      cases b with
      | false => simp [stuffBits] at h
      | true =>
        by_cases h4 : n = 4
        · subst h4
          cases m with
          | zero => omega
          | succ m => simp [stuffBits, List.replicate_succ] at h
        · have ht : stuffBits (n + 1) bs = List.replicate m true ++ post := by simpa [stuffBits, h4] using h
          have := ih (by omega) ht
          omega

/-- No six ones stand in a row in stuffed bits (R51). -/
theorem stuffBits_no_six (bs : List Bool) {n : Nat} (hn : n < 5) (pre post : List Bool) :
    stuffBits n bs ≠ pre ++ List.replicate 6 true ++ post := by
  induction bs generalizing n pre with
  | nil => simp [stuffBits]
  | cons b bs ih =>
    intro h
    cases pre with
    | nil =>
      have := stuffBits_ones_le (b :: bs) hn h
      omega
    | cons x pre =>
      cases b with
      | false => exact ih (by decide) pre (List.cons.inj h).2
      | true =>
        by_cases h4 : n = 4
        · rw [stuffBits, if_pos rfl, if_pos h4] at h
          obtain ⟨-, ht⟩ := List.cons.inj h
          cases pre with
          | nil => exact absurd (List.cons.inj ht).1 (by decide)
          | cons y pre => exact ih (by decide) pre (List.cons.inj ht).2
        · rw [stuffBits, if_pos rfl, if_neg h4] at h
          exact ih (by omega) pre (List.cons.inj h).2

end Sys2Proof.Machine
end

section
/-! PROOFS. The tailrace's ports and queues. -/

namespace Sys2Proof.Machine

open Sys2Proof

/-- Settles O45: a queue alone in its round is chosen after the turns that its head frame needs; what a port sends, releases
and reads ahead is one change of the tailrace each; and no six ones pass the bit stuffing, by induction on the bits. -/
theorem framesAreChosenAndSent : Obligations.FramesAreChosenAndSent := by
  refine ⟨?_, ?_, ?_, ?_, ?_, ?_, ?_, ?_, ?_⟩
  · -- TRANSMIT_SELECT
    intro s d p h hp
    have hsel := exec_transmitSelect h hp
    refine ⟨fun hwait => hsel.trans (next_settle_congr d (State.transmitSelect_waits hwait)), ?_⟩
    intro k e hc hs hk hlt hm hh hguard hroom
    obtain ⟨n, hone, hzero, hcov⟩ := State.transmitSelect_one hc hs hk hlt hm hh hguard hroom
    obtain ⟨hchosen, hentries, hdeficit⟩ :=
      s.chooses_spec p k ((s.queue d k).deficit + n * s.quantum d k - e.a.enq.drrBytes p) e (State.has_lt h.1)
    exact ⟨_, n, hsel.trans (next_settle_congr d hone), hchosen, hentries, hzero, hcov, hdeficit⟩
  · -- PORT_TRANSMIT on a line
    intro s d p c k h hp hne hs hc hk e hr hshape bs u
    have hsend := exec_portTransmit h (by rw [hp]; rfl) hs
    refine ⟨fun hclean hm => ?_, fun hclean hm => ?_, fun hpoison => ?_⟩
    · refine hsend.trans (next_settle_congr d ((State.portTransmit_whole hne hc hk hr hshape hclean).trans ?_))
      simp only [hm, if_true, Bool.true_and]
      rfl
    · refine hsend.trans (next_settle_congr d ((State.portTransmit_whole hne hc hk hr hshape hclean).trans ?_))
      simp only [hm, Bool.false_eq_true, if_false, Bool.false_and]
      rfl
    · exact hsend.trans (next_settle_congr d (State.portTransmit_poisoned hne hc hk hr hpoison))
  · -- PORT_TRANSMIT of port 31
    intro s d c k h hs hc hk
    have hsend := exec_portTransmit h (p := 31) (by simp) hs
    obtain ⟨hwaits, hloops⟩ := State.portTransmit_recirculates hc hk
    exact ⟨fun hroom => hsend.trans (next_settle_congr d (hwaits hroom)),
      fun hroom hr => hsend.trans (next_settle_congr d (hloops hroom hr))⟩
  · -- ENQUEUE_TRANSMITTED
    intro s d p c h hp hs u
    exact ⟨exec_enqueueTransmitted h hp hs, exec_portTransmit_busy h hp hs⟩
  · -- READ_AHEAD_REFILL without a spilled packet
    intro s d q h hq hnone
    exact (exec_readAheadRefill h hq).trans (next_settle_congr d (State.readAhead_none hnone))
  · -- READ_AHEAD_REFILL of a read-ahead that is full
    intro s d q e h hq hfirst hr hb
    exact (exec_readAheadRefill h hq).trans (next_settle_congr d (State.readAhead_full hfirst hr hb))
  · -- READ_AHEAD_REFILL of a cell
    intro s u z d q g c gs e es k bs bad h hq hes hg hb hrt hr y v hk hfree hf hc hz
    exact (exec_readAheadRefill h hq).trans
      (next_settle_congr d (State.readAhead_returns (State.has_lt h.1) hes hg hb hrt hr hk hfree hf hc hz))
  · exact fun e bs t hs hf _ => macFrame_padded t hs hf
  · exact fun n bs hn pre post => stuffBits_no_six bs hn pre post

end Sys2Proof.Machine
end

section
/-! SUPPORT. What an instruction that is done leaves when it changes more than its own thread: the clock, the fuses and the
queue stand, and beside the change there is only what issuing touches. -/

namespace Sys2Proof.Machine

open Sys2Proof

/-! ### What stands of every die, with the fuses, the time and the queue -/

/-- Two states have the same fuses, time and queue of commands, and `g` is the same of every die. -/
structure State.keepsOf {α : Type} (g : Die → α) (s t : State) : Prop where
  fuses : t.fuses = s.fuses
  now : t.now = s.now
  pending : t.pending = s.pending
  dies : ∀ e : Nat, g (t.die e) = g (s.die e)

/-- The cores of every die have the same cycles. -/
abbrev State.keepsClock (s t : State) : Prop := State.keepsOf Die.coreStart s t

section
variable {α : Type} {g : Die → α} {s t u : State}

theorem State.keepsOf.refl (g : Die → α) (s : State) : s.keepsOf g s := ⟨rfl, rfl, rfl, fun _ => rfl⟩

theorem State.keepsOf.trans (h : s.keepsOf g t) (h' : t.keepsOf g u) : s.keepsOf g u :=
  ⟨h'.fuses.trans h.fuses, h'.now.trans h.now, h'.pending.trans h.pending, fun e => (h'.dies e).trans (h.dies e)⟩

theorem State.keepsOf.modDie (h : s.keepsOf g t) (d : Nat) (f : Die → Die) (hf : g (f (t.die d)) = g (t.die d)) :
    s.keepsOf g (t.modDie d f) :=
  h.trans ⟨rfl, rfl, rfl, fun e => t.proj_modDie g d e f hf⟩

theorem State.keepsClock.refl (s : State) : s.keepsClock s := State.keepsOf.refl Die.coreStart s

theorem State.keepsClock.modDsp (h : s.keepsClock t) (d : Nat) (f : Dispatcher → Dispatcher) :
    s.keepsClock (t.modDsp d f) := h.modDie d (fun x => { x with dsp := f x.dsp }) rfl

theorem State.keepsClock.modHop (h : s.keepsClock t) (d : Nat) (f : Hopper → Hopper) : s.keepsClock (t.modHop d f) :=
  h.modDie d (fun x => { x with hop := f x.hop }) rfl

theorem State.keepsClock.slotCycle (h : s.keepsClock t) (d k : Nat) : t.slotCycle d k = s.slotCycle d k := by
  simp only [State.slotCycle, State.firstCycle, h.fuses, h.now, h.dies]

/-- What a command leaves of a state with its fuses, time and queue is that state. -/
theorem State.keepsOf.keep (h : s.keepsOf g t) : s.keep t = t := by
  rw [State.keep, ← h.fuses, ← h.now, ← h.pending]

theorem State.keepsClock.onlyThread (h : s.keepsClock t) (d k n : Nat) (cs : Store Ctr) (co : Store Core) (cl : Store Nat)
    (y : Thread) : s.keepsClock (t.onlyThread d k n cs co cl y) :=
  h.trans ⟨rfl, rfl, rfl, fun e => State.proj_modDie Die.coreStart { t with draws := n } d e _ rfl⟩

end

/-! ### One thread, and what issuing touches -/

/-- Beside what issuing touches, only one thread differs, and it is the given one. -/
structure State.leaves (s : State) (d k : Nat) (y : Thread) (t : State) : Prop where
  slim : s.slim d t
  others : ∀ v : Thread, sset (t.die d).threads k v = sset (s.die d).threads k v
  thr : t.thr d k = y

section
variable {s t : State} {d k : Nat} {y : Thread}

theorem State.leaves.refl (s : State) (d k : Nat) : s.leaves d k (s.thr d k) s := ⟨s.slim_refl d, fun _ => rfl, rfl⟩

theorem State.leaves.count (h : s.leaves d k y t) (b i n : Nat) : s.leaves d k y (t.count d b i n) :=
  ⟨State.slim_trans h.slim (t.slim_count d b i n), fun v => by rw [t.threads_count, h.others], by
    rw [State.thr, t.threads_count, ← h.thr, State.thr]⟩

/-- A violation of a die that the variant has is counted on it. -/
theorem State.leaves.violation (h : s.leaves d k y t) (hd : t.has d = true) : s.leaves d k y (t.violation d) := by
  rw [State.violation, hd, if_pos rfl]
  exact h.count ..

theorem State.leaves.setThr (h : s.leaves d k y t) (z : Thread) (h8 : d < 8) : s.leaves d k z (t.setThr d k z) := by
  have ht : ((t.setThr d k z).die d).threads = sset (t.die d).threads k z := by rw [State.setThr, State.die_modDie _ _ h8]
  exact ⟨State.slim_trans h.slim (t.slim_setThr d k z), fun v => by rw [ht, sset_sset, h.others],
    by rw [State.thr, ht, sgetD_sset_self]⟩

theorem State.leaves.modThr (h : s.leaves d k y t) (f : Thread → Thread) (h8 : d < 8) :
    s.leaves d k (f y) (t.modThr d k f) := by
  rw [State.modThr, h.thr]
  exact h.setThr _ h8

/-- Whatever else issuing touches, the state with the thread set again is the same. -/
theorem State.leaves.onlyThread (h : s.leaves d k y t) (n : Nat) (cs : Store Ctr) (co : Store Core) (cl : Store Nat)
    (z : Thread) (h8 : d < 8) : t.onlyThread d k n cs co cl z = s.onlyThread d k n cs co cl z := by
  have hset : (t.setThr d k z).onlyThread d k n cs co cl z = t.onlyThread d k n cs co cl z :=
    State.onlyThread_slim k n cs co cl z h8 (t.slim_setThr d k z) (by rw [State.setThr, State.die_modDie _ _ h8])
  refine hset.symm.trans (State.onlyThread_slim k n cs co cl z h8 (State.slim_trans h.slim (t.slim_setThr d k z)) (z := z) ?_)
  rw [State.setThr, State.die_modDie _ _ h8, h.others]

end

/-- The die of a thread that issues is fitted. -/
theorem State.issues.has {s : State} {t : Tid} {i : CoreInstr} (h : s.issues t i) : s.has t.die = true := by
  have hok := h.exists_
  simp only [tidOk, Bool.and_eq_true] at hok
  exact hok.1.1

/-- An instruction that is done, with `u` its change beside the thread, leaves `u` with the thread retired. -/
theorem State.exec_done {s u s' : State} {c : Instr} {t : Tid} {i : CoreInstr} {y : Thread} {pc : Option Nat}
    (h : s.issues t i) (hc : namesIssue c = some (t, i)) (hset : i.settles = false)
    (he : s.effect t.die (tkey t) i = .done s' pc) (hu : s.keepsClock u) (hl : u.leaves t.die (tkey t) y s') :
    ∃ n cs co cl, exec c s = .next (u.onlyThread t.die (tkey t) n cs co cl (y.after (pc.getD ((s.at_ t).pc + 1)) i.rounds)) := by
  have h8 : t.die < 8 := State.has_lt h.has
  have hs : s'.slotCycle t.die (tkey t) = s.slotCycle t.die (tkey t) :=
    (State.slotCycle_slim _ hl.slim).trans (hu.slotCycle ..)
  obtain ⟨n, cs, co, cl, hr⟩ := State.run_done_after h8 h.single hset hs he
  refine ⟨n, cs, co, cl, ?_⟩
  rw [h.exec hc, hr, hl.onlyThread n cs co cl _ h8, hl.thr, (hu.onlyThread ..).keep]
  rfl

/-! ### Several registers written -/

theorem Thread.wroteAll_refl (x : Thread) : x.wroteAll x fun _ => none := by
  refine ⟨rfl, fun r => ?_⟩
  by_cases hr : r = 0
  · rw [if_pos hr, hr, Thread.val_zero, Thread.tag_zero]
  · rw [if_neg hr, Option.getD_none]

/-- A further write of a register goes over what was written before. -/
theorem Thread.wroteAll_put {x y : Thread} {f : BitVec 5 → Option (Word × Bool)} (h : x.wroteAll y f) (d : BitVec 5)
    (v : Word) (p : Bool) : x.wroteAll (y.put d.toNat v p) fun r => if r = d then some (v, p) else f r := by
  obtain ⟨heq, hregs⟩ := h
  refine ⟨?_, fun r => ?_⟩
  · rw [Thread.put_eq, heq]
  · rw [Thread.val_put, Thread.tag_put]
    have hd : d.toNat = r.toNat ↔ r = d := by rw [BitVec.toNat_inj, eq_comm]
    dsimp only
    by_cases hr : r = 0
    · simpa [hr] using hregs 0
    · by_cases hrd : r = d
      · rw [if_pos ⟨hd.mpr hrd, hr⟩, if_pos ⟨hd.mpr hrd, hr⟩, if_neg hr, if_pos hrd, Option.getD_some]
      · rw [if_neg fun e => hrd (hd.mp e.1), if_neg fun e => hrd (hd.mp e.1), if_neg hrd, hregs]

theorem postRegs_false (x : Thread) (a : BitVec 5) (unit : Nat) : postRegs x a false unit = fun _ => none := by
  funext r
  simp [postRegs]

theorem postRegs_true (x : Thread) (a : BitVec 5) (unit : Nat) :
    postRegs x a true unit = fun r => if r = a then some (x.val a + BitVec.ofNat 36 unit, false) else none := by
  funext r
  simp [postRegs]

theorem Thread.post_wroteAll (x : Thread) (p : Bool) (a : BitVec 5) (unit : Nat) :
    x.wroteAll (x.post p a unit) (postRegs x a p unit) := by
  cases p with
  | false =>
    rw [postRegs_false]
    exact x.wroteAll_refl
  | true =>
    rw [postRegs_true]
    exact Thread.wroteAll_put x.wroteAll_refl a (x.val a + BitVec.ofNat 36 unit) false

/-- A load writes its register over the pointer's post-increment. -/
theorem Thread.load_wroteAll (x : Thread) (p : Bool) (d a : BitVec 5) (unit : Nat) (v : Word × Bool) :
    x.wroteAll ((x.post p a unit).put d.toNat v.1 v.2) (loadRegs x d a p unit v) :=
  Thread.wroteAll_put (x.post_wroteAll p a unit) d v.1 v.2

end Sys2Proof.Machine
end

section
/-! SUPPORT. The words of the cluster store and the bytes of a packet as a thread reads and writes them: its bank, its region,
its window. -/

namespace Sys2Proof.Machine

open Sys2Proof

variable {s u : State} {d k : Nat}

/-! ### Units that are read (R357) -/

/-- A unit without an inverted bit is read: what it holds is counted when it is poison. -/
theorem State.readUnit_unflipped {store cl unit : Nat} (q : Bool) (h : (s.die d).flips (unitKey store cl unit) = 0) :
    s.readUnit d store cl unit q = if s.unitPoison d store cl unit q then s.count d ctrECC 2 else s := by
  have hz : flipCount 0 = 0 := by decide
  have hf : ((if s.unitPoison d store cl unit q then s.count d ctrECC 2 else s).die d).flips (unitKey store cl unit) = 0 := by
    split
    · exact (State.proj_count (fun x => x.flips (unitKey store cl unit)) (fun _ _ => rfl) s d ctrECC 2 1 d).trans h
    · exact h
  simp only [State.readUnit, hf, hz, if_true]

/-! ### Banks (R121) -/

theorem State.keepsClock.bankTake (h : s.keepsClock u) (d k b : Nat) : s.keepsClock (u.bankTake d k b) := h.modDie d _ rfl

theorem State.thr_bankTake (s : State) (d k b j : Nat) : (s.bankTake d k b).thr d j = s.thr d j :=
  s.proj_modDie (fun x => sgetD x.threads j {}) d d _ rfl

theorem State.csRead_bankTake (s : State) (d k b cl a : Nat) : (s.bankTake d k b).csRead d cl a = s.csRead d cl a :=
  s.proj_modDie (fun x => (sgetD x.cstore (cl * 262144 + a) 0, x.cstorePoison.contains (cl * 262144 + a))) d d _ rfl

theorem State.flips_bankTake (s : State) (d k b key : Nat) : ((s.bankTake d k b).die d).flips key = (s.die d).flips key :=
  s.proj_modDie (fun x => x.flips key) d d _ rfl

/-- An access to one word whose bank is ready has it in this fabric cycle. -/
theorem State.withBanks_ready {t : Tid} {a : Nat} (f : State → Eff) (hreg : (s.at_ t).region a = true)
    (hb : s.bankReady t a) : s.withBanks t.die (tkey t) [a] f = f (s.banksTaken t [a]) := by
  obtain ⟨hopen, hwanted⟩ := hb
  have hreg' : (s.thr t.die (tkey t)).region a = true := hreg
  simp [State.withBanks, hreg', hopen, hwanted, State.banksTaken]

/-- An access outside the region takes no bank. -/
theorem State.withBanks_outside {a : Nat} (f : State → Eff) (hreg : (s.thr d k).region a = false) :
    s.withBanks d k [a] f = f s := by
  simp [State.withBanks, hreg]

/-! ### Words of the cluster store (R127, R157, R162) -/

/-- A load of a whole word of the region reads it, and nothing but a count changes. -/
theorem State.csLoad_inside {a : Nat} (hreg : (s.thr d k).region a = true)
    (hf : (s.die d).flips (unitKey 2 (k / 64) a) = 0) :
    ∃ v : State, s.csLoad d k a = (v, s.csRead d (k / 64) a) ∧ s.leaves d k (s.thr d k) v := by
  rw [State.csLoad, if_pos hreg]
  dsimp only
  rw [State.readUnit_unflipped true hf]
  split
  · refine ⟨s.count d ctrECC 2, ?_, (State.leaves.refl s d k).count ..⟩
    rw [State.csRead, State.csRead, State.proj_count Die.cstore (fun _ _ => rfl),
      State.proj_count Die.cstorePoison (fun _ _ => rfl)]
  · exact ⟨s, rfl, State.leaves.refl s d k⟩

/-- A load outside the region is a violation that reads zero. -/
theorem State.csLoad_outside {a : Nat} (hd : s.has d = true) (hreg : (s.thr d k).region a = false) :
    ∃ v : State, s.csLoad d k a = (v, 0, false) ∧ s.leaves d k (s.thr d k) v := by
  refine ⟨(s.violation d).countCore d (k / 16) 7, ?_, ((State.leaves.refl s d k).violation hd).count ..⟩
  rw [State.csLoad, hreg]
  rfl

theorem State.csStore_inside {a : Nat} (v : Word) (p : Bool) (hreg : (s.thr d k).region a = true) :
    s.csStore d k a v p = s.csWrite d (k / 64) a v p := if_pos hreg

theorem State.csStore_outside {a : Nat} (v : Word) (p : Bool) (hd : s.has d = true) (hreg : (s.thr d k).region a = false) :
    s.leaves d k (s.thr d k) (s.csStore d k a v p) := by
  rw [State.csStore, hreg]
  exact ((State.leaves.refl s d k).violation hd).count ..

theorem State.keepsClock.csWrite (h : s.keepsClock u) (d cl a : Nat) (v : Word) (p : Bool) :
    s.keepsClock (u.csWrite d cl a v p) := by
  unfold State.csWrite
  exact h.modDie d _ rfl

theorem State.thr_csWrite (s : State) (d cl a : Nat) (v : Word) (p : Bool) (j : Nat) :
    (s.csWrite d cl a v p).thr d j = s.thr d j :=
  s.proj_modDie (fun x => sgetD x.threads j {}) d d _ rfl

theorem mem_mark (l : List Nat) (n j : Nat) : j ∈ mark l n ↔ j = n ∨ j ∈ l := by
  unfold mark
  split
  · rename_i h
    simp only [List.contains_eq_mem, decide_eq_true_eq] at h
    exact ⟨.inr, fun hj => hj.elim (· ▸ h) id⟩
  · exact List.mem_cons

theorem mem_unmark (l : List Nat) (n j : Nat) : j ∈ unmark l n ↔ j ∈ l ∧ j ≠ n := by
  simp [unmark]

/-- The poison marks after a write of one word: its own as written, every other as it was. -/
theorem contains_poisonMark (l : List Nat) (n j : Nat) (p : Bool) :
    (if p then mark l n else unmark l n).contains j = if j = n then p else l.contains j := by
  simp only [List.contains_eq_mem]
  cases p <;> by_cases hj : j = n <;> simp [mem_mark, mem_unmark, hj]

theorem State.csRead_csWrite (s : State) {d : Nat} (cl a cl' b : Nat) (v : Word) (p : Bool) (h8 : d < 8) :
    (s.csWrite d cl a v p).csRead d cl' b =
      if cl' * 262144 + b = cl * 262144 + a then (v, p) else s.csRead d cl' b := by
  simp only [State.csRead, State.csWrite, State.die_modDie _ _ h8, Die.freshUnit, contains_poisonMark]
  by_cases hk : cl' * 262144 + b = cl * 262144 + a
  · rw [if_pos hk, if_pos hk, hk, sgetD_sset_self]
  · rw [if_neg hk, if_neg hk, sgetD_sset_ne _ _ _ hk]

/-! ### Bytes of a packet (R106, R159, R162) -/

/-- A load inside the window reads the bytes under the operation's own stores; only clean cells leave it untagged. -/
theorem State.pktLoad_inside {off n slot : Nat} {q : Packet} {o : Op} {i : Inst} (hq : s.heldPkt d k = some q)
    (ho : s.held d k = some (slot, o, i)) (hin : off + n ≤ 128 * q.cells.length) (hr : s.readLanes d q off n = s) :
    ∃ (v : State) (bad : Bool),
      s.pktLoad d k off n = (v, w36 (beNat ((List.range n).map fun j =>
        (logByte o.log (off + j)).getD ((s.die d).hop.pktByte q (off + j)))), bad) ∧
      s.leaves d k (s.thr d k) v ∧ ((∀ c ∈ q.cells, (s.die d).hop.poison.contains c = false) → bad = false) := by
  simp only [State.pktLoad, hq, ho, Packet.window, hin, if_true, hr]
  refine ⟨_, _, rfl, ?_, fun hclean => ?_⟩
  · split
    · exact (State.leaves.refl s d k).count ..
    · exact State.leaves.refl s d k
  · rw [List.any_eq_false]
    intro j _
    cases hc : q.cells[(off + j) / 128]? with
    | none => simp
    | some c => simp only [hclean c (List.mem_of_getElem? hc), Bool.and_false, Bool.false_eq_true, not_false_eq_true]

/-- A load with a byte outside the window, or without a packet, is a violation that reads zero. -/
theorem State.pktLoad_outside {off n : Nat}
    (hout : ∀ q : Packet, s.heldPkt d k = some q → 128 * q.cells.length < off + n) :
    s.pktLoad d k off n = (s.thrViol d, 0, false) := by
  unfold State.pktLoad
  split
  · rename_i q _ _ _ hq _
    rw [if_neg (by have := hout q hq; simp only [Packet.window]; omega)]
  · rfl

/-! ### LDW, STW and LDP (R176) -/

section
variable {t : Tid} {r a : BitVec 5} {p : Bool} {disp : BitVec 15} {ad : Nat} {x : Thread}

/-- LDW of a word whose bank is ready. -/
theorem State.ldw_ready (h8 : t.die < 8) (hx : s.at_ t = x) (htag : x.tag a = false) (had : x.addr a disp = ad)
    (hcs : s.csReady t ad) :
    ∃ s' : State, s.ldw t.die (tkey t) r a p disp = .done s' none ∧
      (s.banksTaken t [ad]).leaves t.die (tkey t) ((x.post p a 1).put r.toNat (s.csRead t.die (tkey t / 64) ad).1
        (s.csRead t.die (tkey t / 64) ad).2) s' := by
  obtain ⟨hreg, hbank, hflips⟩ := hcs
  have hu : (s.banksTaken t [ad]).thr t.die (tkey t) = x := (s.thr_bankTake ..).trans hx
  have hread : (s.banksTaken t [ad]).csRead t.die (tkey t / 64) ad = s.csRead t.die (tkey t / 64) ad := s.csRead_bankTake ..
  obtain ⟨v, hv, hl⟩ := State.csLoad_inside (s := s.banksTaken t [ad]) (d := t.die) (k := tkey t) (a := ad)
    (by rw [hu, ← hx]; exact hreg) ((s.flips_bankTake ..).trans hflips)
  rw [State.at_] at hx
  refine ⟨_, ?_, hl.setThr _ h8⟩
  simp only [State.ldw, hx, htag, had, Bool.false_eq_true, if_false, State.withBanks_ready _ hreg hbank, hv, hl.thr, hu, hread,
    State.doneThr]

/-- LDW outside the region. -/
theorem State.ldw_outside (hd : s.has t.die = true) (hx : s.at_ t = x) (htag : x.tag a = false) (had : x.addr a disp = ad)
    (hreg : x.region ad = false) :
    ∃ s' : State, s.ldw t.die (tkey t) r a p disp = .done s' none ∧
      s.leaves t.die (tkey t) ((x.post p a 1).put r.toNat 0) s' := by
  rw [State.at_] at hx
  subst hx
  obtain ⟨v, hv, hl⟩ := State.csLoad_outside hd hreg
  refine ⟨_, ?_, hl.setThr _ (State.has_lt hd)⟩
  simp only [State.ldw, htag, had, Bool.false_eq_true, if_false, State.withBanks_outside _ hreg, hv, hl.thr, State.doneThr]

/-- STW of a word whose bank is ready. -/
theorem State.stw_ready (h8 : t.die < 8) (hx : s.at_ t = x) (htag : x.tag a = false) (had : x.addr a disp = ad)
    (hcs : s.csReady t ad) :
    ∃ s' : State, s.stw t.die (tkey t) r a p disp = .done s' none ∧
      ((s.banksTaken t [ad]).csWrite t.die (tkey t / 64) ad (x.val r) (x.tag r)).leaves t.die (tkey t) (x.post p a 1) s' := by
  obtain ⟨hreg, hbank, -⟩ := hcs
  have hu : (s.banksTaken t [ad]).thr t.die (tkey t) = x := (s.thr_bankTake ..).trans hx
  have hstore : (s.banksTaken t [ad]).csStore t.die (tkey t) ad (x.val r) (x.tag r) =
      (s.banksTaken t [ad]).csWrite t.die (tkey t / 64) ad (x.val r) (x.tag r) :=
    State.csStore_inside _ _ (by rw [hu, ← hx]; exact hreg)
  rw [State.at_] at hx
  refine ⟨_, ?_, (State.leaves.refl _ _ _).setThr _ h8⟩
  simp only [State.stw, hx, htag, had, Bool.false_eq_true, if_false, State.withBanks_ready _ hreg hbank, hstore,
    State.thr_csWrite, hu, State.doneThr]

/-- STW outside the region. -/
theorem State.stw_outside (hd : s.has t.die = true) (hx : s.at_ t = x) (htag : x.tag a = false) (had : x.addr a disp = ad)
    (hreg : x.region ad = false) :
    ∃ s' : State, s.stw t.die (tkey t) r a p disp = .done s' none ∧ s.leaves t.die (tkey t) (x.post p a 1) s' := by
  rw [State.at_] at hx
  subst hx
  have hl := State.csStore_outside ((s.thr t.die (tkey t)).val r) ((s.thr t.die (tkey t)).tag r) hd hreg
  refine ⟨_, ?_, hl.setThr _ (State.has_lt hd)⟩
  simp only [State.stw, htag, had, Bool.false_eq_true, if_false, State.withBanks_outside _ hreg, hl.thr, State.doneThr]

/-- LDP, whatever its bytes: the access is what it reads. -/
theorem State.ldp_done {v : State} {w : Word} {bad : Bool} (h8 : t.die < 8) (hx : s.at_ t = x) (htag : x.tag a = false)
    (hload : s.pktLoad t.die (tkey t) (x.addr a disp) (2 ^ sz.toNat) = (v, w, bad))
    (hl : s.leaves t.die (tkey t) x v) :
    ∃ s' : State, s.ldp t.die (tkey t) r a p sz disp = .done s' none ∧
      s.leaves t.die (tkey t) ((x.post p a (2 ^ sz.toNat)).put r.toNat w bad) s' := by
  rw [State.at_] at hx
  refine ⟨_, ?_, hl.setThr _ h8⟩
  simp only [State.ldp, hx, htag, Bool.false_eq_true, if_false, hload, hl.thr, State.doneThr]

end

end Sys2Proof.Machine
end

section
/-! PROOFS. LDW, STW and LDP. -/

namespace Sys2Proof.Machine

open Sys2Proof

/-- Settles O15: each access is one change of the state, a bank taken or a word written, beside which only the thread and what
issuing touches differ; the last register written is the loaded one. -/
theorem storeAndPacketAccesses : Obligations.StoreAndPacketAccesses := by
  refine ⟨⟨?_, ?_, ?_⟩, ?_⟩
  · -- LDW
    intro s t d a p disp h htag x ad
    refine ⟨fun hcs => ?_, fun hreg => ?_⟩
    · obtain ⟨s', he, hl⟩ := State.ldw_ready (r := d) (p := p) (State.has_lt h.has) rfl htag rfl hcs
      obtain ⟨n, cs, co, cl, hx⟩ := State.exec_done (c := .ldw t d a p disp) h rfl rfl he
        ((State.keepsClock.refl s).bankTake ..) hl
      exact ⟨n, cs, co, cl, _, hx, x.load_wroteAll p d a 1 _⟩
    · obtain ⟨s', he, hl⟩ := State.ldw_outside (r := d) (p := p) h.has rfl htag rfl hreg
      obtain ⟨n, cs, co, cl, hx⟩ := State.exec_done (c := .ldw t d a p disp) h rfl rfl he (State.keepsClock.refl s) hl
      exact ⟨n, cs, co, cl, _, hx, x.load_wroteAll p d a 1 (0, false)⟩
  · -- STW
    intro s t d a p disp h htag x ad
    refine ⟨fun hcs => ?_, fun hreg => ?_⟩
    · obtain ⟨s', he, hl⟩ := State.stw_ready (r := d) (p := p) (State.has_lt h.has) rfl htag rfl hcs
      obtain ⟨n, cs, co, cl, hx⟩ := State.exec_done (c := .stw t d a p disp) h rfl rfl he
        (((State.keepsClock.refl s).bankTake ..).csWrite ..) hl
      exact ⟨n, cs, co, cl, _, hx, x.post_wroteAll p a 1⟩
    · obtain ⟨s', he, hl⟩ := State.stw_outside (r := d) (p := p) h.has rfl htag rfl hreg
      obtain ⟨n, cs, co, cl, hx⟩ := State.exec_done (c := .stw t d a p disp) h rfl rfl he (State.keepsClock.refl s) hl
      exact ⟨n, cs, co, cl, _, hx, x.post_wroteAll p a 1⟩
  · -- a word of the cluster store after a write
    intro s d cl a v p h8 ha
    refine ⟨?_, fun cl' b hb hne => ?_⟩
    · rw [s.csRead_csWrite cl a cl a v p h8, if_pos rfl]
    · rw [s.csRead_csWrite cl a cl' b v p h8, if_neg (by omega)]
  · -- LDP
    intro s t d a p sz disp h htag x ad m
    refine ⟨fun q o slot i hq ho hin hr => ?_, fun hout => ?_⟩
    · obtain ⟨v, bad, hload, hv, hbad⟩ := State.pktLoad_inside hq ho hin hr
      obtain ⟨s', he, hl⟩ := State.ldp_done (r := d) (p := p) (State.has_lt h.has) rfl htag hload hv
      obtain ⟨n, cs, co, cl, hx⟩ := State.exec_done (c := .ldp t d a p sz disp) h rfl rfl he (State.keepsClock.refl s) hl
      exact ⟨n, cs, co, cl, _, bad, hx, x.load_wroteAll p d a m (_, bad), hbad⟩
    · have hv := (State.leaves.refl s t.die (tkey t)).violation h.has
      obtain ⟨s', he, hl⟩ := State.ldp_done (r := d) (p := p) (State.has_lt h.has) rfl htag (State.pktLoad_outside hout) hv
      obtain ⟨n, cs, co, cl, hx⟩ := State.exec_done (c := .ldp t d a p sz disp) h rfl rfl he (State.keepsClock.refl s) hl
      exact ⟨n, cs, co, cl, _, hx, x.load_wroteAll p d a m (0, false)⟩

end Sys2Proof.Machine
end

section
/-! SUPPORT. The logged stores: each is one write of the commit log, whose operands and whose leave are read off the
instruction. -/

namespace Sys2Proof.Machine

open Sys2Proof

/-! ### The commit log (R106, R158) -/

section
variable {s u : State} {d k slot : Nat} {o : Op} {j : Inst} {allowed : Op → Inst → Bool} {e : LogEntry}

theorem State.keepsClock.setOp (h : s.keepsClock u) (d slot : Nat) (o : Op) : s.keepsClock (u.setOp d slot o) :=
  h.modDsp d _

theorem State.thr_setOp (s : State) (d slot : Nat) (o : Op) (j : Nat) : (s.setOp d slot o).thr d j = s.thr d j :=
  s.proj_modDie (fun x => sgetD x.threads j {}) d d _ rfl

/-- An allowed store of untagged data to a log with room enters its entry. -/
theorem State.logged_enters (then' : State → State) (hh : s.held d k = some (slot, o, j)) (ha : allowed o j = true)
    (hroom : o.log.length < 64) :
    s.logged d k allowed false e then' = .done (then' (s.setOp d slot { o with log := o.log ++ [e] })) none := by
  simp [State.logged, hh, ha, State.logEntry, hroom]

/-- A store without an operation, or not allowed, is a violation. -/
theorem State.logged_refused (tagged : Bool) (then' : State → State)
    (h : s.held d k = none ∨ ∀ o j, allowed o j = false) :
    s.logged d k allowed tagged e then' = .done (then' (s.violation d)) none := by
  cases hh : s.held d k with
  | none => simp [State.logged, hh, State.thrViol]
  | some p =>
    obtain ⟨slot, o, j⟩ := p
    have ha : allowed o j = false := h.resolve_left (by simp [hh]) o j
    simp [State.logged, hh, ha, State.thrViol]

end

/-! ### STP, STF, STA, ANSC and TBLU -/

/-- What a logged store changes besides the log: STP's post-increment. -/
def loggedThen (t : Tid) : CoreInstr → State → State
  | .mem .stp _ a p sz _ => fun u => u.modThr t.die (tkey t) fun y => y.post p a (2 ^ sz.toNat)
  | _ => id

section
variable {s u v : State} {t : Tid} {i : CoreInstr} {e : LogEntry} {ok : Bool}

/-- A logged store without a tag on its pointer or data is the entry of its write in the log. -/
theorem State.effect_of_logOf (h : s.logOf t i = some (e, ok)) (hptr : ∀ r ∈ i.pointers, (s.at_ t).tag r = false)
    (hdata : i.dataTagged (s.at_ t) = false) :
    s.effect t.die (tkey t) i = s.logged t.die (tkey t) (fun _ _ => ok) false e (loggedThen t i) := by
  rw [State.at_] at hptr hdata
  cases i with
  | mem op r a p sz disp =>
    have htag : (s.thr t.die (tkey t)).tag a = false := hptr a List.mem_cons_self
    cases op <;> simp only [State.logOf, reduceCtorEq, Option.some.injEq, Prod.mk.injEq] at h <;> obtain ⟨rfl, rfl⟩ := h
    case stp | stf | sta =>
      have hr : (s.thr t.die (tkey t)).tag r = false := hdata
      simp only [State.effect, State.memEff, State.stp, State.stf, State.sta, htag, hr, Bool.false_eq_true, if_false]
      rfl
  | ansc a =>
    simp only [State.logOf, Option.some.injEq, Prod.mk.injEq] at h
    obtain ⟨rfl, rfl⟩ := h
    have htag : (s.thr t.die (tkey t)).tag a = false := hptr a List.mem_cons_self
    simp only [State.effect, State.ansc, htag, Bool.false_eq_true, if_false]
    rfl
  | tblu r a n k c =>
    simp only [State.logOf, Option.some.injEq, Prod.mk.injEq] at h
    obtain ⟨rfl, rfl⟩ := h
    obtain ⟨hkey, hres⟩ := Bool.or_eq_false_iff.mp hdata
    simp only [State.effect, State.tblu, hkey, hres, Bool.false_eq_true, if_false]
    rfl
  | _ => cases h

/-- A logged store settles no sluice and takes one round. -/
theorem State.rounds_of_logOf (h : s.logOf t i = some (e, ok)) : i.settles = false ∧ i.rounds = 1 := by
  cases i with
  | mem op r a p sz disp =>
    cases op with
    | stp | stf | sta => exact ⟨rfl, rfl⟩
    | _ => cases h
  | ansc a => exact ⟨rfl, rfl⟩
  | tblu r a n k c => exact ⟨rfl, rfl⟩
  | _ => cases h

/-- Beside the log, a logged store changes no more than its pointer. -/
theorem State.leaves.loggedThen (h8 : t.die < 8) (h : u.leaves t.die (tkey t) (s.at_ t) v) (i : CoreInstr) :
    ∃ y : Thread, u.leaves t.die (tkey t) y (loggedThen t i v) ∧ (s.at_ t).wroteAll y (storePost (s.at_ t) i) := by
  cases i with
  | mem op r a p sz disp =>
    cases op with
    | stp => exact ⟨_, h.modThr (fun y => y.post p a (2 ^ sz.toNat)) h8, Thread.post_wroteAll ..⟩
    | _ => exact ⟨_, h, Thread.wroteAll_refl _⟩
  | _ => exact ⟨_, h, Thread.wroteAll_refl _⟩

end

end Sys2Proof.Machine
end

section
/-! PROOFS. The logged stores. -/

namespace Sys2Proof.Machine

open Sys2Proof

/-- Settles O18: every logged store is one `logged`, which enters the entry or is a violation. -/
theorem loggedStoresEnterTheCommitLog : Obligations.LoggedStoresEnterTheCommitLog := by
  intro s c t i e ok hc h hptr hdata hlog
  have h8 := State.has_lt h.has
  have heff := State.effect_of_logOf hlog hptr hdata
  obtain ⟨hset, hrounds⟩ := State.rounds_of_logOf hlog
  refine ⟨fun slot o j hh hok hroom => ?_, fun hno => ?_⟩
  · have hthr : (s.setOp t.die slot { o with log := o.log ++ [e] }).thr t.die (tkey t) = s.at_ t := s.thr_setOp ..
    obtain ⟨y, hl, hy⟩ := State.leaves.loggedThen h8 (hthr ▸ State.leaves.refl _ t.die (tkey t)) i
    obtain ⟨n, cs, co, cl, hx⟩ := State.exec_done h hc hset (heff.trans (State.logged_enters _ hh hok hroom))
      ((State.keepsClock.refl s).setOp ..) hl
    exact ⟨n, cs, co, cl, y, hrounds ▸ hx, hy⟩
  · obtain ⟨y, hl, hy⟩ := State.leaves.loggedThen h8 ((State.leaves.refl s t.die (tkey t)).violation h.has) i
    obtain ⟨n, cs, co, cl, hx⟩ := State.exec_done h hc hset
      (heff.trans (State.logged_refused _ _ (hno.imp_right fun hok _ _ => hok))) (State.keepsClock.refl s) hl
    exact ⟨n, cs, co, cl, y, hrounds ▸ hx, hy⟩

end Sys2Proof.Machine
end

section
/-! SUPPORT. What reports and accesses of on-chip units leave of every die: whatever lies outside the counters, registers,
error ring, inverted bits, writebacks and the stores that carry poison. -/

namespace Sys2Proof.Machine

open Sys2Proof

/-- A part of a die apart from everything that a report or an access of a unit can write. -/
def ApartFromUnits {α : Type} (g : Die → α) : Prop :=
  ∀ (x : Die) (cs : Store Ctr) (rs : Store Nat) (er : List ErrRec) (wb : List Nat) (dm : Store Nat) (hop : Hopper)
    (cp xp : List Nat) (tb : Tables) (dsp : Dispatcher), g { x with
      ctrs := cs, regs := rs, errRing := er, wback := wb, dmg := dm, hop := hop, cstorePoison := cp, ctxPoison := xp, tbl := tb
      dsp := dsp } = g x

section
variable {α : Type} {g : Die → α} {s t : State}

theorem State.keepsOf.emit (h : s.keepsOf g t) (o : Out) : s.keepsOf g (t.emit o) :=
  h.trans ⟨rfl, rfl, rfl, fun _ => rfl⟩

variable (hg : ApartFromUnits g)
include hg

theorem State.keepsOf.count (h : s.keepsOf g t) (d b i n : Nat) : s.keepsOf g (t.count d b i n) := by
  obtain ⟨cs, hc⟩ := t.count_spec d b i n
  rw [hc]
  exact h.modDie d _ (hg (t.die d) _ _ _ _ _ _ _ _ _ _)

theorem State.keepsOf.setReg (h : s.keepsOf g t) (d : Nat) (r : RegId) (ix : List Nat) (v : Nat) :
    s.keepsOf g (t.setReg d r ix v) :=
  h.modDie d _ (hg (t.die d) _ _ _ _ _ _ _ _ _ _)

theorem State.keepsOf.modHop (h : s.keepsOf g t) (d : Nat) (f : Hopper → Hopper) : s.keepsOf g (t.modHop d f) :=
  h.modDie d _ (hg (t.die d) _ _ _ _ _ _ _ _ _ _)

theorem State.keepsOf.sendMsix (h : s.keepsOf g t) (d src : Nat) : s.keepsOf g (t.sendMsix d src) := by
  unfold State.sendMsix
  dsimp only
  split
  · split
    · exact h.setReg hg ..
    · exact State.keepsOf.count hg (h.emit _) ..
  · exact h

theorem State.keepsOf.event (h : s.keepsOf g t) (d : Nat) (b : EvBlock) (i : Nat) : s.keepsOf g (t.event d b i) := by
  have set := h.setReg hg d (evRegs b).1 [] (putBit (t.reg d (evRegs b).1 []) i true)
  unfold State.event
  rcases t.watch_cases d (evSource b) fun s => s.setReg d (evRegs b).1 [] (putBit (s.reg d (evRegs b).1 []) i true) with
    hw | hw <;> rw [hw]
  · exact set
  · exact set.sendMsix hg ..

theorem State.keepsOf.journalBy (h : s.keepsOf g t) (d kind reason w4 w5 w6 : Nat) :
    s.keepsOf g (t.journalBy d kind reason w4 w5 w6) := by
  have queued : ∀ (j : List JRec) (l : Nat), s.keepsOf g { t with journal := j, journalLost := l } :=
    fun _ _ => h.trans ⟨rfl, rfl, rfl, fun _ => rfl⟩
  unfold State.journalBy State.journalRec
  split
  · split
    · exact queued _ _
    · exact (queued _ _).setReg hg ..
  · exact h

theorem State.keepsOf.errRecord (h : s.keepsOf g t) (d : Nat) (r : ErrRec) : s.keepsOf g (t.errRecord d r) := by
  have put : s.keepsOf g (if r.kind = 0 && !bit (t.reg d .eccCfg []) 1 then t
      else if (t.die d).errRing.length < 256 then t.modDie d fun x => { x with errRing := x.errRing ++ [r] }
      else (t.count d ctrECC 11).event d .ecc 3) := by
    split
    · exact h
    · split
      · exact h.modDie d _ (hg (t.die d) _ _ _ _ _ _ _ _ _ _)
      · exact (h.count hg ..).event hg ..
  unfold State.errRecord
  dsimp only
  split
  · exact put
  · exact put.journalBy hg ..

theorem State.keepsOf.poisonUnit (h : s.keepsOf g t) (d store cluster unit : Nat) :
    s.keepsOf g (t.poisonUnit d store cluster unit) := by
  unfold State.poisonUnit
  split
  case h_8 => exact h
  all_goals exact h.modDie d _ (hg (t.die d) _ _ _ _ _ _ _ _ _ _)

theorem State.keepsOf.readUnit (h : s.keepsOf g t) (d store cluster unit : Nat) (demand : Bool) :
    s.keepsOf g (t.readUnit d store cluster unit demand) := by
  have counted : s.keepsOf g (if t.unitPoison d store cluster unit demand then t.count d ctrECC 2 else t) := by
    split
    · exact h.count hg ..
    · exact h
  unfold State.readUnit
  generalize (if t.unitPoison d store cluster unit demand then t.count d ctrECC 2 else t) = u at counted ⊢
  have failed := fun (r : ErrRec) => ((counted.count hg d ctrECC 4 1).errRecord hg d r)
  dsimp only
  split
  · exact counted
  split
  · exact ((counted.count hg ..).errRecord hg ..).modDie d _ (hg (State.die _ d) _ _ _ _ _ _ _ _ _ _)
  split
  · split
    · exact counted
    · refine (State.keepsOf.poisonUnit hg ?_ ..).modDie d _ (hg (State.die _ d) _ _ _ _ _ _ _ _ _ _)
      split
      · exact ((failed _).event hg ..).event hg ..
      · exact (failed _).event hg ..
  · exact (failed _).event hg ..

end

end Sys2Proof.Machine
end

section
/-! SUPPORT. From the ready list to the commit: delivery to a core, the engines' nodes, the commit of a log, and the table
updates that follow it one by one. -/

namespace Sys2Proof.Machine

open Sys2Proof

variable {s u v : State} {d slot : Nat} {o : Op}

theorem State.dsp_modDsp (s : State) {d : Nat} (f : Dispatcher → Dispatcher) (h8 : d < 8) :
    ((s.modDsp d f).die d).dsp = f (s.die d).dsp := by
  rw [State.modDsp, State.die_modDie _ _ h8]

/-! ### Delivery (R101, R134) -/

/-- An operation is at the head of its list no more, and with a thread of a core. -/
def State.delivered (s : State) (d g c k slot : Nat) (rest : List Nat) (o : Op) : State :=
  (((s.setOp d slot { o with st := .service, thread := some k, tStart := some (s.time d) }).modDsp d fun y => { y with
    lists := sset y.lists g rest, lastGroup := sset y.lastGroup k g, lastCore := sset y.lastCore g c }).modThr d k fun x =>
      { x with op := some slot, delivered := true }).countCore d c 2

theorem exec_dispatchDelivery {g : Nat} (h : s.live d) (hg : g < 16) :
    exec (.dispatchDelivery d g) s = .next (s.keep ((s.deliverFrom d g).settle d)) :=
  onPort_live (p := 0) h (decide_eq_true hg) fun s => s.deliverFrom d g

theorem State.delivered_dsp {g c k : Nat} {rest : List Nat} (h8 : d < 8) :
    ((s.delivered d g c k slot rest o).die d).dsp = { (s.die d).dsp with
      ops := sset (s.die d).dsp.ops slot { o with st := .service, thread := some k, tStart := some (s.time d) }
      lists := sset (s.die d).dsp.lists g rest, lastGroup := sset (s.die d).dsp.lastGroup k g
      lastCore := sset (s.die d).dsp.lastCore g c } := by
  rw [State.delivered, State.countCore, State.proj_count Die.dsp (fun _ _ => rfl), State.modThr, State.setThr,
    State.proj_modDie Die.dsp _ d d _ rfl, State.dsp_modDsp _ _ h8, State.setOp, State.dsp_modDsp _ _ h8]

theorem State.delivered_thr {g c k : Nat} {rest : List Nat} (h8 : d < 8) :
    (s.delivered d g c k slot rest o).thr d k = { s.thr d k with op := some slot, delivered := true } := by
  have hthr : ∀ f : Dispatcher → Dispatcher, ((s.setOp d slot
      { o with st := .service, thread := some k, tStart := some (s.time d) }).modDsp d f).thr d k = s.thr d k := fun f =>
    (State.proj_modDie (fun x => sgetD x.threads k {}) _ d d _ rfl).trans (s.thr_setOp ..)
  rw [State.delivered, State.countCore, State.thr, State.threads_count, State.modThr, State.setThr, State.die_modDie _ _ h8,
    sgetD_sset_self, hthr]

/-! ### Commit (R108) -/

/-- Every entry of a log is a store to the packet. -/
def packetsOnly (log : List LogEntry) : Prop := ∀ e ∈ log, ∃ (off : Nat) (bs : List Byte), e = .packet off bs

theorem logPages_packets {log : List LogEntry} (h : packetsOnly log) : logPages log = [] := by
  refine List.filterMap_eq_nil_iff.mpr fun e he => ?_
  obtain ⟨off, bs, rfl⟩ := h e he
  rfl

theorem logEnqs_packets {log : List LogEntry} (h : packetsOnly log) : logEnqs log = [] := by
  refine List.filterMap_eq_nil_iff.mpr fun e he => ?_
  obtain ⟨off, bs, rfl⟩ := h e he
  rfl

theorem logTables_packets {log : List LogEntry} (h : packetsOnly log) : logTables log = [] := by
  refine List.filterMap_eq_nil_iff.mpr fun e he => ?_
  obtain ⟨off, bs, rfl⟩ := h e he
  rfl

theorem State.keepsOf.pktStore {α : Type} {g : Die → α} (hg : ApartFromUnits g) (h : s.keepsOf g u) (d pid off : Nat)
    (bs : List Byte) : s.keepsOf g (u.pktStore d pid off bs) := by
  have fresh : ∀ (t : State) (unit : Nat), s.keepsOf g t → s.keepsOf g (t.modDie d fun x => x.freshUnit 1 0 unit) :=
    fun t unit ht => ht.modDie d _ (hg (t.die d) _ _ _ _ _ _ _ _ _ _)
  unfold State.pktStore
  split
  · exact h
  · refine State.keepsOf.modHop hg (List.foldlRecOn (motive := fun t => s.keepsOf g t) _ _ h fun t ht l _ => ?_) ..
    split
    · exact ht
    · apply fresh
      split
      · exact ht
      · exact ht.readUnit hg ..

theorem State.keepsOf.applyPackets {α : Type} {g : Die → α} (hg : ApartFromUnits g) {log : List LogEntry}
    (hl : packetsOnly log) (s : State) (d : Nat) (pid : Option Nat) :
    s.keepsOf g (log.foldl (fun s e => s.applyEntry d pid e) s) := by
  refine List.foldlRecOn (motive := fun t => s.keepsOf g t) _ _ (State.keepsOf.refl g s) fun t ht e he => ?_
  obtain ⟨off, bs, rfl⟩ := hl e he
  cases pid with
  | none => exact ht
  | some pid => exact ht.pktStore hg ..

theorem State.commitLocks_none (h : ∀ j : Nat, j < 36 → (s.helper d j).atCommit ≠ some slot) : s.commitLocks d slot = s := by
  have hnil : (List.range 36).filter (fun j => (s.helper d j).atCommit = some slot) = [] :=
    List.filter_eq_nil_iff.mpr fun j hj => by simpa using h j (List.mem_range.mp hj)
  rw [State.commitLocks, hnil, List.foldl_nil]

theorem State.joinEnqs_nil (s : State) (d slot : Nat) (o : Op) : s.joinEnqs d slot o [] = s := by
  unfold State.joinEnqs
  split <;> rfl

/-- A commit of stores to the packet alone, at whose OPEND no lock was held. -/
theorem State.commitApply_packets (ho : s.op d slot = some o) (hst : o.st = .commit) (hcarry : o.carry = [])
    (hlog : packetsOnly o.log) (hlocks : ∀ j : Nat, j < 36 → (s.helper d j).atCommit ≠ some slot) :
    s.commitApply d slot = (((o.log.foldl (fun s e => s.applyEntry d o.pid e) s).count d ctrDSP 13 o.log.length).setOp d slot
      { o with st := .tables, tables := [], log := [], carry := [] }).finishOp d slot := by
  have hhelpers : s.keepsOf Die.helpers ((o.log.foldl (fun s e => s.applyEntry d o.pid e) s).count d ctrDSP 13
      o.log.length) :=
    (State.keepsOf.applyPackets (fun _ _ _ _ _ _ _ _ _ _ _ => rfl) hlog s d o.pid).count
      (fun _ _ _ _ _ _ _ _ _ _ _ => rfl) ..
  have hfree := State.commitLocks_none (d := d) (slot := slot) fun j hj => by
    rw [State.helper, hhelpers.dies d]
    exact hlocks j hj
  simp only [State.commitApply, ho, hst, hcarry, logPages_packets hlog, logEnqs_packets hlog, logTables_packets hlog,
    List.foldl_nil, List.length_nil, Nat.sub_zero, ite_self, hfree, State.joinEnqs_nil, List.isEmpty_nil, if_true]

theorem exec_commitApply (h : s.live d) : exec (.commitApply d slot) s = .next (s.keep ((s.commitApply d slot).settle d)) :=
  onDieS_live h fun s => s.commitApply d slot

/-- The context words after an applied context entry: the named one as logged, the others as they were (R262). -/
theorem State.ctx_applyContext (s : State) {d : Nat} (a b : Nat) (w : Word) (pid : Option Nat) (h8 : d < 8) :
    sgetD ((s.applyEntry d pid (.context a w)).die d).ctx b 0 = if b = a then w else sgetD (s.die d).ctx b 0 := by
  rw [State.applyEntry, State.proj_count Die.ctx (fun _ _ => rfl), State.ctxPut, State.die_modDie _ _ h8]
  split
  · rename_i hb
    rw [hb, sgetD_sset_self]
  · rename_i hb
    exact sgetD_sset_ne _ _ _ hb

/-! ### Table updates of a commit (R108, R255) -/

/-- The next table update takes its access point and goes at once: its code is recorded, and the last ends the operation. -/
theorem exec_tbluEntryComplete {c : TblCmd} {cs : List TblCmd} {r : TblOut} (h : s.live d) (ho : s.op d slot = some o)
    (hst : o.st = .tables) (hcs : o.tables = c :: cs) (hheld : s.heldItem d 2 14 (slot + 2 ^ 20) = none)
    (hgate : s.pipeGate d 13 (o.updItem slot) = (s, true))
    (hrun : (s.pipeTake d 13 (o.updItem slot)).tblRun d c.op c.table (s.reg d .tblBodyGen [s.bodyOf d c.table]) c.key c.res true
      (s.tblActive d 13 (o.updItem slot)) = (u, some r))
    (hput : u.delayPut d 2 14 (slot + 2 ^ 20) [r.code] = (u, true)) :
    exec (.tbluEntryComplete d slot) s = .next (s.keep ((u.tableDone d slot r.code o).settle d)) := by
  refine (onDieS_live h _).trans (next_settle_congr d ?_)
  simp only [ho, hst, hcs, hheld, hgate, hrun, hput, if_true]

theorem State.tableDone_eq {c : TblCmd} {cs : List TblCmd} (code : Nat) (hcs : o.tables = c :: cs) :
    u.tableDone d slot code o = if cs = [] then ((u.statusCode d o.inst code).setOp d slot { o with tables := cs }).finishOp d slot
      else (u.statusCode d o.inst code).setOp d slot { o with tables := cs } := by
  simp only [State.tableDone, hcs, List.tail_cons, List.isEmpty_iff]

/-! ### Engines (R87, R113, R114) -/

/-- The lookup of a LOOKUP operation: a hit fills three carry words, a miss completes with outcome 1, poison aborts. -/
theorem exec_lookupNode {ws : List Word} {r : LookRes} {n table : Nat} (h : s.live d) (ho : s.op d slot = some o)
    (hst : o.st = .engine) (hk : o.kind = 1) (hn : bits o.param 6 2 + 1 = n) (ht : bits o.param 0 6 = table)
    (hw : s.instWords d o.inst (if bit o.param 8 then 28 + bits o.param 9 4 else 8) n = (u, ws))
    (hl : u.lookupFor d 13 (o.lookItem slot) table (ws ++ List.replicate (4 - n) 0) false = (v, some r)) :
    exec (.lookupNode d slot) s = .next (s.keep (State.settle (
      if r.1 = 2 then v.abortOp d slot rPOISON
      else if r.1 = 1 then v.engineDone d slot o 1
      else v.engineDone d slot { o with carry := [(bits o.param 13 4, r.2.getD 0 0), (bits o.param 13 4 + 1, r.2.getD 1 0),
        (bits o.param 13 4 + 2, r.2.getD 2 0)] } 0) d)) := by
  subst hn ht
  refine (onDieS_live h _).trans (next_settle_congr d ?_)
  simp only [ho, hst, hk, hw, hl, decide_true, Bool.and_self, if_true]

theorem exec_enqueueNode {i : Inst} (h : s.live d) (ho : s.op d slot = some o) (hi : s.inst d o.inst = some i)
    (hst : o.st = .engine) (hk : o.kind = 4) :
    exec (.enqueueNode d slot) s = .next (s.keep (State.settle (
      if i.pid.isNone || 8 ≤ i.enqs.length then s.abortOp d slot rFAULT
      else (s.enqueueOf d o i).1.engineDone d slot { o with log := [.enqueue (s.enqueueOf d o i).2] } 0) d)) := by
  refine (onDieS_live h _).trans (next_settle_congr d ?_)
  simp [ho, hi, hst, hk]

theorem exec_discardNode (h : s.live d) (ho : s.op d slot = some o) (hst : o.st = .engine) (hk : o.kind = 5) :
    exec (.discardNode d slot) s = .next (s.keep (((s.programDrop d o.inst).engineDone d slot o 0).settle d)) := by
  refine (onDieS_live h _).trans (next_settle_congr d ?_)
  simp [ho, hst, hk]

end Sys2Proof.Machine
end

section
/-! PROOFS. Delivery, engines, commits and table updates. -/

namespace Sys2Proof.Machine

open Sys2Proof

/-- Settles O43: each command is one change of the dispatcher, whose guards the hypotheses decide; a commit of packet stores
leaves every helper as it was, so it releases no lock. -/
theorem operationsAreDeliveredAndCommitted : Obligations.OperationsAreDeliveredAndCommitted := by
  refine ⟨?_, ?_, ?_, ?_, ?_, ?_, ?_⟩
  · -- DISPATCH_DELIVERY
    intro s d g c k slot rest o h hg hlist ho hc hk
    have h8 := State.has_lt h.1
    have hfrom : s.deliverFrom d g = s.delivered d g c k slot rest o := by
      simp only [State.deliverFrom, hlist, ho]
      erw [hc]
      simp only [hk]
      rfl
    have hdsp := s.delivered_dsp (g := g) (c := c) (k := k) (slot := slot) (o := o) (rest := rest) h8
    refine ⟨_, hfrom ▸ exec_dispatchDelivery h hg, ?_, ?_, State.delivered_thr h8, ?_⟩
    · rw [State.op, hdsp, sget_sset_self]
    · rw [hdsp, sgetD_sset_self]
    · rw [hdsp, sgetD_sset_self]
  · -- COMMIT_APPLY
    intro s d slot o h ho hst hcarry hlog hlocks
    exact (exec_commitApply h).trans (next_settle_congr d (State.commitApply_packets ho hst hcarry hlog hlocks))
  · -- a context entry
    intro s d a w pid h8
    exact ⟨(s.ctx_applyContext a a w pid h8).trans (if_pos rfl), fun b hb => (s.ctx_applyContext a b w pid h8).trans (if_neg hb)⟩
  · -- TBLU_ENTRY_COMPLETE
    intro s u d slot o c cs r h ho hst hcs hheld hgate hrun hput w
    exact (exec_tbluEntryComplete h ho hst hcs hheld hgate hrun hput).trans
      (next_settle_congr d (State.tableDone_eq r.code hcs))
  · -- LOOKUP_NODE
    intro s u v d slot o ws r h ho hst hk p n hw hl
    have hlook := exec_lookupNode h ho hst hk rfl (bits_low p 6) hw hl
    refine ⟨fun hr => hlook.trans ?_, fun hr => hlook.trans ?_, fun hr => hlook.trans ?_⟩ <;> rw [hr] <;> rfl
  · -- ENQUEUE_NODE
    intro s d slot o i h ho hi hst hk
    have hnode := exec_enqueueNode h ho hi hst hk
    refine ⟨fun hp hn => hnode.trans (next_settle_congr d (if_neg ?_)), fun hno => hnode.trans (next_settle_congr d (if_pos ?_))⟩
    · simpa [hp] using hn
    · simpa using hno
  · exact fun s d slot o h ho hst hk => exec_discardNode h ho hst hk

end Sys2Proof.Machine
end

section
/-! SUPPORT. The settling of the sluices reads nothing of cores, threads, counters and deadlock counts (R61, R62), so that what
issuing touches before it is the same as after it. -/

namespace Sys2Proof.Machine

open Sys2Proof

variable {s t : State} {d : Nat}

/-- What issuing touches before is undone by what it touches after. -/
theorem State.slim_symm (h : s.slim d t) : t.slim d s := by
  obtain ⟨n, cs, co, cl, th, rfl⟩ := h
  refine ⟨s.draws, (s.die d).ctrs, (s.die d).cores, (s.die d).clusterSince, (s.die d).threads, ?_⟩
  exact ((s.modDie_modDie d (fun x => { x with ctrs := cs, cores := co, clusterSince := cl, threads := th }) fun x => { x with
    ctrs := (s.die d).ctrs, cores := (s.die d).cores, clusterSince := (s.die d).clusterSince
    threads := (s.die d).threads }).trans (s.modDie_id d _ rfl)).symm

/-! ### A state with what issuing touches set -/

/-- A state with its free choices drawn, and with a die's counters, cores, deadlock counts and threads. -/
def State.besides (s : State) (d n : Nat) (cs : Store Ctr) (co : Store Core) (cl : Store Nat) (th : Store Thread) : State :=
  { s with draws := n }.modDie d fun x => { x with ctrs := cs, cores := co, clusterSince := cl, threads := th }

section
variable (s) (d n : Nat) (cs : Store Ctr) (co : Store Core) (cl : Store Nat) (th : Store Thread)

/-- A part of a die outside what issuing touches. -/
theorem State.proj_besides {α : Type} (g : Die → α)
    (hg : ∀ x : Die, g { x with ctrs := cs, cores := co, clusterSince := cl, threads := th } = g x) :
    g ((s.besides d n cs co cl th).die d) = g (s.die d) :=
  State.proj_modDie g { s with draws := n } d d _ (hg _)

theorem State.reg_besides (r : RegId) (ix : List Nat) : (s.besides d n cs co cl th).reg d r ix = s.reg d r ix :=
  s.proj_besides d n cs co cl th (fun x => sgetD x.regs (regOff r ix) (regReset r ix)) fun _ => rfl

theorem State.fld_besides (r : RegId) (ix : List Nat) (lo w : Nat) :
    (s.besides d n cs co cl th).fld d r ix lo w = s.fld d r ix lo w := by
  rw [State.fld, State.reg_besides, State.fld]

theorem State.hop_besides : ((s.besides d n cs co cl th).die d).hop = (s.die d).hop :=
  s.proj_besides d n cs co cl th Die.hop fun _ => rfl

theorem State.dsp_besides : ((s.besides d n cs co cl th).die d).dsp = (s.die d).dsp :=
  s.proj_besides d n cs co cl th Die.dsp fun _ => rfl

theorem State.modHop_besides (f : Hopper → Hopper) :
    (s.besides d n cs co cl th).modHop d f = (s.modHop d f).besides d n cs co cl th :=
  (State.modDie_modDie { s with draws := n } d _ _).trans (State.modDie_modDie { s with draws := n } d
    (fun x => { x with hop := f x.hop }) fun x => { x with
      ctrs := cs, cores := co, clusterSince := cl, threads := th }).symm

theorem State.listFull_besides : (s.besides d n cs co cl th).listFull d = s.listFull d := by
  funext g
  simp only [State.listFull, State.fld_besides, State.dsp_besides]

theorem State.poolLimit_besides : (s.besides d n cs co cl th).poolLimit d = s.poolLimit d := by
  simp only [State.poolLimit, State.fld_besides]

theorem State.ingressRoom_besides (g : Nat) : (s.besides d n cs co cl th).ingressRoom d g = s.ingressRoom d g := by
  simp only [State.ingressRoom, State.poolLimit_besides, State.listFull_besides, State.dsp_besides]

theorem State.blocked_besides : (s.besides d n cs co cl th).blocked d = s.blocked d := by
  simp only [State.blocked, State.ticketsFull, State.dspBlocked, State.poolLimit_besides, State.ingressRoom_besides,
    State.listFull_besides, State.reg_besides, State.hop_besides, State.dsp_besides]

theorem State.sluiceNow_besides (blk : Bool) : (s.besides d n cs co cl th).sluiceNow d blk = s.sluiceNow d blk := by
  funext p
  simp only [State.sluiceNow, State.fld_besides, State.reg_besides, State.hop_besides]

theorem State.sluicePriNow_besides (p q : Nat) : (s.besides d n cs co cl th).sluicePriNow d p q = s.sluicePriNow d p q := by
  simp only [State.sluicePriNow, State.fld_besides, State.hop_besides]

theorem State.fcLive_besides (key : Nat) : (s.besides d n cs co cl th).fcLive d key = s.fcLive d key := by
  simp only [State.fcLive, State.fld_besides]

theorem State.oweFc_besides (old : Hopper) :
    (s.besides d n cs co cl th).oweFc d old = (s.oweFc d old).besides d n cs co cl th := by
  have owed : ∀ (u : State) (b c : Bool) (g : Hopper → Hopper),
      (if b = c then u.besides d n cs co cl th else (u.besides d n cs co cl th).modHop d g) =
        (if b = c then u else u.modHop d g).besides d n cs co cl th := by
    intro u b c g
    rw [State.modHop_besides]
    split <;> rfl
  have start : (if ((s.besides d n cs co cl th).die d).hop.fcOwed.isEmpty then s.besides d n cs co cl th
      else (s.besides d n cs co cl th).modHop d fun h => { h with
        fcOwed := h.fcOwed.filter fun o => (s.besides d n cs co cl th).fcLive d o.1 }) =
      (if (s.die d).hop.fcOwed.isEmpty then s
      else s.modHop d fun h => { h with fcOwed := h.fcOwed.filter fun o => s.fcLive d o.1 }).besides d n cs co cl th := by
    simp only [State.hop_besides, State.fcLive_besides, State.modHop_besides]
    split <;> rfl
  unfold State.oweFc
  dsimp only
  rw [start]
  refine List.foldl_hom (fun u : State => u.besides d n cs co cl th) fun u p => ?_
  simp only [State.fld_besides, State.hop_besides]
  split
  · exact owed ..
  · split
    · refine List.foldl_hom (fun u : State => u.besides d n cs co cl th) fun v q => ?_
      simp only [State.fld_besides, State.hop_besides]
      exact owed ..
    · rfl

theorem State.settle_besides : (s.besides d n cs co cl th).settle d = (s.settle d).besides d n cs co cl th := by
  simp only [State.settle, State.blocked_besides, State.sluiceNow_besides, State.sluicePriNow_besides, State.fld_besides,
    State.hop_besides, State.modHop_besides, State.oweFc_besides]

end

theorem State.slim_settle (h : s.slim d t) : (s.settle d).slim d (t.settle d) := by
  obtain ⟨n, cs, co, cl, th, rfl⟩ := h
  exact ⟨n, cs, co, cl, th, s.settle_besides d n cs co cl th⟩

theorem State.threads_settle (s : State) (d : Nat) : ((s.settle d).die d).threads = (s.die d).threads := by
  obtain ⟨h, hs⟩ := s.hopOnly_settle d
  rw [hs]
  exact s.proj_modDie Die.threads d d _ rfl

theorem State.keepsClock.settle (h : s.keepsClock t) (d : Nat) : s.keepsClock (t.settle d) := by
  obtain ⟨g, hs⟩ := t.hopOnly_settle d
  rw [hs]
  exact h.modHop d _

end Sys2Proof.Machine
end

section
/-! SUPPORT. An instruction that settles the sluices, and the operations of the dispatcher and the hopper that such
instructions make: the clock of the cores stands in all of them. -/

namespace Sys2Proof.Machine

open Sys2Proof

/-! ### Settling after an instruction -/

section
variable {s t : State} {d k : Nat} {y : Thread}

theorem State.leaves.stir (h : s.leaves d k y t) : s.leaves d k y (t.stir d k) :=
  ⟨State.slim_trans h.slim (t.slim_stir d k), fun v => by rw [t.threads_stir, h.others], by
    rw [State.thr, t.threads_stir, ← h.thr, State.thr]⟩

/-- The thread set before is set again. -/
theorem State.leaves.of_setThr (h : s.leaves d k y t) (z : Thread) (h8 : d < 8) : (s.setThr d k z).leaves d k y t := by
  refine ⟨State.slim_trans (State.slim_symm (s.slim_setThr d k z)) h.slim, fun v => ?_, h.thr⟩
  rw [h.others, State.setThr, State.die_modDie _ _ h8, sset_sset]

theorem State.leaves.settle (h : s.leaves d k y t) : (s.settle d).leaves d k y (t.settle d) :=
  ⟨State.slim_settle h.slim, fun v => by rw [State.threads_settle, State.threads_settle, h.others], by
    rw [State.thr, State.threads_settle, ← h.thr, State.thr]⟩

end

/-- An instruction of one round that is done and settles the sluices, with `u` its change beside the thread. -/
theorem State.exec_settled {s u : State} {c : Instr} {t : Tid} {i : CoreInstr} {y : Thread} (h : s.issues t i)
    (hc : namesIssue c = some (t, i)) (hset : i.settles = true) (hrounds : i.rounds = 1)
    (he : s.effect t.die (tkey t) i = .done (u.setThr t.die (tkey t) y) none) (hu : s.keepsClock u) :
    ∃ n cs co cl, exec c s = .next (s.settledBy u t n cs co cl y ((s.at_ t).pc + 1)) := by
  have h8 : t.die < 8 := State.has_lt h.has
  have hsingle := h.single
  rw [h.exec hc]
  simp only [State.settledBy, State.at_]
  generalize t.die = d, tkey t = k at *
  have hdone := ((((State.leaves.refl u d k).setThr y h8).stir.modThr (fun x => x.retire ((s.thr d k).pc + 1)) h8).of_setThr
    (y.retire ((s.thr d k).pc + 1)) h8).settle
  have hclock : s.keepsClock ((u.setThr d k (y.retire ((s.thr d k).pc + 1))).settle d) :=
    State.keepsClock.settle (hu.modDie d _ rfl) d
  obtain ⟨n, cs, co, cl, hx⟩ := State.issued_only _ s k i h8
    ((State.slotCycle_slim k hdone.slim).trans (hclock.slotCycle d k))
  refine ⟨n, cs, co, cl, ?_⟩
  have hthr : ((u.setThr d k (y.retire ((s.thr d k).pc + 1))).settle d).thr d k = y.retire ((s.thr d k).pc + 1) := by
    rw [State.thr, State.threads_settle, State.setThr, State.die_modDie _ _ h8, sgetD_sset_self]
  simp only [State.run, he, State.finish, hset, hsingle, Bool.false_eq_true, if_false, if_true, Option.getD_none]
  rw [hx, hdone.onlyThread n cs co cl _ h8, hdone.thr, hthr, hrounds]

/-! ### What the dispatcher and the hopper change leaves the clock -/

/-- When the cores of a die began lies outside what reports and accesses of units write. -/
theorem coreStart_apart : ApartFromUnits Die.coreStart := fun _ _ _ _ _ _ _ _ _ _ _ => rfl

section
variable {s t : State}

/-- What lies outside the dies, the fuses, the time and the queue may change. -/
theorem State.keepsClock.of_dies {u : State} (h : s.keepsClock t) (hf : u.fuses = t.fuses) (hn : u.now = t.now)
    (hp : u.pending = t.pending) (hd : u.dies = t.dies) : s.keepsClock u :=
  h.trans ⟨hf, hn, hp, fun e => by rw [State.die, hd, State.die]⟩

theorem State.keepsClock.stamp (h : s.keepsClock t) : s.keepsClock { t with stamps := t.stamps + 1 } :=
  h.of_dies rfl rfl rfl rfl

theorem State.keepsClock.ite {p : Prop} [Decidable p] {u : State} (h : s.keepsClock t) (h' : s.keepsClock u) :
    s.keepsClock (if p then t else u) := by
  split
  · exact h
  · exact h'

theorem State.keepsClock.count (h : s.keepsClock t) (d b i n : Nat) : s.keepsClock (t.count d b i n) :=
  State.keepsOf.count coreStart_apart h ..

theorem State.keepsClock.setInst (h : s.keepsClock t) (d i : Nat) (x : Inst) : s.keepsClock (t.setInst d i x) := h.modDsp d _

theorem State.keepsClock.setHelper (h : s.keepsClock t) (d j : Nat) (x : Helper) : s.keepsClock (t.setHelper d j x) :=
  h.modDie d (fun y => { y with helpers := sset y.helpers j x }) rfl

theorem State.keepsClock.pick (h : s.keepsClock t) (used : List Nat) (n : Nat) : s.keepsClock (t.pick used n).2 :=
  h.of_dies rfl rfl rfl rfl

/-! ### Packets, cells and tickets (R18 to R23, R58 to R65) -/

theorem State.keepsClock.modPkt (h : s.keepsClock t) (d pid : Nat) (f : Packet → Packet) : s.keepsClock (t.modPkt d pid f) := by
  unfold State.modPkt
  split
  · exact h.modHop d _
  · exact h

theorem State.keepsClock.zeroCells (h : s.keepsClock t) (d : Nat) (cells : List Nat) : s.keepsClock (t.zeroCells d cells) := by
  unfold State.zeroCells
  exact h.modDie d _ rfl

theorem State.keepsClock.takeCell (h : s.keepsClock t) (d : Nat) (c : Charge) : s.keepsClock (t.takeCell d c).2 := by
  have drawn := h.pick ((t.die d).hop.cellUse.map (·.1)) poolCells
  unfold State.takeCell State.allocNow
  exact ((drawn.modHop d _).modHop d _).zeroCells ..

theorem State.keepsClock.takeCells (h : s.keepsClock t) (d : Nat) (c : Charge) (n : Nat) :
    s.keepsClock (t.takeCells d c n).2 := by
  induction n generalizing t with
  | zero => exact h
  | succ n ih => exact ih (h.takeCell d c)

theorem State.keepsClock.newPkt (h : s.keepsClock t) (d : Nat) (p : Packet) : s.keepsClock (t.newPkt d p).2 := by
  unfold State.newPkt
  dsimp only
  exact h.modHop d _

theorem State.keepsClock.setBoard (h : s.keepsClock t) (d p : Nat) (b : List Ticket) : s.keepsClock (t.setBoard d p b) :=
  h.modHop d _

theorem State.keepsClock.takeTicket (h : s.keepsClock t) (d p pid : Nat) : s.keepsClock (t.takeTicket d p pid).2 :=
  ((h.modPkt ..).modHop d _).setBoard ..

theorem State.keepsClock.settleTicket (h : s.keepsClock t) (r : Resolution) : s.keepsClock (t.settleTicket r) := by
  unfold State.settleTicket
  exact State.keepsClock.ite ((h.setBoard ..).modHop _ _) (h.setBoard ..)

theorem State.keepsClock.resolveFrom (h : s.keepsClock t) (d : Nat) (r : Resolution) : s.keepsClock (t.resolveFrom d r) := by
  unfold State.resolveFrom
  split
  · exact h.settleTicket r
  · split
    · exact h.of_dies rfl rfl rfl rfl
    · exact h

/-! ### Operations and instances (R89 to R94, R98 to R103, R114) -/

theorem State.keepsClock.programDrop (h : s.keepsClock t) (d i : Nat) : s.keepsClock (t.programDrop d i) := by
  unfold State.programDrop
  split
  · exact h
  · split
    · exact h
    · dsimp only
      split
      · exact h.setInst ..
      · split
        · exact ((h.setInst ..).count ..).resolveFrom ..
        · exact h.setInst ..

theorem State.keepsClock.ready (h : s.keepsClock t) (d slot : Nat) (o : Op) (head : Bool) :
    s.keepsClock (t.ready d slot o head) := (h.setOp ..).modDsp d _

theorem State.keepsClock.readDesc (h : s.keepsClock t) (d slot : Nat) : s.keepsClock (t.readDesc d slot) := by
  unfold State.readDesc
  split
  · exact h
  · exact List.foldlRecOn (motive := fun u => s.keepsClock u) _ _ h fun u hu _ _ => hu.readUnit coreStart_apart ..

theorem State.keepsClock.lockToOp (h : s.keepsClock t) (d j slot : Nat) : s.keepsClock (t.lockToOp d j slot) := by
  unfold State.lockToOp
  dsimp only
  split
  · exact ((h.readDesc ..).setHelper ..).setOp ..
  · exact (h.readDesc ..).setHelper ..

/-- The list of the group's cores is taken as any function: the kernel would compute it, product by product. -/
theorem State.keepsClock.helperPlace (h : s.keepsClock t) (d slot : Nat) : s.keepsClock (t.helperPlace d slot) := by
  unfold State.helperPlace
  obtain ⟨cores, hcores⟩ : ∃ f, f = State.groupCores := ⟨_, rfl⟩
  rw [← hcores]
  clear hcores
  split
  · exact h
  split
  · exact h
  dsimp only
  split
  · exact h.lockToOp ..
  split
  · exact h
  · exact (h.setHelper ..).setOp ..

theorem State.keepsClock.launch (h : s.keepsClock t) (d slot : Nat) : s.keepsClock (t.launch d slot) := by
  unfold State.launch
  split
  · exact h
  dsimp only
  split
  · exact h.ready ..
  split
  · exact (h.setOp ..).helperPlace ..
  · exact h.setOp ..

theorem State.keepsClock.tagDraw (h : s.keepsClock t) (d : Nat) : s.keepsClock (t.tagDraw d).2 := by
  unfold State.tagDraw
  split
  · exact h
  dsimp only
  split
  · exact (h.modDsp d _).count ..
  · dsimp only
    exact h.modDsp d _

theorem State.keepsClock.createOp (h : s.keepsClock t) (d i n : Nat) : s.keepsClock (t.createOp d i n) := by
  unfold State.createOp
  split
  · exact h
  have drawn := (h.pick ((t.die d).dsp.ops.map (·.1)) 16384).tagDraw d
  have stamped := drawn.stamp
  dsimp only
  split
  · exact ((stamped.setInst ..).setOp ..).launch ..
  · exact State.keepsClock.ite ((((stamped.setInst ..).setOp ..).modDsp d _).launch ..)
      ((((stamped.setInst ..).setOp ..).modDsp d _).count ..)

theorem State.keepsClock.nodeReady (h : s.keepsClock t) (d i n : Nat) : s.keepsClock (t.nodeReady d i n) := by
  unfold State.nodeReady
  split
  · exact h
  split
  · exact h.createOp ..
  · exact h.setInst ..

theorem State.keepsClock.testNode (h : s.keepsClock t) (d i m : Nat) : s.keepsClock (t.testNode d i m) := by
  unfold State.testNode
  split
  · exact h
  split
  · exact h
  dsimp only
  split
  · exact h
  exact State.keepsClock.ite (h.nodeReady ..) ((h.setInst ..).count ..)

theorem State.keepsClock.testNodes (h : s.keepsClock t) (d i : Nat) : s.keepsClock (t.testNodes d i) := by
  unfold State.testNodes
  split
  · exact h
  · exact List.foldlRecOn (motive := fun u => s.keepsClock u) _ _ h fun u hu _ _ => hu.testNode ..

theorem State.keepsClock.createInst (h : s.keepsClock t) (d : Nat) (x : Inst) : s.keepsClock (t.createInst d x) :=
  ((h.pick ..).setInst ..).testNodes ..

theorem State.keepsClock.spawnInst (h : s.keepsClock t) (d g len : Nat) (arg : Word) :
    s.keepsClock (t.spawnInst d g len arg) := by
  unfold State.spawnInst
  dsimp only
  split
  · exact (h.count ..).createInst ..
  · exact ((((h.count ..).takeCells ..).newPkt ..).takeTicket ..).createInst ..

end

end Sys2Proof.Machine
end

section
/-! SUPPORT. The statuses and effects of OPEND, SPAWN, ENQ and PGROW. -/

namespace Sys2Proof.Machine

open Sys2Proof

/-! ### C and the status in TST (R156, R181) -/

theorem Thread.flags_hasC (x : Thread) (b : Bool) : x.hasC (x.flags { c := some b } false) b :=
  ⟨x.flags_eq _ _, x.flags_tag _ _⟩

theorem Thread.tag_setTag_sys (x : Thread) (n : Nat) (p : Bool) (r : BitVec 5) : (x.setTag (sysTag n) p).tag r = x.tag r := by
  refine Thread.tag_congr (fun m hm => ?_) r
  have hne : m ≠ sysTag n := by
    rw [sysTag]
    omega
  rw [Thread.contains_setTag, if_neg hne]

theorem Thread.status_hasStatus (x : Thread) {code src : Nat} (p : Bool) (h : code + 256 * src < 2 ^ 36) :
    x.hasStatus (x.status code src p) code src := by
  refine ⟨?_, ?_, ?_, fun r => ?_⟩
  · rw [Thread.status, Thread.flags_eq]
    rfl
  · rw [Thread.status, Thread.flags_eq]
    exact (BitVec.toNat_ofNat ..).trans (by rw [Nat.mul_comm, Nat.mod_eq_of_lt h])
  · rw [Thread.status, Thread.flags_eq]
    rfl
  · rw [Thread.status, Thread.flags_tag, Thread.tag_setTag_sys]
    rfl

section
variable {s t : State} {d k : Nat}

theorem State.spawnStatus_lt (s : State) (d g len : Nat) : s.spawnStatus d g len < 256 := by
  unfold State.spawnStatus
  dsimp only
  repeat' split
  all_goals decide

theorem State.growStatus_lt (s : State) (d n : Nat) (p : Packet) : s.growStatus d n p < 256 := by
  unfold State.growStatus
  dsimp only
  repeat' split
  all_goals decide

/-! ### What they do to the state -/

theorem State.leaves_setOp (s : State) (d k slot : Nat) (o : Op) :
    (s.setOp d slot o).leaves d k (s.thr d k) (s.setOp d slot o) :=
  ⟨State.slim_refl .., fun _ => rfl, s.thr_setOp ..⟩

/-- OPEND without an operation sets C. -/
theorem State.opend_without (h : s.held d k = none) (kk : BitVec 3) :
    s.opend d k kk = s.doneThr d k ((s.thr d k).flags { c := some true } false) := by
  rw [State.opend, h]

theorem State.keepsClock.lockedAtCommit (h : s.keepsClock t) (d slot : Nat) (locks : List Nat) :
    s.keepsClock (locks.foldl (fun u j => u.setHelper d j { u.helper d j with atCommit := some slot }) t) :=
  List.foldlRecOn (motive := fun u => s.keepsClock u) _ _ h fun _ hu _ _ => hu.setHelper ..

theorem State.keepsClock.graphPoisonRead (h : s.keepsClock t) (d g : Nat) : s.keepsClock (t.graphPoisonRead d g) := by
  unfold State.graphPoisonRead
  exact State.keepsClock.ite h (h.count ..)

/-- SPAWN with untagged operands of a graph whose read reports nothing. -/
theorem State.spawn_untagged {a b : BitVec 5} {g : BitVec 8} (ha : (s.thr d k).tag a = false)
    (hb : (s.thr d k).tag b = false) (hg : s.readGraph d g.toNat = s) :
    s.spawn d k a b g =
      let code := s.spawnStatus d g.toNat ((s.thr d k).val b).toNat
      let v := if code = cDONE then s.spawnInst d g.toNat ((s.thr d k).val b).toNat ((s.thr d k).val a)
        else if code = cFULL then s.count d ctrDSP 6 else s.graphPoisonRead d g.toNat
      v.doneThr d k ((v.thr d k).status code 0 false) := by
  simp only [State.spawn, ha, hb, hg, Bool.or_self, Bool.false_eq_true, if_false]

/-- PGROW without a packet reports STATE. -/
theorem State.pgrow_without (h : s.heldPkt d k = none) (a : BitVec 5) :
    s.pgrow d k a = s.doneThr d k ((s.thr d k).status cSTATE 3 ((s.thr d k).tag a)) := by
  rw [State.pgrow, h]
  cases s.held d k <;> rfl

/-- ENQ without an operation is a violation. -/
theorem State.enq_without (h : s.held d k = none) (a : BitVec 5) : s.enq d k a = .done (s.violation d) none := by
  rw [State.enq, h]
  rfl

/-- ENQ of untagged words, with a packet, fewer than eight enqueues so far and room in the log. -/
theorem State.enq_logs {slot : Nat} {o : Op} {i : Inst} {a : BitVec 5} (hh : s.held d k = some (slot, o, i))
    (htag : ∀ j : Nat, j < 3 → (s.thr d k).tagged (a.toNat + j) = false) (hpid : i.pid.isSome = true)
    (henqs : i.enqs.length + loggedEnqs o.log < 8) (hroom : o.log.length < 64) :
    s.enq d k a = .done (s.setOp d slot { o with
      log := o.log ++ [.enqueue { die := ((s.thr d k).val a).toNat / 4096 % 8, queue := ((s.thr d k).val a).toNat % 4096
                                  w0 := (s.thr d k).get (a.toNat + 1), w1 := (s.thr d k).get (a.toNat + 2) }] }) none := by
  have htags : ((List.range 3).any fun j => (s.thr d k).tagged (a.toNat + j)) = false := by
    rw [List.any_eq_false]
    intro j hj
    rw [htag j (List.mem_range.mp hj)]
    decide
  have hlimit : (i.pid.isNone || decide (8 ≤ i.enqs.length + loggedEnqs o.log)) = false := by
    rw [← Option.not_isSome, hpid]
    simpa using henqs
  have hqueue : bits ((s.thr d k).val a).toNat 0 12 = ((s.thr d k).val a).toNat % 4096 := bits_low ..
  have hdie : bits ((s.thr d k).val a).toNat 12 3 = ((s.thr d k).val a).toNat / 4096 % 8 := rfl
  simp only [State.enq, hh, htags, hlimit, Bool.false_eq_true, if_false, State.logEntry, hroom, if_true, hqueue, hdie]

end

end Sys2Proof.Machine
end

section
/-! PROOFS. OPEND, SPAWN, ENQ and PGROW. -/

namespace Sys2Proof.Machine

open Sys2Proof

/-- Settles O26, instruction by instruction: OPEND, SPAWN and PGROW settle the sluices, ENQ is one entry of the log. -/
theorem graphInstructionsReportTheirStatus : Obligations.GraphInstructionsReportTheirStatus := by
  refine ⟨?opend, ?spawn, ?enq, ?pgrow⟩
  case opend =>
    intro s t kk h
    refine ⟨fun hnone => ?_, fun slot o i hheld => ?_⟩
    · obtain ⟨n, cs, co, cl, hx⟩ := State.exec_settled (c := .opend t kk) h rfl rfl rfl (State.opend_without hnone kk) (State.keepsClock.refl s)
      exact ⟨n, cs, co, cl, _, hx, Thread.flags_hasC ..⟩
    · intro u w v
      have ended : s.keepsClock u := (State.keepsClock.refl s).setOp ..
      have dropped : s.keepsClock w := State.keepsClock.ite (ended.programDrop ..) ended
      have heff : s.opend t.die (tkey t) kk = v.doneThr t.die (tkey t)
          ({ v.at_ t with op := none, delivered := false }.flags { c := some false } false) := by
        rw [State.opend, hheld]
        rfl
      obtain ⟨n, cs, co, cl, hx⟩ := State.exec_settled (c := .opend t kk) h rfl rfl rfl heff (dropped.lockedAtCommit ..)
      exact ⟨n, cs, co, cl, _, hx, Thread.flags_hasC ..⟩
  case spawn =>
    intro s t a b g h ha hb hg x code v
    have hclock : s.keepsClock v := State.keepsClock.ite ((State.keepsClock.refl s).spawnInst ..)
      (State.keepsClock.ite ((State.keepsClock.refl s).count ..) ((State.keepsClock.refl s).graphPoisonRead ..))
    obtain ⟨n, cs, co, cl, hx⟩ := State.exec_settled (c := .spawn t a b g) h rfl rfl rfl (State.spawn_untagged ha hb hg) hclock
    exact ⟨n, cs, co, cl, _, hx, Thread.status_hasStatus _ _ (Nat.lt_trans (s.spawnStatus_lt ..) (by decide))⟩
  case enq =>
    intro s t a h x
    refine ⟨fun hnone => ?_, fun slot o i hheld htag hpid henqs hroom => ?_⟩
    · obtain ⟨n, cs, co, cl, hx⟩ := State.exec_done (c := .enq t a) h rfl rfl (State.enq_without hnone a)
        (State.keepsClock.refl s) ((State.leaves.refl s t.die (tkey t)).violation h.has)
      exact ⟨n, cs, co, cl, hx⟩
    · obtain ⟨n, cs, co, cl, hx⟩ := State.exec_done (c := .enq t a) h rfl rfl
        (State.enq_logs hheld htag hpid henqs hroom) ((State.keepsClock.refl s).setOp ..) (s.leaves_setOp ..)
      exact ⟨n, cs, co, cl, hx⟩
  case pgrow =>
    intro s t a h x m
    refine ⟨fun hnone => ?_, fun slot o i pid p hheld hpid hpkt => ?_⟩
    · obtain ⟨n, cs, co, cl, hx⟩ := State.exec_settled (c := .pgrow t a) h rfl rfl rfl (State.pgrow_without hnone a) (State.keepsClock.refl s)
      exact ⟨n, cs, co, cl, _, hx, Thread.status_hasStatus _ _ (by decide)⟩
    · intro r v
      have grown : s.keepsClock v :=
        State.keepsClock.ite (((State.keepsClock.refl s).takeCells ..).modPkt ..) (State.keepsClock.refl s)
      have heff : s.pgrow t.die (tkey t) a = v.doneThr t.die (tkey t)
          ((v.at_ t).status (s.growStatus t.die m p) 3 (x.tag a)) := by
        rw [State.pgrow, hheld, hpkt]
        simp only [hpid]
        rfl
      obtain ⟨n, cs, co, cl, hx⟩ := State.exec_settled (c := .pgrow t a) h rfl rfl rfl heff grown
      have hcode := s.growStatus_lt t.die m p
      exact ⟨n, cs, co, cl, _, hx, Thread.status_hasStatus _ _ (by omega)⟩

end Sys2Proof.Machine
end

section
/-! SUPPORT. The formats of the instruction words (R163): where each field of a word lies, and the instruction that a word
is parsed to. -/

namespace Sys2Proof.Machine

open Sys2Proof

/-! ### Fields by the word's value -/

theorem toNat_append_eq_add {m n : Nat} (x : BitVec m) (y : BitVec n) : (x ++ y).toNat = x.toNat * 2 ^ n + y.toNat := by
  rw [BitVec.toNat_append, ← Nat.shiftLeft_add_eq_or_of_lt y.isLt, Nat.shiftLeft_eq]

theorem toNat_bit1 (b : Bool) : (bit1 b).toNat = b.toNat := by cases b <;> rfl

theorem extractLsb'_eq_of_toNat {w : Word} {lo len n : Nat} {f : BitVec len} (hw : w.toNat = n)
    (hf : n / 2 ^ lo % 2 ^ len = f.toNat) : w.extractLsb' lo len = f := by
  apply BitVec.eq_of_toNat_eq
  rw [BitVec.extractLsb'_toNat, hw, Nat.shiftRight_eq_div_pow, hf]

theorem getLsbD_eq_of_toNat {w : Word} {j n : Nat} {b : Bool} (hw : w.toNat = n) (hb : n / 2 ^ j % 2 = b.toNat) :
    w.getLsbD j = b := by
  rw [← BitVec.testBit_toNat, hw, Nat.testBit_eq_decide_div_mod_eq, hb]
  cases b <;> rfl

/-! ### The fields of each format -/

section
variable (op : BitVec 8) (d a b : BitVec 5)

theorem fmtA_toNat (sys : Bool) (f : BitVec 12) : (fmtA op d a b sys f).toNat =
    ((((op.toNat * 2 ^ 5 + d.toNat) * 2 ^ 5 + a.toNat) * 2 ^ 5 + b.toNat) * 2 ^ 1 + sys.toNat) * 2 ^ 12 + f.toNat := by
  simp only [fmtA, toNat_append_eq_add, toNat_bit1]

theorem fmtI_toNat (imm : BitVec 18) : (fmtI op d a imm).toNat =
    ((op.toNat * 2 ^ 5 + d.toNat) * 2 ^ 5 + a.toNat) * 2 ^ 18 + imm.toNat := by
  simp only [fmtI, toNat_append_eq_add]

theorem fmtM_toNat (p : Bool) (sz : BitVec 2) (disp : BitVec 15) : (fmtM op d a p sz disp).toNat =
    ((((op.toNat * 2 ^ 5 + d.toNat) * 2 ^ 5 + a.toNat) * 2 ^ 1 + p.toNat) * 2 ^ 2 + sz.toNat) * 2 ^ 15 + disp.toNat := by
  simp only [fmtM, toNat_append_eq_add, toNat_bit1]

theorem fmtX_toNat (n : BitVec 6) (k : BitVec 12) : (fmtX op d a n k).toNat =
    (((op.toNat * 2 ^ 5 + d.toNat) * 2 ^ 5 + a.toNat) * 2 ^ 6 + n.toNat) * 2 ^ 12 + k.toNat := by
  simp only [fmtX, toNat_append_eq_add]

theorem fmtB_toNat (cond : BitVec 4) (off : BitVec 24) :
    (fmtB op cond off).toNat = (op.toNat * 2 ^ 4 + cond.toNat) * 2 ^ 24 + off.toNat := by
  simp only [fmtB, toNat_append_eq_add]

theorem fmtA_fields (sys : Bool) (f : BitVec 12) :
    (fmtA op d a b sys f).extractLsb' 28 8 = op ∧ (fmtA op d a b sys f).extractLsb' 23 5 = d ∧
      (fmtA op d a b sys f).extractLsb' 18 5 = a ∧ (fmtA op d a b sys f).extractLsb' 13 5 = b ∧
      (fmtA op d a b sys f).getLsbD 12 = sys ∧ (fmtA op d a b sys f).extractLsb' 0 12 = f := by
  have hw := fmtA_toNat op d a b sys f
  have hs := sys.toNat_lt
  refine ⟨extractLsb'_eq_of_toNat hw ?_, extractLsb'_eq_of_toNat hw ?_, extractLsb'_eq_of_toNat hw ?_,
    extractLsb'_eq_of_toNat hw ?_, getLsbD_eq_of_toNat hw ?_, extractLsb'_eq_of_toNat hw ?_⟩ <;> omega

theorem fmtI_fields (imm : BitVec 18) :
    (fmtI op d a imm).extractLsb' 28 8 = op ∧ (fmtI op d a imm).extractLsb' 23 5 = d ∧
      (fmtI op d a imm).extractLsb' 18 5 = a ∧ (fmtI op d a imm).extractLsb' 0 18 = imm := by
  have hw := fmtI_toNat op d a imm
  refine ⟨extractLsb'_eq_of_toNat hw ?_, extractLsb'_eq_of_toNat hw ?_, extractLsb'_eq_of_toNat hw ?_,
    extractLsb'_eq_of_toNat hw ?_⟩ <;> omega

theorem fmtM_fields (p : Bool) (sz : BitVec 2) (disp : BitVec 15) :
    (fmtM op d a p sz disp).extractLsb' 28 8 = op ∧ (fmtM op d a p sz disp).extractLsb' 23 5 = d ∧
      (fmtM op d a p sz disp).extractLsb' 18 5 = a ∧ (fmtM op d a p sz disp).getLsbD 17 = p ∧
      (fmtM op d a p sz disp).extractLsb' 15 2 = sz ∧ (fmtM op d a p sz disp).extractLsb' 0 15 = disp := by
  have hw := fmtM_toNat op d a p sz disp
  have hp := p.toNat_lt
  refine ⟨extractLsb'_eq_of_toNat hw ?_, extractLsb'_eq_of_toNat hw ?_, extractLsb'_eq_of_toNat hw ?_,
    getLsbD_eq_of_toNat hw ?_, extractLsb'_eq_of_toNat hw ?_, extractLsb'_eq_of_toNat hw ?_⟩ <;> omega

theorem fmtX_fields (n : BitVec 6) (k : BitVec 12) :
    (fmtX op d a n k).extractLsb' 28 8 = op ∧ (fmtX op d a n k).extractLsb' 23 5 = d ∧
      (fmtX op d a n k).extractLsb' 18 5 = a ∧ (fmtX op d a n k).extractLsb' 12 6 = n := by
  have hw := fmtX_toNat op d a n k
  refine ⟨extractLsb'_eq_of_toNat hw ?_, extractLsb'_eq_of_toNat hw ?_, extractLsb'_eq_of_toNat hw ?_,
    extractLsb'_eq_of_toNat hw ?_⟩ <;> omega

theorem fmtB_fields (cond : BitVec 4) (off : BitVec 24) :
    (fmtB op cond off).extractLsb' 28 8 = op ∧
      (fmtB op cond off).extractLsb' 24 4 = cond ∧ (fmtB op cond off).extractLsb' 0 24 = off := by
  have hw := fmtB_toNat op cond off
  refine ⟨extractLsb'_eq_of_toNat hw ?_, extractLsb'_eq_of_toNat hw ?_, extractLsb'_eq_of_toNat hw ?_⟩ <;> omega

end

/-- The field at the low end of a last field that is padded above. -/
theorem extractLsb'_append_low {w : Word} {x m n : Nat} {z : BitVec m} {f : BitVec n}
    (hw : w.toNat = x * 2 ^ (m + n) + (z ++ f).toNat) : w.extractLsb' 0 n = f := by
  refine extractLsb'_eq_of_toNat hw ?_
  rw [toNat_append_eq_add, Nat.pow_zero, Nat.div_one, Nat.pow_add, ← Nat.mul_assoc, ← Nat.add_assoc, ← Nat.add_mul,
    Nat.mul_add_mod', Nat.mod_eq_of_lt f.isLt]

/-! ### Parsing an encoded word -/

/-- What is parsed from the word of an instruction is that instruction, legal or not: its opcode leads to its row, and the row
takes the fields where its format lays them. -/
theorem parseWord_encodeInstr (i : CoreInstr) : parseWord (encodeInstr i) = some i := by
  cases i with
  | alu op | sh op | mul op | dec op =>
    rw [encodeInstr, parseWord, (fmtA_fields ..).1]
    change (fromFunc _ _).map _ = _
    simp only [fmtA_fields]
    cases op <;> rfl
  | cpw | cmps | dstep =>
    rw [encodeInstr, parseWord, (fmtA_fields ..).1]
    change (if _ then _ else _) = _
    simp only [fmtA_fields]
    rfl
  | jr =>
    rw [encodeInstr, parseWord, (fmtA_fields ..).1]
    change some _ = _
    simp only [fmtA_fields]
  | spawn a b g =>
    rw [encodeInstr, parseWord, (fmtA_fields ..).1]
    change some _ = _
    simp only [fmtA_fields, extractLsb'_append_low (m := 4) (n := 8) (fmtA_toNat ..)]
  | imm op =>
    rw [encodeInstr, parseWord, (fmtI_fields ..).1]
    cases op <;> change some _ = _ <;> simp only [fmtI_fields]
  | mem op =>
    rw [encodeInstr, parseWord, (fmtM_fields ..).1]
    cases op <;> change some _ = _ <;> simp only [fmtM_fields]
  | shi op d a n =>
    rw [encodeInstr, parseWord, (fmtI_fields ..).1]
    cases op <;> change some _ = _ <;>
      simp only [fmtI_fields, extractLsb'_append_low (m := 10) (n := 8) (fmtI_toNat ..)]
  | extu d a lsb wm1 | ins d a lsb wm1 =>
    have hwm1 : ∀ op : BitVec 8, (fmtI op d a ((0 : BitVec 6) ++ wm1 ++ lsb)).extractLsb' 6 6 = wm1 := fun op =>
      extractLsb'_eq_of_toNat (fmtI_toNat ..) (by simp only [toNat_append_eq_add]; omega)
    rw [encodeInstr, parseWord, (fmtI_fields ..).1]
    change some _ = _
    simp only [fmtI_fields, hwm1, extractLsb'_append_low (m := 12) (n := 6) (fmtI_toNat ..)]
  | jal d target =>
    rw [encodeInstr, parseWord, (fmtI_fields ..).1]
    change some _ = _
    simp only [fmtI_fields, extractLsb'_append_low (m := 2) (n := 16) (fmtI_toNat ..)]
  | waiti d src =>
    rw [encodeInstr, parseWord, (fmtI_fields ..).1]
    change some _ = _
    simp only [fmtI_fields, extractLsb'_append_low (m := 1) (n := 17) (fmtI_toNat ..)]
  | bcc =>
    rw [encodeInstr, parseWord, (fmtB_fields ..).1]
    change some _ = _
    simp only [fmtB_fields]
  | chs | che | chr | wait | enq | pgrow | ansc | hlock | hunlock | crcp | mfs | mts | rpt =>
    rw [encodeInstr, parseWord, (fmtX_fields ..).1]
    change some _ = _
    simp only [fmtX_fields]
  | opend | hgo | htest =>
    rw [encodeInstr, parseWord, (fmtX_fields ..).1]
    change some _ = _
    simp only [fmtX_fields, extractLsb'_append_low (m := 9) (n := 3) (fmtX_toNat ..)]
  | tbl | crc =>
    rw [encodeInstr, parseWord, (fmtX_fields ..).1]
    change some _ = _
    simp only [fmtX_fields, extractLsb'_append_low (m := 10) (n := 2) (fmtX_toNat ..)]
  | tblu d a n k cmd =>
    have hcmd : (fmtX 0o241 d a n ((0 : BitVec 7) ++ cmd ++ k)).extractLsb' 2 3 = cmd :=
      extractLsb'_eq_of_toNat (fmtX_toNat ..) (by simp only [toNat_append_eq_add]; omega)
    rw [encodeInstr, parseWord, (fmtX_fields ..).1]
    change some _ = _
    simp only [fmtX_fields, hcmd, extractLsb'_append_low (m := 10) (n := 2) (fmtX_toNat ..)]
  | tctl a abandon =>
    have hbit : (fmtX 0o305 0 a 0 ((0 : BitVec 11) ++ bit1 abandon)).getLsbD 0 = abandon :=
      getLsbD_eq_of_toNat (fmtX_toNat ..) (by
        have := abandon.toNat_lt
        simp only [toNat_append_eq_add, toNat_bit1]
        omega)
    rw [encodeInstr, parseWord, (fmtX_fields ..).1]
    change some _ = _
    simp only [fmtX_fields, hbit]
  | cctl =>
    rw [encodeInstr, parseWord, (fmtX_fields ..).1]
    change some _ = _
    simp only [fmtX_fields, extractLsb'_append_low (m := 4) (n := 8) (fmtX_toNat ..)]

/-- A word is read as an instruction when it is that instruction's word and legal. -/
theorem decodeWord_eq_some {w : Word} {i : CoreInstr} :
    decodeWord w = some i ↔ legalInstr i = true ∧ encodeInstr i = w := by
  constructor
  · intro h
    unfold decodeWord at h
    split at h
    · split at h
      · rename_i hok
        simp only [Bool.and_eq_true, decide_eq_true_eq] at hok
        obtain rfl := Option.some.inj h
        exact ⟨hok.2, hok.1⟩
      · cases h
    · cases h
  · rintro ⟨hlegal, rfl⟩
    simp only [decodeWord, parseWord_encodeInstr, hlegal, decide_true, Bool.and_self, if_true]

end Sys2Proof.Machine
end

section
/-! PROOFS. The round trip of the instruction words. -/

namespace Sys2Proof.Machine

open Sys2Proof

/-- Settles O5: the parser reads each format's fields back, and the decoder keeps a word only if it is what it has read. -/
theorem instructionWordsAreReadBack : Obligations.InstructionWordsAreReadBack :=
  ⟨fun _ h => decodeWord_eq_some.mpr ⟨h, rfl⟩, fun _ _ h => decodeWord_eq_some.mp h⟩

end Sys2Proof.Machine
end

section
/-! SUPPORT. The three answers of an instruction that changes no more than its thread: it is done, it is a program fault, or
it holds the thread. -/

namespace Sys2Proof.Machine

open Sys2Proof

variable {s : State} {c : Instr} {t : Tid} {i : CoreInstr} {y : Thread}

/-- The thread of a command that issues is one of the 16 of a core (R13). -/
theorem State.issues.thr_lt (h : s.issues t i) : t.thr < 16 := by
  have hok := h.exists_
  simp only [tidOk, Bool.and_eq_true, decide_eq_true_eq] at hok
  exact hok.2

theorem State.issues.core_eq (h : s.issues t i) : tkey t / 16 = t.core := by
  have hthr := h.thr_lt
  rw [tkey]
  omega

/-- An instruction that is done with a new thread and nothing else. -/
theorem State.exec_doneThr (h : s.issues t i) (hc : namesIssue c = some (t, i)) (hset : i.settles = false)
    (he : s.effect t.die (tkey t) i = s.doneThr t.die (tkey t) y) :
    ∃ n cs co cl, exec c s = .next (s.onlyThread t.die (tkey t) n cs co cl (y.after ((s.at_ t).pc + 1) i.rounds)) :=
  State.exec_done (s' := s.setThr t.die (tkey t) y) (pc := none) h hc hset he (State.keepsClock.refl s)
    ((State.leaves.refl s ..).setThr y (State.has_lt h.has))

/-- A program fault has no effect but the fault (R141). -/
theorem State.exec_trap {code : Nat} (h : s.issues t i) (hc : namesIssue c = some (t, i))
    (he : s.effect t.die (tkey t) i = .trap code) :
    exec c s = .next (s.keep ((s.progFault t.die (tkey t) code).settle t.die)) := by
  rw [h.exec hc, State.run, he, State.finish]

/-- An instruction that holds its thread, with a place in the order of requests. -/
theorem State.exec_hold (h : s.issues t i) (hc : namesIssue c = some (t, i))
    (he : s.effect t.die (tkey t) i = .hold ({ s with stamps := s.stamps + 1 }.setThr t.die (tkey t) y)) :
    ∃ n cs co cl, exec c s = .next ({ s with stamps := s.stamps + 1 }.onlyThread t.die (tkey t) n cs co cl
      { y with lag := i.rounds }) := by
  have h8 := State.has_lt h.has
  have hu : s.keepsClock { s with stamps := s.stamps + 1 } := (State.keepsClock.refl s).stamp
  have hl := (State.leaves.refl { s with stamps := s.stamps + 1 } t.die (tkey t)).setThr y h8
  obtain ⟨n, cs, co, cl, hr⟩ := State.run_hold h8 ((State.slotCycle_slim _ hl.slim).trans (hu.slotCycle ..)) he
  refine ⟨n, cs, co, cl, ?_⟩
  rw [h.exec hc, hr, hl.onlyThread n cs co cl _ h8, hl.thr, (hu.onlyThread ..).keep]

end Sys2Proof.Machine
end

section
/-! SUPPORT. Results of instructions on registers: one result or none with its flags, and a system register. -/

namespace Sys2Proof.Machine

open Sys2Proof

/-! ### One general register, or none -/

/-- A thread with an instruction's result in its destination, if it has one, and the flags. -/
def Thread.resultTo (x : Thread) (dest : Option (BitVec 5)) (r : Word) (f : FlagSet) (p : Bool) : Thread :=
  x.result false (dest.getD 0) (dest.map fun _ => r) f p

theorem Thread.resultTo_wrote (x : Thread) (dest : Option (BitVec 5)) (r : Word) (f : FlagSet) (p : Bool) :
    x.wrote (x.resultTo dest r f p) dest r p := by
  cases dest with
  | none => exact x.flags_wrote f p p r
  | some d => exact x.result_wrote d r f p

theorem Thread.resultTo_flags (x : Thread) (dest : Option (BitVec 5)) (r : Word) (f : FlagSet) (p : Bool) :
    let y := x.resultTo dest r f p
    y.z = f.z.getD x.z ∧ y.n = f.n.getD x.n ∧ y.c = f.c.getD x.c ∧ y.v = f.v.getD x.v ∧ y.dz = f.dz.getD x.dz ∧
      y.dcv = f.dcv.getD x.dcv := x.result_flags ..

theorem Thread.resultTo_flTag (x : Thread) (dest : Option (BitVec 5)) (r : Word) {f : FlagSet} (p : Bool)
    (h : f.z.isSome = true) : (x.resultTo dest r f p).flTag = p := by
  rw [Thread.flTag, Thread.resultTo, Thread.result_tags _ _ _ _ _ _ (by decide), Thread.contains_flags, if_pos ⟨rfl, .inl h⟩]

/-- Without flags a result is the write of its register. -/
theorem Thread.flags_none (x : Thread) (p : Bool) : x.flags {} p = x := rfl

theorem Thread.put_flagsKept (x : Thread) (d : BitVec 5) (v : Word) (p : Bool) : x.flagsKept (x.put d.toNat v p) := by
  have htag : (x.put d.toNat v p).flTag = x.flTag := Thread.contains_put _ _ _ _ _ (by decide) d.isLt
  rw [Thread.put_eq] at htag ⊢
  exact ⟨rfl, rfl, rfl, rfl, rfl, rfl, htag⟩

/-! ### A system register (R156, R164) -/

theorem sysRw_cases {n : BitVec 6} (h : sysRw n = true) :
    n = 0 ∨ n = 1 ∨ n = 2 ∨ n = 3 ∨ n = 6 ∨ n = 7 ∨ n = 8 ∨ n = 10 ∨ n = 11 := by
  revert n
  decide

theorem toNat_bit (n i : Nat) : (bit n i).toNat = n / 2 ^ i % 2 := by
  unfold bit
  rcases Nat.mod_two_eq_zero_or_one (n / 2 ^ i) with h | h <;> rw [h] <;> rfl

theorem Thread.fl_eq (x : Thread) :
    x.fl = x.z.toNat + x.n.toNat * 2 + x.c.toNat * 4 + x.v.toNat * 8 + x.dz.toNat * 16 := by
  have weigh : ∀ (b : Bool) (k : Nat), (if b = true then k else 0) = b.toNat * k := by
    intro b k
    cases b <;> simp
  simp only [Thread.fl, weigh, Nat.mul_one]

theorem Thread.fl_setFl (x : Thread) (v : Nat) : (x.setFl v).fl = v % 2 ^ 5 := by
  simp only [Thread.fl_eq, Thread.setFl, toNat_bit]
  omega

/-- What a write of a system register stores, but for the tags. -/
def Thread.sysStore (x : Thread) (v : Word) : Nat → Thread
  | 0 => { x with cnt := v }
  | 1 => x.setFl v.toNat
  | 2 => { x with dcv := v.truncate 9 }
  | 3 => { x with tst := w36 (bits v.toNat 0 11) }
  | 6 => { x with timer := v }
  | 7 => { x with rsetLo := v }
  | 8 => { x with rsetHi := bits v.toNat 0 4 }
  | 10 => { x with crcPoly := bits v.toNat 0 32 }
  | 11 => { x with crcW := bits v.toNat 0 6 }
  | _ => x

theorem Thread.putSys_eq_sysStore (x : Thread) (n : Nat) (v : Word) (p : Bool) :
    x.putSys n v p = let y := (x.sysStore v n).setTag (sysTag n) p
      if n = 1 && p then y.setTag (sysTag 2) true else y := rfl

theorem Thread.tags_sysStore (x : Thread) (n : Nat) (v : Word) : (x.sysStore v n).tags = x.tags := by
  unfold Thread.sysStore
  split <;> rfl

theorem Thread.sysStore_eq (x : Thread) (n : Nat) (v : Word) :
    let y := x.sysStore v n
    y = { x with cnt := y.cnt, z := y.z, n := y.n, c := y.c, v := y.v, dz := y.dz, dcv := y.dcv, tst := y.tst, timer := y.timer
                 rsetLo := y.rsetLo, rsetHi := y.rsetHi, crcPoly := y.crcPoly, crcW := y.crcW } := by
  unfold Thread.sysStore
  dsimp only
  split <;> rfl

theorem Thread.sysVal_sysStore_same (x : Thread) {n : BitVec 6} (v : Word) (h : sysRw n = true) :
    (x.sysStore v n.toNat).sysVal n.toNat = v.toNat % 2 ^ sysWidth n.toNat := by
  have word : v.toNat = v.toNat % 2 ^ 36 := (Nat.mod_eq_of_lt v.isLt).symm
  rcases sysRw_cases h with rfl | rfl | rfl | rfl | rfl | rfl | rfl | rfl | rfl
  · exact word
  · exact x.fl_setFl v.toNat
  · exact BitVec.toNat_setWidth ..
  · refine (BitVec.toNat_ofNat ..).trans ?_
    rw [bits_low, Nat.mod_mod_of_dvd' (by decide)]
    rfl
  · exact word
  · exact word
  all_goals exact bits_low ..

theorem Thread.sysVal_sysStore_ne (x : Thread) {n m : Nat} (v : Word) (h : m ≠ n) :
    (x.sysStore v n).sysVal m = x.sysVal m := by
  unfold Thread.sysStore
  split <;> unfold Thread.sysVal <;> split <;> simp_all [Thread.fl, Thread.setFl]

theorem Thread.contains_putSys (x : Thread) (n : Nat) (v : Word) (p : Bool) (m : Nat) :
    (x.putSys n v p).tags.contains m =
      if m = sysTag n then p else (x.tags.contains m || (p && n = 1 && m = sysTag 2)) := by
  rw [Thread.putSys_eq_sysStore]
  have stored : ((x.sysStore v n).setTag (sysTag n) p).tags.contains m = if m = sysTag n then p else x.tags.contains m := by
    rw [Thread.contains_setTag, Thread.tags_sysStore]
  dsimp only
  generalize x.tags.contains m = old at stored ⊢
  by_cases h : (decide (n = 1) && p) = true
  · rw [if_pos h, Thread.contains_setTag, stored]
    simp only [Bool.and_eq_true, decide_eq_true_eq] at h
    obtain ⟨rfl, rfl⟩ := h
    by_cases hm : m = sysTag 2 <;> simp [hm]
  · rw [if_neg h, stored, Bool.and_comm p, Bool.not_eq_true _ |>.mp h, Bool.false_and, Bool.or_false]

theorem Thread.putSys_wroteSys (x : Thread) {n : BitVec 6} (v : Word) (p : Bool) (h : sysRw n = true) :
    x.wroteSys (x.putSys n.toNat v p) n.toNat v p := by
  have stored : x.putSys n.toNat v p = { x.sysStore v n.toNat with tags := (x.putSys n.toNat v p).tags } := by
    rw [Thread.putSys_eq_sysStore]
    dsimp only
    split <;> rfl
  refine ⟨?_, fun m => ?_, x.contains_putSys n.toNat v p⟩
  · rw [stored, Thread.sysStore_eq]
  · rw [stored]
    change (x.sysStore v n.toNat).sysVal m = _
    split
    · rename_i hm
      rw [hm, x.sysVal_sysStore_same v h]
    · exact x.sysVal_sysStore_ne v ‹_›

end Sys2Proof.Machine
end

section
/-! SUPPORT. The logic group, CLZ and POPC, and the moves and bit fields bit by bit (R169, R173). -/

namespace Sys2Proof.Machine

open Sys2Proof

variable {s : State} {d k : Nat} {x : Thread} {i : CoreInstr}

/-! ### The logic group -/

theorem popc36_eq_countP (a : Word) : popc36 a = (List.range 36).countP a.getLsbD := List.countP_eq_length_filter.symm

/-- An instruction of the logic group leaves its word and the logic flags. -/
theorem State.effect_of_logical {r : Word} (hx : s.thr d k = x) (hsys : i.sys = false) (h : logical x i = some r) :
    s.effect d k i = s.doneThr d k (x.resultTo i.dest r (logicFlags r) (i.tainted x)) := by
  subst hx
  cases i with
  | alu op sys e a b =>
    obtain rfl : sys = false := hsys
    cases op <;> simp only [logical, reduceCtorEq, Option.some.injEq] at h <;> subst h
    case popc =>
      rw [← popc36_eq_countP]
      rfl
    all_goals rfl
  | imm op e a v =>
    cases op <;> simp only [logical, reduceCtorEq, Option.some.injEq] at h <;> subst h <;> rfl
  | _ => cases h

/-- An instruction of the logic group settles no sluice and takes one round. -/
theorem rounds_of_logical {r : Word} (h : logical x i = some r) : i.settles = false ∧ i.rounds = 1 := by
  cases i with
  | alu | imm => exact ⟨rfl, rfl⟩
  | _ => cases h

end Sys2Proof.Machine
end

section
/-! PROOFS. The logic group. -/

namespace Sys2Proof.Machine

open Sys2Proof

/-- Settles O7: the group's one effect is its word with the logic flags. -/
theorem logicSetsZeroNegativeAndClearsOverflow : Obligations.LogicSetsZeroNegativeAndClearsOverflow := by
  intro s c t i r hc hsys h hr
  obtain ⟨hset, hrounds⟩ := rounds_of_logical hr
  obtain ⟨n, cs, co, cl, hx⟩ := State.exec_doneThr h hc hset (State.effect_of_logical rfl hsys hr)
  obtain ⟨hz, hn, hc, hv, hdz, hdcv⟩ := (s.at_ t).resultTo_flags i.dest r (logicFlags r) (i.tainted (s.at_ t))
  exact ⟨n, cs, co, cl, _, hrounds ▸ hx, Thread.resultTo_wrote .., hz, hn, hv, hc, hdz, hdcv,
    Thread.resultTo_flTag _ _ _ _ rfl⟩

end Sys2Proof.Machine
end

section
/-! SUPPORT. Leading zeros, and the moves and bit fields bit by bit (R169, R173). -/

namespace Sys2Proof.Machine

open Sys2Proof

variable {s : State} {d k : Nat} {x : Thread} {i : CoreInstr}

/-! ### Leading zeros -/

/-- The fold that `clz36` makes keeps the last index that passes. -/
theorem foldl_range_max (p : Nat → Prop) [DecidablePred p] (n : Nat) :
    let m := (List.range n).foldl (fun m i => if p i then max m i else m) 0
    (m = 0 ∨ m < n ∧ p m) ∧ ∀ i : Nat, i < n → p i → i ≤ m := by
  induction n with
  | zero => exact ⟨.inl rfl, fun i hi => absurd hi (Nat.not_lt_zero i)⟩
  | succ n ih =>
    obtain ⟨hm, hall⟩ := ih
    simp only [List.range_succ, List.foldl_append, List.foldl_cons, List.foldl_nil]
    generalize (List.range n).foldl (fun m i => if p i then max m i else m) 0 = m at hm hall
    by_cases hp : p n
    · have hmn : m ≤ n := hm.elim (fun h => h ▸ Nat.zero_le n) fun h => Nat.le_of_lt h.1
      rw [if_pos hp, Nat.max_eq_right hmn]
      exact ⟨.inr ⟨Nat.lt_succ_self n, hp⟩, fun i hi _ => Nat.le_of_lt_succ hi⟩
    · rw [if_neg hp]
      refine ⟨hm.imp_right fun h => ⟨Nat.lt_succ_of_lt h.1, h.2⟩, fun i hi hpi => ?_⟩
      exact hall i (Nat.lt_of_le_of_ne (Nat.le_of_lt_succ hi) fun e => hp (e ▸ hpi)) hpi

/-- CLZ counts the zeros above the highest one. -/
theorem clz36_spec (a : Word) :
    clz36 a ≤ 36 ∧ a.toNat < 2 ^ (36 - clz36 a) ∧ (clz36 a < 36 → 2 ^ (35 - clz36 a) ≤ a.toNat) := by
  obtain ⟨hm, hall⟩ := foldl_range_max (fun i => a.toNat < 2 ^ (36 - i)) 37
  change clz36 a = 0 ∨ clz36 a < 37 ∧ a.toNat < 2 ^ (36 - clz36 a) at hm
  change ∀ i : Nat, i < 37 → a.toNat < 2 ^ (36 - i) → i ≤ clz36 a at hall
  refine ⟨?_, ?_, fun h => ?_⟩
  · omega
  · rcases hm with hm | hm
    · rw [hm]
      exact a.isLt
    · exact hm.2
  · by_contra hlt
    have := hall (clz36 a + 1) (by omega) (by rw [show 36 - (clz36 a + 1) = 35 - clz36 a by omega]; omega)
    omega

/-- The count of CLZ is of the powers of two above the word. -/
theorem clz36_eq_countP (a : Word) : clz36 a = (List.range 36).countP fun j => decide (a.toNat < 2 ^ j) := by
  obtain ⟨hle, hlt, hge⟩ := clz36_spec a
  have above : ∀ j ∈ List.range 36, decide (a.toNat < 2 ^ j) = decide (36 - clz36 a ≤ j) := by
    intro j hj
    have hj36 := List.mem_range.mp hj
    rw [decide_eq_decide]
    refine ⟨fun h => ?_, fun h => Nat.lt_of_lt_of_le hlt (Nat.pow_le_pow_right (by decide) h)⟩
    by_contra hn
    have := Nat.pow_le_pow_right (n := 2) (by decide) (show j ≤ 35 - clz36 a by omega)
    have := hge (by omega)
    omega
  have counted : ∀ m : Nat, m ≤ 36 → m = (List.range 36).countP fun j => decide (36 - m ≤ j) := by decide
  rw [List.countP_congr fun j hj => by rw [above j hj]]
  exact counted _ hle

/-! ### Bits of the moves and bit fields -/

theorem getLsbD_ones (w : Nat) {j : Nat} (hj : j < 36) : (BitVec.ofNat 36 (2 ^ w - 1)).getLsbD j = decide (j < w) := by
  rw [BitVec.getLsbD_ofNat, Nat.testBit_two_pow_sub_one, decide_eq_true hj, Bool.true_and]

theorem getLsbD_immZ (i : BitVec 18) {j : Nat} (hj : j < 36) : (immZ i).getLsbD j = i.getLsbD j := by
  rw [immZ, BitVec.zeroExtend_eq_setWidth, BitVec.getLsbD_setWidth, decide_eq_true hj, Bool.true_and]

theorem getLsbD_movhi (a : Word) (i : BitVec 18) {j : Nat} (hj : j < 36) :
    ((immZ i <<< 18) ||| (a &&& 0o777777)).getLsbD j = if j < 18 then a.getLsbD j else i.getLsbD (j - 18) := by
  have ones : (0o777777 : Word).getLsbD j = decide (j < 18) := getLsbD_ones 18 hj
  rw [BitVec.getLsbD_or, BitVec.getLsbD_and, BitVec.getLsbD_shiftLeft, ones, getLsbD_immZ i (by omega)]
  by_cases h : j < 18 <;> simp [h, hj]

theorem getLsbD_extuResult (a : Word) (lsb w : Nat) {j : Nat} (hj : j < 36) :
    (extuResult a lsb w).getLsbD j = (decide (j < w) && a.getLsbD (lsb + j)) := by
  rw [extuResult, BitVec.getLsbD_and, BitVec.getLsbD_ushiftRight, getLsbD_ones w hj, Bool.and_comm]

theorem getLsbD_insResult (e a : Word) (lsb w : Nat) {j : Nat} (hj : j < 36) :
    (insResult e a lsb w).getLsbD j = if lsb ≤ j ∧ j < lsb + w then a.getLsbD (j - lsb) else e.getLsbD j := by
  have mask : (BitVec.ofNat 36 ((2 ^ w - 1) * 2 ^ lsb)).getLsbD j = decide (lsb ≤ j ∧ j < lsb + w) := by
    rw [BitVec.getLsbD_ofNat, Nat.testBit_mul_two_pow, Nat.testBit_two_pow_sub_one]
    simp only [hj, decide_true, Bool.true_and]
    by_cases h : lsb ≤ j
    · simp [h]
      omega
    · simp [h]
  rw [insResult]
  simp only [BitVec.getLsbD_or, BitVec.getLsbD_and, BitVec.getLsbD_not, BitVec.getLsbD_shiftLeft, mask, hj]
  by_cases h : lsb ≤ j ∧ j < lsb + w <;> simp [h]

/-- A move or bit field writes its word, whose bits are the moved ones, and no flag. -/
theorem State.effect_of_moved (hx : s.thr d k = x) (hsys : i.sys = false) (h : (movedBit x 0 i).isSome) :
    ∃ (e : BitVec 5) (r : Word), i.dest = some e ∧ s.effect d k i = s.doneThr d k (x.put e.toNat r (i.tainted x)) ∧
      ∀ j : Nat, j < 36 → some (r.getLsbD j) = movedBit x j i := by
  subst hx
  cases i with
  | alu op sys e a b =>
    obtain rfl : sys = false := hsys
    cases op <;> simp only [movedBit, Option.isSome_none, Bool.false_eq_true] at h
    exact ⟨e, _, rfl, rfl, fun _ _ => rfl⟩
  | imm op e a v =>
    cases op <;> simp only [movedBit, Option.isSome_none, Bool.false_eq_true] at h
    case movi => exact ⟨e, _, rfl, rfl, fun j hj => congrArg some (getLsbD_immZ v hj)⟩
    case movhi => exact ⟨e, _, rfl, rfl, fun j hj => congrArg some (getLsbD_movhi _ v hj)⟩
  | extu e a lsb wm1 =>
    refine ⟨e, _, rfl, rfl, fun j hj => congrArg some ?_⟩
    rw [getLsbD_extuResult _ _ _ hj]
    simp only [Nat.lt_succ_iff]
  | ins e a lsb wm1 =>
    refine ⟨e, _, rfl, rfl, fun j hj => congrArg some ?_⟩
    rw [getLsbD_insResult _ _ _ _ hj]
    simp only [← Nat.add_assoc, Nat.lt_succ_iff]
  | _ => cases h

/-- A move or bit field settles no sluice and takes one round. -/
theorem rounds_of_moved (h : (movedBit x 0 i).isSome) : i.settles = false ∧ i.rounds = 1 := by
  cases i with
  | alu | imm | extu | ins => exact ⟨rfl, rfl⟩
  | _ => cases h

end Sys2Proof.Machine
end

section
/-! PROOFS. CLZ, the moves and the bit fields. -/

namespace Sys2Proof.Machine

open Sys2Proof

/-- Settles O8: CLZ is a logic result whose word `clz36_spec` bounds; a move writes its bits with no flag. -/
theorem movesAndLeadingZeros : Obligations.MovesAndLeadingZeros := by
  refine ⟨?clz, ?moves⟩
  case clz =>
    intro s t d a h v
    have htag : (CoreInstr.alu .clz false d a 0).tainted (s.at_ t) = (s.at_ t).tag a := by
      change ((s.at_ t).tag a || (s.at_ t).tag 0 || false) = _
      rw [Thread.tag_zero, Bool.or_false, Bool.or_false]
    have heff : s.effect t.die (tkey t) (.alu .clz false d a 0) = s.doneThr t.die (tkey t)
        ((s.at_ t).resultTo (some d) (w36 (clz36 v)) (logicFlags (w36 (clz36 v))) ((s.at_ t).tag a)) := by
      rw [← htag]
      rfl
    obtain ⟨n, cs, co, cl, hx⟩ := State.exec_doneThr (c := .clz t false d a) h rfl rfl heff
    obtain ⟨hz, hn, hc, hv, hdz, hdcv⟩ := (s.at_ t).resultTo_flags (some d) (w36 (clz36 v)) (logicFlags (w36 (clz36 v)))
      ((s.at_ t).tag a)
    obtain ⟨hle, hlt, hge⟩ := clz36_spec v
    have hr : (w36 (clz36 v)).toNat = clz36 v := BitVec.toNat_ofNat .. |>.trans (Nat.mod_eq_of_lt (by omega))
    refine ⟨n, cs, co, cl, _, _, hx, Thread.resultTo_wrote .., ?_, ?_, ?_, hz, hn, hv, hc, hdz, hdcv⟩ <;> rw [hr]
    · exact hle
    · exact hlt
    · exact hge
  case moves =>
    intro s c t i hc hsys h hm
    obtain ⟨e, r, hdest, heff, hbits⟩ := State.effect_of_moved (s := s) rfl hsys hm
    obtain ⟨hset, hrounds⟩ := rounds_of_moved hm
    obtain ⟨n, cs, co, cl, hx⟩ := State.exec_doneThr h hc hset heff
    exact ⟨n, cs, co, cl, _, r, hrounds ▸ hx, hdest ▸ Thread.put_wrote .., Thread.put_flagsKept .., hbits⟩

end Sys2Proof.Machine
end

section
/-! SUPPORT. The legality of an instruction that issues, and the words of opcode 0o010. -/

namespace Sys2Proof.Machine

open Sys2Proof

/-- An instruction that issues is legal (R165). -/
theorem State.issues.legal {s : State} {t : Tid} {i : CoreInstr} (h : s.issues t i) : legalInstr i = true :=
  (decodeWord_eq_some.mp h.word).1

/-- A legal destination of a SYS form is a register that MTS could write. -/
theorem Thread.putSys_wroteSys_of_dstOk (x : Thread) {d : BitVec 5} (v : Word) (p : Bool) (h : dstOk true d = true) :
    x.wroteSys (x.putSys d.toNat v p) d.toNat v p := by
  have hd : (d.zeroExtend 6).toNat = d.toNat := by
    rw [BitVec.zeroExtend_eq_setWidth, BitVec.toNat_setWidth, Nat.mod_eq_of_lt (by omega)]
  exact hd ▸ x.putSys_wroteSys v p h

/-- The rows of opcode 0o010 but CMP and TST have their word as their result. -/
theorem aluResult_word (x : Thread) {op : AluOp} (sys : Bool) (d a b : BitVec 5) (hcmp : op ≠ .cmp) (htst : op ≠ .tst) :
    (aluResult op (x.val a) (x.val b) x.c).1 = aluWord x (.alu op sys d a b) := by
  cases op
  case cmp => exact absurd rfl hcmp
  case tst => exact absurd rfl htst
  case clz => exact congrArg (fun m => some (w36 m)) (clz36_eq_countP _)
  case popc => exact congrArg (fun m => some (w36 m)) (popc36_eq_countP _)
  all_goals rfl

end Sys2Proof.Machine
end

section
/-! PROOFS. The SYS forms. -/

namespace Sys2Proof.Machine

open Sys2Proof

/-- Settles O10: with SYS the result is one write of a system register that the decoder has found writable. -/
theorem sysFormsWriteTheirRegisterOnly : Obligations.SysFormsWriteTheirRegisterOnly := by
  intro s c t op d a b v hc h hv
  have hcmp : op ≠ .cmp := by
    rintro rfl
    cases c <;> cases hc
  have htst : op ≠ .tst := by
    rintro rfl
    cases c <;> cases hc
  have hlegal := h.legal
  simp only [legalInstr, Bool.and_eq_true] at hlegal
  have heff : s.effect t.die (tkey t) (.alu op true d a b) = s.doneThr t.die (tkey t)
      ((s.at_ t).putSys d.toNat v ((CoreInstr.alu op true d a b).tainted (s.at_ t))) := by
    have hr := (aluResult_word (s.at_ t) true d a b hcmp htst).trans hv
    rw [State.at_] at hr ⊢
    simp only [State.effect, Thread.alu, hr, Thread.result, if_true]
    rfl
  obtain ⟨n, cs, co, cl, hx⟩ := State.exec_doneThr h hc rfl heff
  exact ⟨n, cs, co, cl, _, hx, Thread.putSys_wroteSys_of_dstOk _ v _ hlegal.2⟩

end Sys2Proof.Machine
end

section
/-! SUPPORT. Products and quotients: the pair of registers that receives them, and their arithmetic (R171, R172). -/

namespace Sys2Proof.Machine

open Sys2Proof

/-! ### Pairs of registers -/

theorem Thread.flags_wroteAll (x : Thread) (f : FlagSet) (p : Bool) : x.wroteAll (x.flags f p) fun _ => none := by
  refine ⟨(x.flags_wrote f p p 0).1, fun r => ?_⟩
  rw [Thread.flags_val, Thread.flags_tag]
  exact x.wroteAll_refl.2 r

/-- A thread with a pair in its registers and the pair's flags. -/
def Thread.pairTo (x : Thread) (d : BitVec 5) (hi lo : Word) (f : FlagSet) (p : Bool) : Thread :=
  (x.result false d (some hi) f p).put (d.toNat + 1) lo p

/-- The flags of a pair: Z, N, C := 0, V, and DZ where it is set (R171, R172). -/
def pairFlags (z n v : Bool) (dz : Option Bool) : FlagSet := { z := some z, n := some n, c := some false, v := some v, dz := dz }

theorem Thread.pairTo_pairDone (x : Thread) {d : BitVec 5} (hi lo : Word) (p z n v : Bool) (dz : Option Bool)
    (heven : d.getLsbD 0 = false) :
    x.pairDone (x.pairTo d hi lo (pairFlags z n v dz) p) d hi lo p z n false v (dz.getD x.dz) := by
  have hd : d.toNat % 2 = 0 := by
    rw [← BitVec.testBit_toNat, Nat.testBit_zero] at heven
    simpa using heven
  have hnext : (d + 1).toNat = d.toNat + 1 := by
    rw [BitVec.toNat_add, show (1 : BitVec 5).toNat = 1 from rfl]
    omega
  refine ⟨?_, ?_⟩
  · have hw := Thread.wroteAll_put (Thread.wroteAll_put (x.flags_wroteAll (pairFlags z n v dz) p) d hi p) (d + 1) lo p
    rw [hnext] at hw
    have pair : pairRegs d hi lo p = fun r => if r = d + 1 then some (lo, p) else if r = d then some (hi, p) else none := by
      funext r
      have hne : d + 1 ≠ d := fun e => by
        rw [e] at hnext
        omega
      have hr : r = d + 1 ↔ r.toNat = d.toNat + 1 := by rw [← hnext, BitVec.toNat_inj]
      by_cases h : r = d
      · rw [pairRegs, if_pos h, h, if_neg hne.symm, if_pos rfl]
      · rw [pairRegs, if_neg h, if_neg h]
        simp only [hr]
    rw [pair]
    exact hw
  · rw [Thread.pairTo, Thread.put_eq]
    exact x.result_flags ..

/-! ### Products (R171) -/

/-- The two words of a 72-bit number. -/
theorem toInt_words (q : BitVec 72) : (q.extractLsb' 36 36).toInt * 2 ^ 36 + ((q.extractLsb' 0 36).toNat : Int) = q.toInt := by
  simp only [BitVec.toInt_eq_toNat_cond, BitVec.extractLsb'_toNat, Nat.shiftRight_eq_div_pow]
  omega

theorem toNat_words (q : BitVec 72) : (q.extractLsb' 36 36).toNat * 2 ^ 36 + (q.extractLsb' 0 36).toNat = q.toNat := by
  simp only [BitVec.extractLsb'_toNat, Nat.shiftRight_eq_div_pow]
  omega

/-- A product of two words is a signed number of 72 bits. -/
theorem toInt_product (a b : Word) : (BitVec.ofInt 72 (a.toInt * b.toInt)).toInt = a.toInt * b.toInt := by
  have hlo : -2 ^ 70 ≤ a.toInt * b.toInt := BitVec.le_toInt_mul_toInt
  have hhi : a.toInt * b.toInt ≤ 2 ^ 70 := BitVec.toInt_mul_toInt_le
  exact BitVec.toInt_ofInt_eq_self (by decide) (by omega) (by omega)

theorem toNat_product (a b : Word) : (BitVec.ofNat 72 (a.toNat * b.toNat)).toNat = a.toNat * b.toNat := by
  rw [BitVec.toNat_ofNat, Nat.mod_eq_of_lt]
  calc a.toNat * b.toNat < 2 ^ 36 * 2 ^ 36 := Nat.mul_lt_mul'' a.isLt b.isLt
    _ = 2 ^ 72 := by decide

theorem mulResult_mull (a b : Word) :
    let q := BitVec.ofInt 72 (a.toInt * b.toInt)
    mulResult .mull a b = (q.extractLsb' 36 36, some (q.extractLsb' 0 36),
      pairFlags (decide (a.toInt * b.toInt = 0)) (decide (a.toInt * b.toInt < 0)) false none) := by
  intro q
  have hq : q.toInt = a.toInt * b.toInt := toInt_product a b
  have hz : decide (q = 0) = decide (q.toInt = 0) := by
    rw [decide_eq_decide, ← BitVec.toInt_inj]
    rfl
  rw [← hq, ← BitVec.msb_eq_toInt, ← hz]
  rfl

theorem mulResult_mullu (a b : Word) :
    let q := BitVec.ofNat 72 (a.toNat * b.toNat)
    mulResult .mullu a b = (q.extractLsb' 36 36, some (q.extractLsb' 0 36),
      pairFlags (decide (a.toNat * b.toNat = 0)) (q.extractLsb' 36 36).msb false none) := by
  intro q
  have hq : q.toNat = a.toNat * b.toNat := toNat_product a b
  have hz : decide (q = 0) = decide (q.toNat = 0) := by
    rw [decide_eq_decide, ← BitVec.toNat_inj]
    rfl
  have hn : q.msb = (q.extractLsb' 36 36).msb := by
    rw [BitVec.msb_eq_getLsbD_last, BitVec.msb_eq_getLsbD_last, BitVec.getLsbD_extractLsb']
    rfl
  rw [← hq, ← hz, ← hn]
  rfl

/-! ### Quotients (R172) -/

theorem ofInt_tdiv (a b : Word) : BitVec.ofInt 36 (a.toInt.tdiv b.toInt) = a.sdiv b :=
  BitVec.eq_of_toInt_eq (by rw [BitVec.toInt_ofInt, BitVec.toInt_sdiv])

theorem ofInt_tmod (a b : Word) : BitVec.ofInt 36 (a.toInt.tmod b.toInt) = a.srem b := by
  rw [← BitVec.toInt_srem, BitVec.ofInt_toInt]

/-- The most negative word divided by -1 is no word. -/
theorem overflows_iff (a b : Word) :
    (a = BitVec.ofNat 36 (2 ^ 35) ∧ b = BitVec.allOnes 36) ↔ a.toInt = -2 ^ 35 ∧ b.toInt = -1 := by
  rw [← BitVec.toInt_inj, ← BitVec.toInt_inj]
  rfl

/-- A signed quotient and its remainder, which has the dividend's sign. -/
theorem sdiv_srem_spec (a b : Word) (hb : b.toInt ≠ 0) (hover : ¬(a.toInt = -2 ^ 35 ∧ b.toInt = -1)) :
    (a.sdiv b).toInt * b.toInt + (a.srem b).toInt = a.toInt ∧ (a.srem b).toInt.natAbs < b.toInt.natAbs ∧
      (a.srem b = 0 ∨ ((a.srem b).toInt < 0 ↔ a.toInt < 0)) := by
  have hq : (a.sdiv b).toInt = a.toInt.tdiv b.toInt := by
    refine BitVec.toInt_sdiv_of_ne_or_ne a b ?_
    by_contra h
    simp only [not_or, not_not] at h
    exact hover ⟨h.1 ▸ rfl, h.2 ▸ rfl⟩
  rw [hq, BitVec.toInt_srem]
  refine ⟨?_, ?_, ?_⟩
  · rw [Int.mul_comm]
    exact Int.mul_tdiv_add_tmod ..
  · rw [Int.natAbs_tmod]
    exact Nat.mod_lt _ (Int.natAbs_pos.mpr hb)
  · have hsign := Int.sign_tmod a.toInt b.toInt
    by_cases hdvd : b.toInt ∣ a.toInt
    · rw [if_pos hdvd, Int.sign_eq_zero_iff_zero, ← BitVec.toInt_srem] at hsign
      exact .inl (BitVec.toInt_inj.mp hsign)
    · rw [if_neg hdvd] at hsign
      rw [← Int.sign_eq_neg_one_iff_neg, hsign, Int.sign_eq_neg_one_iff_neg]
      exact .inr Iff.rfl

theorem toInt_eq_zero_iff (a : Word) : a = 0 ↔ a.toInt = 0 := by
  rw [← BitVec.toInt_inj]
  rfl

theorem toNat_eq_zero_iff (a : Word) : a = 0 ↔ a.toNat = 0 := by
  rw [← BitVec.toNat_inj]
  rfl

/-- The quotient and remainder that DIVS gives. -/
def divsWords (a b : Word) : Word × Word := if b = 0 then (0, a) else (a.sdiv b, a.srem b)

/-- The quotient and remainder that DIVU gives. -/
def divuWords (a b : Word) : Word × Word := if b = 0 then (0, a) else (a / b, a % b)

theorem mulResult_divs (a b : Word) :
    mulResult .divs a b = ((divsWords a b).1, some (divsWords a b).2, pairFlags (decide ((divsWords a b).1 = 0))
      (divsWords a b).1.msb (decide (b.toInt = 0 ∨ a.toInt = -2 ^ 35 ∧ b.toInt = -1))
      (if b.toInt = 0 then some true else none)) := by
  by_cases hb : b = 0
  · have hv : b.toInt = 0 := (toInt_eq_zero_iff b).mp hb
    simp only [mulResult, divsWords, if_pos hb, hv, true_or, decide_true, if_true]
    rfl
  · have hv : b.toInt ≠ 0 := fun e => hb ((toInt_eq_zero_iff b).mpr e)
    simp only [mulResult, divsWords, if_neg hb, hv, false_or, ← overflows_iff, Bool.decide_and, ofInt_tdiv, ofInt_tmod,
      if_false]
    rfl

theorem mulResult_divu (a b : Word) :
    mulResult .divu a b = ((divuWords a b).1, some (divuWords a b).2, pairFlags (decide ((divuWords a b).1 = 0))
      (divuWords a b).1.msb (decide (b.toNat = 0)) (if b.toNat = 0 then some true else none)) := by
  by_cases hb : b = 0
  · have hv : b.toNat = 0 := (toNat_eq_zero_iff b).mp hb
    simp only [mulResult, divuWords, if_pos hb, hv, decide_true, if_true]
    rfl
  · have hv : b.toNat ≠ 0 := fun e => hb ((toNat_eq_zero_iff b).mpr e)
    simp only [mulResult, divuWords, if_neg hb, hv, decide_false, if_false]
    rfl

theorem getD_dz (p : Prop) [Decidable p] (dz : Bool) : (if p then some true else none).getD dz = (decide p || dz) := by
  by_cases h : p <;> simp [h]

theorem divsWords_spec (a b : Word) :
    if b.toInt = 0 then (divsWords a b).1 = 0 ∧ (divsWords a b).2 = a
    else if a.toInt = -2 ^ 35 ∧ b.toInt = -1 then (divsWords a b).1.toInt = -2 ^ 35 ∧ (divsWords a b).2 = 0
    else (divsWords a b).1.toInt * b.toInt + (divsWords a b).2.toInt = a.toInt ∧
      (divsWords a b).2.toInt.natAbs < b.toInt.natAbs ∧
      ((divsWords a b).2 = 0 ∨ ((divsWords a b).2.toInt < 0 ↔ a.toInt < 0)) := by
  unfold divsWords
  split
  · rename_i hv
    rw [if_pos ((toInt_eq_zero_iff b).mpr hv)]
    exact ⟨rfl, rfl⟩
  · rename_i hv
    rw [if_neg fun e => hv ((toInt_eq_zero_iff b).mp e)]
    split
    · rename_i hover
      obtain ⟨rfl, rfl⟩ := (overflows_iff a b).mpr hover
      decide
    · exact sdiv_srem_spec a b hv ‹_›

theorem divuWords_spec (a b : Word) :
    if b.toNat = 0 then (divuWords a b).1 = 0 ∧ (divuWords a b).2 = a
    else (divuWords a b).1.toNat * b.toNat + (divuWords a b).2.toNat = a.toNat ∧ (divuWords a b).2.toNat < b.toNat := by
  unfold divuWords
  split
  · rename_i hv
    rw [if_pos ((toNat_eq_zero_iff b).mpr hv)]
    exact ⟨rfl, rfl⟩
  · rename_i hv
    rw [if_neg fun e => hv ((toNat_eq_zero_iff b).mp e)]
    exact ⟨Nat.div_add_mod' a.toNat b.toNat, Nat.mod_lt _ (Nat.pos_of_ne_zero hv)⟩

/-! ### Their effects -/

section
variable {s : State} {d k : Nat} {x : Thread} {op : MulOp} {r a b : BitVec 5} {hi lo : Word} {f : FlagSet}

/-- A division traps on a zero divisor under DZ_TRAP = 1 (R172). -/
theorem State.divTrap_iff :
    s.divTrap d k op b = true ↔
      (op = .divs ∨ op = .divu) ∧ (s.thr d k).val b = 0 ∧ bit (s.coreCfg d (k / 16)) 1 = true := by
  simp only [State.divTrap, Bool.and_eq_true, Bool.or_eq_true, decide_eq_true_eq, and_assoc]

/-- An instruction of a pair that does not trap. -/
theorem State.effect_of_pair (hx : s.thr d k = x) (htrap : s.divTrap d k op b = false)
    (h : mulResult op (x.val a) (x.val b) = (hi, some lo, f)) :
    s.effect d k (.mul op r a b) = s.doneThr d k (x.pairTo r hi lo f (x.tag a || x.tag b)) := by
  simp only [State.effect, htrap, Bool.false_eq_true, if_false, Thread.mul, hx, h]
  rfl

/-- What an instruction of a pair that does not trap leaves. -/
theorem State.exec_pair {c : Instr} {t : Tid} {z n v : Bool} {dz : Option Bool} (h : s.issues t (.mul op r a b))
    (hc : namesIssue c = some (t, .mul op r a b)) (hop : op ≠ .mul) (htrap : s.divTrap t.die (tkey t) op b = false)
    (hres : mulResult op ((s.at_ t).val a) ((s.at_ t).val b) = (hi, some lo, pairFlags z n v dz)) :
    ∃ (m : Nat) (cs : Store Ctr) (co : Store Core) (cl : Store Nat) (y : Thread),
      exec c s = .next (s.onlyThread t.die (tkey t) m cs co cl (y.after ((s.at_ t).pc + 1))) ∧
      (s.at_ t).pairDone y r hi lo ((s.at_ t).tag a || (s.at_ t).tag b) z n false v (dz.getD (s.at_ t).dz) := by
  have heven : r.getLsbD 0 = false := by
    have hlegal := h.legal
    simpa only [legalInstr, Bool.or_eq_true, decide_eq_true_eq, hop, false_or] using hlegal
  obtain ⟨m, cs, co, cl, hx⟩ := State.exec_doneThr h hc rfl (State.effect_of_pair rfl htrap hres)
  exact ⟨m, cs, co, cl, _, hx, Thread.pairTo_pairDone _ hi lo _ z n v dz heven⟩

end

end Sys2Proof.Machine
end

section
/-! PROOFS. Products and divisions. -/

namespace Sys2Proof.Machine

open Sys2Proof

/-- Settles O11, row by row: MUL is one word, the others leave a pair whose words the arithmetic above gives. -/
theorem productsAndDivisionsAreExact : Obligations.ProductsAndDivisionsAreExact := by
  refine ⟨⟨?mul, ?mull, ?mullu⟩, ?divs, ?divu, ?trap⟩
  case mul =>
    intro s t d a b h x p
    let r := BitVec.ofInt 36 p
    let f : FlagSet := { z := some (r = 0), n := some r.msb, c := some false, v := some (r.toInt ≠ p) }
    obtain ⟨n, cs, co, cl, hx⟩ := State.exec_doneThr (c := .mul t d a b) h rfl rfl
      (y := x.resultTo (some d) r f (x.tag a || x.tag b)) rfl
    obtain ⟨hz, hn, hc, hv, hdz, hdcv⟩ := x.resultTo_flags (some d) r f (x.tag a || x.tag b)
    exact ⟨n, cs, co, cl, _, r, hx, Thread.resultTo_wrote .., BitVec.toInt_ofInt .., hz, hn, hc, hv, hdz, hdcv⟩
  case mull =>
    intro s t d a b h x p
    obtain ⟨n, cs, co, cl, y, hx, hy⟩ := State.exec_pair (c := .mull t d a b) h rfl (by decide) rfl (mulResult_mull ..)
    exact ⟨n, cs, co, cl, y, _, _, hx, hy, (toInt_words _).trans (toInt_product ..)⟩
  case mullu =>
    intro s t d a b h x p
    obtain ⟨n, cs, co, cl, y, hx, hy⟩ := State.exec_pair (c := .mullu t d a b) h rfl (by decide) rfl (mulResult_mullu ..)
    exact ⟨n, cs, co, cl, y, _, _, hx, hy, (toNat_words _).trans (toNat_product ..)⟩
  case divs =>
    intro s t d a b h x u v hno
    have htrap : s.divTrap t.die (tkey t) .divs b = false := by
      rw [← Bool.not_eq_true, State.divTrap_iff, h.core_eq, toInt_eq_zero_iff]
      rintro ⟨-, hv, hcfg⟩
      exact hno.elim (fun hne => hne hv) fun hoff => by simp [hcfg] at hoff
    obtain ⟨n, cs, co, cl, y, hx, hy⟩ := State.exec_pair (c := .divs t d a b) h rfl (by decide) htrap (mulResult_divs ..)
    rw [getD_dz] at hy
    exact ⟨n, cs, co, cl, y, _, _, hx, hy, divsWords_spec ..⟩
  case divu =>
    intro s t d a b h x u v hno
    have htrap : s.divTrap t.die (tkey t) .divu b = false := by
      rw [← Bool.not_eq_true, State.divTrap_iff, h.core_eq, toNat_eq_zero_iff]
      rintro ⟨-, hv, hcfg⟩
      exact hno.elim (fun hne => hne hv) fun hoff => by simp [hcfg] at hoff
    obtain ⟨n, cs, co, cl, y, hx, hy⟩ := State.exec_pair (c := .divu t d a b) h rfl (by decide) htrap (mulResult_divu ..)
    rw [getD_dz] at hy
    exact ⟨n, cs, co, cl, y, _, _, hx, hy, divuWords_spec ..⟩
  case trap =>
    intro s c t op d a b hc hop h hb hcfg
    have htrap : s.divTrap t.die (tkey t) op b = true := State.divTrap_iff.mpr ⟨hop, hb, h.core_eq.symm ▸ hcfg⟩
    refine State.exec_trap h hc ?_
    rw [State.effect, htrap, if_pos rfl]

end Sys2Proof.Machine
end

section
/-! SUPPORT. Branches and jumps, and the instructions that a tagged pointer stops (R162, R167, R178). -/

namespace Sys2Proof.Machine

open Sys2Proof

theorem condHolds_eq_holds (x : Thread) (cond : BitVec 4) : condHolds x cond = holds x.z x.n x.c x.v cond.toNat := by
  have hcond : cond.toNat < 16 := cond.isLt
  unfold condHolds
  generalize cond.toNat = m at hcond ⊢
  cases x.z <;> cases x.n <;> cases x.c <;> cases x.v <;> (revert m; decide)

section
variable {s : State} {d k : Nat} {i : CoreInstr}

/-- A branch without a tag on FL, or on no flag at all. -/
theorem State.bcc_untagged {cond : BitVec 4} (off : BitVec 24) (h : 14 ≤ cond.toNat ∨ (s.thr d k).flTag = false) :
    let x := s.thr d k
    s.bcc d k cond off =
      .done s (if holds x.z x.n x.c x.v cond.toNat then some ((x.pc + off.toNat) % 65536) else none) := by
  have hok : (decide (cond.toNat < 14) && (s.thr d k).flTag) = false := by
    rcases h with h | h
    · simp [Nat.not_lt.mpr h]
    · rw [h, Bool.and_false]
  simp only [State.bcc, hok, condHolds_eq_holds, Bool.false_eq_true, if_false]
  split <;> rfl

/-- A tag on a pointer register is the program fault POISON, before anything else that the instruction checks. -/
theorem State.effect_of_taggedPointer {r : BitVec 5} (hr : r ∈ i.pointers) (htag : (s.thr d k).tag r = true) :
    s.effect d k i = .trap fPOISON := by
  cases i with
  | mem op e a p sz disp =>
    obtain rfl := List.mem_singleton.mp hr
    cases op <;> exact if_pos htag
  | jr a | crcp e a n | hgo a n kk | ansc a | cctl a kk =>
    obtain rfl := List.mem_singleton.mp hr
    exact if_pos htag
  | cpw sys e a b | cmps a b | dstep a b | spawn a b g =>
    have hor : ((s.thr d k).tag a || (s.thr d k).tag b) = true := by
      rcases List.mem_pair.mp hr with rfl | rfl
      · rw [htag, Bool.true_or]
      · rw [htag, Bool.or_true]
    exact if_pos hor
  | _ => cases hr

end

end Sys2Proof.Machine
end

section
/-! PROOFS. Branches, jumps and tagged pointers. -/

namespace Sys2Proof.Machine

open Sys2Proof

/-- Settles O20: branches and jumps are done with a target and at most a link register; a tag is a trap. -/
theorem branchesSetPcAndTaggedPointersFault : Obligations.BranchesSetPcAndTaggedPointersFault := by
  refine ⟨⟨?bcc, ?jal, ?jr⟩, ?pointers, ?flags⟩
  case bcc =>
    intro s t cond off h htag x
    obtain ⟨n, cs, co, cl, hx⟩ := State.exec_done (c := .bcc t cond off) h rfl rfl (State.bcc_untagged off htag)
      (State.keepsClock.refl s) (State.leaves.refl s ..)
    rw [apply_ite (Option.getD · ((s.at_ t).pc + 1))] at hx
    exact ⟨n, cs, co, cl, hx⟩
  case jal =>
    intro s t d target h x
    obtain ⟨n, cs, co, cl, hx⟩ := State.exec_done (c := .jal t d target) (pc := some target.toNat) h rfl rfl rfl
      (State.keepsClock.refl s) ((State.leaves.refl s ..).setThr _ (State.has_lt h.has))
    exact ⟨n, cs, co, cl, _, hx, Thread.put_wrote .., Thread.put_flagsKept ..⟩
  case jr =>
    intro s t a h htag x
    have heff : s.effect t.die (tkey t) (.jr a) = .done s (some ((x.val a).toNat % 65536)) := by
      have htag' : (s.thr t.die (tkey t)).tag a = false := htag
      simp only [State.effect, State.jr, htag', Bool.false_eq_true, if_false]
      rfl
    obtain ⟨n, cs, co, cl, hx⟩ := State.exec_done (c := .jr t a) h rfl rfl heff (State.keepsClock.refl s)
      (State.leaves.refl s ..)
    exact ⟨n, cs, co, cl, hx⟩
  case pointers =>
    intro s c t i r hc h hr htag
    exact State.exec_trap h hc (State.effect_of_taggedPointer hr htag)
  case flags =>
    intro s t cond off h hcond htag
    have heff : s.effect t.die (tkey t) (.bcc cond off) = .trap fPOISON :=
      if_pos (by rw [Bool.and_eq_true]; exact ⟨decide_eq_true hcond, htag⟩)
    exact State.exec_trap (c := .bcc t cond off) h rfl heff

end Sys2Proof.Machine
end

section
/-! SUPPORT. Reads of the system registers and of the scoreboard (R156, R184). -/

namespace Sys2Proof.Machine

open Sys2Proof

/-! ### Results that are written step by step -/

section
variable {x y : Thread} {dest : Option (BitVec 5)} {v : Word} {p : Bool}

theorem Thread.wrote_flags (h : x.wrote y dest v p) (f : FlagSet) (q : Bool) : x.wrote (y.flags f q) dest v p := by
  obtain ⟨heq, hregs⟩ := h
  refine ⟨?_, fun r => ?_⟩
  · rw [Thread.flags_eq, heq]
  · rw [Thread.flags_val, Thread.flags_tag]
    exact hregs r

/-- The tag of a system register is no part of what an instruction has written. -/
theorem Thread.wrote_of_setTag {m : Nat} {q : Bool} (h : (x.setTag (sysTag m) q).wrote y dest v p) : x.wrote y dest v p := by
  obtain ⟨heq, hregs⟩ := h
  refine ⟨heq, fun r => ?_⟩
  rw [← x.tag_setTag_sys m q r]
  exact hregs r

end

/-! ### MFS -/

section
variable {s : State} {d k : Nat}

/-- The registers of a thread as MFS reads them. -/
theorem State.sysRead_sysVal {n : Nat} (h : n ≤ 8 ∨ n = 10 ∨ n = 11) :
    (s.sysRead d k n).1.toNat = (s.thr d k).sysVal n % 2 ^ 36 := by
  have word : ∀ w : Word, w.toNat = w.toNat % 2 ^ 36 := fun w => (Nat.mod_eq_of_lt w.isLt).symm
  have hn : n ∈ [0, 3, 6, 7, 2, 1, 4, 5, 8, 10, 11] := by
    simp only [List.mem_cons, List.not_mem_nil, or_false]
    omega
  fin_cases hn
  · exact word _
  · exact word _
  · exact word _
  · exact word _
  · exact BitVec.toNat_setWidth ..
  all_goals exact BitVec.toNat_ofNat ..

/-- A thread after MFS's read: TIME_HI latches TIME_LO. -/
def State.mfsLatched (s : State) (d k : Nat) (m : BitVec 6) : Thread :=
  { s.thr d k with timeLo := if m = 13 then BitVec.ofNat 36 (s.time d) else (s.thr d k).timeLo }

theorem State.sysRead_latch (m : BitVec 6) : (s.sysRead d k m.toNat).2.2 = s.mfsLatched d k m := by
  have hm : m.toNat = 13 ↔ m = 13 := BitVec.toNat_inj (y := 13)
  change (if m.toNat = 13 then _ else _) = _
  by_cases h : m = 13
  · rw [if_pos (hm.mpr h), State.mfsLatched, if_pos h]
    rfl
  · rw [if_neg (hm.not.mpr h), State.mfsLatched, if_neg h]

theorem State.mfs_eq (r : BitVec 5) (m : BitVec 6) :
    s.mfs d k r m.toNat = s.doneThr d k
      ((s.mfsLatched d k m).put r.toNat (s.sysRead d k m.toNat).1 ((s.thr d k).tags.contains (sysTag m.toNat))) := by
  rw [← State.sysRead_latch]
  rfl

end

end Sys2Proof.Machine
end

section
/-! PROOFS. MFS, MTS and HTEST. -/

namespace Sys2Proof.Machine

open Sys2Proof

/-- Settles O24: MFS is the write of what is read, MTS a write of a system register that the decoder has found writable, and
HTEST reports by C, and by TST and a register. -/
theorem systemRegistersAreReadAndWritten : Obligations.SystemRegistersAreReadAndWritten := by
  refine ⟨?mfs, ?mts, ?htest⟩
  case mfs =>
    intro s t d m h x
    obtain ⟨n, cs, co, cl, hx⟩ := State.exec_doneThr (c := .mfs t d m) h rfl rfl (State.mfs_eq d m)
    have hthr := h.thr_lt
    refine ⟨n, cs, co, cl, _, _, hx, Thread.put_wrote .., Thread.put_flagsKept .., ?_, ?_, ?_, ?_⟩
    · intro hm
      refine State.sysRead_sysVal (hm.imp_right fun h => ?_)
      exact h.imp (fun e => congrArg BitVec.toNat e) fun e => congrArg BitVec.toNat e
    · rintro rfl
      refine (BitVec.toNat_ofNat ..).trans (congrArg (· % 2 ^ 36) ?_)
      rw [tkey]
      omega
    · rintro rfl
      exact BitVec.toNat_ofNat ..
    · rintro rfl
      rfl
  case mts =>
    intro s t m a h x
    obtain ⟨n, cs, co, cl, hx⟩ := State.exec_doneThr (c := .mts t m a) h rfl rfl rfl
    exact ⟨n, cs, co, cl, _, hx, Thread.putSys_wroteSys _ _ _ h.legal⟩
  case htest =>
    intro s t d k h x
    refine ⟨fun hbusy => ?_, fun hidle => ?_⟩
    · obtain ⟨n, cs, co, cl, hx⟩ := State.exec_doneThr (c := .htest t d k) (y := x.setC true) h rfl rfl
        (congrArg (s.doneThr t.die (tkey t)) (if_pos hbusy))
      exact ⟨n, cs, co, cl, _, hx, Thread.flags_hasC ..⟩
    · let st := sgetD x.sbStatus k.toNat cDONE
      let reported : Thread := { x with tst := w36 (st + 256) }.setTag (sysTag 3) false
      obtain ⟨n, cs, co, cl, hx⟩ := State.exec_doneThr (c := .htest t d k)
        (y := (reported.put d.toNat (w36 st)).setC false) h rfl rfl
        (congrArg (s.doneThr t.die (tkey t)) (if_neg (Bool.eq_false_iff.mp hidle)))
      refine ⟨n, cs, co, cl, _, hx, Thread.wrote_of_setTag (Thread.wrote_flags (Thread.put_wrote ..) _ _), ?_⟩
      rw [Thread.setC, Thread.flags_eq, Thread.put_eq]
      exact ⟨rfl, rfl, rfl, rfl, rfl, rfl⟩

end Sys2Proof.Machine
end

section
/-! SUPPORT. The bytes that a CRC takes, and the start of a repeat (R185, R187, R201). -/

namespace Sys2Proof.Machine

open Sys2Proof

/-! ### CRC of a register -/

/-- A byte of the low bytes of a number is that byte of the number. -/
theorem ofNat8_low_bytes (v : Nat) {i cnt : Nat} (h : i < cnt) :
    BitVec.ofNat 8 (v % 256 ^ cnt / 256 ^ i) = BitVec.ofNat 8 (v / 256 ^ i) := by
  apply BitVec.eq_of_toNat_eq
  obtain ⟨j, rfl⟩ : ∃ j, cnt = i + (j + 1) := ⟨cnt - i - 1, by omega⟩
  rw [BitVec.toNat_ofNat, BitVec.toNat_ofNat, Nat.pow_add, Nat.mod_mul_right_div_self]
  exact Nat.mod_mod_of_dvd _ (Dvd.intro_left _ (Nat.pow_succ ..).symm)

/-- The bytes that CRC takes, the lowest first for a reflected kind and the highest first for kind 3. -/
theorem crcTake_eq (m : BitVec 6) (v : Word) (k : Nat) :
    crcTake m.toNat v (k + 1) =
      (List.range (k + 1)).map fun j => BitVec.ofNat 8 (v.toNat / 256 ^ (if m = 3 then k - j else j)) := by
  have hm : m.toNat = 3 ↔ m = 3 := BitVec.toNat_inj (y := 3)
  by_cases h : m = 3
  · simp only [crcTake, h, if_true, natBE]
    refine List.map_congr_left fun j hj => ?_
    rw [Nat.add_sub_cancel]
    exact ofNat8_low_bytes v.toNat (Nat.lt_succ_of_le (Nat.sub_le k j))
  · simp only [crcTake, hm.not.mpr h, h, if_false, natLE]
    exact List.map_congr_left fun j hj => ofNat8_low_bytes v.toNat (List.mem_range.mp hj)

/-! ### CRCP -/

theorem Thread.flagsKept_trans {x y z : Thread} (h : x.flagsKept y) (h' : y.flagsKept z) : x.flagsKept z := by
  obtain ⟨hz, hn, hc, hv, hdz, hdcv, htag⟩ := h
  obtain ⟨hz', hn', hc', hv', hdz', hdcv', htag'⟩ := h'
  exact ⟨hz'.trans hz, hn'.trans hn, hc'.trans hc, hv'.trans hv, hdz'.trans hdz, hdcv'.trans hdcv, htag'.trans htag⟩

theorem Thread.post_flagsKept (x : Thread) (p : Bool) (a : BitVec 5) (unit : Nat) : x.flagsKept (x.post p a unit) := by
  cases p
  · exact ⟨rfl, rfl, rfl, rfl, rfl, rfl, rfl⟩
  · exact x.put_flagsKept ..

/-- CRCP, whatever its byte: the access is what it reads, and the pointer moves on by one. -/
theorem State.crcp_done {s v : State} {t : Tid} {x : Thread} {r a : BitVec 5} {m : Nat} {w : Word} {bad : Bool}
    (h8 : t.die < 8) (hx : s.at_ t = x) (htag : x.tag a = false)
    (hload : s.pktLoad t.die (tkey t) (x.val a).toNat 1 = (v, w, bad)) (hl : s.leaves t.die (tkey t) x v) :
    ∃ s' : State, s.crcp t.die (tkey t) r a m = .done s' none ∧
      s.leaves t.die (tkey t) ((x.post true a 1).put r.toNat
        (BitVec.ofNat 36 (crcOver x m (x.val r).toNat [w.truncate 8])) ((x.tag r && !x.rep) || bad || crcSysTag x m)) s' := by
  rw [State.at_] at hx
  refine ⟨_, ?_, hl.setThr _ h8⟩
  simp only [State.crcp, hx, htag, Bool.false_eq_true, if_false, hload, hl.thr, State.doneThr]
  rfl

/-- The low byte of a word of one byte. -/
theorem truncate_beNat_byte (b : Byte) : (w36 (beNat [b])).truncate 8 = b := by
  apply BitVec.eq_of_toNat_eq
  rw [BitVec.truncate_eq_setWidth, BitVec.toNat_setWidth, w36, BitVec.toNat_ofNat]
  simp only [beNat, List.foldl_cons, List.foldl_nil]
  omega

/-! ### RPT -/

theorem Thread.after_mod (y : Thread) (pc rounds : Nat) : y.after (pc % 65536) rounds = y.after pc rounds := by
  rw [Thread.after, Nat.mod_mod, Thread.after]

/-- A thread with a repeat's count in CNT. -/
def Thread.counted (x : Thread) (cnt : Word) : Thread := { x with cnt := cnt }.setTag (sysTag 0) false

theorem Thread.tag_counted (x : Thread) (cnt : Word) (r : BitVec 5) : (x.counted cnt).tag r = x.tag r :=
  Thread.tag_setTag_sys { x with cnt := cnt } 0 false r

section
variable {s : State} {d k : Nat} {a : BitVec 5}

/-- RPT before a repeatable word with an untagged count passes that word or starts its repeat. -/
theorem State.rpt_repeatable {i : CoreInstr} {x : Thread} {cnt : Word} (hx : s.thr d k = x)
    (hi : s.nextInstr d k = some i) (hrep : repeatable i = true)
    (htag : (if a = 0 then x.tags.contains (sysTag 0) else x.tag a) = false)
    (hcnt : (if a = 0 then x.cnt else x.val a) = cnt) :
    s.rpt d k a = if cnt = 0 then .done (s.setThr d k (x.counted cnt)) (some ((x.pc + 2) % 65536))
      else s.doneThr d k { x.counted cnt with rep := true } := by
  simp only [State.rpt, hx, hi, hrep, htag, hcnt, Bool.not_true, Bool.false_eq_true, if_false]
  rfl

/-- RPT before anything but a repeatable word. -/
theorem State.rpt_illegal (h : ∀ i : CoreInstr, s.nextInstr d k = some i → repeatable i = false) :
    s.rpt d k a = .trap fRPT := by
  unfold State.rpt
  cases hi : s.nextInstr d k with
  | none => rfl
  | some i => simp only [h i hi, Bool.not_false, if_true]

end

end Sys2Proof.Machine
end

section
/-! PROOFS. CRC, CRCP and RPT. -/

namespace Sys2Proof.Machine

open Sys2Proof

/-- Settles O25: CRC is one write, CRCP a packet load that steps its pointer, and RPT sets CNT and starts the repeat. -/
theorem crcAndRepeat : Obligations.CrcAndRepeat := by
  refine ⟨?crc, ?crcp, ?rpt⟩
  case crc =>
    intro s t d a m k h x
    obtain ⟨n, cs, co, cl, hx⟩ := State.exec_doneThr (c := .crc t d a m k) h rfl rfl rfl
    have hw := x.put_wrote d (w36 ((crcTake m.toNat (x.val a) (k.toNat + 1)).foldl (crcKind x m.toNat) (x.val d).toNat))
      (x.tag d || x.tag a || crcSysTag x m.toNat)
    refine ⟨n, cs, co, cl, _, hx, ?_, Thread.put_flagsKept ..⟩
    rw [crcTake_eq] at hw
    rw [Thread.crc, crcTake_eq]
    exact hw
  case crcp =>
    intro s t d a m h htag x ad
    have h8 := State.has_lt h.has
    refine ⟨fun q o slot i hq ho hin hr => ?_, fun hout => ?_⟩
    · obtain ⟨v, bad, hload, hv, -⟩ := State.pktLoad_inside hq ho (Nat.succ_le_of_lt hin) hr
      obtain ⟨s', he, hl⟩ := State.crcp_done (r := d) (m := m.toNat) h8 rfl htag hload hv
      obtain ⟨n, cs, co, cl, hx⟩ := State.exec_done (c := .crcp t d a m) h rfl rfl he (State.keepsClock.refl s) hl
      rw [show (List.range 1).map _ = [_] from rfl, truncate_beNat_byte] at hx
      exact ⟨n, cs, co, cl, _, _, hx, Thread.wroteAll_put (x.post_wroteAll true a 1) d _ _,
        Thread.flagsKept_trans (x.post_flagsKept ..) (Thread.put_flagsKept ..)⟩
    · have hv := (State.leaves.refl s t.die (tkey t)).violation h.has
      obtain ⟨s', he, hl⟩ := State.crcp_done (r := d) (m := m.toNat) h8 rfl htag
        (State.pktLoad_outside fun q hq => Nat.lt_succ_of_le (hout q hq)) hv
      obtain ⟨n, cs, co, cl, hx⟩ := State.exec_done (c := .crcp t d a m) h rfl rfl he (State.keepsClock.refl s) hl
      have hrep : (s.at_ t).rep = false := h.single
      rw [hrep, Bool.not_false, Bool.and_true, Bool.or_false] at hx
      exact ⟨n, cs, co, cl, _, hx, Thread.wroteAll_put (x.post_wroteAll true a 1) d _ _,
        Thread.flagsKept_trans (x.post_flagsKept ..) (Thread.put_flagsKept ..)⟩
  case rpt =>
    intro s t a h x cnt tag
    refine ⟨fun i hi hrep htag => ?_, fun hno => State.exec_trap (c := .rpt t a) h rfl (State.rpt_illegal hno)⟩
    have heff := State.rpt_repeatable (s := s) (x := x) rfl hi hrep htag rfl
    by_cases hc : cnt = 0
    · have hdone := heff.trans (if_pos hc)
      obtain ⟨n, cs, co, cl, hx⟩ := State.exec_done (c := .rpt t a) h rfl rfl hdone (State.keepsClock.refl s)
        ((State.leaves.refl s ..).setThr _ (State.has_lt h.has))
      rw [Option.getD_some, Thread.after_mod] at hx
      refine ⟨n, cs, co, cl, x.counted cnt, ?_, ?_, x.tag_counted cnt⟩
      · rw [if_pos hc]
        exact hx
      · rw [decide_eq_false (not_not.mpr hc), ← h.single]
        rfl
    · obtain ⟨n, cs, co, cl, hx⟩ := State.exec_doneThr (c := .rpt t a) h rfl rfl (heff.trans (if_neg hc))
      refine ⟨n, cs, co, cl, { x.counted cnt with rep := true }, ?_, ?_, x.tag_counted cnt⟩
      · rw [if_neg hc]
        exact hx
      · rw [decide_eq_true hc]
        rfl

end Sys2Proof.Machine
end

section
/-! SUPPORT. Accesses to two words of the cluster store in one instruction: their banks, loads after loads and a store after
them, with nothing beside the words but what issuing touches (R121, R127, R175). -/

namespace Sys2Proof.Machine

open Sys2Proof

/-! ### What issuing touches stands apart from the rest of a die -/

section
variable {α : Type} {s t u v : State} {d k : Nat} {x y : Thread}

/-- A part of a die that holds no counter, core, deadlock count or thread is the same where only issuing has touched. -/
theorem State.slim_proj (g : Die → α) (hg : ∀ (z : Die) (cs : Store Ctr) (co : Store Core) (cl : Store Nat) (th : Store Thread),
    g { z with ctrs := cs, cores := co, clusterSince := cl, threads := th } = g z) (h : s.slim d t) (e : Nat) :
    g (t.die e) = g (s.die e) := by
  obtain ⟨n, cs, co, cl, th, rfl⟩ := h
  exact State.proj_modDie g { s with draws := n } d e _ (hg ..)

theorem State.leaves.trans (h : s.leaves d k x t) (h' : t.leaves d k y u) : s.leaves d k y u :=
  ⟨State.slim_trans h.slim h'.slim, fun z => (h'.others z).trans (h.others z), h'.thr⟩

/-- A change of a die apart from what issuing touches leaves the same beside it. -/
theorem State.leaves.modDie (h : u.leaves d k y v) (f : Die → Die)
    (hf : ∀ (z : Die) (cs : Store Ctr) (co : Store Core) (cl : Store Nat) (th : Store Thread),
      f { z with ctrs := cs, cores := co, clusterSince := cl, threads := th } =
        { f z with ctrs := cs, cores := co, clusterSince := cl, threads := th }) :
    (u.modDie d f).leaves d k y (v.modDie d f) := by
  have threads : ∀ w : State, ((w.modDie d f).die d).threads = (w.die d).threads := fun w => by
    refine w.threads_modDie d f ?_
    have own := congrArg Die.threads
      (hf (w.die d) (w.die d).ctrs (w.die d).cores (w.die d).clusterSince (w.die d).threads)
    exact own
  refine ⟨?_, fun z => ?_, ?_⟩
  · obtain ⟨n, cs, co, cl, th, rfl⟩ := h.slim
    refine ⟨n, cs, co, cl, th, ?_⟩
    rw [State.modDie_modDie]
    refine Eq.trans ?_ (State.modDie_modDie { u with draws := n } d f _).symm
    exact congrArg ({ u with draws := n }.modDie d) (funext fun z => hf z cs co cl th)
  · rw [threads, threads, h.others]
  · rw [State.thr, threads, ← h.thr, State.thr]

end

/-! ### Banks -/

section
variable {α : Type} {s : State} {t : Tid}

theorem State.proj_banksTaken (g : Die → α) (hg : ∀ (z : Die) (b : Store (Nat × Nat × Nat)), g { z with banks := b } = g z)
    (s : State) (t : Tid) (as : List Nat) (e : Nat) : g ((s.banksTaken t as).die e) = g (s.die e) :=
  List.foldlRecOn (motive := fun u : State => g (u.die e) = g (s.die e)) as _ rfl fun u hu _ _ =>
    (u.proj_modDie g t.die e _ (hg ..)).trans hu

theorem State.keepsClock.banksTaken (s : State) (t : Tid) (as : List Nat) : s.keepsClock (s.banksTaken t as) :=
  List.foldlRecOn (motive := fun u : State => s.keepsClock u) as _ (State.keepsClock.refl s) fun _ hu _ _ => hu.bankTake ..

theorem State.csRead_banksTaken (s : State) (t : Tid) (as : List Nat) (d cl a : Nat) :
    (s.banksTaken t as).csRead d cl a = s.csRead d cl a :=
  s.proj_banksTaken (fun z => (sgetD z.cstore (cl * 262144 + a) 0, z.cstorePoison.contains (cl * 262144 + a)))
    (fun _ _ => rfl) t as d

theorem State.leaves.banksTaken (s : State) (t : Tid) (as : List Nat) :
    (s.banksTaken t as).leaves t.die (tkey t) (s.at_ t) (s.banksTaken t as) :=
  ⟨State.slim_refl .., fun _ => rfl, s.proj_banksTaken (fun z => sgetD z.threads (tkey t) {}) (fun _ _ => rfl) t as t.die⟩

theorem State.flips_banksTaken (s : State) (t : Tid) (as : List Nat) (key : Nat) :
    ((s.banksTaken t as).die t.die).flips key = (s.die t.die).flips key :=
  s.proj_banksTaken (fun z => z.flips key) (fun _ _ => rfl) t as t.die

/-- An access to words whose banks are ready has them all in this fabric cycle. -/
theorem State.withBanks_all {as : List Nat} (f : State → Eff)
    (h : ∀ a ∈ as, (s.at_ t).region a = true ∧ s.bankReady t a) :
    s.withBanks t.die (tkey t) as f = f (s.banksTaken t as) := by
  have hregion : as.filter (s.thr t.die (tkey t)).region = as := List.filter_eq_self.mpr fun a ha => (h a ha).1
  have hready : ((as.map (bankKey (tkey t))).find? fun b => !s.bankOpen t.die (tkey t) b ||
      (s.bankWanted t.die (tkey t) b && (s.thr t.die (tkey t)).req ≠ some (.bank b))) = none := by
    rw [List.find?_eq_none]
    intro b hb
    obtain ⟨a, ha, rfl⟩ := List.mem_map.mp hb
    obtain ⟨-, hopen, hwanted⟩ := h a ha
    simp [hopen, hwanted]
  simp only [State.withBanks, hregion, hready, List.foldl_map]
  rfl

theorem State.withBanks_pair {pa pb : Nat} (f : State → Eff) (ha : s.csReady t pa) (hb : s.csReady t pb) :
    s.withBanks t.die (tkey t) [pa, pb] f = f (s.banksTaken t [pa, pb]) := by
  refine State.withBanks_all f fun a hm => ?_
  rcases List.mem_pair.mp hm with rfl | rfl
  · exact ⟨ha.1, ha.2.1⟩
  · exact ⟨hb.1, hb.2.1⟩

end

/-! ### Words -/

section
variable {u v : State} {d k a : Nat} {x : Thread}

/-- A load of a whole word of the region, after other loads. -/
theorem State.leaves.csLoad (h : u.leaves d k x v) (hreg : x.region a = true)
    (hf : (u.die d).flips (unitKey 2 (k / 64) a) = 0) :
    ∃ w : State, v.csLoad d k a = (w, u.csRead d (k / 64) a) ∧ u.leaves d k x w := by
  have hread : v.csRead d (k / 64) a = u.csRead d (k / 64) a :=
    State.slim_proj (fun z => (sgetD z.cstore (k / 64 * 262144 + a) 0, z.cstorePoison.contains (k / 64 * 262144 + a)))
      (fun _ _ _ _ _ => rfl) h.slim d
  have hflips : (v.die d).flips (unitKey 2 (k / 64) a) = 0 :=
    (State.slim_proj (fun z => z.flips (unitKey 2 (k / 64) a)) (fun _ _ _ _ _ => rfl) h.slim d).trans hf
  obtain ⟨w, hw, hl⟩ := State.csLoad_inside (s := v) (h.thr ▸ hreg) hflips
  exact ⟨w, hread ▸ hw, h.trans (h.thr ▸ hl)⟩

/-- A store of a word of the region, after loads, is the write of that word. -/
theorem State.leaves.csStore (h : u.leaves d k x v) (w : Word) (p : Bool) (hreg : x.region a = true) :
    (u.csWrite d (k / 64) a w p).leaves d k x (v.csStore d k a w p) := by
  rw [State.csStore_inside w p (h.thr ▸ hreg)]
  unfold State.csWrite
  exact h.modDie _ fun _ _ _ _ _ => rfl

end

/-! ### Pointers that step (R175) -/

theorem Thread.stepPtrs_wroteAll (x : Thread) (a b : BitVec 5) : x.wroteAll (x.stepPtrs a b) (stepRegs x a b) := by
  have ha := Thread.wroteAll_put x.wroteAll_refl a (x.val a + 1) false
  by_cases hab : a = b
  · subst hab
    have hregs : stepRegs x a a = fun r => if r = a then some (x.val a + 1, false) else none := by
      funext r
      by_cases hr : r = a <;> simp [stepRegs, hr]
    rw [Thread.stepPtrs, if_pos rfl, hregs]
    exact ha
  · have hregs : stepRegs x a b = fun r => if r = b then some (x.val b + 1, false)
        else if r = a then some (x.val a + 1, false) else none := by
      funext r
      by_cases hb : r = b
      · simp [stepRegs, hb]
      · by_cases hr : r = a <;> simp [stepRegs, hr, hb, hab]
    rw [Thread.stepPtrs, if_neg hab, hregs]
    exact Thread.wroteAll_put ha b (x.val b + 1) false

theorem Thread.stepPtrs_flagsKept (x : Thread) (a b : BitVec 5) : x.flagsKept (x.stepPtrs a b) := by
  have ha : x.flagsKept (x.put a.toNat (x.val a + 1)) := Thread.put_flagsKept ..
  by_cases hab : a = b
  · rw [Thread.stepPtrs, if_pos hab]
    exact ha
  · rw [Thread.stepPtrs, if_neg hab]
    exact Thread.flagsKept_trans ha (Thread.put_flagsKept ..)

/-! ### CPW and CMPS -/

section
variable {s : State} {t : Tid} {x : Thread} {a b : BitVec 5} {pa pb : Nat}

theorem State.cpw_ready {sys : Bool} {r : BitVec 5} (h8 : t.die < 8) (hx : s.at_ t = x) (hta : x.tag a = false)
    (htb : x.tag b = false) (hpa : (x.val a).toNat = pa) (hpb : (x.val b).toNat = pb) (ha : s.csReady t pa)
    (hb : s.csReady t pb) :
    let m := s.csRead t.die (tkey t / 64) pa
    ∃ s' : State, s.cpw t.die (tkey t) sys r a b = .done s' none ∧
      ((s.banksTaken t [pa, pb]).csWrite t.die (tkey t / 64) pb m.1 m.2).leaves t.die (tkey t)
        ((x.stepPtrs a b).result sys r (some m.1) {} m.2) s' := by
  intro m
  have hl := hx ▸ State.leaves.banksTaken s t [pa, pb]
  obtain ⟨v, hv, hload⟩ := hl.csLoad (a := pa) (hx ▸ ha.1) ((s.flips_banksTaken ..).trans ha.2.2)
  rw [State.csRead_banksTaken] at hv
  have hstore := hload.csStore (a := pb) m.1 m.2 (hx ▸ hb.1)
  rw [State.at_] at hx
  refine ⟨_, ?_, hstore.setThr _ h8⟩
  simp only [State.cpw, hx, hta, htb, hpa, hpb, Bool.or_self, Bool.false_eq_true, if_false, State.withBanks_pair _ ha hb, hv]
  rw [hstore.thr]
  rfl

theorem State.cmps_ready (h8 : t.die < 8) (hx : s.at_ t = x) (hta : x.tag a = false) (htb : x.tag b = false)
    (hpa : (x.val a).toNat = pa) (hpb : (x.val b).toNat = pb) (ha : s.csReady t pa) (hb : s.csReady t pb) :
    let m := s.csRead t.die (tkey t / 64) pa
    let n := s.csRead t.die (tkey t / 64) pb
    ∃ s' : State, s.cmps t.die (tkey t) a b = .done s' none ∧
      (s.banksTaken t [pa, pb]).leaves t.die (tkey t)
        ((x.stepPtrs a b).flags (aluResult .cmp m.1 n.1 false).2 (m.2 || n.2)) s' := by
  intro m n
  have hl := hx ▸ State.leaves.banksTaken s t [pa, pb]
  obtain ⟨v, hv, hload⟩ := hl.csLoad (a := pa) (hx ▸ ha.1) ((s.flips_banksTaken ..).trans ha.2.2)
  obtain ⟨w, hw, hload'⟩ := hload.csLoad (a := pb) (hx ▸ hb.1) ((s.flips_banksTaken ..).trans hb.2.2)
  rw [State.csRead_banksTaken] at hv hw
  rw [State.at_] at hx
  refine ⟨_, ?_, hload'.setThr _ h8⟩
  simp only [State.cmps, hx, hta, htb, hpa, hpb, Bool.or_self, Bool.false_eq_true, if_false, State.withBanks_pair _ ha hb, hv,
    hw, hload'.thr]
  rfl

end

/-! ### The comparison -/

theorem carryAt_36 (a b : Word) (c : Bool) : carryAt a b c 36 = decide (2 ^ 36 ≤ a.toNat + b.toNat + if c then 1 else 0) := by
  rw [carryAt, Nat.mod_eq_of_lt a.isLt, Nat.mod_eq_of_lt b.isLt]
  rfl

theorem difference_eq_zero_iff (a b : Word) : sumOf a (~~~b) true = 0 ↔ a = b := by
  have one : (1 : Word).toNat = 1 := rfl
  have zero : (0 : Word).toNat = 0 := rfl
  rw [sumOf, if_pos rfl, ← BitVec.toNat_inj, ← BitVec.toNat_inj, BitVec.toNat_add, BitVec.toNat_add, BitVec.toNat_not, one,
    zero]
  omega

/-- The flags of a comparison: the words are equal, or the first is at least the second. -/
theorem compare_flags (a b : Word) :
    (aluResult .cmp a b false).2 = { z := some (decide (a = b)), n := some (sumOf a (~~~b) true).msb
                                     c := some (decide (b.toNat ≤ a.toNat))
                                     v := some (decide (a.msb ≠ b.msb) && decide ((sumOf a (~~~b) true).msb ≠ a.msb)) } := by
  have hz : decide (sumOf a (~~~b) true = 0) = decide (a = b) := decide_eq_decide.mpr (difference_eq_zero_iff a b)
  have hc : carryAt a (~~~b) true 36 = decide (b.toNat ≤ a.toNat) := by
    rw [carryAt_36, decide_eq_decide, BitVec.toNat_not, if_pos rfl]
    omega
  have hv : decide (a.msb = (~~~b).msb) = decide (a.msb ≠ b.msb) := by
    rw [decide_eq_decide, BitVec.msb_not]
    cases a.msb <;> cases b.msb <;> decide
  rw [← hz, ← hc, ← hv]
  rfl

end Sys2Proof.Machine
end

section
/-! PROOFS. CPW and CMPS. -/

namespace Sys2Proof.Machine

open Sys2Proof

/-- Settles O16: CPW is a load and a store, CMPS two loads; then the pointers step and the last result is written. -/
theorem repeatableStepsCopyAndCompare : Obligations.RepeatableStepsCopyAndCompare := by
  refine ⟨?cpw, ?cmps⟩
  case cpw =>
    intro s t sys d a b h hta htb x pa pb ha hb
    obtain ⟨s', he, hl⟩ := State.cpw_ready (sys := sys) (r := d) (State.has_lt h.has) rfl hta htb rfl rfl ha hb
    obtain ⟨n, cs, co, cl, hx⟩ := State.exec_done (c := .cpw t sys d a b) h rfl rfl he
      ((State.keepsClock.banksTaken ..).csWrite ..) hl
    refine ⟨n, cs, co, cl, x.stepPtrs a b, _, hx, x.stepPtrs_wroteAll a b, ?_⟩
    cases sys with
    | false => exact ⟨Thread.put_wrote .., Thread.put_flagsKept ..⟩
    | true =>
      have hlegal := h.legal
      simp only [legalInstr, Bool.and_eq_true] at hlegal
      exact Thread.putSys_wroteSys_of_dstOk _ _ _ hlegal.1
  case cmps =>
    intro s t a b h hta htb x pa pb u v r ha hb
    obtain ⟨s', he, hl⟩ := State.cmps_ready (State.has_lt h.has) rfl hta htb rfl rfl ha hb
    obtain ⟨n, cs, co, cl, hx⟩ := State.exec_done (c := .cmps t a b) h rfl rfl he (State.keepsClock.banksTaken ..) hl
    obtain ⟨-, -, -, -, hdz, hdcv, -⟩ := x.stepPtrs_flagsKept a b
    refine ⟨n, cs, co, cl, x.stepPtrs a b, _, hx, x.stepPtrs_wroteAll a b, Thread.flags_wrote .., ?_⟩
    rw [compare_flags, Thread.flags_eq]
    exact ⟨rfl, rfl, rfl, rfl, hdz, hdcv⟩

end Sys2Proof.Machine
end

section
/-! SUPPORT. Digits: the digit carries of an addition, numbers made digit by digit, and the correction of a binary sum (R189,
R194, R195). -/

namespace Sys2Proof.Machine

open Sys2Proof

/-! ### Numbers made bit by bit and digit by digit -/

/-- The bits of a predicate below a bound, as `sum36` collects them. -/
theorem testBit_foldl_bits (p : Nat → Bool) (n : Nat) :
    let m := (List.range n).foldl (fun m i => if p i then m + 2 ^ i else m) 0
    m < 2 ^ n ∧ ∀ j : Nat, j < n → m.testBit j = p j := by
  induction n with
  | zero => exact ⟨Nat.one_pos, fun j hj => absurd hj (Nat.not_lt_zero j)⟩
  | succ n ih =>
    obtain ⟨hlt, hbits⟩ := ih
    simp only [List.range_succ, List.foldl_append, List.foldl_cons, List.foldl_nil]
    generalize (List.range n).foldl (fun m i => if p i then m + 2 ^ i else m) 0 = m at hlt hbits
    refine ⟨?_, fun j hj => ?_⟩
    · rw [Nat.pow_succ]
      split <;> omega
    · rcases Nat.lt_succ_iff_lt_or_eq.mp hj with hj | rfl
      · rw [← hbits j hj]
        split
        · rw [Nat.add_comm, Nat.testBit_two_pow_add_gt hj]
        · rfl
      · have hm : m.testBit j = false := Nat.testBit_lt_two_pow hlt
        cases hp : p j
        · simpa using hm
        · rw [if_pos rfl, Nat.add_comm, Nat.testBit_two_pow_add_eq, hm, Bool.not_false]

/-- Bit j of DCV is the carry of an addition into the digit above digit j (R189). -/
theorem dcv_sum36 (a b : Word) (c : Bool) {j : Nat} (hj : j < 9) :
    (sum36 a b c).dcv.getLsbD j = true ↔ carryInto a b c (4 * j + 4) := by
  obtain ⟨-, hbits⟩ := testBit_foldl_bits (fun i => carryAt a b c (4 * i + 4)) 9
  have hbit : (sum36 a b c).dcv.getLsbD j = carryAt a b c (4 * j + 4) := by
    rw [← hbits j hj]
    change (BitVec.ofNat 9 _).getLsbD j = _
    rw [BitVec.getLsbD_ofNat, decide_eq_true hj, Bool.true_and]
  rw [hbit, carryAt, decide_eq_true_eq]
  rfl

/-- A number made of hexadecimal digits, the lowest first. -/
def ofDigits16 (f : Nat → Nat) : Nat → Nat
  | 0 => 0
  | n + 1 => ofDigits16 f n + f n * 2 ^ (4 * n)

theorem ofDigits16_lt {f : Nat → Nat} (hf : ∀ i : Nat, f i < 16) (n : Nat) : ofDigits16 f n < 2 ^ (4 * n) := by
  induction n with
  | zero => exact Nat.one_pos
  | succ n ih =>
    have := Nat.mul_le_mul_right (2 ^ (4 * n)) (Nat.le_of_lt_succ (hf n))
    rw [ofDigits16, show 4 * (n + 1) = 4 * n + 4 from rfl, Nat.pow_add]
    omega

theorem bits_ofDigits16 {f : Nat → Nat} (hf : ∀ i : Nat, f i < 16) {n i : Nat} (hi : i < n) :
    bits (ofDigits16 f n) (4 * i) 4 = f i := by
  induction n with
  | zero => exact absurd hi (Nat.not_lt_zero i)
  | succ n ih =>
    rw [ofDigits16, bits]
    rcases Nat.lt_succ_iff_lt_or_eq.mp hi with hi | rfl
    · have hpow : 2 ^ (4 * n) = 2 ^ (4 * i) * (2 ^ 4 * 2 ^ (4 * (n - i - 1))) := by
        rw [← Nat.pow_add, ← Nat.pow_add]
        congr 1
        omega
      rw [hpow, Nat.mul_left_comm, Nat.add_mul_div_left _ _ (Nat.two_pow_pos _), Nat.mul_left_comm, Nat.add_mul_mod_self_left]
      exact ih hi
    · rw [Nat.add_mul_div_right _ _ (Nat.two_pow_pos _), Nat.div_eq_of_lt (ofDigits16_lt hf _), Nat.zero_add]
      exact Nat.mod_eq_of_lt (hf i)

/-- The digits of a word of nine of them. -/
theorem nibble_ofDigits16 {f : Nat → Nat} (hf : ∀ i : Nat, f i < 16) {i : Nat} (hi : i < 9) :
    nibble (w36 (ofDigits16 f 9)) i = f i := by
  have hlt : ofDigits16 f 9 < 2 ^ 36 := ofDigits16_lt hf 9
  rw [nibble, w36, BitVec.toNat_ofNat, Nat.mod_eq_of_lt hlt, bits_ofDigits16 hf hi]

theorem nibble_lt (a : Word) (i : Nat) : nibble a i < 16 := Nat.mod_lt _ (by decide)

/-! ### The correction of a sum (R195) -/

/-- The carry k into digit i of the correction. -/
def adjustCarry (a : Word) (dcv : BitVec 9) : Nat → Nat
  | 0 => 0
  | i + 1 => (adjustRow (dcv.getLsbD i) (nibble a i + adjustCarry a dcv i)).2.1

theorem adjustCarry_le (a : Word) (dcv : BitVec 9) (i : Nat) : adjustCarry a dcv i ≤ 1 := by
  cases i with
  | zero => exact Nat.zero_le 1
  | succ i =>
    rw [adjustCarry, adjustRow]
    split_ifs <;> simp only [Nat.le_refl, Nat.zero_le]

/-- The row of the table for digit i. -/
def adjustAt (a : Word) (dcv : BitVec 9) (i : Nat) : Nat × Nat × Bool :=
  adjustRow (dcv.getLsbD i) (nibble a i + adjustCarry a dcv i)

/-- The table's row of a digit with its carry, as the model computes it. -/
theorem adjustRow_eq (c : Bool) {x : Nat} (hx : x ≤ 16) :
    adjustRow c x = ((if c || decide (10 ≤ x) then x + 6 else x) % 16, if 10 ≤ x then 1 else 0, c && decide (4 ≤ x)) := by
  revert c
  interval_cases x <;> decide

theorem adjustAt_lt (a : Word) (dcv : BitVec 9) (i : Nat) : (adjustAt a dcv i).1 < 16 := by
  have := nibble_lt a i
  have := adjustCarry_le a dcv i
  rw [adjustAt, adjustRow_eq _ (by omega)]
  exact Nat.mod_lt _ (by decide)

/-- After n digits the model holds the number of their digits, the carry into the next and whether a row has marked V. -/
theorem adjAdd_foldl (a : Word) (dcv : BitVec 9) (n : Nat) :
    (List.range n).foldl (fun (acc : Nat × Nat × Bool) (i : Nat) =>
        let x := nibble a i + acc.2.1
        let y := if dcv.getLsbD i || 10 ≤ x then x + 6 else x
        (acc.1 + y % 16 * 2 ^ (4 * i), if 10 ≤ x then 1 else 0, acc.2.2 || (dcv.getLsbD i && 4 ≤ x))) (0, 0, false) =
      (ofDigits16 (fun i => (adjustAt a dcv i).1) n, adjustCarry a dcv n,
        (List.range n).any fun i => (adjustAt a dcv i).2.2) := by
  induction n with
  | zero => rfl
  | succ n ih =>
    have hx : nibble a n + adjustCarry a dcv n ≤ 16 := by
      have := nibble_lt a n
      have := adjustCarry_le a dcv n
      omega
    rw [List.range_succ, List.foldl_append, ih, List.any_append]
    simp only [List.foldl_cons, List.foldl_nil, List.any_cons, List.any_nil, Bool.or_false, ofDigits16, adjustCarry, adjustAt,
      adjustRow_eq _ hx]

/-- The model's correction of a sum is that of the table. -/
theorem adjAdd_correctsSum (a : Word) (dcv : BitVec 9) :
    correctsSum a (adjAdd a dcv).1 dcv (adjAdd a dcv).2.1 (adjAdd a dcv).2.2 := by
  have hadj : adjAdd a dcv = (w36 (ofDigits16 (fun i => (adjustAt a dcv i).1) 9), decide (adjustCarry a dcv 9 = 1),
      (List.range 9).any fun i => (adjustAt a dcv i).2.2) := by
    rw [adjAdd, adjAdd_foldl]
  rw [hadj]
  refine ⟨adjustCarry a dcv, rfl, fun i hi => ⟨nibble_ofDigits16 (adjustAt_lt a dcv) hi, rfl⟩, decide_eq_true_iff, ?_⟩
  simp only [List.any_eq_true, List.mem_range]
  rfl

/-! ### Digits that are valid (R197) -/

theorem badDigit_iff (a : Word) : badDigit a = false ↔ validDigits a := by
  simp only [badDigit, List.any_eq_false, List.mem_range, decide_eq_true_eq, Nat.not_le]
  rfl

theorem invalid_iff (a b : Word) : (badDigit a || badDigit b) = false ↔ validDigits a ∧ validDigits b := by
  rw [Bool.or_eq_false_iff, badDigit_iff, badDigit_iff]

/-! ### DSTEP -/

/-- A fused decimal addition is the correction of the binary sum; its flags are Z of the result, N clear, the carry out of
either step, and V for an invalid digit. -/
theorem decAdd_spec (a b : Word) (c : Bool) : ∃ (dcv : BitVec 9) (k m : Bool),
    (∀ j : Nat, j < 9 → (dcv.getLsbD j = true ↔ carryInto a b c (4 * j + 4))) ∧
      correctsSum (sumOf a b c) (decAdd a b c).1 dcv k m ∧
      (decAdd a b c).2 = { z := some (decide ((decAdd a b c).1 = 0)), n := some false
                           c := some (decide (2 ^ 36 ≤ a.toNat + b.toNat + if c then 1 else 0) || k)
                           v := some (badDigit a || badDigit b) } := by
  refine ⟨(sum36 a b c).dcv, _, _, fun j hj => dcv_sum36 a b c hj, adjAdd_correctsSum .., ?_⟩
  rw [← carryAt_36]
  rfl

theorem Thread.flags_znvc (x : Thread) (z n c v p : Bool) :
    let y := x.flags { z := some z, n := some n, c := some c, v := some v } p
    y.z = z ∧ y.n = n ∧ y.v = v ∧ y.c = c ∧ y.dz = x.dz ∧ y.dcv = x.dcv := by
  intro y
  rw [show y = _ from Thread.flags_eq ..]
  exact ⟨rfl, rfl, rfl, rfl, rfl, rfl⟩

theorem State.dstep_ready {s : State} {t : Tid} {x : Thread} {a b : BitVec 5} {pa pb : Nat} (h8 : t.die < 8)
    (hx : s.at_ t = x) (hta : x.tag a = false) (htb : x.tag b = false) (hpa : (x.val a).toNat = pa)
    (hpb : (x.val b).toNat = pb) (ha : s.csReady t pa) (hb : s.csReady t pb) :
    let m := s.csRead t.die (tkey t / 64) pa
    let n := s.csRead t.die (tkey t / 64) pb
    let r := decAdd m.1 n.1 x.c
    let p := m.2 || n.2 || x.flTag
    ∃ s' : State, s.dstep t.die (tkey t) a b = .done s' none ∧
      ((s.banksTaken t [pa, pb]).csWrite t.die (tkey t / 64) pb r.1 p).leaves t.die (tkey t)
        ((x.stepPtrs a b).flags r.2 p) s' := by
  intro m n r p
  have hl := hx ▸ State.leaves.banksTaken s t [pa, pb]
  obtain ⟨v, hv, hload⟩ := hl.csLoad (a := pa) (hx ▸ ha.1) ((s.flips_banksTaken ..).trans ha.2.2)
  obtain ⟨w, hw, hload'⟩ := hload.csLoad (a := pb) (hx ▸ hb.1) ((s.flips_banksTaken ..).trans hb.2.2)
  rw [State.csRead_banksTaken] at hv hw
  have hstore := hload'.csStore (a := pb) r.1 p (hx ▸ hb.1)
  rw [State.at_] at hx
  refine ⟨_, ?_, hstore.setThr _ h8⟩
  simp only [State.dstep, hx, hta, htb, hpa, hpb, Bool.or_self, Bool.false_eq_true, if_false, State.withBanks_pair _ ha hb, hv,
    hw]
  rw [hstore.thr]
  rfl

end Sys2Proof.Machine
end

section
/-! PROOFS. DSTEP. -/

namespace Sys2Proof.Machine

open Sys2Proof

/-- Settles O17: DSTEP is two loads and a store of the corrected sum, after which the pointers step and the flags are set. -/
theorem decimalStepAddsInPlace : Obligations.DecimalStepAddsInPlace := by
  intro s t a b h hta htb x pa pb u v ha hb
  obtain ⟨s', he, hl⟩ := State.dstep_ready (State.has_lt h.has) rfl hta htb rfl rfl ha hb
  obtain ⟨n, cs, co, cl, hx⟩ := State.exec_done (c := .dstep t a b) h rfl rfl he
    ((State.keepsClock.banksTaken ..).csWrite ..) hl
  obtain ⟨-, -, -, -, hdz, hdcv, -⟩ := x.stepPtrs_flagsKept a b
  obtain ⟨dcv, k, m, hdig, hsum, hf⟩ := decAdd_spec u.1 v.1 x.c
  refine ⟨n, cs, co, cl, x.stepPtrs a b, _, _, dcv, k, m, hx, hdig, hsum, x.stepPtrs_wroteAll a b, Thread.flags_wrote .., ?_⟩
  rw [hf]
  obtain ⟨hz, hn, hv, hc, hdz', hdcv'⟩ := Thread.flags_znvc (x.stepPtrs a b) _ _ _ _ (u.2 || v.2 || x.flTag)
  exact ⟨hz, hn, (iff_of_eq (congrArg (· = false) hv)).trans (invalid_iff ..), hc, hdz'.trans hdz, hdcv'.trans hdcv⟩

end Sys2Proof.Machine
end

section
/-! SUPPORT. The operation window and the answers of a thread (R160, R161, R176, R261). -/

namespace Sys2Proof.Machine

open Sys2Proof

section
variable {s u v : State} {d k : Nat} {y : Thread}

/-- The read of a unit without flips counts at most its poison. -/
theorem State.leaves.readUnit {store cl unit : Nat} (h : u.leaves d k y v)
    (hf : (v.die d).flips (unitKey store cl unit) = 0) (q : Bool) : u.leaves d k y (v.readUnit d store cl unit q) := by
  rw [State.readUnit_unflipped q hf]
  split
  · exact h.count ..
  · exact h

theorem State.held_inst {slot : Nat} {o : Op} {i : Inst} (h : s.held d k = some (slot, o, i)) :
    s.inst d o.inst = some i := by
  unfold State.held at h
  split at h
  · cases h
  split at h
  · cases h
  split at h
  · cases h
  rename_i hi
  cases h
  exact hi

theorem State.inst_slim (h : s.slim d v) (i : Nat) : v.inst d i = s.inst d i :=
  State.slim_proj (fun z => sget z.dsp.insts i) (fun _ _ _ _ _ => rfl) h d

/-- The operation window is no part of what issuing touches. -/
theorem State.opWord_slim (h : s.slim d v) (slot : Nat) (o : Op) (i : Inst) (j : Nat) :
    v.opWord d slot o i j = s.opWord d slot o i j := by
  have hpkt : v.pkt d = s.pkt d := funext fun p =>
    State.slim_proj (fun z => sget z.hop.packets p) (fun _ _ _ _ _ => rfl) h d
  simp only [State.opWord, State.descWord, hpkt]

/-! ### LDO -/

/-- A load of the operation window reads its word. -/
theorem State.ldo_inside {slot : Nat} {o : Op} {i : Inst} {r a : BitVec 5} {disp : BitVec 15} {j : Nat}
    (hta : (s.thr d k).tag a = false) (hj : (s.thr d k).addr a disp = j) (hheld : s.held d k = some (slot, o, i))
    (h64 : j < 64) (hf : (s.die d).flips (unitKey 7 0 (o.inst * 48 + (j - 16))) = 0) :
    ∃ v : State, s.leaves d k (s.thr d k) v ∧
      s.ldo d k r a disp = v.doneThr d k ((s.thr d k).put r.toNat (s.opWord d slot o i j).1 (s.opWord d slot o i j).2) := by
  let v := if 16 ≤ j then s.readUnit d 7 0 (o.inst * 48 + (j - 16)) true else s
  have hl : s.leaves d k (s.thr d k) v := by
    change s.leaves d k (s.thr d k) (if _ then _ else _)
    split
    · exact (State.leaves.refl s d k).readUnit hf true
    · exact State.leaves.refl s d k
  have hinst : (v.inst d o.inst).getD i = i := by
    rw [State.inst_slim hl.slim, State.held_inst hheld, Option.getD_some]
  refine ⟨v, hl, ?_⟩
  rw [← State.opWord_slim hl.slim]
  simp only [State.ldo, hta, Bool.false_eq_true, if_false, hj, hheld, h64, if_true]
  rw [hinst, hl.thr]

theorem State.ldo_outside {r a : BitVec 5} {disp : BitVec 15} (hta : (s.thr d k).tag a = false)
    (h : s.held d k = none ∨ 64 ≤ (s.thr d k).addr a disp) :
    s.ldo d k r a disp = (s.violation d).doneThr d k (((s.violation d).thr d k).put r.toNat 0) := by
  rw [State.ldo]
  simp only [hta, Bool.false_eq_true, if_false]
  rcases hheld : s.held d k with _ | ⟨slot, o, i⟩
  · rfl
  · have h64 : ¬ (s.thr d k).addr a disp < 64 := Nat.not_lt.mpr (h.resolve_left (hheld ▸ Option.some_ne_none _))
    simp only [h64, if_false]
    rfl

/-! ### STO -/

theorem State.sto_inside {slot : Nat} {o : Op} {i : Inst} {r a : BitVec 5} {disp : BitVec 15} {j : Nat}
    (hta : (s.thr d k).tag a = false) (htr : (s.thr d k).tag r = false) (hj : (s.thr d k).addr a disp = j)
    (hheld : s.held d k = some (slot, o, i)) (h44 : 44 ≤ j) (h60 : j < 60) :
    s.sto d k r a disp = .done (s.setOp d slot { o with carry := sset o.carry (j - 44) ((s.thr d k).val r) }) none := by
  simp only [State.sto, hta, htr, hj, hheld, h44, h60, decide_true, Bool.and_self, Bool.false_eq_true, if_false, if_true]

theorem State.sto_outside {r a : BitVec 5} {disp : BitVec 15} {j : Nat} (hta : (s.thr d k).tag a = false)
    (hj : (s.thr d k).addr a disp = j) (h : s.held d k = none ∨ j < 44 ∨ 60 ≤ j) :
    s.sto d k r a disp = .done (s.violation d) none := by
  rw [State.sto]
  simp only [hta, Bool.false_eq_true, if_false, hj]
  rcases hheld : s.held d k with _ | ⟨slot, o, i⟩
  · rfl
  · have hout : (decide (44 ≤ j) && decide (j < 60)) = false := by
      have := h.resolve_left (hheld ▸ Option.some_ne_none _)
      simp only [Bool.and_eq_false_iff, decide_eq_false_iff_not]
      omega
    simp only [hout, Bool.false_eq_true, if_false]
    rfl

/-! ### LDA and LDF -/

theorem State.lda_inside {r a : BitVec 5} {disp : BitVec 15} {j : Nat} (hta : (s.thr d k).tag a = false)
    (hj : (s.thr d k).addr a disp = j) (h : d = 0 ∧ j < 16384) :
    s.lda d k r a disp = s.doneThr d k ((s.thr d k).put r.toNat ((s.ansLoad d k j).zeroExtend 36)) := by
  have hin : (decide (d = 0) && decide (j < 16384)) = true := by
    rwa [Bool.and_eq_true, decide_eq_true_eq, decide_eq_true_eq]
  rw [State.lda, if_neg (Bool.eq_false_iff.mp hta), hj]
  exact if_pos hin

theorem State.lda_outside {r a : BitVec 5} {disp : BitVec 15} {j : Nat} (hta : (s.thr d k).tag a = false)
    (hj : (s.thr d k).addr a disp = j) (h : ¬(d = 0 ∧ j < 16384)) :
    s.lda d k r a disp = (s.violation d).doneThr d k (((s.violation d).thr d k).put r.toNat 0) := by
  have hout : ¬(decide (d = 0) && decide (j < 16384)) = true := by
    rwa [Bool.and_eq_true, decide_eq_true_eq, decide_eq_true_eq]
  rw [State.lda, if_neg (Bool.eq_false_iff.mp hta), hj]
  exact if_neg hout

theorem State.ldf_inside {r a : BitVec 5} {disp : BitVec 15} {f : Nat} (hta : (s.thr d k).tag a = false)
    (hf : ((s.thr d k).val a).toNat = f) (h : f < 262144) :
    s.ldf d k r a disp = .hold ({ s with stamps := s.stamps + 1 }.setThr d k
      { s.thr d k with st := .waiting, waitOn := 0, waitDst := r.toNat, stamp := s.stamps, since := s.now
                       portAt := none, req := some (.ldf r.toNat (f * 16 + disp.toNat)) }) := by
  rw [State.ldf, if_neg (Bool.eq_false_iff.mp hta), hf]
  exact if_neg (Nat.not_le.mpr h)

theorem State.ldf_outside {r a : BitVec 5} {disp : BitVec 15} (hta : (s.thr d k).tag a = false)
    (h : 262144 ≤ ((s.thr d k).val a).toNat) :
    s.ldf d k r a disp = (s.violation d).doneThr d k (((s.violation d).thr d k).put r.toNat 0) := by
  rw [State.ldf, if_neg (Bool.eq_false_iff.mp hta)]
  exact if_pos h

/-! ### A load that is a violation -/

/-- A load that is a violation reads zero. -/
theorem State.exec_readsZero {c : Instr} {t : Tid} {i : CoreInstr} {r : BitVec 5} (h : s.issues t i)
    (hc : namesIssue c = some (t, i)) (hset : i.settles = false)
    (he : s.effect t.die (tkey t) i =
      (s.violation t.die).doneThr t.die (tkey t) (((s.violation t.die).thr t.die (tkey t)).put r.toNat 0)) :
    ∃ n cs co cl, ∃ y : Thread,
      exec c s = .next (s.onlyThread t.die (tkey t) n cs co cl (y.after ((s.at_ t).pc + 1) i.rounds)) ∧
      (s.at_ t).wrote y (some r) 0 false ∧ (s.at_ t).flagsKept y := by
  have hl := (State.leaves.refl s t.die (tkey t)).violation h.has
  rw [hl.thr] at he
  obtain ⟨n, cs, co, cl, hx⟩ := State.exec_done (pc := none) h hc hset he (State.keepsClock.refl s)
    (hl.setThr _ (State.has_lt h.has))
  exact ⟨n, cs, co, cl, _, hx, Thread.put_wrote .., Thread.put_flagsKept ..⟩

end

end Sys2Proof.Machine
end

section
/-! PROOFS. LDO, STO, LDA and LDF. -/

namespace Sys2Proof.Machine

open Sys2Proof

/-- Settles O19, instruction by instruction; an access outside its window is a violation, and a load then reads zero. -/
theorem operationContextAndAnswerAccesses : Obligations.OperationContextAndAnswerAccesses := by
  refine ⟨?ldo, ?sto, ?lda, ?ldf⟩
  case ldo =>
    intro s t d a disp h hta x j
    refine ⟨fun slot o i hheld h64 hf => ?_, fun hout => ?_⟩
    · obtain ⟨v, hl, he⟩ := State.ldo_inside (r := d) hta rfl hheld h64 hf
      obtain ⟨n, cs, co, cl, hx⟩ := State.exec_done (c := .ldo t d a disp) (pc := none) h rfl rfl he (State.keepsClock.refl s)
        (hl.setThr _ (State.has_lt h.has))
      exact ⟨n, cs, co, cl, _, hx, Thread.put_wrote .., Thread.put_flagsKept ..⟩
    · exact (State.exec_readsZero (c := .ldo t d a disp) h rfl rfl (State.ldo_outside (r := d) hta hout) :)
  case sto =>
    intro s t d a disp h hta x j
    refine ⟨fun slot o i hheld h44 h60 htd => ?_, fun hout => ?_⟩
    · have hl := s.leaves_setOp t.die (tkey t) slot { o with carry := sset o.carry (j - 44) (x.val d) }
      exact (State.exec_done (c := .sto t d a disp) h rfl rfl (State.sto_inside hta htd rfl hheld h44 h60)
        ((State.keepsClock.refl s).setOp ..) hl :)
    · exact (State.exec_done (c := .sto t d a disp) h rfl rfl (State.sto_outside (r := d) hta rfl hout)
        (State.keepsClock.refl s) ((State.leaves.refl s ..).violation h.has) :)
  case lda =>
    intro s t d a disp h hta x j
    by_cases hj : t.die = 0 ∧ j < 16384
    · rw [if_pos hj]
      obtain ⟨n, cs, co, cl, hx⟩ := State.exec_doneThr (c := .lda t d a disp) h rfl rfl (State.lda_inside hta rfl hj)
      exact ⟨n, cs, co, cl, _, hx, Thread.put_wrote .., Thread.put_flagsKept ..⟩
    · rw [if_neg hj]
      exact (State.exec_readsZero (c := .lda t d a disp) h rfl rfl (State.lda_outside (r := d) hta rfl hj) :)
  case ldf =>
    intro s t d a disp h hta x f
    refine ⟨fun hf => ?_, fun hf => ?_⟩
    · exact (State.exec_hold (c := .ldf t d a disp) h rfl (State.ldf_inside (r := d) (disp := disp) hta rfl hf) :)
    · exact (State.exec_readsZero (c := .ldf t d a disp) h rfl rfl (State.ldf_outside (r := d) (disp := disp) hta hf) :)

end Sys2Proof.Machine
end

section
/-! SUPPORT. The helper locks (R209 to R213): what their operations keep, and HLOCK, HUNLOCK and HGO case by case. -/

namespace Sys2Proof.Machine

open Sys2Proof

/-! ### What the operations on a lock keep -/

/-- A part of a die that neither a unit's read nor a lock changes. -/
def ApartFromLocks {α : Type} (g : Die → α) : Prop :=
  ApartFromUnits g ∧ ∀ (x : Die) (hs : Store Helper), g { x with helpers := hs } = g x

theorem threads_apartFromLocks : ApartFromLocks Die.threads := ⟨fun _ _ _ _ _ _ _ _ _ _ _ => rfl, fun _ _ => rfl⟩

theorem coreStart_apartFromLocks : ApartFromLocks Die.coreStart := ⟨coreStart_apart, fun _ _ => rfl⟩

section
variable {α : Type} {g : Die → α} {s t : State} (hg : ApartFromLocks g)
include hg

theorem State.keepsOf.setHelper (h : s.keepsOf g t) (d j : Nat) (x : Helper) : s.keepsOf g (t.setHelper d j x) :=
  h.modDie d _ (hg.2 _ _)

theorem State.keepsOf.setOp (h : s.keepsOf g t) (d slot : Nat) (o : Op) : s.keepsOf g (t.setOp d slot o) := by
  unfold State.setOp State.modDsp
  exact h.modDie d _ (hg.1 (t.die d) _ _ _ _ _ _ _ _ _ _)

theorem State.keepsOf.readDesc (h : s.keepsOf g t) (d slot : Nat) : s.keepsOf g (t.readDesc d slot) := by
  unfold State.readDesc
  split
  · exact h
  · exact List.foldlRecOn (motive := fun u => s.keepsOf g u) _ _ h fun u hu _ _ => hu.readUnit hg.1 ..

theorem State.keepsOf.lockToOp (h : s.keepsOf g t) (d j slot : Nat) : s.keepsOf g (t.lockToOp d j slot) := by
  have granted := fun x => (h.readDesc hg d slot).setHelper hg d j x
  unfold State.lockToOp
  dsimp only
  split
  · exact (granted _).setOp hg ..
  · exact granted _

theorem State.keepsOf.grantLock (h : s.keepsOf g t) (d j : Nat) : s.keepsOf g (t.grantLock d j) := by
  unfold State.grantLock
  dsimp only
  split
  · exact h
  split
  · exact h
  split
  · exact h.setHelper hg ..
  · exact h.lockToOp hg ..

theorem State.keepsOf.windowEnd (h : s.keepsOf g t) (d j : Nat) : s.keepsOf g (t.windowEnd d j) := by
  unfold State.windowEnd
  dsimp only
  split
  · split
    · exact h
    split
    · exact (h.setHelper hg ..).lockToOp hg ..
    · exact h.setHelper hg ..
  · exact h

end

section
variable {s t u : State} {d k n : Nat}

theorem State.keepsOf.thr (h : s.keepsOf Die.threads t) (d k : Nat) : t.thr d k = s.thr d k := by
  rw [State.thr, h.dies, State.thr]

theorem State.thr_setHelper (s : State) (d j : Nat) (x : Helper) (k : Nat) : (s.setHelper d j x).thr d k = s.thr d k :=
  ((State.keepsOf.refl _ s).setHelper threads_apartFromLocks d j x).thr d k

theorem State.thr_windowEnd (s : State) (d j k : Nat) : (s.windowEnd d j).thr d k = s.thr d k :=
  ((State.keepsOf.refl _ s).windowEnd threads_apartFromLocks d j).thr d k

theorem State.keepsClock.windowEnd (h : s.keepsClock t) (d j : Nat) : s.keepsClock (t.windowEnd d j) :=
  State.keepsOf.windowEnd coreStart_apartFromLocks h d j

/-! ### HLOCK (R210) -/

/-- A helper that a thread's HLOCK at a time has won. -/
def Helper.wonBy (z : Helper) (k now : Nat) : Helper :=
  { z with holder := some (.thread k), refused := false, window := none, atCommit := none, won := some (now, k / 16 % 4) }

/-- The core that won the lock before the present cycle, at a win in it. -/
def Helper.lastWinner (z : Helper) : Nat := match z.won with | some (_, c) => c | none => z.lastCore

theorem Helper.free_iff (z : Helper) : z.free = true ↔ z.holder = none ∧ z.jobs = [] := by
  rw [Helper.free, Bool.and_eq_true, Option.isNone_iff_eq_none, List.isEmpty_iff]

/-- HLOCK of the lock's own holder. -/
theorem State.hlock_own {z : Helper} (hu : s.windowEnd d (k / 64 * 3 + n) = u) (hz : u.helper d (k / 64 * 3 + n) = z)
    (hown : z.holder = some (.thread k)) : s.hlock d k n = u.doneThr d k ((u.thr d k).setC false) := by
  simp only [State.hlock, hu, hz, hown, if_true]

/-- HLOCK of a free lock. -/
theorem State.hlock_free {z : Helper} (hu : s.windowEnd d (k / 64 * 3 + n) = u) (hz : u.helper d (k / 64 * 3 + n) = z)
    (hhold : z.holder = none) (hjobs : z.jobs = []) :
    let v := u.setHelper d (k / 64 * 3 + n) ({ z with lastCore := z.lastWinner }.wonBy k u.now)
    s.hlock d k n = v.doneThr d k ((v.thr d k).setC false) := by
  have hown : ¬z.holder = some (.thread k) := by
    rw [hhold]
    exact (Option.some_ne_none _).symm
  simp only [State.hlock, hu, hz, if_neg hown, z.free_iff.mpr ⟨hhold, hjobs⟩, if_true]
  rfl

/-- HLOCK of a lock that is taken: a later turn of the same fabric cycle gives way, and else the HLOCK is refused. -/
theorem State.hlock_taken {z : Helper} (hu : s.windowEnd d (k / 64 * 3 + n) = u) (hz : u.helper d (k / 64 * 3 + n) = z)
    (hown : z.holder ≠ some (.thread k)) (htaken : z.holder ≠ none ∨ z.jobs ≠ []) :
    s.hlock d k n = match u.lateWinner d (k / 64 * 3 + n) k with
      | some w =>
        let v := ((u.setHelper d (k / 64 * 3 + n) (z.wonBy k u.now)).modThr d w fun y => y.setC true).count d ctrHLP 10
        v.doneThr d k ((v.thr d k).setC false)
      | none =>
        let v := (u.setHelper d (k / 64 * 3 + n) { z with refused := z.refused ||
          !((match z.won with | some (t, _) => t = u.now | none => false) && z.jobs.isEmpty) }).count d ctrHLP 10
        v.doneThr d k ((v.thr d k).setC true) := by
  have hfree : ¬z.free = true := by
    rw [z.free_iff]
    tauto
  simp only [State.hlock, hu, hz, if_neg hown, if_neg hfree]
  rfl

/-- An HLOCK with no winner to give way marks the lock as refused unless a free lock went to another in this fabric cycle. -/
theorem refusal_iff (z : Helper) (now : Nat) :
    (z.refused || !((match z.won with | some (t, _) => decide (t = now) | none => false) && z.jobs.isEmpty)) = true ↔
      z.refused = true ∨ z.jobs ≠ [] ∨ ∀ c : Nat, z.won ≠ some (now, c) := by
  have hwon : (match z.won with | some (t, _) => decide (t = now) | none => false) = true ↔ ∃ c : Nat, z.won = some (now, c) := by
    rcases z.won with _ | ⟨t, c⟩ <;> simp
  rw [Bool.or_eq_true, Bool.not_eq_true', Bool.and_eq_false_iff, ← Bool.not_eq_true, hwon, ← Bool.not_eq_true, List.isEmpty_iff,
    not_exists, or_comm (a := ∀ c : Nat, _)]

/-- The winner that gives way is another thread. -/
theorem State.lateWinner_ne {j w : Nat} (h : s.lateWinner d j k = some w) : w ≠ k := by
  rintro rfl
  unfold State.lateWinner at h
  dsimp only at h
  split at h
  · split at h
    · rename_i hcond
      cases h
      simp only [Bool.and_eq_true, decide_eq_true_eq, Nat.lt_irrefl, and_false] at hcond
    · cases h
  · cases h

theorem State.thr_setThr_ne (s : State) {w : Nat} (y : Thread) (h8 : d < 8) (h : w ≠ k) : (s.setThr d w y).thr d k = s.thr d k := by
  rw [State.thr, State.setThr, State.die_modDie _ _ h8, sgetD_sset_ne _ _ _ h.symm, State.thr]

/-! ### HGO (R213) -/

/-- The reads of unflipped words of the cluster store leave the same but for a count. -/
theorem State.leaves.readWords {y : Thread} {v : State} (h : u.leaves d k y v) (cl a m : Nat)
    (hf : ∀ j : Nat, j < m → (u.die d).flips (unitKey 2 cl (a + j)) = 0) :
    u.leaves d k y ((List.range m).foldl (fun s j => s.readUnit d 2 cl (a + j) true) v) :=
  List.foldlRecOn (motive := fun w => u.leaves d k y w) _ _ h fun _ hv j hj => hv.readUnit
    ((State.slim_proj (fun z => z.flips (unitKey 2 cl (a + j))) (fun _ _ _ _ _ => rfl) hv.slim d).trans
      (hf j (List.mem_range.mp hj))) true

/-- The job of an HGO is no part of what its reads change. -/
theorem State.leaves.hgoJob {v : State} (h : s.leaves d k (s.thr d k) v) (a sb : Nat) : v.hgoJob d k a sb = s.hgoJob d k a sb := by
  have hread : ∀ b : Nat, v.csRead d (k / 64) b = s.csRead d (k / 64) b := fun b =>
    State.slim_proj (fun z => (sgetD z.cstore (k / 64 * 262144 + b) 0, z.cstorePoison.contains (k / 64 * 262144 + b)))
      (fun _ _ _ _ _ => rfl) h.slim d
  have hop : ∀ slot : Nat, v.op d slot = s.op d slot := fun slot =>
    State.slim_proj (fun z => sget z.dsp.ops slot) (fun _ _ _ _ _ => rfl) h.slim d
  have hheld : v.held d k = s.held d k := by
    simp only [State.held, h.thr, hop, State.inst_slim h.slim]
  simp only [State.hgoJob, h.thr, hread, hheld]

/-- HGO under a held lock and a free scoreboard bit queues the job. -/
theorem State.hgo_queues {a : BitVec 5} {sb w : Nat} {z : Helper} (hta : (s.thr d k).tag a = false)
    (hz : s.helper d (k / 64 * 3 + n) = z) (hw : ((s.thr d k).val a).toNat = w) (hown : z.holder = some (.thread k))
    (hbusy : (s.thr d k).busy.contains sb = false)
    (hf : ∀ j : Nat, j < 8 → (s.die d).flips (unitKey 2 (k / 64) (w + j)) = 0) :
    let u := s.setHelper d (k / 64 * 3 + n) { z with jobs := z.jobs ++ [s.hgoJob d k w sb] }
    ∃ v : State, u.leaves d k (s.thr d k) v ∧
      s.hgo d k a n sb = v.doneThr d k { (s.thr d k).setC false with busy := sb :: (s.thr d k).busy } := by
  let r := if (s.thr d k).region w && (s.thr d k).region (w + 7) then
    (List.range 8).foldl (fun s j => s.readUnit d 2 (k / 64) (w + j) true) s else s
  have hread : s.leaves d k (s.thr d k) r := by
    change s.leaves d k (s.thr d k) (if _ then _ else _)
    split
    · exact (State.leaves.refl s d k).readWords (k / 64) w 8 hf
    · exact State.leaves.refl s d k
  have hfree : ¬(decide (z.holder ≠ some (.thread k)) || (s.thr d k).busy.contains sb) = true := by
    rw [hown, hbusy]
    simp
  refine ⟨r.setHelper d (k / 64 * 3 + n) { z with jobs := z.jobs ++ [r.hgoJob d k w sb] }, ?_, ?_⟩
  · rw [hread.hgoJob]
    exact hread.modDie _ fun _ _ _ _ _ => rfl
  · rw [State.hgo, if_neg (Bool.eq_false_iff.mp hta), hz, hw, if_neg hfree]
    dsimp only
    rw [State.thr_setHelper, hread.thr]

/-- HGO without the lock, or with a busy scoreboard bit, sets C. -/
theorem State.hgo_refused {a : BitVec 5} {sb : Nat} {z : Helper} (hta : (s.thr d k).tag a = false)
    (hz : s.helper d (k / 64 * 3 + n) = z) (h : z.holder ≠ some (.thread k) ∨ (s.thr d k).busy.contains sb = true) :
    s.hgo d k a n sb = s.doneThr d k ((s.thr d k).setC true) := by
  have hset : (decide (z.holder ≠ some (.thread k)) || (s.thr d k).busy.contains sb) = true := by
    rwa [Bool.or_eq_true, decide_eq_true_eq]
  rw [State.hgo, if_neg (Bool.eq_false_iff.mp hta), hz, if_pos hset]

end

/-! ### An instruction that reports by C -/

/-- An instruction that is done with C set or cleared, with `u` its change beside the thread and a count. -/
theorem State.exec_setsC {s u v : State} {c : Instr} {t : Tid} {i : CoreInstr} {b : Bool} (h : s.issues t i)
    (hc : namesIssue c = some (t, i)) (hset : i.settles = false) (hu : s.keepsClock u)
    (hthr : u.thr t.die (tkey t) = s.at_ t) (hl : u.leaves t.die (tkey t) (u.thr t.die (tkey t)) v)
    (he : s.effect t.die (tkey t) i = v.doneThr t.die (tkey t) ((v.thr t.die (tkey t)).setC b)) :
    ∃ n cs co cl, ∃ y : Thread,
      exec c s = .next (u.onlyThread t.die (tkey t) n cs co cl (y.after ((s.at_ t).pc + 1) i.rounds)) ∧ (s.at_ t).hasC y b := by
  rw [hl.thr, hthr] at he
  obtain ⟨n, cs, co, cl, hx⟩ := State.exec_done (pc := none) h hc hset he hu (hl.setThr _ (State.has_lt h.has))
  exact ⟨n, cs, co, cl, _, hx, Thread.flags_hasC ..⟩

end Sys2Proof.Machine
end

section
/-! PROOFS. TBL, HLOCK, HUNLOCK and HGO. -/

namespace Sys2Proof.Machine

open Sys2Proof

/-- Settles O27, instruction by instruction: TBL holds its thread, and the helper instructions report by C; HLOCK goes by who has
the lock once the window is over, and by whose turn came first among the HLOCKs of a fabric cycle. -/
theorem tableAndHelperInstructions : Obligations.TableAndHelperInstructions := by
  refine ⟨?tbl, ?hlock, ?hunlock, ?hgo⟩
  case tbl =>
    intro s t d a m k h hkey x
    have he : s.tblEff t.die (tkey t) d a m k = .hold ({ s with stamps := s.stamps + 1 }.setThr t.die (tkey t)
        { x with st := .waiting, waitOn := 0, waitDst := d.toNat, stamp := s.stamps, since := s.now, portAt := none
                 req := some (.tbl d.toNat m.toNat (x.keyRegs a (k.toNat + 1))) }) := if_neg (Bool.eq_false_iff.mp hkey)
    simp only [Thread.keyRegs, Nat.lt_succ_iff] at he
    exact (State.exec_hold (c := .tbl t d a m k) h rfl he :)
  case hlock =>
    intro s t m h x j u z mine
    have hclock : s.keepsClock u := (State.keepsClock.refl s).windowEnd ..
    have hthr : u.thr t.die (tkey t) = s.at_ t := s.thr_windowEnd ..
    have hmine : z.wonBy (tkey t) u.now = mine := by
      rw [Helper.wonBy, hclock.now, h.core_eq]
    have hset : ∀ y : Helper, (u.setHelper t.die j y).thr t.die (tkey t) = s.at_ t := fun y => (u.thr_setHelper ..).trans hthr
    refine ⟨fun hown => ?own, fun hhold hjobs => ?free, fun hown htaken => ⟨fun hlate => ?refused, fun w hlate => ?late⟩⟩
    case own =>
      exact (State.exec_setsC (c := .hlock t m) h rfl rfl hclock hthr (State.leaves.refl ..) (State.hlock_own rfl rfl hown) :)
    case free =>
      have hx := State.exec_setsC (c := .hlock t m) h rfl rfl (hclock.setHelper ..) (hset _) (State.leaves.refl ..)
        (State.hlock_free rfl rfl hhold hjobs)
      rw [Helper.wonBy, hclock.now, h.core_eq] at hx
      exact hx
    case refused =>
      have he := State.hlock_taken (n := m.toNat) rfl rfl hown htaken
      rw [hlate] at he
      obtain ⟨n, cs, co, cl, y, hx, hy⟩ := State.exec_setsC (c := .hlock t m) h rfl rfl (hclock.setHelper ..) (hset _)
        ((State.leaves.refl ..).count ..) he
      exact ⟨n, cs, co, cl, y, _, hx, hy, hclock.now ▸ refusal_iff z u.now⟩
    case late =>
      have he := State.hlock_taken (n := m.toNat) rfl rfl hown htaken
      rw [hlate, hmine] at he
      let won := u.setHelper t.die j mine
      let loser := (won.thr t.die w).setC true
      have hloser : (u.thr t.die w).hasC loser true := u.thr_setHelper t.die j mine w ▸ Thread.flags_hasC ..
      have hclock' : s.keepsClock (won.setThr t.die w loser) := (hclock.setHelper ..).modDie t.die _ rfl
      have hthr' : (won.setThr t.die w loser).thr t.die (tkey t) = s.at_ t :=
        (won.thr_setThr_ne loser (State.has_lt h.has) (State.lateWinner_ne hlate)).trans (hset mine)
      obtain ⟨n, cs, co, cl, y, hx, hy⟩ := State.exec_setsC (c := .hlock t m) h rfl rfl hclock' hthr'
        ((State.leaves.refl ..).count ..) he
      exact ⟨n, cs, co, cl, y, loser, hx, hy, hloser⟩
  case hunlock =>
    intro s t m h x j z
    refine ⟨fun hown => ?_, fun hown => ?_⟩
    · have hthr := (((State.keepsOf.refl _ s).setHelper threads_apartFromLocks t.die j { z with holder := none, atCommit := none
        }).grantLock threads_apartFromLocks t.die j).thr t.die (tkey t)
      have hclock := State.keepsOf.grantLock coreStart_apartFromLocks ((State.keepsClock.refl s).setHelper t.die j { z with
        holder := none, atCommit := none }) t.die j
      exact (State.exec_setsC (c := .hunlock t m) h rfl rfl hclock hthr (State.leaves.refl ..) (if_pos hown) :)
    · exact (State.exec_setsC (c := .hunlock t m) h rfl rfl (State.keepsClock.refl s) rfl (State.leaves.refl ..) (if_neg hown) :)
  case hgo =>
    intro s t a m k h hta x j z w
    refine ⟨fun hown hbusy hf => ?_, fun hno => ?_⟩
    · obtain ⟨v, hl, he⟩ := State.hgo_queues (n := m.toNat) hta rfl rfl hown hbusy hf
      obtain ⟨n, cs, co, cl, hx⟩ := State.exec_done (c := .hgo t a m k) (pc := none) h rfl rfl he
        ((State.keepsClock.refl s).setHelper ..) (hl.setThr _ (State.has_lt h.has))
      refine ⟨n, cs, co, cl, _, hx, ?_⟩
      rw [Thread.setC, Thread.flags_eq]
      exact ⟨rfl, fun r => Thread.flags_tag x { c := some false } false r⟩
    · exact (State.exec_setsC (c := .hgo t a m k) h rfl rfl (State.keepsClock.refl s) rfl (State.leaves.refl ..)
        (State.hgo_refused hta rfl hno) :)

end Sys2Proof.Machine
end

section
/-! SUPPORT. What an instruction with at most one result and its flags leaves, and the effects of the additions and shifts. -/

namespace Sys2Proof.Machine

open Sys2Proof

/-- An instruction of one round whose effect is a result in its destination, if it has one, and flags. -/
theorem State.exec_resultTo {s : State} {c : Instr} {t : Tid} {i : CoreInstr} {dest : Option (BitVec 5)} {r : Word}
    {f : FlagSet} {p : Bool} (h : s.issues t i) (hc : namesIssue c = some (t, i)) (hset : i.settles = false)
    (hrounds : i.rounds = 1) (he : s.effect t.die (tkey t) i = s.doneThr t.die (tkey t) ((s.at_ t).resultTo dest r f p)) :
    ∃ (n : Nat) (cs : Store Ctr) (co : Store Core) (cl : Store Nat) (y : Thread),
      exec c s = .next (s.onlyThread t.die (tkey t) n cs co cl (y.after ((s.at_ t).pc + 1))) ∧
      (s.at_ t).wrote y dest r p ∧
      (y.z = f.z.getD (s.at_ t).z ∧ y.n = f.n.getD (s.at_ t).n ∧ y.c = f.c.getD (s.at_ t).c ∧ y.v = f.v.getD (s.at_ t).v ∧
        y.dz = f.dz.getD (s.at_ t).dz ∧ y.dcv = f.dcv.getD (s.at_ t).dcv) ∧
      ∀ m : Nat, 32 ≤ m → y.tags.contains m = ((s.at_ t).flags f p).tags.contains m := by
  obtain ⟨n, cs, co, cl, hx⟩ := State.exec_doneThr h hc hset he
  exact ⟨n, cs, co, cl, _, hrounds ▸ hx, Thread.resultTo_wrote .., Thread.resultTo_flags ..,
    fun m hm => Thread.result_tags _ _ _ _ _ m hm⟩

/-! ### Additions (R188, R189) -/

/-- The flags of an addition, with DCV where the instruction writes it. -/
def additionFlags (i : CoreInstr) (a b : Word) (cin : Bool) : FlagSet :=
  { (sum36 a b cin).flags with dcv := if i.writesDcv then some (sum36 a b cin).dcv else none }

variable {s : State} {d k : Nat} {x : Thread} {i : CoreInstr} {a b : Word} {cin : Bool}

/-- An instruction of R188's table leaves the sum of its row and the flags of that addition. -/
theorem State.effect_of_addition (hx : s.thr d k = x) (hsys : i.sys = false) (h : addition x i = some (a, b, cin)) :
    s.effect d k i = s.doneThr d k (x.resultTo i.dest (sumOf a b cin) (additionFlags i a b cin) (i.tainted x)) := by
  subst hx
  cases i with
  | alu op sys e a' b' =>
    obtain rfl : sys = false := hsys
    cases op <;> simp only [addition, reduceCtorEq, Option.some.injEq, Prod.mk.injEq] at h <;>
      (obtain ⟨rfl, rfl, rfl⟩ := h; rfl)
  | imm op e a' v =>
    cases op <;> simp only [addition, reduceCtorEq, Option.some.injEq, Prod.mk.injEq] at h <;>
      (obtain ⟨rfl, rfl, rfl⟩ := h; rfl)
  | _ => cases h

/-- An addition settles no sluice and takes one round. -/
theorem rounds_of_addition (h : addition x i = some (a, b, cin)) : i.settles = false ∧ i.rounds = 1 := by
  cases i with
  | alu | imm => exact ⟨rfl, rfl⟩
  | _ => cases h

/-- What an addition leaves of DCV and of DCV's tag (R162, R189). -/
theorem additionFlags_dcv {y : Thread} {p : Bool} (hdcv : y.dcv = (additionFlags i a b cin).dcv.getD x.dcv)
    (htag : y.tags.contains (sysTag 2) = (x.flags (additionFlags i a b cin) p).tags.contains (sysTag 2)) :
    if i.writesDcv then
      (∀ j : Nat, j < 9 → (y.dcv.getLsbD j = true ↔ carryInto a b cin (4 * j + 4))) ∧ y.tags.contains (sysTag 2) = p
    else y.dcv = x.dcv ∧ y.tags.contains (sysTag 2) = (p || x.tags.contains (sysTag 2)) := by
  rw [Thread.contains_flags, if_neg (by simp [sysTag])] at htag
  cases hw : i.writesDcv
  · simp only [additionFlags, hw, Sum.flags, Bool.false_eq_true, if_false, Option.isSome_none, Option.isSome_some, or_false,
      true_or, and_true, true_and] at htag hdcv ⊢
    exact ⟨hdcv, htag.trans (by cases p <;> rfl)⟩
  · simp only [additionFlags, hw, Sum.flags, if_true, Option.isSome_some, or_true, and_true] at htag hdcv ⊢
    rw [Option.getD_some] at hdcv
    exact ⟨fun j hj => hdcv ▸ dcv_sum36 a b cin hj, htag⟩

end Sys2Proof.Machine
end

section
/-! PROOFS. Additions, subtractions, compares, NEG and ABS. -/

namespace Sys2Proof.Machine

open Sys2Proof

/-- Settles O6: each row of R188 leaves the one sum and its flags; ABS is a result of its own. -/
theorem additionsAreOneAddition : Obligations.AdditionsAreOneAddition := by
  refine ⟨?sums, ?abs⟩
  case sums =>
    intro s c t i a b cin hc hsys h hadd
    obtain ⟨hset, hrounds⟩ := rounds_of_addition hadd
    obtain ⟨n, cs, co, cl, y, hx, hw, ⟨hz, hn, hc, hv, hdz, hdcv⟩, htags⟩ :=
      State.exec_resultTo h hc hset hrounds (State.effect_of_addition rfl hsys hadd)
    have hfl : y.flTag = i.tainted (s.at_ t) := by
      rw [Thread.flTag, htags _ (by decide), Thread.contains_flags, if_pos ⟨rfl, .inl rfl⟩]
    exact ⟨n, cs, co, cl, y, hx, hw, hz, hn, hc.trans (carryAt_36 a b cin), hv, hdz, hfl,
      additionFlags_dcv hdcv (htags _ (by decide))⟩
  case abs =>
    intro s t d a h v r
    let f : FlagSet := { z := some (r = 0), n := some r.msb, c := some false, v := some (v = BitVec.ofNat 36 (2 ^ 35)) }
    have htag : (CoreInstr.alu .abs false d a 0).tainted (s.at_ t) = (s.at_ t).tag a := by
      change ((s.at_ t).tag a || (s.at_ t).tag 0 || false) = _
      rw [Thread.tag_zero, Bool.or_false, Bool.or_false]
    obtain ⟨n, cs, co, cl, y, hx, hw, ⟨hz, hn, hc, hv, hdz, hdcv⟩, -⟩ :=
      State.exec_resultTo (c := .abs t false d a) (dest := some d) (r := r) (f := f) h rfl rfl rfl rfl
    have hmin : decide (v = BitVec.ofNat 36 (2 ^ 35)) = decide (v.toNat = 2 ^ 35) := by
      rw [decide_eq_decide, ← BitVec.toNat_inj]
      rfl
    exact ⟨n, cs, co, cl, y, hx, htag ▸ hw, hz, hn, hc, hv.trans hmin, hdz, hdcv⟩

end Sys2Proof.Machine
end

section
/-! SUPPORT. Shifts and rotates by every amount (R170, R191). -/

namespace Sys2Proof.Machine

open Sys2Proof

/-- A number of places that leaves of a signed shift the sign alone. -/
theorem sshiftRight_all (a : Word) {m : Nat} (hm : 36 ≤ m) :
    a.sshiftRight m = if a.msb then BitVec.allOnes 36 else 0 := by
  cases ha : a.msb
  · rw [BitVec.sshiftRight_eq_of_msb_false ha, BitVec.ushiftRight_eq_zero hm]
    rfl
  · rw [BitVec.sshiftRight_eq_of_msb_true ha, BitVec.ushiftRight_eq_zero hm]
    rfl

theorem shiftResult_word (op : ShOp) (a : Word) (m : Nat) : (shiftResult op a m).1 = shifted a m op := by
  cases op
  case shl =>
    simp only [shiftResult, shifted]
    split_ifs with h0 hle
    · rw [h0, BitVec.shiftLeft_zero]
    · rfl
    · exact (BitVec.shiftLeft_eq_zero (by omega)).symm
  case shr =>
    simp only [shiftResult, shifted]
    split_ifs with h0 hle
    · rw [h0, BitVec.ushiftRight_zero]
    · rfl
    · exact (BitVec.ushiftRight_eq_zero (by omega)).symm
  case sar =>
    simp only [shiftResult, shifted, apply_ite Prod.fst]
    split_ifs with h0 hlt
    · rw [h0, BitVec.sshiftRight_zero]
    · rfl
    · rename_i hs
      exact ((sshiftRight_all a (by omega)).trans (if_pos hs)).symm
    · rename_i hs
      exact ((sshiftRight_all a (by omega)).trans (if_neg hs)).symm
  case rol =>
    simp only [shiftResult, shifted]
    split_ifs with h0
    · simp [h0, BitVec.rotateLeft_def, a.ushiftRight_eq_zero le_rfl]
    · rfl
  case ror =>
    simp only [shiftResult, shifted]
    split_ifs with h0
    · simp [h0, BitVec.rotateRight_def]
    · rfl

/-- The flags of a shift are Z and N of its word, and C. -/
theorem shiftResult_flags (op : ShOp) (a : Word) (m : Nat) :
    (shiftResult op a m).2 = { z := some (decide ((shiftResult op a m).1 = 0)), n := some (shiftResult op a m).1.msb
                               c := (shiftResult op a m).2.c } := by
  cases op <;> simp only [shiftResult] <;> split_ifs <;> rfl

/-- C after a shift; none of no place changes it. -/
theorem shiftResult_carry (op : ShOp) (a : Word) (m : Nat) (old : Bool) :
    (shiftResult op a m).2.c.getD old = shiftCarry a m old op := by
  cases op
  case shl | shr =>
    simp only [shiftResult, shiftCarry]
    split_ifs with h0 hle
    · rfl
    · rw [decide_eq_true hle]
      rfl
    · rw [decide_eq_false hle]
      rfl
  case sar =>
    simp only [shiftResult, shiftCarry]
    split_ifs
    · rfl
    · rfl
    · exact a.msb_eq_getLsbD_last
    · exact a.msb_eq_getLsbD_last
  case rol | ror =>
    simp only [shiftResult, shiftCarry]
    split_ifs <;> rfl

variable {s : State} {d k m : Nat} {x : Thread} {i : CoreInstr} {op : ShOp} {a : Word}

/-- A shift leaves its word and its flags. -/
theorem State.effect_of_shift (hx : s.thr d k = x) (h : shiftOf x i = some (op, a, m)) :
    s.effect d k i = s.doneThr d k (x.resultTo i.dest (shifted a m op) (shiftResult op a m).2 (i.tainted x)) := by
  subst hx
  rw [← shiftResult_word]
  cases i with
  | sh | shi =>
    simp only [shiftOf, Option.some.injEq, Prod.mk.injEq] at h
    obtain ⟨rfl, rfl, rfl⟩ := h
    rfl
  | _ => cases h

/-- A shift settles no sluice and takes one round. -/
theorem rounds_of_shift (h : shiftOf x i = some (op, a, m)) : i.settles = false ∧ i.rounds = 1 := by
  cases i with
  | sh | shi => exact ⟨rfl, rfl⟩
  | _ => cases h

end Sys2Proof.Machine
end

section
/-! PROOFS. Shifts and rotates. -/

namespace Sys2Proof.Machine

open Sys2Proof

/-- Settles O9: a shift's word, its C and its other flags are those of R170 for every amount. -/
theorem shiftsFollowTheirTable : Obligations.ShiftsFollowTheirTable := by
  intro s c t i op a m hc h hsh
  obtain ⟨hset, hrounds⟩ := rounds_of_shift hsh
  obtain ⟨n, cs, co, cl, y, hx, hw, ⟨hz, hn, hc, hv, hdz, hdcv⟩, -⟩ :=
    State.exec_resultTo h hc hset hrounds (State.effect_of_shift rfl hsh)
  rw [shiftResult_carry] at hc
  rw [shiftResult_flags, shiftResult_word] at hz hn hv hdz hdcv
  exact ⟨n, cs, co, cl, y, hx, hw, hz, hn, hc, hv, hdz, hdcv⟩

end Sys2Proof.Machine
end

section
/-! SUPPORT. The correction of a binary difference, and what a decimal instruction leaves (R196, R197). -/

namespace Sys2Proof.Machine

open Sys2Proof

/-! ### The correction of a difference (R196) -/

/-- The row of the table for digit i. -/
def borrowAt (a : Word) (dcv : BitVec 9) (i : Nat) : Nat × Bool := borrowRow (dcv.getLsbD i) (nibble a i)

/-- The table's row of a digit, as the model computes it. -/
theorem borrowRow_eq (c : Bool) {x : Nat} (hx : x < 16) :
    borrowRow c x = if c then (x, decide (10 ≤ x)) else ((x + 10) % 16, decide (x < 6)) := by
  revert c
  interval_cases x <;> decide

theorem borrowAt_lt (a : Word) (dcv : BitVec 9) (i : Nat) : (borrowAt a dcv i).1 < 16 := by
  have hx := nibble_lt a i
  rw [borrowAt, borrowRow_eq _ hx]
  split
  · exact hx
  · exact Nat.mod_lt _ (by decide)

/-- After n digits the model holds the number of their digits and whether a row has marked V. -/
theorem adjSub_foldl (a : Word) (dcv : BitVec 9) (n : Nat) :
    (List.range n).foldl (fun (acc : Nat × Bool) (i : Nat) =>
        let x := nibble a i
        if dcv.getLsbD i then (acc.1 + x * 2 ^ (4 * i), acc.2 || 10 ≤ x)
        else (acc.1 + (x + 10) % 16 * 2 ^ (4 * i), acc.2 || x < 6)) (0, false) =
      (ofDigits16 (fun i => (borrowAt a dcv i).1) n, (List.range n).any fun i => (borrowAt a dcv i).2) := by
  induction n with
  | zero => rfl
  | succ n ih =>
    rw [List.range_succ, List.foldl_append, ih, List.any_append]
    simp only [List.foldl_cons, List.foldl_nil, List.any_cons, List.any_nil, Bool.or_false, ofDigits16, borrowAt,
      borrowRow_eq _ (nibble_lt a n)]
    split <;> rfl

/-- The model's correction of a difference is that of the table. -/
theorem adjSub_correctsDifference (a : Word) (dcv : BitVec 9) :
    correctsDifference a (adjSub a dcv).1 dcv (adjSub a dcv).2 := by
  have hadj : adjSub a dcv = (w36 (ofDigits16 (fun i => (borrowAt a dcv i).1) 9),
      (List.range 9).any fun i => (borrowAt a dcv i).2) := by
    rw [adjSub, adjSub_foldl]
  rw [hadj]
  refine ⟨fun i hi => nibble_ofDigits16 (borrowAt_lt a dcv) hi, ?_⟩
  simp only [List.any_eq_true, List.mem_range]
  rfl

/-! ### Decimal instructions (R174) -/

/-- The flags of a decimal result: Z as given, N := 0, and C and V where the instruction writes them. -/
def decimalFlags (z : Bool) (c v : Option Bool) : FlagSet := { z := some z, n := some false, c := c, v := v }

/-- An instruction of opcode 0o013 with a destination leaves its word and its flags, with the tag of R162 and R189. -/
theorem State.exec_dec {s : State} {c : Instr} {t : Tid} {op : DecOp} {d a b : BitVec 5} {r : Word} {cf vf : Option Bool}
    (h : s.issues t (.dec op d a b)) (hc : namesIssue c = some (t, .dec op d a b))
    (hr : decResult op ((s.at_ t).val a) ((s.at_ t).val b) (s.at_ t).c (s.at_ t).dcv =
      (some r, decimalFlags (decide (r = 0)) cf vf)) :
    ∃ (n : Nat) (cs : Store Ctr) (co : Store Core) (cl : Store Nat) (y : Thread),
      exec c s = .next (s.onlyThread t.die (tkey t) n cs co cl (y.after ((s.at_ t).pc + 1))) ∧
      (s.at_ t).wrote y (some d) r (decimalTag (s.at_ t) (.dec op d a b)) ∧ y.z = decide (r = 0) ∧ y.n = false ∧
      y.c = cf.getD (s.at_ t).c ∧ y.v = vf.getD (s.at_ t).v ∧ y.dz = (s.at_ t).dz ∧ y.dcv = (s.at_ t).dcv := by
  have he : s.effect t.die (tkey t) (.dec op d a b) = s.doneThr t.die (tkey t) ((s.at_ t).resultTo (some d) r
      (decimalFlags (decide (r = 0)) cf vf) (decimalTag (s.at_ t) (.dec op d a b))) := by
    rw [State.at_] at hr ⊢
    simp only [State.effect, Thread.dec, hr]
    rfl
  obtain ⟨n, cs, co, cl, y, hx, hw, ⟨hz, hn, hc, hv, hdz, hdcv⟩, -⟩ := State.exec_resultTo h hc rfl rfl he
  exact ⟨n, cs, co, cl, y, hx, hw, hz, hn, hc, hv, hdz, hdcv⟩

/-- The tag of a decimal instruction that takes no flag and no DCV is that of its registers. -/
theorem decimalTag_of_regs (x : Thread) {op : DecOp} (d a b : BitVec 5)
    (h : op ≠ .dadc ∧ op ≠ .dsbc ∧ op ≠ .dadj ∧ op ≠ .dsadj) :
    decimalTag x (.dec op d a b) = (x.tag a || x.tag b) := by
  simp [decimalTag, h]

/-! ### Fused decimal instructions (R197) -/

/-- The result and flags of a fused decimal instruction. -/
def fused (minus : Bool) (a b : Word) (cin : Bool) : Word × FlagSet := if minus then decSub a b cin else decAdd a b cin

/-- A fused decimal subtraction is the correction of the binary difference; its flags are Z of the result, N clear, the carry
of the difference, and V for an invalid digit. -/
theorem decSub_spec (a b : Word) (c : Bool) : ∃ (dcv : BitVec 9) (m : Bool),
    (∀ j : Nat, j < 9 → (dcv.getLsbD j = true ↔ carryInto a (~~~b) c (4 * j + 4))) ∧
      correctsDifference (sumOf a (~~~b) c) (decSub a b c).1 dcv m ∧
      (decSub a b c).2 = { z := some (decide ((decSub a b c).1 = 0)), n := some false
                           c := some (decide (2 ^ 36 ≤ a.toNat + (~~~b).toNat + if c then 1 else 0))
                           v := some (badDigit a || badDigit b) } := by
  refine ⟨(sum36 a (~~~b) c).dcv, _, fun j hj => dcv_sum36 a (~~~b) c hj, adjSub_correctsDifference .., ?_⟩
  rw [← carryAt_36]
  rfl

/-- Both kinds of fused instruction in one: the digit carries, the correction by its table, and the flags. -/
theorem fused_spec (minus : Bool) (a b : Word) (c : Bool) : ∃ (dcv : BitVec 9) (k m : Bool),
    (∀ j : Nat, j < 9 → (dcv.getLsbD j = true ↔ carryInto a (if minus then ~~~b else b) c (4 * j + 4))) ∧
      (if minus then correctsDifference (sumOf a (~~~b) c) (fused minus a b c).1 dcv m ∧ k = false
        else correctsSum (sumOf a b c) (fused minus a b c).1 dcv k m) ∧
      (fused minus a b c).2 = { z := some (decide ((fused minus a b c).1 = 0)), n := some false
                                c := some (decide (2 ^ 36 ≤ a.toNat + (if minus then ~~~b else b).toNat +
                                  if c then 1 else 0) || k)
                                v := some (badDigit a || badDigit b) } := by
  cases minus
  case false => exact decAdd_spec a b c
  case true =>
    obtain ⟨dcv, m, hdig, hdiff, hf⟩ := decSub_spec a b c
    refine ⟨dcv, false, m, hdig, ⟨hdiff, rfl⟩, ?_⟩
    rw [Bool.or_false]
    exact hf

variable {s : State} {d k : Nat} {x : Thread} {i : CoreInstr} {minus : Bool} {a b : Word} {cin : Bool}
  {dst : Option (BitVec 5)}

/-- A fused decimal instruction leaves its word and its flags. -/
theorem State.effect_of_decimal (hx : s.thr d k = x) (h : decimalOf x i = some (minus, a, b, cin, dst)) :
    s.effect d k i = s.doneThr d k (x.resultTo dst (fused minus a b cin).1 (fused minus a b cin).2 (decimalTag x i)) := by
  subst hx
  cases i with
  | dec op e a' b' =>
    cases op <;> simp only [decimalOf, reduceCtorEq, Option.some.injEq, Prod.mk.injEq] at h <;>
      (obtain ⟨rfl, rfl, rfl, rfl, rfl⟩ := h; rfl)
  | _ => cases h

/-- A fused decimal instruction settles no sluice and takes one round. -/
theorem rounds_of_decimal (h : decimalOf x i = some (minus, a, b, cin, dst)) : i.settles = false ∧ i.rounds = 1 := by
  cases i with
  | dec => exact ⟨rfl, rfl⟩
  | _ => cases h

end Sys2Proof.Machine
end

section
/-! PROOFS. The decimal adjustments and the fused decimal instructions by their tables. -/

namespace Sys2Proof.Machine

open Sys2Proof

/-- Settles O12: the adjustments are the two corrections of a word, the fused instructions those of a binary sum or
difference. -/
theorem fusedDecimalAndAdjustmentsFollowTheTables : Obligations.FusedDecimalAndAdjustmentsFollowTheTables := by
  refine ⟨⟨?dadj, ?dsadj⟩, ?fused⟩
  case dadj =>
    intro s t d a h x
    have hcorr := adjAdd_correctsSum (x.val a) x.dcv
    have hr : decResult .dadj (x.val a) (x.val 0) x.c x.dcv = (some (adjAdd (x.val a) x.dcv).1,
      decimalFlags (decide ((adjAdd (x.val a) x.dcv).1 = 0)) (some (x.c || (adjAdd (x.val a) x.dcv).2.1))
        (some (adjAdd (x.val a) x.dcv).2.2)) := rfl
    generalize adjAdd (x.val a) x.dcv = q at hcorr hr
    obtain ⟨n, cs, co, cl, y, hx, hw, hz, hn, hc, hv, hdz, hdcv⟩ := State.exec_dec (c := .dadj t d a) h rfl hr
    exact ⟨n, cs, co, cl, y, q.1, q.2.1, hx, hw, hv ▸ hcorr, hz, hn, hc, hdz, hdcv⟩
  case dsadj =>
    intro s t d a h x
    have hcorr := adjSub_correctsDifference (x.val a) x.dcv
    have hr : decResult .dsadj (x.val a) (x.val 0) x.c x.dcv = (some (adjSub (x.val a) x.dcv).1,
      decimalFlags (decide ((adjSub (x.val a) x.dcv).1 = 0)) (some (x.dcv.getLsbD 8)) (some (adjSub (x.val a) x.dcv).2)) := rfl
    generalize adjSub (x.val a) x.dcv = q at hcorr hr
    obtain ⟨n, cs, co, cl, y, hx, hw, hz, hn, hc, hv, hdz, hdcv⟩ := State.exec_dec (c := .dsadj t d a) h rfl hr
    exact ⟨n, cs, co, cl, y, q.1, hx, hw, hv ▸ hcorr, hz, hn, hc, hdz, hdcv⟩
  case fused =>
    intro s c t i minus a b cin dst hc h hdec
    obtain ⟨hset, hrounds⟩ := rounds_of_decimal hdec
    obtain ⟨n, cs, co, cl, y, hx, hw, ⟨hz, hn, hc, hv, hdz, hdcv⟩, -⟩ :=
      State.exec_resultTo h hc hset hrounds (State.effect_of_decimal rfl hdec)
    obtain ⟨dcv, k, v, hdig, hcorr, hf⟩ := fused_spec minus a b cin
    rw [hf] at hz hn hc hv hdz hdcv
    exact ⟨n, cs, co, cl, y, _, dcv, k, v, hx, hw, hdig, hcorr, hz, hn, hv ▸ invalid_iff a b, hc, hdz, hdcv⟩

end Sys2Proof.Machine
end

section
/-! SUPPORT. The nine digits of a word and their value: conversions and shifts by digits (R194, R198). -/

namespace Sys2Proof.Machine

open Sys2Proof

/-! ### The value of the digits -/

theorem foldl_eq_sum (f : Nat → Nat) (n : Nat) : (List.range n).foldl (fun m i => m + f i) 0 = ∑ i ∈ Finset.range n, f i := by
  induction n with
  | zero => rfl
  | succ n ih =>
    rw [List.range_succ, List.foldl_append, ih, Finset.sum_range_succ]
    rfl

theorem digitsVal_eq_sum (a : Word) : digitsVal a = ∑ i ∈ Finset.range 9, nibble a i * 10 ^ i := foldl_eq_sum _ 9

theorem digitsVal_lt (a : Word) : digitsVal a < 2 ^ 36 := by
  rw [digitsVal_eq_sum]
  calc ∑ i ∈ Finset.range 9, nibble a i * 10 ^ i ≤ ∑ i ∈ Finset.range 9, 15 * 10 ^ i :=
        Finset.sum_le_sum fun i _ => Nat.mul_le_mul_right _ (Nat.le_of_lt_succ (nibble_lt a i))
    _ < 2 ^ 36 := by norm_num [Finset.sum_range_succ]

/-- The decimal digits of a number below a power of ten. -/
theorem sum_digits (m n : Nat) : ∑ i ∈ Finset.range n, m / 10 ^ i % 10 * 10 ^ i = m % 10 ^ n := by
  induction n with
  | zero => exact (Nat.mod_one m).symm
  | succ n ih => rw [Finset.sum_range_succ, ih, Nat.mod_pow_succ, Nat.mul_comm]

/-! ### BIN2D and D2BIN -/

/-- A number of digits, as the model adds them up. -/
theorem foldl_digits16 (f : Nat → Nat) (n : Nat) : (List.range n).foldl (fun m i => m + f i * 16 ^ i) 0 = ofDigits16 f n := by
  induction n with
  | zero => rfl
  | succ n ih =>
    rw [List.range_succ, List.foldl_append, ih, ofDigits16, Nat.pow_mul]
    rfl

theorem nibble_packDigits (m : Nat) {i : Nat} (hi : i < 9) : nibble (packDigits m) i = m / 10 ^ i % 10 := by
  rw [packDigits, foldl_digits16 fun i => m / 10 ^ i % 10]
  exact nibble_ofDigits16 (fun _ => Nat.lt_trans (Nat.mod_lt _ (by decide)) (by decide)) hi

theorem packDigits_valid (m : Nat) : validDigits (packDigits m) := fun i hi => by
  rw [nibble_packDigits m hi]
  exact Nat.mod_lt _ (by decide)

theorem digitsVal_packDigits (m : Nat) : digitsVal (packDigits m) = m % 10 ^ 9 := by
  rw [digitsVal_eq_sum, ← sum_digits]
  exact Finset.sum_congr rfl fun i hi => by rw [nibble_packDigits m (Finset.mem_range.mp hi)]

theorem toNat_w36_digitsVal (a : Word) : (w36 (digitsVal a)).toNat = digitsVal a :=
  (BitVec.toNat_ofNat ..).trans (Nat.mod_eq_of_lt (digitsVal_lt a))

/-! ### DSHL and DSHR -/

theorem nibble_of_ge (a : Word) {i : Nat} (hi : 9 ≤ i) : nibble a i = 0 := by
  have hlt : a.toNat < 2 ^ (4 * i) := Nat.lt_of_lt_of_le a.isLt (Nat.pow_le_pow_right (by decide) (by omega))
  rw [nibble, bits, Nat.div_eq_of_lt hlt, Nat.zero_mod]

theorem nibble_shiftLeft (a : Word) (m : Nat) {j : Nat} (hj : j < 9) :
    nibble (a <<< (4 * m)) j = if m ≤ j then nibble a (j - m) else 0 := by
  have hword : a <<< (4 * m) = w36 (a.toNat * 2 ^ (4 * m)) := by
    rw [← BitVec.toNat_inj, BitVec.toNat_shiftLeft, Nat.shiftLeft_eq, w36, BitVec.toNat_ofNat]
  rw [hword, nibble, bits_w36 _ (by omega), nibble, bits, bits]
  split
  · rename_i hm
    rw [show 4 * j = 4 * (j - m) + 4 * m by omega, Nat.pow_add, Nat.mul_div_mul_right _ _ (Nat.two_pow_pos _)]
  · rename_i hm
    rw [show 4 * m = 4 * (m - j - 1) + 4 + 4 * j by omega, Nat.pow_add, ← Nat.mul_assoc,
      Nat.mul_div_cancel _ (Nat.two_pow_pos _), Nat.pow_add, ← Nat.mul_assoc, Nat.mul_mod_left]

theorem nibble_ushiftRight (a : Word) (m j : Nat) :
    nibble (a >>> (4 * m)) j = if j + m < 9 then nibble a (j + m) else 0 := by
  have hj : nibble (a >>> (4 * m)) j = nibble a (j + m) := by
    rw [nibble, nibble, bits, bits, BitVec.toNat_ushiftRight, Nat.shiftRight_eq_div_pow, Nat.div_div_eq_div_mul, ← Nat.pow_add,
      Nat.add_comm, Nat.mul_add]
  rw [hj]
  split
  · rfl
  · exact nibble_of_ge a (by omega)

end Sys2Proof.Machine
end

section
/-! PROOFS. The decimal conversions and shifts. -/

namespace Sys2Proof.Machine

open Sys2Proof

/-- Settles O14, row by row: the digits of each row's word are those of the lemmas above. -/
theorem decimalConversionsAndShifts : Obligations.DecimalConversionsAndShifts := by
  refine ⟨?bin2d, ?d2bin, ?dvalid, ?dshl, ?dshr⟩
  case bin2d =>
    intro s t d a h x
    obtain ⟨n, cs, co, cl, y, hx, hw, hz, hn, hc, hv, hdz, hdcv⟩ := State.exec_dec (c := .bin2d t d a) h rfl (cf := none)
      (vf := some (10 ^ 9 ≤ (x.val a).toNat)) (r := packDigits ((x.val a).toNat % 10 ^ 9)) rfl
    rw [decimalTag_of_regs _ _ _ _ (by decide), Thread.tag_zero, Bool.or_false] at hw
    refine ⟨n, cs, co, cl, y, _, hx, hw, packDigits_valid _, ?_, hz, hn, hv, hc, hdz, hdcv⟩
    rw [digitsVal_packDigits, Nat.mod_mod]
  case d2bin =>
    intro s t d a h x
    obtain ⟨n, cs, co, cl, y, hx, hw, hz, hn, hc, hv, hdz, hdcv⟩ := State.exec_dec (c := .d2bin t d a) h rfl (cf := none)
      (vf := some (badDigit (x.val a))) (r := w36 (digitsVal (x.val a))) rfl
    rw [decimalTag_of_regs _ _ _ _ (by decide), Thread.tag_zero, Bool.or_false] at hw
    exact ⟨n, cs, co, cl, y, _, hx, hw, toNat_w36_digitsVal _, hz, hn, hv ▸ badDigit_iff _, hc, hdz, hdcv⟩
  case dvalid =>
    intro s t a h x
    obtain ⟨n, cs, co, cl, y, hx, hw, ⟨hz, hn, hc, hv, hdz, hdcv⟩, -⟩ := State.exec_resultTo (c := .dvalid t a) (dest := none)
      (r := 0) (f := decimalFlags (decide (x.val a = 0)) none (some (badDigit (x.val a))))
      (p := decimalTag x (.dec .dvalid 0 a 0)) h rfl rfl rfl rfl
    rw [decimalTag_of_regs _ _ _ _ (by decide), Thread.tag_zero, Bool.or_false] at hw
    exact ⟨n, cs, co, cl, y, hx, hw, hz, hn, hv ▸ badDigit_iff _, hc, hdz, hdcv⟩
  case dshl =>
    intro s t d a b h x
    obtain ⟨n, cs, co, cl, y, hx, hw, hz, hn, hc, hv, hdz, hdcv⟩ := State.exec_dec (c := .dshl t d a b) h rfl (cf := none)
      (vf := none) (r := x.val a <<< (4 * ((x.val b).toNat % 256))) rfl
    rw [decimalTag_of_regs _ _ _ _ (by decide)] at hw
    exact ⟨n, cs, co, cl, y, _, hx, hw, fun j hj => nibble_shiftLeft _ _ hj, hz, hn, hv, hc, hdz, hdcv⟩
  case dshr =>
    intro s t d a b h x
    obtain ⟨n, cs, co, cl, y, hx, hw, hz, hn, hc, hv, hdz, hdcv⟩ := State.exec_dec (c := .dshr t d a b) h rfl (cf := none)
      (vf := none) (r := x.val a >>> (4 * ((x.val b).toNat % 256))) rfl
    rw [decimalTag_of_regs _ _ _ _ (by decide)] at hw
    exact ⟨n, cs, co, cl, y, _, hx, hw, fun j _ => nibble_ushiftRight _ _ j, hz, hn, hv, hc, hdz, hdcv⟩

end Sys2Proof.Machine
end

section
/-! SUPPORT. Fused decimal instructions on valid digits: the binary carries and the carries of the correction together are the
decimal carries (R194, R195, R197). -/

namespace Sys2Proof.Machine

open Sys2Proof

/-! ### Digit sums with carries -/

/-- Digits that add up with their carries, digit by digit, add up as numbers. -/
theorem sum_of_carries {u v r D : Nat → Nat} (B : Nat) {n : Nat}
    (h : ∀ i : Nat, i < n → r i + B * D (i + 1) = u i + v i + D i) :
    ∑ i ∈ Finset.range n, r i * B ^ i + D n * B ^ n =
      ∑ i ∈ Finset.range n, u i * B ^ i + ∑ i ∈ Finset.range n, v i * B ^ i + D 0 := by
  induction n with
  | zero => simp
  | succ n ih =>
    have hn := h n (Nat.lt_succ_self n)
    have hprev := ih fun i hi => h i (Nat.lt_succ_of_lt hi)
    rw [Finset.sum_range_succ, Finset.sum_range_succ, Finset.sum_range_succ, Nat.pow_succ]
    linear_combination hprev + B ^ n * hn

/-- A number of nine digits and a carry. -/
theorem mod_of_carry {r total : Nat} {c : Bool} (h : r + c.toNat * 10 ^ 9 = total) (hr : r < 10 ^ 9) :
    r = total % 10 ^ 9 ∧ c = decide (10 ^ 9 ≤ total) := by
  cases c
  · rw [Bool.toNat_false] at h
    exact ⟨by omega, (decide_eq_false (by omega)).symm⟩
  · rw [Bool.toNat_true] at h
    exact ⟨by omega, (decide_eq_true (by omega)).symm⟩

theorem digitsVal_lt_of_valid {a : Word} (ha : validDigits a) : digitsVal a < 10 ^ 9 := by
  rw [digitsVal_eq_sum]
  calc ∑ i ∈ Finset.range 9, nibble a i * 10 ^ i ≤ ∑ i ∈ Finset.range 9, 9 * 10 ^ i :=
        Finset.sum_le_sum fun i hi => Nat.mul_le_mul_right _ (Nat.le_of_lt_succ (ha i (Finset.mem_range.mp hi)))
    _ < 10 ^ 9 := by norm_num [Finset.sum_range_succ]

/-! ### The digits of a binary sum (R188, R189) -/

/-- The carry of a binary addition into digit i. -/
def binCarry (a b : Word) (cin : Bool) (i : Nat) : Nat := (carryAt a b cin (4 * i)).toNat

theorem binCarry_zero (a b : Word) (cin : Bool) : binCarry a b cin 0 = cin.toNat := by
  cases cin <;> simp [binCarry, carryAt, carryIn, Nat.mod_one]

theorem binCarry_le (a b : Word) (cin : Bool) (i : Nat) : binCarry a b cin i ≤ 1 := Bool.toNat_le _

/-- The carry into a digit is what the digits below add up to beyond it. -/
theorem binCarry_eq_div (a b : Word) (cin : Bool) (i : Nat) :
    binCarry a b cin i = (a.toNat % 2 ^ (4 * i) + b.toNat % 2 ^ (4 * i) + cin.toNat) / 2 ^ (4 * i) := by
  have hpos : 0 < 2 ^ (4 * i) := Nat.two_pow_pos _
  have hlt : a.toNat % 2 ^ (4 * i) + b.toNat % 2 ^ (4 * i) + cin.toNat < 2 * 2 ^ (4 * i) := by
    have ha := Nat.mod_lt a.toNat hpos
    have hb := Nat.mod_lt b.toNat hpos
    have hc := cin.toNat_le
    omega
  have hcin : carryIn cin = cin.toNat := by cases cin <;> rfl
  rw [binCarry, carryAt, hcin]
  by_cases hle : 2 ^ (4 * i) ≤ a.toNat % 2 ^ (4 * i) + b.toNat % 2 ^ (4 * i) + cin.toNat
  · rw [decide_eq_true hle, Bool.toNat_true]
    exact (Nat.div_eq_of_lt_le (by omega) (by omega)).symm
  · rw [decide_eq_false hle, Bool.toNat_false, Nat.div_eq_of_lt (Nat.not_le.mp hle)]

/-- A column of an addition in base 16, over the sum of all columns below it. -/
theorem add_digits {P : Nat} (hP : 0 < P) (x y c : Nat) :
    (x + y + c) / P % 16 + 16 * ((x % (P * 16) + y % (P * 16) + c) / (P * 16)) =
      x / P % 16 + y / P % 16 + (x % P + y % P + c) / P := by
  have hall : (x + y + c) / P = x / P + y / P + (x % P + y % P + c) / P := by
    conv_lhs => rw [← Nat.div_add_mod x P, ← Nat.div_add_mod y P,
      show P * (x / P) + x % P + (P * (y / P) + y % P) + c = P * (x / P + y / P) + (x % P + y % P + c) by ring,
      Nat.mul_add_div hP]
  have hcarry : (x % (P * 16) + y % (P * 16) + c) / (P * 16) = (x / P % 16 + y / P % 16 + (x % P + y % P + c) / P) / 16 := by
    rw [Nat.mod_mul, Nat.mod_mul, ← Nat.div_div_eq_div_mul,
      show x % P + P * (x / P % 16) + (y % P + P * (y / P % 16)) + c =
        P * (x / P % 16 + y / P % 16) + (x % P + y % P + c) by ring,
      Nat.mul_add_div hP]
  rw [hall, hcarry]
  omega

/-- A digit of a binary sum with the carry out of it. -/
theorem nibble_sumOf (a b : Word) (cin : Bool) {i : Nat} (hi : i < 9) :
    nibble (sumOf a b cin) i + 16 * binCarry a b cin (i + 1) = nibble a i + nibble b i + binCarry a b cin i := by
  have hword : sumOf a b cin = w36 (a.toNat + b.toNat + cin.toNat) := by
    rw [← BitVec.toNat_inj, w36, BitVec.toNat_ofNat, sumOf, BitVec.toNat_add, BitVec.toNat_add, Nat.mod_add_mod]
    cases cin <;> rfl
  rw [hword, nibble, bits_w36 _ (by omega), binCarry_eq_div, binCarry_eq_div, show 4 * (i + 1) = 4 * i + 4 from rfl,
    Nat.pow_add]
  exact add_digits (Nat.two_pow_pos _) ..

theorem nibble_eq_extract (a : Word) (i : Nat) : nibble a i = (a.extractLsb' (4 * i) 4).toNat := by
  rw [BitVec.extractLsb'_toNat, Nat.shiftRight_eq_div_pow]
  rfl

theorem nibble_not (b : Word) {i : Nat} (hi : i < 9) : nibble (~~~b) i = 15 - nibble b i := by
  have hnot : (~~~b).extractLsb' (4 * i) 4 = ~~~(b.extractLsb' (4 * i) 4) := by
    ext l hl
    have hin : 4 * i + l < 36 := by omega
    rw [BitVec.getElem_not, BitVec.getElem_extractLsb', BitVec.getElem_extractLsb', BitVec.getLsbD_not, decide_eq_true hin,
      Bool.true_and]
  rw [nibble_eq_extract, nibble_eq_extract, hnot, BitVec.toNat_not]

/-- DCV holds the carries out of the digits (R189). -/
theorem binCarry_succ {a b : Word} {cin : Bool} {dcv : BitVec 9} {i : Nat}
    (h : dcv.getLsbD i = true ↔ carryInto a b cin (4 * i + 4)) : binCarry a b cin (i + 1) = (dcv.getLsbD i).toNat := by
  have hbit : carryAt a b cin (4 * i + 4) = dcv.getLsbD i :=
    Bool.eq_iff_iff.mpr (decide_eq_true_iff.trans h.symm)
  rw [← hbit]
  rfl

/-! ### The digits of a fused instruction's word (R195 to R197) -/

/-- A column of the correction of a sum: a digit `x` and carry `c` of the binary sum, made of the digits' sum `u` and the carry
`d`, with the correction's carry `k` into it, is a column of a decimal addition whose carries are those of both. -/
theorem adjustRow_column (c : Bool) {x k u d : Nat} (h : x + 16 * c.toNat = u + d) (hu : u ≤ 18) (hd : d + k ≤ 1) :
    (adjustRow c (x + k)).1 + 10 * (c.toNat + (adjustRow c (x + k)).2.1) = u + (d + k) ∧ (adjustRow c (x + k)).1 < 10 ∧
      c.toNat + (adjustRow c (x + k)).2.1 ≤ 1 := by
  unfold adjustRow
  cases c
  case false =>
    rw [Bool.toNat_false] at h ⊢
    rw [if_neg Bool.false_ne_true]
    split_ifs <;> dsimp only <;> omega
  case true =>
    rw [Bool.toNat_true] at h ⊢
    rw [if_pos rfl, if_pos (by omega)]
    dsimp only
    omega

/-- A column of the correction of a difference, the sum with the nines' complement. -/
theorem borrowRow_column (c : Bool) {x u v d : Nat} (hx : x < 16) (h : x + 16 * c.toNat = u + (15 - v) + d) (hu : u < 10)
    (hv : v < 10) (hd : d ≤ 1) : (borrowRow c x).1 + 10 * c.toNat = u + (9 - v) + d ∧ (borrowRow c x).1 < 10 := by
  unfold borrowRow
  cases c
  case false =>
    rw [Bool.toNat_false] at h ⊢
    rw [if_neg Bool.false_ne_true, if_pos (by omega)]
    dsimp only
    omega
  case true =>
    rw [Bool.toNat_true] at h ⊢
    rw [if_pos rfl]
    dsimp only
    omega

/-- Of two carries that are not both set, one or the other is their sum. -/
theorem toNat_or_of_le {p q : Bool} (h : p.toNat + q.toNat ≤ 1) : (p || q).toNat = p.toNat + q.toNat := by
  revert p q
  decide

/-- The value of a word of nine digits that are made, column by column, of two digits and a carry. -/
theorem digitsVal_of_columns {r : Word} {u v D : Nat → Nat}
    (h : ∀ i : Nat, i < 9 → nibble r i + 10 * D (i + 1) = u i + v i + D i) :
    digitsVal r + D 9 * 10 ^ 9 =
      ∑ i ∈ Finset.range 9, u i * 10 ^ i + ∑ i ∈ Finset.range 9, v i * 10 ^ i + D 0 := by
  rw [digitsVal_eq_sum]
  exact sum_of_carries 10 h

theorem sum_nines_complement {b : Word} (hb : validDigits b) :
    ∑ i ∈ Finset.range 9, (9 - nibble b i) * 10 ^ i = 10 ^ 9 - 1 - digitsVal b := by
  have hall : ∑ i ∈ Finset.range 9, (9 - nibble b i) * 10 ^ i + digitsVal b = 10 ^ 9 - 1 := by
    rw [digitsVal_eq_sum, ← Finset.sum_add_distrib]
    calc ∑ i ∈ Finset.range 9, ((9 - nibble b i) * 10 ^ i + nibble b i * 10 ^ i) = ∑ i ∈ Finset.range 9, 9 * 10 ^ i :=
          Finset.sum_congr rfl fun i hi => by
            rw [← Nat.add_mul, Nat.sub_add_cancel (Nat.le_of_lt_succ (hb i (Finset.mem_range.mp hi)))]
      _ = 10 ^ 9 - 1 := by norm_num [Finset.sum_range_succ]
  omega

section
variable {a b r : Word} {cin kLast v : Bool} {dcv : BitVec 9}

/-- The correction of a sum of valid digits is their decimal sum; its carry is the binary sum's or the correction's. -/
theorem correctsSum_value (ha : validDigits a) (hb : validDigits b)
    (hdig : ∀ j : Nat, j < 9 → (dcv.getLsbD j = true ↔ carryInto a b cin (4 * j + 4)))
    (h : correctsSum (sumOf a b cin) r dcv kLast v) :
    validDigits r ∧ digitsVal r + (carryAt a b cin 36 || kLast).toNat * 10 ^ 9 = digitsVal a + digitsVal b + cin.toNat := by
  obtain ⟨k, hk0, hrow, hk9, -⟩ := h
  have column : ∀ i : Nat, i < 9 → binCarry a b cin i + k i ≤ 1 →
      nibble r i + 10 * (binCarry a b cin (i + 1) + k (i + 1)) = nibble a i + nibble b i + (binCarry a b cin i + k i) ∧
        nibble r i < 10 ∧ binCarry a b cin (i + 1) + k (i + 1) ≤ 1 := by
    intro i hi hle
    have hsum := nibble_sumOf a b cin hi
    rw [binCarry_succ (hdig i hi)] at hsum ⊢
    have hai := ha i hi
    have hbi := hb i hi
    rw [(hrow i hi).1, (hrow i hi).2]
    exact adjustRow_column _ hsum (by omega) hle
  have hle : ∀ i : Nat, i ≤ 9 → binCarry a b cin i + k i ≤ 1 := by
    intro i
    induction i with
    | zero =>
      intro _
      rw [hk0]
      exact binCarry_le ..
    | succ i ih => exact fun hi => (column i hi (ih (Nat.le_of_lt hi))).2.2
  refine ⟨fun i hi => (column i hi (hle i (Nat.le_of_lt hi))).2.1, ?_⟩
  have hval := digitsVal_of_columns (D := fun i => binCarry a b cin i + k i)
    fun i hi => (column i hi (hle i (Nat.le_of_lt hi))).1
  have hlast : (carryAt a b cin 36 || kLast).toNat = binCarry a b cin 9 + k 9 := by
    have h9 : (carryAt a b cin 36).toNat + k 9 ≤ 1 := hle 9 le_rfl
    have hk : kLast.toNat = k 9 := by
      cases kLast
      · have hne : k 9 ≠ 1 := fun e => Bool.false_ne_true (hk9.mpr e)
        rw [Bool.toNat_false]
        omega
      · exact (hk9.mp rfl).symm
    rw [← hk] at h9 ⊢
    exact toNat_or_of_le h9
  rw [hlast, hval, binCarry_zero, hk0, Nat.add_zero, digitsVal_eq_sum a, digitsVal_eq_sum b]

/-- The correction of a difference of valid digits is the sum with the nines' complement; its carry is the binary one. -/
theorem correctsDifference_value (ha : validDigits a) (hb : validDigits b)
    (hdig : ∀ j : Nat, j < 9 → (dcv.getLsbD j = true ↔ carryInto a (~~~b) cin (4 * j + 4)))
    (h : correctsDifference (sumOf a (~~~b) cin) r dcv v) :
    validDigits r ∧
      digitsVal r + (carryAt a (~~~b) cin 36).toNat * 10 ^ 9 = digitsVal a + (10 ^ 9 - 1 - digitsVal b) + cin.toNat := by
  obtain ⟨hrow, -⟩ := h
  have column : ∀ i : Nat, i < 9 →
      nibble r i + 10 * binCarry a (~~~b) cin (i + 1) = nibble a i + (9 - nibble b i) + binCarry a (~~~b) cin i ∧
        nibble r i < 10 := by
    intro i hi
    have hsum := nibble_sumOf a (~~~b) cin hi
    rw [binCarry_succ (hdig i hi), nibble_not b hi] at hsum
    rw [binCarry_succ (hdig i hi), hrow i hi]
    exact borrowRow_column _ (nibble_lt ..) hsum (ha i hi) (hb i hi) (binCarry_le ..)
  refine ⟨fun i hi => (column i hi).2, ?_⟩
  have hval := digitsVal_of_columns fun i hi => (column i hi).1
  rw [sum_nines_complement hb, binCarry_zero, ← digitsVal_eq_sum] at hval
  exact hval

end

/-- The number that a fused decimal instruction computes, before it is cut to nine digits. -/
def fusedTotal (minus : Bool) (a b : Word) (cin : Bool) : Nat :=
  if minus then digitsVal a + (10 ^ 9 - 1 - digitsVal b) + (if cin then 1 else 0)
  else digitsVal a + digitsVal b + if cin then 1 else 0

/-- On valid digits a fused instruction's word is its number modulo 10^9, and C the carry out of it. -/
theorem fused_value (minus : Bool) {a b : Word} (cin : Bool) (ha : validDigits a) (hb : validDigits b) :
    validDigits (fused minus a b cin).1 ∧ digitsVal (fused minus a b cin).1 = fusedTotal minus a b cin % 10 ^ 9 ∧
      (fused minus a b cin).2.c = some (decide (10 ^ 9 ≤ fusedTotal minus a b cin)) := by
  have hcin : cin.toNat = if cin then 1 else 0 := by cases cin <;> rfl
  obtain ⟨dcv, k, v, hdig, hcorr, hf⟩ := fused_spec minus a b cin
  rw [← carryAt_36] at hf
  have hvalue : validDigits (fused minus a b cin).1 ∧ digitsVal (fused minus a b cin).1 +
      (carryAt a (if minus then ~~~b else b) cin 36 || k).toNat * 10 ^ 9 = fusedTotal minus a b cin := by
    cases minus
    case false =>
      rw [fusedTotal, ← hcin]
      exact correctsSum_value ha hb hdig hcorr
    case true =>
      obtain ⟨hdiff, rfl⟩ := hcorr
      rw [Bool.or_false]
      rw [fusedTotal, ← hcin]
      exact correctsDifference_value ha hb hdig hdiff
  obtain ⟨hvalid, hval⟩ := hvalue
  obtain ⟨hmod, hcarry⟩ := mod_of_carry hval (digitsVal_lt_of_valid hvalid)
  exact ⟨hvalid, hmod, (congrArg FlagSet.c hf).trans (congrArg some hcarry)⟩

end Sys2Proof.Machine
end

section
/-! PROOFS. Fused decimal instructions on valid digits. -/

namespace Sys2Proof.Machine

open Sys2Proof

/-- Settles O13: the binary and the correction's carries together carry the decimal digits, so that the word is the sum. -/
theorem fusedDecimalIsNineDigitArithmetic : Obligations.FusedDecimalIsNineDigitArithmetic := by
  intro s c t i minus a b cin dst hc h hdec ha hb
  obtain ⟨hset, hrounds⟩ := rounds_of_decimal hdec
  obtain ⟨n, cs, co, cl, y, hx, hw, ⟨-, -, hc, -⟩, -⟩ :=
    State.exec_resultTo h hc hset hrounds (State.effect_of_decimal rfl hdec)
  obtain ⟨hvalid, hval, hcarry⟩ := fused_value minus cin ha hb
  rw [hcarry] at hc
  exact ⟨n, cs, co, cl, y, _, hx, hw, hvalid, hval, hc⟩

end Sys2Proof.Machine
end

section
/-! SUPPORT. Helper jobs: their checks, their start and their completion, and the end of a thread window (R211, R213, R216,
R222, R223). -/

namespace Sys2Proof.Machine

open Sys2Proof

variable {s u : State} {d h : Nat} {j : Job} {js : List Job}

theorem onHelper_live (hd : s.live d) (hh : h < 36) (f : State → State) : onHelper s d h f = .next (s.keep ((f s).settle d)) :=
  onPort_live hd (decide_eq_true hh) f

/-! ### The checks (R216, R222) -/

theorem State.jobCheck_badRegion (hb : j.badRegion = true) : s.jobCheck d h j = (s, some cRANGE) := if_pos hb

section
variable (hb : j.badRegion = false)
include hb

theorem State.jobCheck_poisoned (hp : j.poisoned = true) : s.jobCheck d h j = (s, some cPOISON) := by
  simp only [State.jobCheck, hb, hp, Bool.false_eq_true, if_false, if_true]

variable (hp : j.poisoned = false)
include hp

theorem State.jobCheck_undefined (hr : j.row (h % 3) = none) : s.jobCheck d h j = (s, some cMALFORMED) := by
  simp only [State.jobCheck, hb, hp, hr, Bool.false_eq_true, if_false]

/-- The checks that a defined function's row makes. -/
theorem State.jobCheck_row {r : FuncRow} (hr : j.row (h % 3) = some r) :
    s.jobCheck d h j =
      if r.formed j = false then (s, some cMALFORMED)
      else if ∀ n ∈ r.lens, n = 0 then (s, some cDONE)
      else if r.lensOk = false ∨ (∃ x ∈ r.src ++ r.dst ++ r.reads, s.inSpace d j x = false) ∨ r.overlapOk = false then
        (s, some cRANGE)
      else if h % 3 = 2 ∧ j.func = 3 then s.gatherCheck d h j
      else (s, none) := by
  simp only [State.jobCheck, hb, hp, hr, Bool.false_eq_true, if_false, Bool.not_eq_true', List.all_eq_true, Bool.or_eq_true,
    List.any_eq_true, decide_eq_true_eq, Bool.and_eq_true, or_assoc]

end

/-- A job of a HELPER operation is checked in the range of the engine's registers as they then stand. -/
theorem State.withRange_op {slot : Nat} (hw : j.who = .op slot) :
    s.withRange d h j =
      { j with first := s.fld d .hlpEngBase [h / 3] 0 18, last := s.fld d .hlpEngLast [h / 3] 0 18 } := by
  simp only [State.withRange, hw]

theorem State.withRange_thread {k : Nat} (hw : j.who = .thread k) : s.withRange d h j = j := by
  simp only [State.withRange, hw]

/-! ### Start and completion (R213, R222, R223) -/

/-- The phase of a job that was checked: it runs, or ends with the status of the check that failed. -/
def JobPhase.checked : Option Nat → JobPhase
  | none => .started
  | some c => .ended c none

/-- The banks in which the end of a job writes RESULT. -/
def Job.resultBanks (j : Job) (h : Nat) (r : Option Nat) : List Nat :=
  if r = none then [] else [h / 3 * 16 + (j.addr + 7) % 16]

section
variable (hd : s.live d) (hh : h < 36)
include hd hh

theorem exec_helperJobStart_idle (hj : (s.helper d h).jobs = []) :
    exec (.helperJobStart d h) s = .next (s.keep (s.settle d)) := by
  refine (onHelper_live hd hh _).trans ?_
  simp only [hj]

theorem exec_helperJobComplete_idle (hj : (s.helper d h).jobs = []) :
    exec (.helperJobComplete d h) s = .next (s.keep (s.settle d)) := by
  refine (onHelper_live hd hh _).trans ?_
  simp only [hj]

variable (hj : (s.helper d h).jobs = j :: js)
include hj

theorem exec_helperJobStart_queued {c : Option Nat} (hq : j.phase = .queued)
    (hc : s.jobCheck d h (s.withRange d h j) = (u, c)) :
    exec (.helperJobStart d h) s =
      .next (s.keep ((u.setJob d h { s.withRange d h j with phase := JobPhase.checked c }).settle d)) := by
  refine (onHelper_live hd hh _).trans ?_
  cases c <;> simp only [hj, hq, hc, if_true, JobPhase.checked]

section
variable {st k : Nat} {r : Option Nat} (hp : j.phase = .ended st r) (hw : j.who = .thread k)
include hp hw

theorem exec_helperJobComplete_waits (hb : s.helperBanks d h (j.resultBanks h r) = false) :
    exec (.helperJobComplete d h) s = .next (s.keep (s.settle d)) := by
  refine (onHelper_live hd hh _).trans ?_
  cases r with
  | none => cases hb
  | some v =>
    simp only [Job.resultBanks, reduceCtorEq, if_false] at hb
    simp only [hj, hp, hw, hb, Bool.not_false, if_true]

theorem exec_helperJobComplete_thread (hb : s.helperBanks d h (j.resultBanks h r) = true)
    (hg : (s.helperTake d h (j.resultBanks h r)).delayGate d 3 h (k * 8 + j.sb) = (u, true)) :
    exec (.helperJobComplete d h) s =
      .next (s.keep ((((u.jobCount d h j st).jobLeave d h).threadJobEnd d h k j st r).settle d)) := by
  refine (onHelper_live hd hh _).trans ?_
  cases r <;> simp only [Job.resultBanks, reduceCtorEq, if_true, if_false] at hb hg <;>
    simp only [hj, hp, hw, hb, hg, Bool.not_true, Bool.false_eq_true, if_false]

end

theorem exec_helperJobComplete_op {st slot : Nat} {r : Option Nat} (hp : j.phase = .ended st r) (hw : j.who = .op slot)
    (hs : j.squashed = false) (hg : (s.helperTake d h []).delayGate d 3 h (65536 + slot) = (u, true)) :
    exec (.helperJobComplete d h) s =
      .next (s.keep ((((u.jobCount d h j st).jobLeave d h).opJobEnd d slot st r).settle d)) := by
  have hb : s.helperBanks d h [] = true := rfl
  refine (onHelper_live hd hh _).trans ?_
  simp only [hj, hp, hw, hb, hg, hs, Bool.not_true, Bool.false_eq_true, if_false]

end

/-- The end of a job without RESULT changes its thread alone: its bit is no longer busy and holds the status, and POISON is
due. -/
theorem State.thr_threadJobEnd (s : State) (h k : Nat) (st : Nat) (h8 : d < 8) (hs : j.squashed = false) :
    (s.threadJobEnd d h k j st none).thr d k = { s.thr d k with
      busy := (s.thr d k).busy.filter (· ≠ j.sb)
      sbStatus := sset (s.thr d k).sbStatus j.sb st
      poisonDue := (s.thr d k).poisonDue || decide (st = cPOISON) } := by
  simp only [State.threadJobEnd, State.modThr, State.setThr, State.thr, State.die_modDie _ _ h8, sgetD_sset_self, hs,
    Bool.not_false, Bool.and_true, Bool.false_eq_true, if_false]

/-! ### The thread window (R211) -/

/-- A helper without its thread window. -/
def State.endWindow (s : State) (d h : Nat) : State := s.setHelper d h { s.helper d h with window := none }

section
variable {t : Nat} (hw : (s.helper d h).window = some t)
include hw

theorem State.windowEnd_early (ht : s.now < t) : s.windowEnd d h = s := by
  simp only [State.windowEnd, hw, if_pos ht]

theorem State.windowEnd_unused (ht : t ≤ s.now) (hf : (s.helper d h).free = false ∨ (s.helper d h).fifo = []) :
    s.windowEnd d h = s.endWindow d h := by
  simp only [State.windowEnd, State.endWindow, hw, if_neg (Nat.not_lt.mpr ht)]
  rcases hf with hf | hf
  · simp only [hf]
  · cases hfree : (s.helper d h).free <;> simp only [hf]

theorem State.windowEnd_granted {slot : Nat} {rest : List Nat} (ht : t ≤ s.now) (hf : (s.helper d h).free = true)
    (hq : (s.helper d h).fifo = slot :: rest) : s.windowEnd d h = (s.endWindow d h).lockToOp d h slot := by
  simp only [State.windowEnd, State.endWindow, hw, if_neg (Nat.not_lt.mpr ht), hf, hq]

end

end Sys2Proof.Machine
end

section
/-! PROOFS. Helper jobs from their start to their completion. -/

namespace Sys2Proof.Machine

open Sys2Proof

/-- Settles O49: the commands act on the first job as the checks of its row, its banks and its holder say. -/
theorem helperJobsStartAndComplete : Obligations.HelperJobsStartAndComplete := by
  refine ⟨fun s d h hd hh => ⟨fun hj => ⟨exec_helperJobStart_idle hd hh hj, exec_helperJobComplete_idle hd hh hj⟩,
      fun j js u hj => ⟨exec_helperJobStart_queued hd hh hj, fun c => exec_helperJobStart_queued hd hh hj, ?_, ?_⟩⟩,
    fun s d h j => ⟨State.jobCheck_badRegion, State.jobCheck_poisoned, State.jobCheck_undefined, ?_⟩,
    fun s d h k j => ⟨?_, State.withRange_thread⟩, ?_, ?_⟩
  · exact fun st k r hp hw => ⟨exec_helperJobComplete_waits hd hh hj hp hw, exec_helperJobComplete_thread hd hh hj hp hw⟩
  · exact fun st slot r hp hw hs hg => exec_helperJobComplete_op hd hh hj hp hw hs hg
  · intro r hb hp hr
    rw [State.jobCheck_row hb hp hr]
    refine ⟨fun hf => if_pos hf, fun hf hl => ?_, fun hf hl => ⟨fun hrange => ?_, fun hlen hin hover hfunc => ?_⟩⟩
    · rw [if_neg (by simp [hf]), if_pos hl]
    all_goals
      have hlens : ¬∀ n ∈ r.lens, n = 0 := fun hall => hl.elim fun n hn => hn.2 (hall n hn.1)
      rw [if_neg (by simp [hf]), if_neg hlens]
    · exact if_pos hrange
    · rw [if_neg, if_neg (by tauto)]
      rintro (hx | ⟨x, hx, hout⟩ | hx)
      · exact Bool.noConfusion (hlen.symm.trans hx)
      · exact Bool.noConfusion ((hin x hx).symm.trans hout)
      · exact Bool.noConfusion (hover.symm.trans hx)
  · intro slot hw
    rw [State.withRange_op hw]
    exact ⟨rfl, rfl⟩
  · intro s d h k j st h8 hs
    dsimp only
    rw [s.thr_threadJobEnd h k st h8 hs]
    exact ⟨rfl, sget_sset_self .., rfl, rfl, by simp⟩
  · intro s d h t hd hh hw
    have hexec : exec (.threadWindowExpire d h) s = .next (s.keep ((s.windowEnd d h).settle d)) := onHelper_live hd hh _
    rw [hexec]
    refine ⟨fun ht => ?_, fun ht hf => ?_, fun slot rest ht hf hq => ?_⟩
    · rw [State.windowEnd_early hw ht]
    · rw [State.windowEnd_unused hw ht hf]
      rfl
    · rw [State.windowEnd_granted hw ht hf hq]
      rfl

end Sys2Proof.Machine
end

section
/-! SUPPORT. The codec's functions undo one another: bits and their stuffing, octets and their escapes, bits and their
symbols, octets and their FCS, octets and their carriage (R218, R221). -/

namespace Sys2Proof.Machine

open Sys2Proof

/-! ### Zero-bit insertion -/

/-- After n ones in a row, which the stuffing has counted too, UNSTUFF takes the inserted zeros out again. -/
theorem codecUnstuff_stuffBits (v : List Bool) {n : Nat} (hn : n < 5) : codecUnstuff n (stuffBits n v) = (v, true) := by
  induction v generalizing n with
  | nil => rfl
  | cons b v ih =>
    have h5 : n ≠ 5 := by omega
    have h6 : ¬6 ≤ n := by omega
    cases b with
    | false => simp [stuffBits, codecUnstuff, h5, h6, ih]
    | true =>
      by_cases h4 : n = 4
      · subst h4
        simp [stuffBits, codecUnstuff, ih]
      · have hlt : n + 1 < 5 := by omega
        simp [stuffBits, codecUnstuff, h4, h6, ih hlt]

/-! ### Escapes -/

theorem codecUnescape_plain {a : Byte} (h : a ≠ 0x7D) (bs : List Byte) :
    codecUnescape (a :: bs) = (a :: (codecUnescape bs).1, (codecUnescape bs).2) := by
  cases bs with
  | nil => exact if_neg h
  | cons b bs => rw [codecUnescape, if_neg h]

theorem codecUnescape_escaped {b : Byte} (h : b ≠ 0x7E) (bs : List Byte) :
    codecUnescape (0x7D :: b :: bs) = ((b ^^^ 0x20) :: (codecUnescape bs).1, (codecUnescape bs).2) := by
  rw [codecUnescape, if_pos rfl, if_neg h]

/-- Changing bit 5 twice changes nothing. -/
theorem xor_bit5_twice (b : Byte) : (b ^^^ 0x20) ^^^ 0x20 = b := by
  rw [BitVec.xor_assoc, BitVec.xor_self, BitVec.xor_zero]

/-- The only octet whose escape would read as a flag is never escaped. -/
theorem escaped_ne_flag {ctrl : Bool} {b : Byte} (h : (b = 0x7E || b = 0x7D || (ctrl && b.toNat < 0x20)) = true) :
    b ^^^ 0x20 ≠ 0x7E := by
  intro e
  have hb : b = 0x5E := by rw [← xor_bit5_twice b, e]; rfl
  subst hb
  cases ctrl <;> exact absurd h (by decide)

theorem codecUnescape_escapeByte (ctrl : Bool) (b : Byte) (bs : List Byte) :
    codecUnescape (escapeByte ctrl b ++ bs) = (b :: (codecUnescape bs).1, (codecUnescape bs).2) := by
  unfold escapeByte
  split
  · rename_i h
    rw [List.cons_append, List.cons_append, List.nil_append, codecUnescape_escaped (escaped_ne_flag h), xor_bit5_twice]
  · rename_i h
    rw [List.cons_append, List.nil_append, codecUnescape_plain]
    rintro rfl
    exact h rfl

theorem codecUnescape_escapes (ctrl : Bool) (bs : List Byte) : codecUnescape (bs.flatMap (escapeByte ctrl)) = (bs, true) := by
  induction bs with
  | nil => rfl
  | cons b bs ih => rw [List.flatMap_cons, codecUnescape_escapeByte, ih]

/-! ### Manchester symbols -/

theorem manchDecode_manchEncode (inv : Bool) (v : List Bool) (i : Nat) :
    manchDecode inv i (manchEncode inv v) = (v, none) := by
  induction v generalizing i with
  | nil => rfl
  | cons b v ih =>
    have hstep : manchEncode inv (b :: v) = (b == inv) :: (b != inv) :: manchEncode inv v := rfl
    have hne : (b == inv) ≠ (b != inv) := by cases b <;> cases inv <;> decide
    have hbit : ((b != inv) != inv) = b := by cases b <;> cases inv <;> rfl
    rw [hstep, manchDecode, if_neg hne, ih, hbit]

/-! ### Frame check sequences and carriage -/

theorem fcsBytes_length (f32 : Bool) (bs : List Byte) : (fcsBytes f32 bs).length = fcsSize f32 := by
  cases f32 <;> simp [fcsBytes, fcsSize, natLE]

theorem fcsHolds_fcsBytes (f32 : Bool) (bs : List Byte) : fcsHolds f32 (bs ++ fcsBytes f32 bs) = true := by
  have hlen : (bs ++ fcsBytes f32 bs).length - fcsSize f32 = bs.length := by
    rw [List.length_append, fcsBytes_length, Nat.add_sub_cancel]
  rw [fcsHolds, hlen, List.drop_left, List.take_left, decide_eq_true rfl]

/-- Octets whose FCS holds are those before it with the FCS made again. -/
theorem take_append_fcsBytes {f32 : Bool} {bs : List Byte} (h : fcsHolds f32 bs = true) :
    bs.take (bs.length - fcsSize f32) ++ fcsBytes f32 (bs.take (bs.length - fcsSize f32)) = bs := by
  rw [← of_decide_eq_true h, List.take_append_drop]

/-- The first octet of a carriage header: the version, whether the FCS is carried, and its size. -/
def carriageFlags (f32 strip : Bool) : Nat := 16 + (if strip then 0 else 8) + if f32 then 4 else 0

theorem codecEncap_head (f32 strip : Bool) (a b : Nat) (bs : List Byte) :
    ((codecEncap f32 strip a b bs).headD 0).toNat = carriageFlags f32 strip := by
  cases f32 <;> cases strip <;> rfl

theorem codecEncap_tail (f32 strip : Bool) (a b : Nat) (bs : List Byte) :
    (codecEncap f32 strip a b bs).drop 8 = if strip then bs.take (bs.length - fcsSize f32) else bs := rfl

theorem codecDecap_codecEncap {f32 : Bool} (strip : Bool) (a b : Nat) {bs : List Byte} (h : fcsHolds f32 bs = true)
    (hlen : fcsSize f32 < bs.length) : codecDecap (codecEncap f32 strip a b bs) = (bs, true) := by
  have hversion : ¬bits (carriageFlags f32 strip) 4 4 ≠ 1 := by cases f32 <;> cases strip <;> decide
  have hcarried : bit (carriageFlags f32 strip) 3 = !strip := by cases f32 <;> cases strip <;> decide
  have hsize : bit (carriageFlags f32 strip) 2 = f32 := by cases f32 <;> cases strip <;> decide
  simp only [codecDecap, codecEncap_head, codecEncap_tail, if_neg hversion, hcarried, hsize]
  cases strip with
  | false => simp [Nat.not_le.mpr hlen, h]
  | true => simp [take_append_fcsBytes h]

/-! ### Sizes and patterns -/

theorem packBits_length (fill : Nat) (bs : List Bool) : (packBits fill bs).length = ceilDiv bs.length 8 := by
  simp [packBits]

/-- The octets of FILL's pattern, most significant first (R219). -/
theorem fillPattern_getD (w i : Nat) :
    (natBE 4 (bits w 0 32)).getD (i % 4) 0 = BitVec.ofNat 8 (w / 2 ^ (24 - 8 * (i % 4)) % 256) := by
  have hi : i % 4 < 4 := Nat.mod_lt _ (by decide)
  generalize i % 4 = k at hi
  apply BitVec.eq_of_toNat_eq
  interval_cases k <;> simp [natBE, bits] <;> omega

end Sys2Proof.Machine
end

section
/-! SUPPORT. A started job that has its banks: what its reads and its outcome come to, for one source and for each function
with parameters, and what its end leaves of the helper's jobs (R208, R217 to R219, R224, R225). -/

namespace Sys2Proof.Machine

open Sys2Proof

/-! ### The queue of a helper's jobs -/

theorem helpers_apart : ApartFromUnits Die.helpers := fun _ _ _ _ _ _ _ _ _ _ _ => rfl

section
variable {s t u : State} {d h : Nat} {j : Job}

theorem State.keepsOf.csWrite (ht : s.keepsOf Die.helpers t) (d cl a : Nat) (v : Word) (p : Bool) :
    s.keepsOf Die.helpers (t.csWrite d cl a v p) := by
  unfold State.csWrite
  exact ht.modDie d _ rfl

theorem State.keepsOf.csBytes (ht : s.keepsOf Die.helpers t) (d h at_ : Nat) (bs : List Byte) :
    s.keepsOf Die.helpers (t.csBytes d h at_ bs) := by
  unfold State.csBytes
  refine List.foldlRecOn (motive := fun v => s.keepsOf Die.helpers v) _ _ ht fun v hv w _ => State.keepsOf.csWrite ?_ ..
  split
  · exact hv.readUnit helpers_apart ..
  · exact hv

/-- What a job writes leaves the helpers as they are. -/
theorem State.keepsOf.spanWrite (ht : s.keepsOf Die.helpers t) (d h : Nat) (j : Job) (x : Span) (bs : List Byte) :
    s.keepsOf Die.helpers (t.spanWrite d h j x bs) := by
  unfold State.spanWrite
  split
  · exact ht
  split
  · exact ht.csBytes ..
  split
  · exact State.keepsOf.pktStore helpers_apart ht ..
  · exact ht

theorem State.keepsOf.helper (ht : s.keepsOf Die.helpers t) (d h : Nat) : t.helper d h = s.helper d h := by
  rw [State.helper, ht.dies, State.helper]

theorem State.jobs_setJob {k : Job} {js : List Job} (h8 : d < 8) (ht : s.keepsOf Die.helpers t)
    (hj : (s.helper d h).jobs = k :: js) : ((t.setJob d h j).helper d h).jobs = j :: js := by
  rw [← ht.helper d h] at hj
  simp only [State.setJob, hj]
  rw [State.setHelper, State.helper, State.die_modDie _ _ h8, sgetD_sset_self]

theorem State.jobs_jobPoison {k : Job} {js : List Job} (h8 : d < 8) (hj : (s.helper d h).jobs = k :: js) (x : Span)
    (bs : List Byte) :
    ((s.jobPoison d h j x bs).helper d h).jobs = { j with phase := .ended cPOISON none } :: js := by
  have chosen : s.keepsOf Die.helpers (s.choose (bs.length + 1)).2 := ⟨rfl, rfl, rfl, fun _ => rfl⟩
  exact State.jobs_setJob h8 (chosen.spanWrite ..) hj

theorem State.jobs_jobEnd {k : Job} {js : List Job} (h8 : d < 8) (hj : (s.helper d h).jobs = k :: js) {o : JobOut} {r : Nat}
    (hr : o.result = some r) :
    ((s.jobEnd d h j o).helper d h).jobs = { j with phase := .ended o.status (some r) } :: js := by
  have written := List.foldlRecOn (motive := fun v => s.keepsOf Die.helpers v) o.writes
    (fun v w => v.spanWrite d h j w.1 w.2) (State.keepsOf.refl _ s) fun v hv w _ => hv.spanWrite d h j w.1 w.2
  simp only [State.jobEnd, hr]
  exact State.jobs_setJob h8 written hj

/-! ### Running -/

/-- A command whose change runs the helper's first job runs it in the state in which it has its banks (log entry 103). -/
theorem onHelper_runJob {kind func : Nat} (hr : s.jobRuns d h kind func j) (f : State → Job → State) :
    onHelper s d h (fun s => s.runJob d h kind func f) = .next (s.keep ((f (s.jobBanked d h j) j).settle d)) := by
  obtain ⟨hd, hh, hkind, ⟨js, hj⟩, hfunc, hphase, hbanks⟩ := hr
  refine (onHelper_live hd hh _).trans ?_
  simp [State.runJob, hj, hkind, hfunc, hphase, hbanks, State.jobBanked]

section
variable {bs : List Byte}

theorem State.simpleJob_read (hr : s.spanRead d h j (ptrSpan (j.word 1) j.len) = (u, bs, none)) (stream : Bool)
    (f : List Byte → JobOut) : s.simpleJob d h j stream f = (u.count d ctrHLP 3 j.len).jobEnd d h j (f bs) := by
  simp only [State.simpleJob, hr, Option.getD_none]

theorem State.simpleJob_poison {i : Nat} (hr : s.spanRead d h j (ptrSpan (j.word 1) j.len) = (u, bs, some i)) (stream : Bool)
    (f : List Byte → JobOut) : s.simpleJob d h j stream f = (u.count d ctrHLP 3 i).jobPoison d h j (ptrSpan (j.word 3) 0)
      (if stream then (f (bs.take i)).writes.flatMap (·.2) else []) := by
  simp only [State.simpleJob, hr, Option.getD_some]

/-! ### One source, and nothing free -/

/-- What the functions of one source give for its octets. -/
def sourceOut (j : Job) (c : Instr) (kind func : Nat) (bs : List Byte) : JobOut :=
  outcome j (sourceOutcome j bs c) (kind = 1 && func = 6)

theorem sourceOut_unstuff (j : Job) (d h : Nat) : sourceOut j (.unstuff d h) 1 2 = unstuffOut j := by
  funext bs
  simp [sourceOut, outcome, sourceOutcome, unstuffOut, Job.give, bits]

theorem sourceOut_manchDec (j : Job) (d h : Nat) : sourceOut j (.manchDec d h) 1 8 = manchOut j := by
  funext bs
  unfold sourceOut outcome sourceOutcome manchOut
  dsimp only
  generalize manchDecode (bit j.opt 1) 0 (bs.flatMap byteBits) = r
  obtain ⟨v, bad⟩ := r
  cases bad with
  | none => rfl
  | some i => rfl

/-- The octets that such a function has written are those of its outcome, or none. -/
theorem sourceOut_writes (j : Job) (c : Instr) (kind func : Nat) (bs : List Byte) :
    (sourceOut j c kind func bs).writes.flatMap (·.2) = [] ∨
      (sourceOut j c kind func bs).writes.flatMap (·.2) = (sourceOutcome j bs c).2.2 := by
  simp only [sourceOut, outcome]
  split
  · exact .inl rfl
  · exact .inr (List.append_nil _)

theorem exec_oneSource {c : Instr} {kind func : Nat} (hc : oneSource c = some (d, h, kind, func)) :
    ∃ stream : Bool, exec c s = onHelper s d h fun s => s.runJob d h kind func fun s j =>
      s.simpleJob d h j stream (sourceOut j c kind func) := by
  cases c with
  | unstuff =>
    cases hc
    exact ⟨true, by simp only [sourceOut_unstuff]; rfl⟩
  | manchDec =>
    cases hc
    exact ⟨true, by simp only [sourceOut_manchDec]; rfl⟩
  | escape | manchEnc | encap | copy =>
    cases hc
    exact ⟨true, rfl⟩
  | fcsGen | fcsCheck | decap | sha256 =>
    cases hc
    exact ⟨false, rfl⟩
  | _ => cases hc

end

end

end Sys2Proof.Machine
end

section
/-! SUPPORT. The functions of helpers with free values, without one source, or with parameters (R217 to R219, R225). -/

namespace Sys2Proof.Machine

open Sys2Proof

section
variable {s t u v w : State} {d h : Nat} {j : Job} {bs : List Byte}

/-! ### The codec's functions with free values -/

theorem exec_stuff (hr : s.jobRuns d h 1 1 j)
    (hbs : (s.jobBanked d h j).freeValue.2.spanRead d h j (ptrSpan (j.word 1) j.len) = (u, bs, none)) :
    exec (.stuff d h) s = .next (s.keep (((u.count d ctrHLP 3 j.len).jobEnd d h j
      (stuffOut j (s.jobBanked d h j).freeValue.1 bs)).settle d)) := by
  refine (onHelper_runJob hr _).trans ?_
  simp only [State.simpleJob_read hbs]

/-- What UNESCAPE gives: at a bad escape as many of the octets before it as were written. -/
def unescapeOut (j : Job) (n : Nat) (bs : List Byte) : JobOut :=
  if (codecUnescape bs).2 then j.give (codecUnescape bs).1 else j.give ((codecUnescape bs).1.take n) cDENIED

theorem exec_unescape (hr : s.jobRuns d h 1 4 j)
    (hbs : ((s.jobBanked d h j).choose 16385).2.spanRead d h j (ptrSpan (j.word 1) j.len) = (u, bs, none)) :
    exec (.unescape d h) s = .next (s.keep (((u.count d ctrHLP 3 j.len).jobEnd d h j
      (unescapeOut j ((s.jobBanked d h j).choose 16385).1 bs)).settle d)) := by
  refine (onHelper_runJob hr _).trans ?_
  simp only [State.simpleJob_read hbs]
  rfl

theorem unescapeOut_eq (j : Job) (n : Nat) (bs : List Byte) :
    let r := codecUnescape bs
    let o := if r.2 then r.1 else r.1.take n
    unescapeOut j n bs = outcome j (if r.2 then cDONE else cDENIED, some o.length, o) false := by
  unfold unescapeOut
  dsimp only
  split <;> rfl

theorem stuffOut_eq (j : Job) (fill : Nat) (bs : List Byte) :
    let v := codecStuff (bit j.opt 1) bs
    let o := packBits fill v
    stuffOut j fill bs = outcome j (cDONE, some (o.length + v.length % 8 * 2 ^ 15), o) false := by
  dsimp only
  rw [packBits_length]
  rfl

/-! ### The copy helper -/

theorem exec_fill (hr : s.jobRuns d h 2 2 j) :
    exec (.fill d h) s = .next (s.keep (((s.jobBanked d h j).jobEnd d h j (outcome j (cDONE, none,
      (List.range j.len).map fun i => BitVec.ofNat 8 (j.word 4 / 2 ^ (24 - 8 * (i % 4)) % 256)) false)).settle d)) := by
  refine (onHelper_runJob hr _).trans ?_
  simp only [fillPattern_getD]
  rfl

theorem exec_gather {bad : Bool} (hr : s.jobRuns d h 2 3 j)
    (hg : (s.jobBanked d h j).gatherRead d h j ((s.jobBanked d h j).segments d h j) = (u, bs, bad)) :
    exec (.gather d h) s = .next (s.keep ((if bad then (u.count d ctrHLP 3 bs.length).jobPoison d h j (ptrSpan (j.word 3) 0) bs
      else (u.count d ctrHLP 3 bs.length).jobEnd d h j (outcome j (cDONE, none, bs) false)).settle d)) := by
  refine (onHelper_runJob hr _).trans ?_
  simp only [hg]
  rfl

/-- What COMPARE makes of its two ranges. -/
def State.compareEnd (s : State) (d h : Nat) (j : Job) : Option (Nat × Bool) → State
  | none => (s.count d ctrHLP 3 j.len).jobEnd d h j { result := some j.len }
  | some (i, false) => (s.count d ctrHLP 3 (i + 1)).jobEnd d h j { status := cDENIED, result := some i }
  | some (i, true) => (s.count d ctrHLP 3 i).jobPoison d h j (ptrSpan 0 0) []

theorem exec_compare {at_ : Option (Nat × Bool)} (hr : s.jobRuns d h 2 4 j)
    (hc : (s.jobBanked d h j).compareGo d h j (ptrSpan (j.word 1) j.len) (ptrSpan (j.word 4) j.len) j.len 0 = (u, at_)) :
    exec (.compare d h) s = .next (s.keep ((u.compareEnd d h j at_).settle d)) := by
  refine (onHelper_runJob hr _).trans ?_
  simp only [hc]
  rcases at_ with _ | ⟨i, _ | _⟩ <;> rfl

section
variable {x y : Span} {n i : Nat} {a b : Byte} (hx : s.octet d h j x i = (u, a, false)) (hy : u.octet d h j y i = (v, b, false))
include hx hy

theorem State.compareGo_equal (hab : a = b) : s.compareGo d h j x y (n + 1) i = v.compareGo d h j x y n (i + 1) := by
  simp only [State.compareGo, hx, hy, hab, ne_eq, not_true_eq_false, if_false]

theorem State.compareGo_differs (hab : a ≠ b) : s.compareGo d h j x y (n + 1) i = (v, some (i, false)) := by
  simp only [State.compareGo, hx, hy, if_pos hab]

end

/-! ### The crypto helper -/

/-- What GCM_ENC gives for a whole source. -/
def gcmEncOut (j : Job) (key iv aad : List Nat) (bs : List Byte) : JobOut :=
  let c := gcmCtr (aesKeys key) iv (toNats bs)
  { status := cDONE, result := some (toBytes c).length
    writes := [(ptrSpan (j.word 3) (toBytes c).length, toBytes c),
      (j.tagSpan, toBytes ((gcmTag (aesKeys key) iv aad c).take (tagLen j.opt)))] }

theorem exec_gcmEnc {key iv tag aad : List Nat} (hr : s.jobRuns d h 0 1 j)
    (hp : (s.jobBanked d h j).gcmRead d h j false = (u, (key, iv, tag, aad), false))
    (hbs : u.spanRead d h j (ptrSpan (j.word 1) j.len) = (v, bs, none)) (hlen : bs.length = j.len) :
    exec (.gcmEnc d h) s =
      .next (s.keep (((v.count d ctrHLP 3 j.len).jobEnd d h j (gcmEncOut j key iv aad bs)).settle d)) := by
  refine (onHelper_runJob hr _).trans ?_
  simp only [hp, State.simpleJob_read hbs, if_pos hlen]
  rfl

theorem exec_gcmDec {key iv tag aad : List Nat} (hr : s.jobRuns d h 0 2 j)
    (hp : (s.jobBanked d h j).gcmRead d h j true = (u, (key, iv, tag, aad), false))
    (hbs : u.spanRead d h j (ptrSpan (j.word 1) j.len) = (v, bs, none)) :
    let out := toBytes (gcmCtr (aesKeys key) iv (toNats bs))
    exec (.gcmDec d h) s = .next (s.keep (((v.count d ctrHLP 3 j.len).jobEnd d h j (outcome j
      (if (gcmTag (aesKeys key) iv aad (toNats bs)).take (tagLen j.opt) = tag then cDONE else cDENIED, some out.length, out)
        false)).settle d)) := by
  refine (onHelper_runJob hr _).trans ?_
  simp only [hp, State.simpleJob_read hbs]
  rfl

theorem exec_cmacGen {key : List Nat} (hr : s.jobRuns d h 0 3 j) (hk : (s.jobBanked d h j).keyRead d h j = (u, key, false))
    (hbs : u.spanRead d h j (ptrSpan (j.word 1) j.len) = (w, bs, none)) :
    exec (.cmacGen d h) s = .next (s.keep (((w.count d ctrHLP 3 j.len).jobEnd d h j {
        result := some 0, writes := [(j.tagSpan, toBytes ((cmac (aesKeys key) (toNats bs)).take (tagLen j.opt)))]
      }).settle d)) := by
  refine (onHelper_runJob hr _).trans ?_
  simp only [hk, State.simpleJob_read hbs]
  rfl

theorem exec_cmacVer {key tag : List Nat} (hr : s.jobRuns d h 0 4 j) (hk : (s.jobBanked d h j).keyRead d h j = (u, key, false))
    (ht : u.paramRead d h j 11 (tagLen j.opt) = (v, tag, false))
    (hbs : v.spanRead d h j (ptrSpan (j.word 1) j.len) = (w, bs, none)) :
    exec (.cmacVer d h) s = .next (s.keep (((w.count d ctrHLP 3 j.len).jobEnd d h j {
        result := some 0, status := if (cmac (aesKeys key) (toNats bs)).take (tagLen j.opt) = tag then cDONE else cDENIED
      }).settle d)) := by
  refine (onHelper_runJob hr _).trans ?_
  simp only [hk, Bool.false_eq_true, if_false, ht, State.simpleJob_read hbs]

theorem exec_ecdsaVer {ps : List Nat} (hr : s.jobRuns d h 0 6 j)
    (hp : (s.jobBanked d h j).paramRead d h j 0 128 = (u, ps, false))
    (hbs : u.spanRead d h j (ptrSpan (j.word 1) j.len) = (v, bs, none)) :
    let n := fun (i : Nat) => natOf ((ps.drop (32 * i)).take 32)
    exec (.ecdsaVer d h) s = .next (s.keep (((v.count d ctrHLP 3 j.len).jobEnd d h j {
        result := some 0, status := if ecdsaOk (natOf (toNats bs)) (n 0, n 1) (n 2) (n 3) then cDONE else cDENIED
      }).settle d)) := by
  refine (onHelper_runJob hr _).trans ?_
  simp only [hp, State.simpleJob_read hbs]
  rfl

end

end Sys2Proof.Machine
end

section
/-! PROOFS. The functions of helpers. -/

namespace Sys2Proof.Machine

open Sys2Proof

/-- Settles O50: a job that runs reads its parameters and its source, and ends with what its function gives for them. -/
theorem helperFunctionsGiveTheirOutputs : Obligations.HelperFunctionsGiveTheirOutputs := by
  refine ⟨?_, ?_, ?_, ?_, ?_, ?_, ?_, ?_, ?_, ?_, ?_, fun v => codecUnstuff_stuffBits v (by decide), codecUnescape_escapes,
    fun inv v => manchDecode_manchEncode inv v 0, fcsHolds_fcsBytes,
    fun f32 strip a b bs h hlen => codecDecap_codecEncap strip a b h hlen⟩
  · intro s u c d h kind func j bs hc hr
    obtain ⟨stream, hexec⟩ := exec_oneSource (s := s) hc
    have hrun := hexec.trans (onHelper_runJob hr _)
    refine ⟨fun hbs => ?_, fun i hbs => ?_⟩
    · rw [hrun, State.simpleJob_read hbs]
      rfl
    · rw [hrun, State.simpleJob_poison hbs]
      refine ⟨_, rfl, ?_⟩
      cases stream with
      | false => exact .inl rfl
      | true => exact sourceOut_writes j c kind func (bs.take i)
  · exact fun s d h j x bs k js h8 hj => ⟨State.jobs_jobPoison h8 hj x bs, fun o r ho => State.jobs_jobEnd h8 hj ho⟩
  · intro s u d h j bs hr hbs
    rw [exec_stuff hr hbs, stuffOut_eq]
  · intro s u d h j bs hr hbs
    rw [exec_unescape hr hbs, unescapeOut_eq]
  · exact fun s d h j hr => exec_fill hr
  · exact fun s u d h j bs hr => ⟨exec_gather (bad := false) hr, exec_gather (bad := true) hr⟩
  · exact fun s u d h j hr => ⟨exec_compare (at_ := none) hr,
      fun i => exec_compare (at_ := some (i, false)) hr, fun i => exec_compare (at_ := some (i, true)) hr⟩
  · exact fun s u v d h n i j x y a b hx hy => ⟨State.compareGo_equal hx hy, State.compareGo_differs hx hy⟩
  · exact fun s u v d h j key iv tag aad bs hbs =>
      ⟨fun hr hp hlen => exec_gcmEnc hr hp hbs hlen, fun hr hp => exec_gcmDec hr hp hbs⟩
  · exact fun s u v w d h j key tag bs hk =>
      ⟨fun hr hbs => exec_cmacGen hr hk hbs, fun hr ht hbs => exec_cmacVer hr hk ht hbs⟩
  · exact fun s u v d h j ps bs hr hp hbs => exec_ecdsaVer hr hp hbs

end Sys2Proof.Machine
end

section
/-! PROOFS. The reset state. -/

namespace Sys2Proof.Machine

open Sys2Proof

theorem State.die_reset (d : Nat) : State.reset.die d = {} := by
  by_cases h : d < 8 <;> simp [State.die, State.reset, Vector.getD, h]

/-- A table resets to FROZEN: TAB_CTL holds nothing but the body of the table's own number (R244). -/
theorem State.tabActive_reset (d t : Nat) : State.reset.tabActive d t = false := by
  have hreg : State.reset.reg d .tblTabCtl [t] = 256 * t := by
    rw [State.reg, State.die_reset]
    rfl
  simp only [State.tabActive, State.fld, hreg, bits, decide_eq_false_iff_not]
  omega

/-- Settles O2: every die of the reset state is the empty one, in which no register has been written. -/
theorem resetLeavesThePartEmpty : Obligations.ResetLeavesThePartEmpty := by
  have hinv : State.reset.inv := ⟨rfl, fun c hc => by cases hc⟩
  have hstopped : State.reset.running = false := by
    rw [State.running, State.reg, State.die_reset]
    rfl
  refine ⟨hinv, rfl, rfl, hstopped, rfl, rfl, rfl, fun d _ => ?_, fun n => rfl, fun d t _ _ => State.tabActive_reset d t⟩
  rw [State.time, State.die_reset]
  exact ⟨rfl, rfl, rfl, rfl, rfl, rfl, rfl, rfl⟩

end Sys2Proof.Machine
end

section
/-! SUPPORT. The table ring's command at its head: its check, its one access and what its application leads to (R243, R250,
R252). -/

namespace Sys2Proof.Machine

open Sys2Proof

/-! ### What the engine's notes and pipes leave -/

theorem State.now_tblNote (s : State) (d : Nat) : (s.tblNote d).now = s.now := by
  unfold State.tblNote
  dsimp only
  split <;> rfl

theorem State.now_pipeTake (s : State) (d src item : Nat) : (s.pipeTake d src item).now = s.now := by
  unfold State.pipeTake
  split <;> rfl

theorem State.now_tableTaken (s : State) (d : Nat) (c : RCmd) : (s.tableTaken d c).now = s.now :=
  ((s.tblNote d).now_pipeTake d 14 c.order).trans (s.now_tblNote d)

/-! ### The command -/

/-- Every table command is the one operation on ring 0 with its own code (R250). -/
theorem exec_tableCommand {s : State} {i : Instr} {d op : Nat} (hi : tableCommand i = some (d, op)) (h : s.live d) :
    exec i s = .next (s.keep (s.tblCommand d op)) := by
  unfold tableCommand at hi
  split at hi <;> cases hi
  all_goals exact onDie_live h _

/-- What the application of the ring's head command leads to at the ring: it waits, completes, or has begun. -/
def headStep (d : Nat) (c : RCmd) : State × TblStep → State
  | (u, .wait) => u
  | (u, .fin code c0 c1) => u.tblEnd d c code c0 c1
  | (u, .begun c') => u.ringSet d 0 c'

section
variable {s u : State} {i : Instr} {d op : Nat} {c : RCmd} {r : TblReq}

theorem State.tableHead.live (h : s.tableHead d op c) : s.live d := by
  obtain ⟨hlive, -⟩ := h
  exact hlive

theorem State.tableHead.op_eq (h : s.tableHead d op c) : c.op = op := by
  obtain ⟨-, -, hop, -⟩ := h
  exact hop

/-- A command for the ring's own die alone is forwarded to no other (R258). -/
theorem State.tblForward_own (hd : c.dies d = [d]) (s : State) : s.tblForward d c = s := by
  simp [State.tblForward, hd]

/-- What the command at the head of ring 0 comes to, once it is checked. -/
theorem State.tblCommand_head (h : s.tableHead d op c) :
    s.tblCommand d op =
      if s.tblFormed d c then headStep d c (s.tblAccess d 14 d c) else s.tblEnd d c cMALFORMED 0 0 := by
  obtain ⟨-, hc, hop, hstarted, hdies⟩ := h
  simp only [State.tblCommand, hc, hop, hstarted, hdies, State.tblForward_own hdies]
  cases s.tblFormed d c with
  | false => simp
  | true =>
    rcases s.tblAccess d 14 d c with ⟨u, _ | _ | _⟩ <;> simp [headStep]

theorem exec_tableMalformed (hi : tableCommand i = some (d, op)) (h : s.tableHead d op c) (hf : s.tblFormed d c = false) :
    exec i s = .next (s.keep (s.tblEnd d c cMALFORMED 0 0)) := by
  rw [exec_tableCommand hi h.live, State.tblCommand_head h, if_neg (by simp [hf])]

theorem exec_tableFormed (hi : tableCommand i = some (d, op)) (h : s.tableHead d op c) (hf : s.tblFormed d c = true) :
    exec i s = .next (s.keep (headStep d c (s.tblAccess d 14 d c))) := by
  rw [exec_tableCommand hi h.live, State.tblCommand_head h, if_pos hf]

/-! ### Its access (R243) -/

theorem State.tblAccess_held (hr : (s.tblNote d).tblReq d 14 c.order = some r)
    (hg : (s.tblNote d).pipeGate d 14 c.order = (u, false)) : s.tblAccess d 14 d c = (u, .wait) := by
  simp only [State.tblAccess, hr, hg]

theorem State.tblAccess_granted (hg : s.tableGranted d c r) :
    s.tblAccess d 14 d c =
      (s.tableTaken d c).tblApply d d ((s.tblNote d).noteOf d r).order (s.tableActiveFor d r) c := by
  obtain ⟨hr, hgate⟩ := hg
  simp only [State.tblAccess, hr, hgate]
  rfl

theorem exec_tableGranted (hi : tableCommand i = some (d, op)) (h : s.tableHead d op c) (hf : s.tblFormed d c = true)
    (hg : s.tableGranted d c r) : exec i s = .next (s.keep (headStep d c
      ((s.tableTaken d c).tblApply d d ((s.tblNote d).noteOf d r).order (s.tableActiveFor d r) c))) := by
  rw [exec_tableFormed hi h hf, State.tblAccess_granted hg]

/-! ### Its application (R250) -/

/-- A FENCE as the engine keeps it: it waits for the results that are held of the lookups before it (R253). -/
def State.fenceOf (s : State) (d src : Nat) (c : RCmd) : Fence :=
  let held := (s.die d).delayed.filter fun e => e.target = 2 && e.src < 1000
  { src := src, tag := c.tag, waits := held.map fun e => (e.src, e.item) }

section
variable {active : Bool} {src order : Nat}

theorem State.tblApply_single_waits (hop : c.op ≤ 6) (hrun : s.tblRun d c.op (bits c.d0 8 6) (bits c.d0 24 4) (argWords c 0 4)
    (argWords c 4 3) false active = (u, none)) : s.tblApply d src order active c = (u, .wait) := by
  simp only [State.tblApply, if_pos hop, hrun]

/-- A single-bucket command that has run: an entry that it returns goes to host memory, then it completes. -/
theorem State.tblApply_single_ends {o : TblOut} (hop : c.op ≤ 6) (hrun : s.tblRun d c.op (bits c.d0 8 6) (bits c.d0 24 4)
    (argWords c 0 4) (argWords c 4 3) false active = (u, some o)) :
    s.tblApply d src order active c =
      (if o.out = [] then u else u.emit (.hostWrite src (c.d1 + 32) (slotBytes o.out)),
        .fin o.code (if o.lay then 2 ^ 11 else 0) (o.bucket % 2 ^ 22)) := by
  simp only [State.tblApply, if_pos hop, hrun, List.isEmpty_iff]

theorem State.tblApply_walk (hop : c.op = 7) : s.tblApply d src order active c = s.walkStart d active c := by
  simp [State.tblApply, hop]

theorem State.tblApply_fence (hop : c.op = 8) :
    s.tblApply d src order active c = (s.modTbl d fun x => { x with fences := x.fences ++ [s.fenceOf d src c] },
      .begun { c with started := true, since := s.now }) := by
  simp [State.tblApply, hop, State.fenceOf]

theorem State.tblApply_swap (hop : c.op = 9) :
    s.tblApply d src order active c =
      if s.bodyLoc d (s.bodyOf d (bits c.d0 8 6)) = 0 ∨ active = false then
        (s.tblTally d cSTATE (bits c.d0 8 6) (s.bodyOf d (bits c.d0 8 6)) 9 0 false, .fin cSTATE 0 0)
      else (s, .begun { c with started := true, since := order }) := by
  simp [State.tblApply, hop]

end

/-! ### A WALK at its access point (R251) -/

section
variable {active : Bool}

theorem State.walkStart_refused (h : s.bodyLoc d (s.bodyOf d (bits c.d0 8 6)) = 0 ∨ ¬(bit c.d0 28 = false ∨ active = true)) :
    s.walkStart d active c =
      (s.tblTally d cSTATE (bits c.d0 8 6) (s.bodyOf d (bits c.d0 8 6)) 7 0 false, .fin cSTATE 0 0) := by
  refine if_pos ?_
  simpa using h

/-- The guard of a WALK that is not refused. -/
theorem walk_open {loc : Nat} (hloc : loc ≠ 0) (hok : bit c.d0 28 = false ∨ active = true) :
    ¬(loc = 0 ∨ bit c.d0 28 = true ∧ active = false) := by
  rintro (h | ⟨h, ha⟩)
  · exact hloc h
  · simp [h, ha] at hok

variable (hloc : s.bodyLoc d (s.bodyOf d (bits c.d0 8 6)) ≠ 0) (hok : bit c.d0 28 = false ∨ active = true)
include hloc hok

theorem State.walkStart_empty (h : bits c.d2 32 16 = 0 ∨ bit (bits c.d2 0 26) 25 = true) :
    s.walkStart d active c = (s, .fin cDONE 0 (bits c.d2 0 26)) := by
  simp [State.walkStart, walk_open hloc hok, h]

theorem State.walkStart_begins (hfit : s.bodyFits d (s.bodyOf d (bits c.d0 8 6)) = true) (hn : bits c.d2 32 16 ≠ 0)
    (hend : bit (bits c.d2 0 26) 25 = false) (hlay : bit (bits c.d2 0 26) 24 = false)
    (hpos : bits (bits c.d2 0 26) 0 24 < 4 * s.bodySize d (s.bodyOf d (bits c.d0 8 6))) :
    s.walkStart d active c = (s, .begun { c with started := true, since := s.now, walk := some {
      body := s.bodyOf d (bits c.d0 8 6), pos := bits (bits c.d2 0 26) 0 24, lay := false, left := bits c.d2 32 16
      next := s.now } }) := by
  simp [State.walkStart, walk_open hloc hok, hfit, hn, hend, hlay, hpos]

end

end

end Sys2Proof.Machine
end

section
/-! SUPPORT. The grant of a lookup pipe: its requests in the order of their places in the round (R242, R243, R254). -/

namespace Sys2Proof.Machine

open Sys2Proof

/-- The place of a request in a pipe's round: by its source after the one last granted, and of one source by age (R243). -/
def State.roundPlace (s : State) (d p : Nat) (r : TblReq) : Nat ×ₗ Nat := toLex ((s.pipeOf d p).turn r.src, r.age)

/-- The requests that compete for a pipe (R243, R254, R256). -/
def State.pipeReqs (s : State) (d p : Nat) : List TblReq :=
  (s.tblReqs d).filter fun r => r.pipe = some p && s.competes d (s.tblReqs d) r

section
variable {s : State} {d p : Nat} {r q : TblReq}

theorem State.mem_pipeReqs :
    r ∈ s.pipeReqs d p ↔ r ∈ s.tblReqs d ∧ r.pipe = some p ∧ s.competes d (s.tblReqs d) r = true := by
  simp [State.pipeReqs]

/-- A pipe grants the request of the least place among those that compete for it. -/
theorem State.pipeNext_eq_argmin (s : State) (d p : Nat) : s.pipeNext d p = (s.pipeReqs d p).argmin (s.roundPlace d p) := by
  unfold State.pipeNext List.argmin
  dsimp only
  congr 1
  funext m x
  cases m with
  | none => rfl
  | some q => simp [List.argAux, State.roundPlace, Prod.Lex.toLex_lt_toLex]

theorem State.granted_iff (hp : r.pipe = some p) :
    s.granted d r = true ↔ (s.pipeOf d p).at_ ≠ some s.now ∧ s.pipeNext d p = some r := by
  simp [State.granted, hp]

/-- A request that is granted waits for no swap (R254). -/
theorem State.swapHolds_of_granted (hp : r.pipe = some p) (h : s.granted d r = true) : s.swapHolds d r = false := by
  have hnext := ((State.granted_iff hp).mp h).2
  rw [State.pipeNext_eq_argmin] at hnext
  obtain ⟨-, -, hcomp⟩ := State.mem_pipeReqs.mp (List.argmin_mem hnext)
  simp only [State.competes, State.servable, Bool.and_eq_true, Bool.not_eq_true'] at hcomp
  obtain ⟨⟨⟨hswap, -⟩, -⟩, -⟩ := hcomp
  exact hswap

/-- No request that competes for the pipe has a place before the one that is granted. -/
theorem State.roundPlace_le_of_granted (hp : r.pipe = some p) (h : s.granted d r = true) (hq : q ∈ s.pipeReqs d p) :
    s.roundPlace d p r ≤ s.roundPlace d p q := by
  have hnext := ((State.granted_iff hp).mp h).2
  rw [State.pipeNext_eq_argmin] at hnext
  exact List.le_of_mem_argmin hq hnext

end

/-! ### Swaps (R254) -/

theorem TblReq.shares_iff (r : TblReq) (c : RCmd) : r.shares c = true ↔ ∃ t ∈ r.tables, t ∈ c.tables := by
  simp [TblReq.shares]

end Sys2Proof.Machine
end

section
/-! SUPPORT. A single-bucket command, once its bucket is seen: its code, what it writes and what is counted of it (R239, R240,
R250, R264). -/

namespace Sys2Proof.Machine

open Sys2Proof

/-! ### What is counted of a code (R264) -/

theorem State.tblTally_notFound (s : State) (d t b k : Nat) {op : Nat} (thread : Bool) (hop : op ≠ 0) :
    s.tblTally d cNOT_FOUND t b op k thread = s.count d ctrTBL 8 := by
  simp [State.tblTally, cDONE, cSTATE, cNEEDS_REHASH, cNOT_FOUND, cACTIVE, hop]

theorem State.tblTally_active (s : State) (d t b op k : Nat) (thread : Bool) :
    s.tblTally d cACTIVE t b op k thread = s.count d ctrTBL 10 := rfl

/-! ### The checks (R240, R250) -/

section
variable {s u : State} {d op t gen : Nat} {key res : List Word} {thread active : Bool} {v : TblView}

theorem State.tblRun_malformed (hloc : s.bodyLoc d (s.bodyOf d t) = 2) (hkey : key.getD 3 0 ≠ 0) :
    s.tblRun d op t gen key res thread active =
      (s, some { code := cMALFORMED, bucket := s.homeBucket d (s.bodyOf d t) key }) := by
  simp only [State.tblRun, hloc, hkey, ne_eq, not_false_eq_true, decide_true, Bool.and_self, if_true,
    OfNat.ofNat_ne_zero, if_false]

theorem State.tblRun_state (h : s.bodyLoc d (s.bodyOf d t) = 0 ∨
      (op ≠ 1 ∧ active = false ∧ (s.bodyLoc d (s.bodyOf d t) = 2 → key.getD 3 0 = 0))) :
    ∃ (u : State) (n : Nat),
      s.tblRun d op t gen key res thread active = (u, some { code := cSTATE, bucket := n }) := by
  have hkey : ¬((s.bodyLoc d (s.bodyOf d t) = 2 && key.getD 3 0 ≠ 0) = true) := by
    rcases h with h | ⟨-, -, h⟩
    · simp [h]
    · simpa using h
  have hstate : (s.bodyLoc d (s.bodyOf d t) = 0 || (op ≠ 1 && !active)) = true := by
    rcases h with h | ⟨hop, ha, -⟩
    · simp [h]
    · simp [hop, ha]
  unfold State.tblRun
  dsimp only
  rw [if_neg hkey, if_pos hstate]
  exact ⟨_, _, rfl⟩

section
variable (hopen : s.tableOpen d t key) (hgo : op = 1 ∨ active = true)
  (hview : s.tblView d (s.bodyOf d t) (s.homeBucket d (s.bodyOf d t) key) = (u, some v))
include hopen hgo hview

/-- A command that passes its checks ends with POISON when it sees poison, and with its own outcome else. -/
theorem State.tblRun_viewed :
    let k := s.homeBucket d (s.bodyOf d t) key
    let own := u.tblOwn d op (s.bodyOf d t) k gen key res v
    s.tblRun d op t gen key res thread active =
      if v.poisoned then
        (u.tblTally d cPOISON t (s.bodyOf d t) op k thread, some { code := cPOISON, bucket := k })
      else (own.1.tblTally d own.2.code t (s.bodyOf d t) op k thread, some own.2) := by
  obtain ⟨hdead, hkey⟩ := hopen
  have hloc : s.bodyLoc d (s.bodyOf d t) ≠ 0 := by
    intro h
    simp [State.bodyDead, h] at hdead
  have hkeyOk : ¬((s.bodyLoc d (s.bodyOf d t) = 2 && key.getD 3 0 ≠ 0) = true) := by simpa using hkey
  have hstate : ¬((s.bodyLoc d (s.bodyOf d t) = 0 || (op ≠ 1 && !active)) = true) := by
    simpa [hloc, ← or_iff_not_imp_left] using hgo
  unfold State.tblRun
  dsimp only
  rw [if_neg hkeyOk, if_neg hstate, if_neg (by simp [hdead]), if_neg hloc, hview]

theorem State.tblRun_poisoned (hp : v.poisoned = true) :
    s.tblRun d op t gen key res thread active =
      (u.tblTally d cPOISON t (s.bodyOf d t) op (s.homeBucket d (s.bodyOf d t) key) thread,
        some { code := cPOISON, bucket := s.homeBucket d (s.bodyOf d t) key }) :=
  (State.tblRun_viewed hopen hgo hview).trans (if_pos hp)

/-- A command that sees no poison ends with its own outcome. -/
theorem State.tblRun_own {w : State} {o : TblOut} (hp : v.poisoned = false)
    (hown : u.tblOwn d op (s.bodyOf d t) (s.homeBucket d (s.bodyOf d t) key) gen key res v = (w, o)) :
    s.tblRun d op t gen key res thread active =
      (w.tblTally d o.code t (s.bodyOf d t) op (s.homeBucket d (s.bodyOf d t) key) thread, some o) := by
  rw [State.tblRun_viewed hopen hgo hview, if_neg (by simp [hp]), hown]

/-- DONE adds no count or record to the outcome of a command. -/
theorem State.tblRun_done {w : State} {o : TblOut} (hp : v.poisoned = false)
    (hown : u.tblOwn d op (s.bodyOf d t) (s.homeBucket d (s.bodyOf d t) key) gen key res v = (w, o)) (hdone : o.code = cDONE) :
    s.tblRun d op t gen key res thread active = (w, some o) := by
  rw [State.tblRun_own hopen hgo hview hp hown, hdone]
  rfl

end

end

/-! ### INSERT (R239) -/

section
variable {s : State} {d op b k gen : Nat} {key res : List Word} {v : TblView}

theorem TblView.noFreeSlot (hfull : ∀ j : Nat, j < 4 → entValid (v.slots.getD j []) = true) :
    ((List.range 4).find? fun i => !entValid (v.slots.getD i [])) = none := by
  simpa [List.find?_eq_none] using hfull

section
variable (hfind : v.find b gen (s.genCheck d b) key = none)
include hfind

theorem State.tblOwn_insert_slot {i : Nat} (hi : i < 4) (hfree : entValid (v.slots.getD i []) = false)
    (hbefore : ∀ j : Nat, j < i → entValid (v.slots.getD j []) = true) :
    s.tblOwn d 2 b k gen key res v =
      ((s.slotWrite d b k v.slots i (entNew b gen key res)).count d ctrTBL 4, { code := cDONE, bucket := k }) := by
  have hfirst : ((List.range 4).find? fun i => !entValid (v.slots.getD i [])) = some i := by
    rw [List.find?_range_eq_some]
    exact ⟨by rw [hfree, Bool.not_false], List.mem_range.mpr hi, fun j hj => by rw [hbefore j hj]; rfl⟩
  simp only [State.tblOwn, State.tblInsert, hfind, hfirst, if_true]

section
variable (hfull : ∀ j : Nat, j < 4 → entValid (v.slots.getD j []) = true)
include hfull

theorem State.tblOwn_insert_lay (hbody : s.layUsedBy d b < min 4096 (s.fld d .tblBodyCfg [b] 8 13)) (hstore : s.layUsed d < 4096) :
    ∃ w : State, s.tblOwn d 2 b k gen key res v = (w, { code := cDONE, lay := true, bucket := k }) := by
  simp only [State.tblOwn, State.tblInsert, hfind, TblView.noFreeSlot hfull, hbody, hstore, if_true, decide_true, Bool.and_self]
  exact ⟨_, rfl⟩

theorem State.tblOwn_insert_rehash
    (h : min 4096 (s.fld d .tblBodyCfg [b] 8 13) ≤ s.layUsedBy d b ∨ 4096 ≤ s.layUsed d) :
    s.tblOwn d 2 b k gen key res v = (s, { code := cNEEDS_REHASH, bucket := k }) := by
  simp only [State.tblOwn, State.tblInsert, hfind, TblView.noFreeSlot hfull, if_true]
  refine if_neg ?_
  rw [Bool.and_eq_true, decide_eq_true_eq, decide_eq_true_eq]
  omega

end
end

theorem State.tblOwn_insert_exists {l : TblLoc} {e : List Word} (hfind : v.find b gen (s.genCheck d b) key = some (l, e)) :
    s.tblOwn d 2 b k gen key res v = (s, { code := cEXISTS, lay := l.isLay, bucket := k }) := by
  simp only [State.tblOwn, State.tblInsert, hfind, if_true]
  cases l <;> rfl

/-! ### The commands on an entry (R250, R257) -/

/-- The commands but INSERT find no entry. -/
theorem State.tblOwn_none (hop : op ≠ 2) (hfind : v.find b gen (s.genCheck d b) key = none) :
    s.tblOwn d op b k gen key res v =
      (if op = 1 then s.count d ctrTBL 1 else s, { code := cNOT_FOUND, bucket := k }) := by
  simp only [State.tblOwn, if_neg hop, hfind]

section
variable {l : TblLoc} {e : List Word} (hfind : v.find b gen (s.genCheck d b) key = some (l, e))
include hfind

theorem State.tblOwn_lookup :
    s.tblOwn d 1 b k gen key res v =
      (if l.isLay then (s.count d ctrTBL 0).count d ctrTBL 3 else s.count d ctrTBL 0,
        { code := cDONE, lay := l.isLay, bucket := k, out := e.drop 4 }) := by
  simp only [State.tblOwn, hfind]
  cases l <;> rfl

theorem State.tblOwn_update :
    s.tblOwn d 3 b k gen key res v =
      (s.entWrite d b k v l (some (e.take 4 ++ (List.range 3).map (res.getD · 0) ++ e.drop 7)),
        { code := cDONE, lay := l.isLay, bucket := k }) := by
  simp only [State.tblOwn, hfind]
  cases l <;> rfl

/-- DELETE, and DELETE_IF_IDLE of an entry without HIT, free the entry. -/
theorem State.tblOwn_delete (hop : op = 4 ∨ (op = 5 ∧ entHit e = false)) :
    s.tblOwn d op b k gen key res v =
      ((s.entWrite d b k v l none).count d ctrTBL 9, { code := cDONE, lay := l.isLay, bucket := k }) := by
  simp only [State.tblOwn, hfind]
  rcases hop with rfl | ⟨rfl, hidle⟩
  · cases l <;> rfl
  · simp only [hidle]
    cases l <;> rfl

/-- DELETE_IF_IDLE of an entry with HIT clears it and leaves the entry (R257). -/
theorem State.tblOwn_deleteIfIdle_active (hhit : entHit e = true) :
    s.tblOwn d 5 b k gen key res v =
      (s.entWrite d b k v l (some (entSetHit e false)), { code := cACTIVE, lay := l.isLay, bucket := k }) := by
  simp only [State.tblOwn, hfind, hhit]
  cases l <;> rfl

theorem State.tblOwn_readClearHit :
    s.tblOwn d 6 b k gen key res v =
      (s.entWrite d b k v l (some (entSetHit e false)),
        { code := cDONE, lay := l.isLay, bucket := k, out := e.drop 4 }) := by
  simp only [State.tblOwn, hfind]
  cases l <;> rfl

end

end

end Sys2Proof.Machine
end

section
/-! SUPPORT. The words of an on-chip slot that is written (R234, R358). -/

namespace Sys2Proof.Machine

open Sys2Proof

/-- A table in which consecutive keys were set holds a value of its own at each of them, and elsewhere what it held. -/
theorem sgetD_foldl_sset_run {α : Type} (f : Nat → α) (base a : Nat) (dflt : α) (l : List Nat) (m : Store α) :
    sgetD (l.foldl (fun m j => sset m (base + j) (f j)) m) a dflt =
      if base ≤ a ∧ a - base ∈ l then f (a - base) else sgetD m a dflt := by
  induction l generalizing m with
  | nil => simp
  | cons j l ih =>
    rw [List.foldl_cons, ih]
    by_cases e : a = base + j
    · subst e
      simp
    · have hj : base ≤ a → a - base ≠ j := by omega
      rw [sgetD_sset_ne m (f j) dflt e]
      by_cases hb : base ≤ a
      · simp [hb, hj hb]
      · simp [hb]

/-- One word of a slot is written with fresh check bits. -/
def Die.putSlotWord (base : Nat) (e : List Word) (x : Die) (j : Nat) : Die :=
  { x.freshUnit 5 0 (base + j) with tbl := { x.tbl with store := sset x.tbl.store (base + j) (e.getD j 0) } }

theorem State.slotWrite_chip {s : State} {d b : Nat} (k i : Nat) (slots : List (List Word)) (e : List Word)
    (hloc : s.bodyLoc d b ≠ 2) :
    s.slotWrite d b k slots i e = s.modDie d fun x => (List.range 8).foldl (Die.putSlotWord (k * 32 + i * 8) e) x :=
  if_neg hloc

theorem Die.tbl_putSlotWords (base : Nat) (e : List Word) (l : List Nat) (x : Die) :
    (l.foldl (Die.putSlotWord base e) x).tbl =
      { x.tbl with store := l.foldl (fun m j => sset m (base + j) (e.getD j 0)) x.tbl.store } := by
  induction l generalizing x with
  | nil => rfl
  | cons j l ih => rw [List.foldl_cons, ih]; rfl

/-- What a table holds after the eight words of an on-chip slot are written. -/
theorem State.tbl_slotWrite_chip {s : State} {d b : Nat} (k i : Nat) (slots : List (List Word)) (e : List Word) (h8 : d < 8)
    (hloc : s.bodyLoc d b ≠ 2) : ((s.slotWrite d b k slots i e).die d).tbl = { (s.die d).tbl with
      store := (List.range 8).foldl (fun m j => sset m (k * 32 + i * 8 + j) (e.getD j 0)) (s.die d).tbl.store } := by
  rw [State.slotWrite_chip k i slots e hloc, State.die_modDie _ _ h8, Die.tbl_putSlotWords]

theorem State.slotWrite_chip_words {s : State} {d b : Nat} (k i a : Nat) (slots : List (List Word)) (e : List Word) (h8 : d < 8)
    (hloc : s.bodyLoc d b ≠ 2) : sgetD ((s.slotWrite d b k slots i e).die d).tbl.store a 0 =
      if k * 32 + i * 8 ≤ a ∧ a < k * 32 + i * 8 + 8 then e.getD (a - (k * 32 + i * 8)) 0
      else sgetD (s.die d).tbl.store a 0 := by
  rw [State.tbl_slotWrite_chip k i slots e h8 hloc]
  refine (sgetD_foldl_sset_run (fun j => e.getD j 0) _ a 0 _ _).trans (if_congr ?_ rfl rfl)
  rw [List.mem_range]
  omega

end Sys2Proof.Machine
end

section
/-! SUPPORT. The accesses of a WALK under way (R246, R250, R251). -/

namespace Sys2Proof.Machine

open Sys2Proof

variable {s u : State} {d src out n now : Nat} {clear : Bool} {w v : Walk}

/-! ### Positions -/

/-- The walk with its next n positions behind it. -/
def Walk.past (w : Walk) (n now : Nat) : Walk := { w with left := w.left - n, next := now + n }

theorem Walk.pass_lay_end {buckets : Nat} (hlay : w.lay = true) (hp : 4096 ≤ w.pos + n) :
    w.pass buckets n now = .fin cDONE { w.past n now with pos := 0 } true := by
  simp [Walk.pass, Walk.past, hlay, hp]

theorem Walk.pass_to_lay {buckets : Nat} (hlay : w.lay = false) (hp : 4 * buckets ≤ w.pos + n) (hn : n < w.left) :
    w.pass buckets n now = .go { w.past n now with pos := 0, lay := true } := by
  have hleft : w.left - n ≠ 0 := by omega
  simp [Walk.pass, Walk.past, hlay, hp, hleft]

/-- Within the bucket phase the walk goes on until COUNT is reached. -/
theorem Walk.pass_bucket {buckets : Nat} (hlay : w.lay = false) (hp : w.pos + n < 4 * buckets) :
    w.pass buckets n now =
      if w.left ≤ n then .fin cDONE { w.past n now with pos := w.pos + n } false
      else .go { w.past n now with pos := w.pos + n } := by
  have hin : ¬4 * buckets ≤ w.pos + n := by omega
  simp [Walk.pass, Walk.past, hlay, hin, Nat.sub_eq_zero_iff_le]

/-! ### Records -/

theorem State.walkRecord_other {e : List Word} {f : State → State} (h : entValid e = false ∨ entBody e ≠ w.body) :
    s.walkRecord d src out clear w e f = (s, w) := by
  refine if_neg ?_
  rcases h with h | h <;> simp [h]

theorem State.walkRecord_entry {e : List Word} {f : State → State} (hr : s.reach d src = true) (hv : entValid e = true)
    (hb : entBody e = w.body) :
    let u := (s.emit (.hostWrite src (out + 64 * w.recs) (slotBytes e))).count d ctrTBL 14
    s.walkRecord d src out clear w e f = (if clear && entHit e then f u else u, { w with recs := w.recs + 1 }) := by
  simp [State.walkRecord, hr, hv, hb]

/-! ### Accesses -/

theorem State.walkNext_poisoned {slots : List (List Word)} (hlay : w.lay = false) (hdead : s.bodyDead d w.body = false)
    (hpos : w.pos < 4 * s.bodySize d w.body)
    (hread : s.bucketRead d w.body (s.bodyBase d w.body + w.pos / 4) false = (u, some (slots, true))) :
    s.walkNext d src out clear w = (u, .fin cPOISON { w with pos := w.pos / 4 * 4 } false) := by
  obtain ⟨⟨hloc, hfit⟩, hinit⟩ :
      (s.bodyLoc d w.body ≠ 0 ∧ s.bodyFits d w.body = true) ∧ (s.die d).tbl.init ≠ some w.body := by
    simpa [State.bodyDead] using hdead
  simp [State.walkNext, State.walkBucket, hlay, hloc, hfit, hinit, Nat.not_le.mpr hpos, hread]

/-- A walk that its access brings to its end completes with its cursor and the records that it has written. -/
theorem State.walkCycle_done {c : RCmd} {ended : Bool} (hw : c.walk = some w) (hnext : w.next ≤ s.now)
    (hgate : s.pipeGate d (cmdSource d src) c.order = (s, true))
    (hfin : (s.pipeTake d (cmdSource d src) c.order).walkNext d src c.d3 (bit c.d0 28) w = (u, .fin cDONE v ended)) :
    s.walkCycle d (src, c) = u.begunEnd d src c cDONE (v.c1 ended) := by
  simp only [State.walkCycle, hw, Nat.not_lt.mpr hnext, hgate, hfin, if_false]
  rfl

end Sys2Proof.Machine
end

section
/-! PROOFS. Table commands. -/

namespace Sys2Proof.Machine

open Sys2Proof

section
variable {s u : State} {i : Instr} {d op : Nat} {c : RCmd} {r : TblReq}

/-- A single-bucket command with its access point granted runs, and completes unless the DRAM holds it (R250). -/
theorem exec_tableSingle (hi : tableCommand i = some (d, op)) (h : s.tableHead d op c) (hf : s.tblFormed d c = true)
    (hg : s.tableGranted d c r) (hop : op ≤ 6) :
    let run := (s.tableTaken d c).tblRun d op (bits c.d0 8 6) (bits c.d0 24 4) (argWords c 0 4) (argWords c 4 3) false
      (s.tableActiveFor d r)
    (run = (u, none) → exec i s = .next (s.keep u)) ∧
    ∀ o : TblOut, run = (u, some o) →
      let v := if o.out = [] then u else u.emit (.hostWrite d (c.d1 + 32) (slotBytes o.out))
      exec i s = .next (s.keep (v.tblEnd d c o.code (if o.lay then 2 ^ 11 else 0) (o.bucket % 2 ^ 22))) := by
  have hc : c.op = op := h.op_eq
  subst hc
  rw [exec_tableGranted hi h hf hg]
  refine ⟨fun hrun => ?_, fun o hrun => ?_⟩
  · rw [State.tblApply_single_waits hop hrun, headStep]
  · rw [State.tblApply_single_ends hop hrun, headStep]

/-- WALK with its access point granted starts from its cursor (R251). -/
theorem exec_walk (h : s.tableHead d 7 c) (hf : s.tblFormed d c = true) (hg : s.tableGranted d c r) :
    exec (.walk d) s = .next (s.keep (headStep d c ((s.tableTaken d c).walkStart d (s.tableActiveFor d r) c))) := by
  rw [exec_tableGranted rfl h hf hg, State.tblApply_walk h.op_eq]

end

/-- Settles O51: a granted command comes to its run, whose outcome turns on what its one access sees; a slot's words are written
one by one; a WALK passes over positions and completes with its cursor. -/
theorem tableCommandsActOnTheirBucket : Obligations.TableCommandsActOnTheirBucket := by
  refine ⟨?_, ?_, ?_, ?_, ?_, ?_, ?_, ?_, ?_⟩
  · -- a command at the head of its ring
    intro s i d op c hi h
    refine ⟨exec_tableMalformed hi h, fun r u hf hr hgate => ?_, fun r hf hg hop => ⟨fun u => ?_, fun u => ?_⟩⟩
    · rw [exec_tableFormed hi h hf, State.tblAccess_held hr hgate, headStep]
    · exact (exec_tableSingle hi h hf hg hop).1
    · exact (exec_tableSingle hi h hf hg hop).2
  · -- the grant of a pipe
    intro s d p r hp
    refine ⟨fun h => ?_, fun hgr q hq hqp hcomp => ?_⟩
    · by_contra hgr
      rw [Bool.not_eq_false] at hgr
      rcases h with h | h
      · exact ((State.granted_iff hp).mp hgr).1 h
      · exact Bool.false_ne_true ((State.swapHolds_of_granted hp hgr).symm.trans h)
    · exact Prod.Lex.toLex_le_toLex.mp (State.roundPlace_le_of_granted hp hgr (State.mem_pipeReqs.mpr ⟨hq, hqp, hcomp⟩))
  · -- what a single-bucket command does
    intro s d op t gen key res thread active b k
    refine ⟨State.tblRun_malformed, State.tblRun_state, fun u v hopen hgo hview => ⟨fun hp => ?_, fun hp hfind => ?_,
      fun l e hp hfind => ?_⟩⟩
    · exact State.tblRun_poisoned hopen hgo hview hp
    · have run {w : State} {o : TblOut} (hown : u.tblOwn d op b k gen key res v = (w, o)) :=
        State.tblRun_own (thread := thread) hopen hgo hview hp hown
      have done {w : State} {o : TblOut} (hown : u.tblOwn d op b k gen key res v = (w, o)) :=
        State.tblRun_done (thread := thread) hopen hgo hview hp hown
      refine ⟨fun h => ?_, fun h => ?_, fun i h hi hfree hbefore => ?_, fun h hfull hno => ?_, fun h hfull hbody hstore => ?_⟩
      · subst h
        rw [run (State.tblOwn_none (by decide) hfind), if_pos rfl, State.tblTally_notFound _ d t b k thread (by decide)]
      · rw [run (State.tblOwn_none (by omega) hfind), if_neg (by omega), State.tblTally_notFound _ d t b k thread (by omega)]
      · subst h
        exact done (State.tblOwn_insert_slot hfind hi hfree hbefore) rfl
      · subst h
        exact run (State.tblOwn_insert_rehash hfind hfull hno)
      · subst h
        obtain ⟨w, hown⟩ := State.tblOwn_insert_lay (k := k) (res := res) hfind hfull hbody hstore
        exact ⟨w, done hown rfl⟩
    · have run {w : State} {o : TblOut} (hown : u.tblOwn d op b k gen key res v = (w, o)) :=
        State.tblRun_own (thread := thread) hopen hgo hview hp hown
      have done {w : State} {o : TblOut} (hown : u.tblOwn d op b k gen key res v = (w, o)) :=
        State.tblRun_done (thread := thread) hopen hgo hview hp hown
      refine ⟨fun h hl => ?_, fun h hl => ?_, fun h => ?_, fun h => ?_, fun h => ?_, fun h hhit => ?_, fun h => ?_⟩
      · subst h
        rw [done (State.tblOwn_lookup hfind) rfl, hl]
        rfl
      · subst h
        rw [done (State.tblOwn_lookup hfind) rfl, hl]
        rfl
      · subst h
        exact run (State.tblOwn_insert_exists hfind)
      · subst h
        exact done (State.tblOwn_update hfind) rfl
      · exact done (State.tblOwn_delete hfind h) rfl
      · subst h
        rw [run (State.tblOwn_deleteIfIdle_active hfind hhit), State.tblTally_active]
      · subst h
        exact done (State.tblOwn_readClearHit hfind) rfl
  · -- the words of a slot
    intro s d b k i slots e h8 hloc hi u
    refine ⟨fun j hj => ?_, fun a ha => ?_, ?_⟩
    · rw [State.slotWrite_chip_words k i _ slots e h8 hloc, if_pos (by omega), Nat.add_sub_cancel_left]
    · rw [State.slotWrite_chip_words k i a slots e h8 hloc, if_neg (by omega)]
    · rw [State.tbl_slotWrite_chip k i slots e h8 hloc]
  · -- WALK
    intro s d c r h hf hg g t b cur ok
    rw [exec_walk h hf hg]
    refine ⟨fun hno => ?_, fun hloc hok hend => ?_, fun hloc hok hfit hn hend hlay hpos => ?_⟩
    · rw [State.walkStart_refused hno, headStep]
    · rw [State.walkStart_empty hloc hok hend, headStep]
    · rw [State.walkStart_begins hloc hok hfit hn hend hlay hpos, headStep, s.now_tableTaken]
  · exact fun s d src out clear w e f hr => ⟨State.walkRecord_other, State.walkRecord_entry hr⟩
  · -- the positions that a walk passes
    intro w buckets n now v
    refine ⟨Walk.pass_lay_end, Walk.pass_to_lay, fun hlay hp hn => ?_, fun hlay hp hn => ?_⟩
    · rw [Walk.pass_bucket hlay hp, if_neg (by omega)]
      rfl
    · rw [Walk.pass_bucket hlay hp, if_pos hn]
      rfl
  · exact fun s u d src out clear w slots hlay hdead hpos hread => State.walkNext_poisoned hlay hdead hpos hread
  · -- the end of a walk
    intro s u d src c w v code ended hw hnext hgate hfin hcode
    subst hcode
    exact State.walkCycle_done hw hnext hgate hfin

end Sys2Proof.Machine
end

section
/-! SUPPORT. Commands of the table ring that have begun, replicas, results that are held, the states of tables and INIT (R244 to
R246, R253, R254, R258, R448). -/

namespace Sys2Proof.Machine

open Sys2Proof

/-! ### Fences, swaps and replicas (R253, R254, R258) -/

section
variable {s u v : State} {d src : Nat} {c : RCmd}

/-- Every result that a fence waits for has been delivered: the fence completes. -/
theorem exec_fenceComplete {f : Fence} {fs : List Fence} (h : s.live d) (hf : (s.die d).tbl.fences = f :: fs)
    (hclear : ∀ w ∈ f.waits, ∀ e ∈ (s.die d).delayed, ¬(e.target = 2 ∧ e.src = w.1 ∧ e.item = w.2))
    (hb : s.begun d 8 (fun src c => src = f.src && c.tag = f.tag) = some (src, c)) :
    exec (.fenceComplete d) s = .next (s.keep
      (((s.modTbl d fun x => { x with fences := fs }).begunEnd d src c cDONE 0).count d ctrTBL 13)) := by
  have hfind : (f :: fs).find? (fun f => f.waits.all fun w =>
      !(s.die d).delayed.any fun e => e.target = 2 && e.src = w.1 && e.item = w.2) = some f := by
    refine List.find?_cons_of_pos ?_
    simpa [and_assoc] using fun a b hw => hclear (a, b) hw
  have herase : (s.modTbl d fun x => { x with fences := x.fences.erase f }) = s.modTbl d fun x => { x with fences := fs } :=
    s.modDie_congr d (by simp only [hf, List.erase_cons_head])
  refine (onDie_live h _).trans ?_
  simp only [hf, hfind, hb, herase]

theorem exec_swapAccessPoint_waits (h : s.live d)
    (hb : s.begun d 9 (fun _ c => !(s.tblReqs d).any (s.beforeSwap d c)) = none) :
    exec (.swapAccessPoint d) s = .next (s.keep s) := by
  refine (onDie_live h _).trans ?_
  simp only [hb]

/-- A swap that waits for nothing before it exchanges the bodies of its tables. -/
theorem exec_swapAccessPoint (h : s.live d)
    (hb : s.begun d 9 (fun _ c => !(s.tblReqs d).any (s.beforeSwap d c)) = some (src, c)) :
    exec (.swapAccessPoint d) s = .next (s.keep
      ((((s.setFld d .tblTabCtl [bits c.d0 8 6] 8 6 (s.bodyOf d (bits c.d2 0 6))).setFld d .tblTabCtl
        [bits c.d2 0 6] 8 6 (s.bodyOf d (bits c.d0 8 6))).begunEnd d src c cDONE 0).count d ctrTBL 12)) := by
  refine (onDie_live h _).trans ?_
  simp only [hb]

theorem exec_replicaCommand_held (h : s.live d) (hr : readyReplica [] (s.die d).replicas = some (src, c))
    (hroute : s.routeHeld src d = true) : exec (.replicaCommand d) s = .next (s.keep s) := by
  refine (onDie_live h _).trans ?_
  simp only [hr, hroute, Bool.true_or, if_true]

section
variable (h : s.live d) (hr : readyReplica [] (s.die d).replicas = some (src, c)) (hroute : s.routeHeld src d = false)
  (hback : s.routeHeld d src = false) (hgo : s.delayGate src 0 (100 + d) (c.tag + 2 ^ 32 * c.op) = (u, true))
include h hr hroute hback hgo

theorem exec_replicaCommand_fin {code c0 c1 : Nat} (ha : u.tblAccess d 15 src c = (v, .fin code c0 c1)) :
    exec (.replicaCommand d) s = .next (s.keep
      ((v.modDie d fun x => { x with replicas := setReplica src none x.replicas }).tblPost d src c code c0 c1)) := by
  refine (onDie_live h _).trans ?_
  simp only [hr, hroute, hback, hgo, ha, Bool.or_self, Bool.not_true, Bool.false_eq_true, if_false]

theorem exec_replicaCommand_begun {c' : RCmd} (ha : u.tblAccess d 15 src c = (v, .begun c')) :
    exec (.replicaCommand d) s = .next (s.keep
      (v.modDie d fun x => { x with replicas := setReplica src (some c') x.replicas })) := by
  refine (onDie_live h _).trans ?_
  simp only [hr, hroute, hback, hgo, ha, Bool.or_self, Bool.not_true, Bool.false_eq_true, if_false]

end
end

/-! ### Results that are held (R448) -/

section
variable {s : State} {d : Nat} {e : Delayed} {es : List Delayed}

theorem releaseFirst_none {now : Nat} {l : List Delayed} (h : ∀ x ∈ l, x.gone = true ∨ now < x.until_) :
    (releaseFirst now l).1 = none := by
  induction l with
  | nil => rfl
  | cons x l ih =>
    obtain ⟨hx, hl⟩ := List.forall_mem_cons.mp h
    have hstays : ¬((!x.gone && decide (x.until_ ≤ now)) = true) := by
      rcases hx with hx | hx
      · simp [hx]
      · simp [Nat.not_le.mpr hx]
    rw [releaseFirst, if_neg hstays]
    exact ih hl

theorem releaseFirst_due {now : Nat} (hgone : e.gone = false) (hdue : e.until_ ≤ now) :
    releaseFirst now (e :: es) = (some e, { e with gone := true } :: es) := by
  simp [releaseFirst, hgone, hdue]

/-- No item is due: nothing is released. -/
theorem exec_delayedItemRelease_waits (h : s.live d) (hw : ∀ x ∈ (s.die d).delayed, x.gone = true ∨ s.now < x.until_) :
    exec (.delayedItemRelease d) s = .next (s.keep s) := by
  refine (onDie_live h _).trans ?_
  have hnone := releaseFirst_none hw
  generalize releaseFirst s.now (s.die d).delayed = r at hnone
  obtain ⟨o, l⟩ := r
  subst hnone
  rfl

section
variable (h : s.live d) (hd : (s.die d).delayed = e :: es) (hgone : e.gone = false) (hdue : e.until_ ≤ s.now)
include h hd hgone hdue

/-- A table completion that is due is posted to its ring, if its die reaches it (R486). -/
theorem exec_delayedItemRelease_completion {src die code tag c0 c1 : Nat} (hdata : e.data = [0, src, die, code, tag, c0, c1]) :
    exec (.delayedItemRelease d) s = .next (s.keep
      (if s.reach die src then (s.dropItem d e).post src 0 die code tag c0 c1 else s.dropItem d e)) := by
  have hreach : (s.dropItem d e).reach die src = s.reach die src := State.reach_congr rfl rfl die src
  refine (onDie_live h _).trans ?_
  rw [hd, releaseFirst_due hgone hdue, ← hreach]
  simp only [hdata]
  rfl

/-- Any other item that is due is marked, and goes at its own event. -/
theorem exec_delayedItemRelease_marks (hdata : e.data.length ≠ 7) :
    exec (.delayedItemRelease d) s =
      .next (s.keep (s.modDie d fun x => { x with delayed := { e with gone := true } :: es })) := by
  refine (onDie_live h _).trans ?_
  rw [hd, releaseFirst_due hgone hdue]
  dsimp only
  split
  · rename_i hmatch
    simp [hmatch] at hdata
  · rfl

end
end

/-! ### The states of a table (R244, R245) -/

theorem exec_tableFreeze {s : State} {d t : Nat} (h : s.hostReaches d) (ht : t < 64) :
    exec (.tableFreeze d t) s = .next (s.keep ((s.tblNote d).setFld d .tblTabCtl [t] 0 1 0)) :=
  onHost_reached h (decide_eq_true ht) fun s => s.tabCtlWrite d t 0

theorem exec_tableActivate {s : State} {d t : Nat} (h : s.hostReaches d) (ht : t < 64) :
    exec (.tableActivate d t) s = .next (s.keep (s.tabCtlWrite d t 1)) :=
  onHost_reached h (decide_eq_true ht) fun s => s.tabCtlWrite d t 1

theorem State.tabCtlWrite_activate (s : State) (d t : Nat) :
    s.tabCtlWrite d t 1 = if s.tabActive d t then s
      else if s.bodyFits d (s.bodyOf d t) = true ∧ (s.die d).tbl.init ≠ some (s.bodyOf d t) then
        s.setFld d .tblTabCtl [t] 0 1 1
      else s.violation d := by
  simp only [State.tabCtlWrite, show bit 1 0 = true from rfl, Bool.not_true, Bool.false_eq_true, if_false,
    Bool.and_eq_true, decide_eq_true_eq]

/-! ### INIT starts (R246) -/

/-- The lay-by entries of a body. -/
def Die.laysOf (x : Die) (b : Nat) : List Nat := (x.tbl.layby.filter fun p => entBody p.2.words = b).map (·.1)

/-- A die as INIT of a body starts: no bucket is rewritten yet, and the body's lay-by entries are free. -/
def Die.initStart (x : Die) (b : Nat) : Die :=
  let y := (x.laysOf b).foldl Die.freshLay x
  { y with tbl := { y.tbl with
    init := some b, initPos := 0, lastInit := b
    layby := y.tbl.layby.filter fun p => !(x.laysOf b).contains p.1
    layPoison := y.tbl.layPoison.filter fun n => !(x.laysOf b).contains n } }

theorem Die.tbl_freshLay (x : Die) (n : Nat) : (x.freshLay n).tbl = x.tbl :=
  List.foldlRecOn (motive := fun y : Die => y.tbl = x.tbl) _ _ rfl fun _ hy _ _ => hy

theorem Die.tbl_freshLays (x : Die) (l : List Nat) : (l.foldl Die.freshLay x).tbl = x.tbl :=
  List.foldlRecOn (motive := fun y : Die => y.tbl = x.tbl) _ _ rfl fun y hy n _ => (y.tbl_freshLay n).trans hy

theorem Die.tbl_initStart (x : Die) (b : Nat) : (x.initStart b).tbl = { x.tbl with
    init := some b, initPos := 0, lastInit := b
    layby := x.tbl.layby.filter fun p => !(x.laysOf b).contains p.1
    layPoison := x.tbl.layPoison.filter fun n => !(x.laysOf b).contains n } := by
  rw [Die.initStart, x.tbl_freshLays]

theorem exec_initStart {s : State} {d b : Nat} (h : s.hostReaches d) (hb : b < 64) :
    exec (.initStart d b) s = .next (s.keep (s.initWrite d (b + 2 ^ 31))) :=
  onHost_reached h (decide_eq_true hb) fun s => s.initWrite d (b + 2 ^ 31)

theorem State.initWrite_go (s : State) (d : Nat) {b : Nat} (hb : b < 64) :
    s.initWrite d (b + 2 ^ 31) =
      if (s.die d).tbl.init ≠ none ∨ s.bodyActive d b = true then s.violation d else s.modDie d fun x => x.initStart b := by
  have hbody : bits (b + 2 ^ 31) 0 6 = b := by
    rw [bits]
    omega
  have hgo : bit (b + 2 ^ 31) 31 = true := by
    simp only [bit, decide_eq_true_eq]
    omega
  simp only [State.initWrite, hbody, hgo, Bool.not_true, Bool.false_eq_true, if_false, Bool.or_eq_true,
    Option.isSome_iff_ne_none]
  rfl

/-- INIT leaves no lay-by entry of its body. -/
theorem Die.entBody_initStart {x : Die} {b : Nat} : ∀ p ∈ (x.initStart b).tbl.layby, entBody p.2.words ≠ b := by
  intro p hp hbody
  rw [Die.tbl_initStart] at hp
  obtain ⟨hmem, hkept⟩ := List.mem_filter.mp hp
  have hlay : p.1 ∈ x.laysOf b := List.mem_map_of_mem (List.mem_filter.mpr ⟨hmem, decide_eq_true hbody⟩)
  simp [hlay] at hkept

/-! ### INIT of a bucket, and its end (R246) -/

theorem State.initSize_eq (s : State) (d b : Nat) :
    s.initSize d b = if s.bodyLoc d b = 0 ∨ s.bodyFits d b = false then 0 else s.bodySize d b := by
  simp [State.initSize]

theorem exec_initComplete {s : State} {d b : Nat} (h : s.live d) (hi : (s.die d).tbl.init = some b) :
    exec (.initComplete d) s = .next (s.keep
      (if s.initSize d b ≤ (s.die d).tbl.initPos then s.modTbl d fun t => { t with init := none } else s)) := by
  refine (onDie_live h _).trans ?_
  simp only [hi]

/-- INIT rewrites its next on-chip bucket in a pipe cycle that no access has claimed. -/
theorem State.initNext_chip {s : State} {d b : Nat} (hfit : s.bodyFits d b = true) (hloc : s.bodyLoc d b = 1)
    (hpos : (s.die d).tbl.initPos < s.bodySize d b) :
    let k := s.bodyBase d b + (s.die d).tbl.initPos
    s.initNext d b = if (s.pipeOf d (k % 4)).at_ = some s.now then s else (s.modDie d fun x => x.initChip b k).modTbl d
      fun t => { t with initPos := (s.die d).tbl.initPos + 1 } := by
  have hsize : s.initSize d b = s.bodySize d b := by simp [State.initSize, hfit, hloc]
  simp only [State.initNext, hsize, Nat.not_le.mpr hpos, hloc, if_true, if_false]

theorem sget_filter {α : Type} {m : Store α} (hs : (m.map (·.1)).Pairwise (· < ·)) (keep : Nat → Bool) (k : Nat) :
    sget (m.filter fun p => keep p.1) k = if keep k then sget m k else none := by
  induction m with
  | nil => simp [sget]
  | cons p m ih =>
    obtain ⟨j, v⟩ := p
    obtain ⟨hj, hm⟩ := List.pairwise_cons.mp hs
    have habove : Store.above j m := fun q hq => hj q.1 (List.mem_map_of_mem hq)
    cases hkeep : keep j with
    | true =>
      rw [List.filter_cons_of_pos (by simpa using hkeep), sget, ih hm, sget]
      by_cases e : j = k
      · subst e
        simp [hkeep]
      · cases keep k <;> simp [e]
    | false =>
      rw [List.filter_cons_of_neg (by simp [hkeep]), ih hm, sget]
      by_cases e : j = k
      · subst e
        simp [hkeep]
      · by_cases hlt : k < j
        · simp [e, hlt, sget_of_above fun q hq => hlt.trans (habove q hq)]
        · simp [e, hlt]

/-- The words of an on-chip bucket that INIT of a body rewrites: those of its slots that are invalid, of the body, or poisoned. -/
def Tables.initHit (t : Tables) (b k u : Nat) : Bool := u / 32 = k && t.initSlot b (u / 8)

theorem Die.sgetD_initChip {x : Die} (b k u : Nat) (hs : (x.tbl.store.map (·.1)).Pairwise (· < ·)) :
    sgetD (x.initChip b k).tbl.store u 0 = if x.tbl.initHit b k u then 0 else sgetD x.tbl.store u 0 := by
  have hget := sget_filter hs (fun u => !x.tbl.initHit b k u) u
  change (sget (x.tbl.store.filter fun p => !x.tbl.initHit b k p.1) u).getD 0 = _
  rw [hget]
  cases x.tbl.initHit b k u <;> rfl

theorem Die.poison_initChip {x : Die} {b k u : Nat} (h : x.tbl.initHit b k u = true) : u ∉ (x.initChip b k).tbl.poison := by
  intro hu
  have hkept : (!x.tbl.initHit b k u) = true := (List.mem_filter.mp hu).2
  simp [h] at hkept

end Sys2Proof.Machine
end

section
/-! PROOFS. Fences, swaps, replicas, results that are held, the states of tables and INIT. -/

namespace Sys2Proof.Machine

open Sys2Proof

section
variable {s : State} {d : Nat} {c : RCmd} {r : TblReq}

theorem exec_fence (h : s.tableHead d 8 c) (hf : s.tblFormed d c = true) (hg : s.tableGranted d c r) :
    let g := s.tableTaken d c
    exec (.fence d) s = .next (s.keep ((g.modTbl d fun x => { x with fences := x.fences ++ [g.fenceOf d d c] }).ringSet d 0
      { c with started := true, since := s.now })) := by
  intro g
  rw [exec_tableGranted rfl h hf hg, State.tblApply_fence h.op_eq, headStep, s.now_tableTaken]

theorem exec_swapTable (h : s.tableHead d 9 c) (hf : s.tblFormed d c = true) (hg : s.tableGranted d c r) :
    let g := s.tableTaken d c
    let t := bits c.d0 8 6
    let refused := g.bodyLoc d (g.bodyOf d t) = 0 ∨ s.tableActiveFor d r = false
    (refused → exec (.swapTable d) s =
      .next (s.keep ((g.tblTally d cSTATE t (g.bodyOf d t) 9 0 false).tblEnd d c cSTATE 0 0))) ∧
    (¬refused → exec (.swapTable d) s =
      .next (s.keep (g.ringSet d 0 { c with started := true, since := ((s.tblNote d).noteOf d r).order }))) := by
  intro g t refused
  rw [exec_tableGranted rfl h hf hg, State.tblApply_swap h.op_eq]
  refine ⟨fun hno => ?_, fun hok => ?_⟩
  · rw [if_pos hno, headStep]
  · rw [if_neg hok, headStep]

end

/-- Settles O52: each command is one change of the engine whose guards the hypotheses decide; INIT leaves of its body neither a
lay-by entry when it starts nor a slot of a bucket that it rewrites. -/
theorem tableStatesChange : Obligations.TableStatesChange := by
  refine ⟨?_, ?_, ?_, ?_, ?_, ?_, ?_, ?_, ?_, ?_, ?_, ?_⟩
  · exact fun s d c r h hf hg => exec_fence h hf hg
  · -- SWAP_TABLE
    intro s d c r h hf hg g t b
    refine ⟨fun hno => (exec_swapTable h hf hg).1 hno, fun hloc hact => (exec_swapTable h hf hg).2 ?_⟩
    rintro (hno | hno)
    · exact hloc hno
    · exact Bool.false_ne_true (hno.symm.trans hact)
  · exact fun s d h => ⟨exec_swapAccessPoint_waits h, fun src c hb => exec_swapAccessPoint h hb⟩
  · -- who waits for a swap, and whom a swap waits for
    intro s d c r hc hshare
    have hs := (r.shares_iff c).mpr hshare
    refine ⟨fun hle => List.any_eq_true.mpr ⟨c, hc, ?_⟩, fun hlt => ?_⟩
    · simp [hs, hle]
    · simp [State.beforeSwap, hs, hlt]
  · exact fun s d src c f fs h hf hclear hb => exec_fenceComplete h hf hclear hb
  · exact fun s u d src c h hr => ⟨exec_replicaCommand_held h hr, fun hroute hback hgo =>
      ⟨fun v code c0 c1 ha => exec_replicaCommand_fin h hr hroute hback hgo ha,
        fun v c' ha => exec_replicaCommand_begun h hr hroute hback hgo ha⟩⟩
  · -- DELAYED_ITEM_RELEASE
    intro s d e es h hd hgone
    refine ⟨fun hnow hes => exec_delayedItemRelease_waits h ?_, exec_delayedItemRelease_marks h hd hgone,
      fun src die code tag c0 c1 hdue hdata => exec_delayedItemRelease_completion h hd hgone hdue hdata⟩
    rw [hd]
    exact List.forall_mem_cons.mpr ⟨.inr hnow, hes⟩
  · -- TABLE_FREEZE and TABLE_ACTIVATE
    intro s d t h ht b
    rw [exec_tableActivate h ht, s.tabCtlWrite_activate d t]
    refine ⟨exec_tableFreeze h ht, fun ha => ?_, fun ha hfit hinit => ?_, fun ha hno => ?_⟩
    · rw [if_pos ha]
    · rw [if_neg (by simp [ha]), if_pos ⟨hfit, hinit⟩]
    · rw [if_neg (by simp [ha]), if_neg]
      rintro ⟨hfit, hinit⟩
      rcases hno with hno | hno
      · exact Bool.false_ne_true (hno.symm.trans hfit)
      · exact hinit hno
  · -- INIT_START
    intro s d b h hb
    rw [exec_initStart h hb, s.initWrite_go d hb]
    refine ⟨fun hno => by rw [if_pos hno], fun hnone hidle => ⟨s.modDie d fun x => x.initStart b, ?_⟩⟩
    have htbl := congrArg Die.tbl (s.die_modDie (fun x => x.initStart b) (State.reach_lt h.2))
    rw [if_neg (by simp [hnone, hidle]), htbl]
    refine ⟨rfl, ?_, ?_, ?_, ?_, Die.entBody_initStart⟩ <;> rw [Die.tbl_initStart]
  · -- INIT_COMPLETE
    intro s d b h hi size
    have hsize : s.initSize d b = size := s.initSize_eq d b
    rw [exec_initComplete h hi, hsize]
    exact ⟨fun hle => by rw [if_pos hle], fun hlt => by rw [if_neg (Nat.not_le.mpr hlt)]⟩
  · -- the next on-chip bucket
    intro s d b hfit hloc hpos k used
    refine ⟨fun hu => ?_, fun hu => ?_⟩
    · exact (State.initNext_chip hfit hloc hpos).trans (if_pos hu)
    · exact (State.initNext_chip hfit hloc hpos).trans (if_neg hu)
  · -- the words of an on-chip bucket
    intro x b k u hs y
    refine ⟨fun hlo hhi hslot => ?_, fun h => ?_⟩
    · have hhit : x.tbl.initHit b k u = true := by
        rw [Tables.initHit, hslot, Bool.and_true, decide_eq_true_eq]
        omega
      exact ⟨(Die.sgetD_initChip b k u hs).trans (if_pos hhit), Die.poison_initChip hhit⟩
    · refine (Die.sgetD_initChip b k u hs).trans (if_neg ?_)
      rw [Tables.initHit, Bool.and_eq_true, decide_eq_true_eq]
      rintro ⟨hk, hslot⟩
      rcases h with h | h | h
      · omega
      · omega
      · exact Bool.false_ne_true (h.symm.trans hslot)

end Sys2Proof.Machine
end

section
/-! SUPPORT. What the axes go by: the variant, the model's clock, the links, the axes on die 0, each die's copy of axis 0 with
what it has heard of the broadcast, and RATE. Reports, and the moves that milestones watch, leave all of it. -/

namespace Sys2Proof.Machine

open Sys2Proof

/-- A die's copy of axis 0, whether it has lost the broadcast, when it last heard it, and its RATE. -/
structure DieTime where
  t0 : Nat
  frac : Nat
  lost : Bool
  frameAt : Nat
  rate : Nat

/-- What the axes go by. -/
structure AxisBase where
  fuses : Fuses
  now : Nat
  links : Store LinkState
  ax : Axes
  dies : Nat → DieTime

def Die.axisBase (x : Die) : DieTime :=
  ⟨x.t0, x.t0frac, x.mls.lost, x.mls.frameAt, sgetD x.regs (regOff .mlsTimeRate []) 0⟩

def State.axisBase (s : State) : AxisBase := ⟨s.fuses, s.now, s.fab.links, s.ax, fun d => (s.die d).axisBase⟩

section
variable {s t : State} (h : t.axisBase = s.axisBase)
include h

theorem State.fuses_of_axisBase : t.fuses = s.fuses := congrArg AxisBase.fuses h

theorem State.now_of_axisBase : t.now = s.now := congrArg AxisBase.now h

theorem State.links_of_axisBase : t.fab.links = s.fab.links := congrArg AxisBase.links h

theorem State.ax_of_axisBase : t.ax = s.ax := congrArg AxisBase.ax h

theorem State.dieTime_of_axisBase (d : Nat) : (t.die d).axisBase = (s.die d).axisBase :=
  congrFun (congrArg AxisBase.dies h) d

theorem State.time_of_axisBase (d : Nat) : t.time d = s.time d := congrArg DieTime.t0 (State.dieTime_of_axisBase h d)

theorem State.lost_of_axisBase (d : Nat) : (t.die d).mls.lost = (s.die d).mls.lost :=
  congrArg DieTime.lost (State.dieTime_of_axisBase h d)

theorem State.frameAt_of_axisBase (d : Nat) : (t.die d).mls.frameAt = (s.die d).mls.frameAt :=
  congrArg DieTime.frameAt (State.dieTime_of_axisBase h d)

end

variable (s : State)

/-! ### Changes of a die -/

theorem State.axisBase_modDie (d : Nat) (f : Die → Die) (h : (f (s.die d)).axisBase = (s.die d).axisBase) :
    (s.modDie d f).axisBase = s.axisBase :=
  congrArg (AxisBase.mk s.fuses s.now s.fab.links s.ax) (funext fun e => s.proj_modDie Die.axisBase d e f h)

@[simp] theorem State.axisBase_emit (o : Out) : (s.emit o).axisBase = s.axisBase := rfl

@[simp] theorem State.axisBase_count (d b i n : Nat) : (s.count d b i n).axisBase = s.axisBase := by
  obtain ⟨cs, hc⟩ := s.count_spec d b i n
  exact hc ▸ s.axisBase_modDie d _ rfl

@[simp] theorem State.axisBase_modHop (d : Nat) (f : Hopper → Hopper) : (s.modHop d f).axisBase = s.axisBase :=
  s.axisBase_modDie d _ rfl

theorem State.axisBase_modMls (d : Nat) (f : Mls → Mls) (hl : (f (s.die d).mls).lost = (s.die d).mls.lost)
    (hf : (f (s.die d).mls).frameAt = (s.die d).mls.frameAt) : (s.modMls d f).axisBase = s.axisBase :=
  s.axisBase_modDie d _ (by simp only [Die.axisBase, hl, hf])

/-- A register other than RATE is written. -/
theorem State.axisBase_setReg (d : Nat) {r : RegId} {ix : List Nat} (v : Nat) (h : regOff r ix ≠ regOff .mlsTimeRate []) :
    (s.setReg d r ix v).axisBase = s.axisBase :=
  s.axisBase_modDie d _ (by simp only [Die.axisBase, sgetD_sset_ne _ _ _ h.symm])

/-! ### Interrupts (R380) -/

/-- The words of the pending bits of the interrupts lie apart from RATE. -/
theorem msixPba_ne_timeRate : ∀ i < 8, regOff .dctlMsixPba [i] ≠ regOff .mlsTimeRate [] := by decide

/-- The sources of a die's blocks are numbered below 32. -/
@[simp] theorem State.axisBase_sendMsix (d src : Nat) (h : src < 32) : (s.sendMsix d src).axisBase = s.axisBase := by
  unfold State.sendMsix
  split
  next hd =>
    have hd8 := State.has_lt hd
    dsimp only
    split
    · exact s.axisBase_setReg 0 _ (msixPba_ne_timeRate _ (by omega))
    · simp
  next => rfl

theorem State.axisBase_watch (d src : Nat) (h : src < 32) {f : State → State} (hf : (f s).axisBase = s.axisBase) :
    (s.watch d src f).axisBase = s.axisBase := by
  rcases s.watch_cases d src f with hw | hw
  · rw [hw, hf]
  · rw [hw, State.axisBase_sendMsix _ d src h, hf]

theorem evRegs_ne_timeRate (b : EvBlock) : regOff (evRegs b).1 [] ≠ regOff .mlsTimeRate [] := by cases b <;> decide

theorem evSource_lt (b : EvBlock) : evSource b < 32 := by cases b <;> decide

@[simp] theorem State.axisBase_event (d : Nat) (b : EvBlock) (i : Nat) : (s.event d b i).axisBase = s.axisBase :=
  s.axisBase_watch d _ (evSource_lt b) (s.axisBase_setReg d _ (evRegs_ne_timeRate b))

/-! ### Folds -/

theorem State.axisBase_foldl {α : Type} (l : List α) {f : State → α → State}
    (hf : ∀ (u : State) (a : α), (f u a).axisBase = u.axisBase) : (l.foldl f s).axisBase = s.axisBase :=
  List.foldlRecOn (motive := fun u => u.axisBase = s.axisBase) l f rfl fun u hu a _ => (hf u a).trans hu

theorem State.axisBase_eachDie {f : State → Nat → State} (hf : ∀ (u : State) (d : Nat), (f u d).axisBase = u.axisBase) :
    (s.eachDie f).axisBase = s.axisBase :=
  s.axisBase_foldl _ fun u d => by
    split
    · exact hf u d
    · rfl

/-! ### Moves (R282 to R287) -/

@[simp] theorem State.axisBase_msSet (d m : Nat) (f : List Word → List Word) : (s.msSet d m f).axisBase = s.axisBase :=
  s.axisBase_modMls d _ rfl rfl

@[simp] theorem State.axisBase_msAdvance (d m k : Nat) (v : Move) : (s.msAdvance d m k v).axisBase = s.axisBase :=
  s.axisBase_modMls d _ rfl rfl

@[simp] theorem State.axisBase_msMissed (d m k : Nat) : (s.msMissed d m k).axisBase = s.axisBase := by
  unfold State.msMissed
  split
  · rfl
  · simp

theorem State.axisBase_msHit (d : Nat) (v : Move) (m : Nat) : (s.msHit d v m).axisBase = s.axisBase := by
  have due : ∀ f : Firing, (s.modMls d fun x => { x with due := dueInsert f x.due }).axisBase = s.axisBase :=
    fun f => s.axisBase_modMls d _ rfl rfl
  unfold State.msHit
  split
  · rfl
  · dsimp only
    split
    · split <;> simp
    · split <;> simp [due]

@[simp] theorem State.axisBase_msMoves (d : Nat) (vs : List Move) : (s.msMoves d vs).axisBase = s.axisBase :=
  s.axisBase_foldl _ fun u x => u.axisBase_msHit d x.move x.ms

@[simp] theorem State.axisBase_setView (d n : Nat) (r : AxisRec) (v : Int) : (s.setView d n r v).axisBase = s.axisBase :=
  s.axisBase_modMls d _ rfl rfl

@[simp] theorem State.axisBase_axGrow (d n : Nat) : (s.axGrow d n).axisBase = s.axisBase := by
  unfold State.axGrow
  dsimp only
  split
  · rfl
  · simp

@[simp] theorem State.axisBase_msEval (d : Nat) : (s.msEval d).axisBase = s.axisBase := by
  unfold State.msEval
  refine (State.axisBase_foldl _ _ fun u n => u.axisBase_axGrow d n).trans ?_
  split
  · exact (State.axisBase_modMls _ d _ rfl rfl).trans (s.axisBase_msMoves d _)
  · rfl

@[simp] theorem State.axisBase_putView (d n : Nat) (r : AxisRec) (v : Int) : (s.putView d n r v).axisBase = s.axisBase := by
  unfold State.putView
  dsimp only
  split <;> simp

@[simp] theorem State.axisBase_axMove (d : Nat) (edge model : List Move) : (s.axMove d edge model).axisBase = s.axisBase := by
  unfold State.axMove
  split
  · split <;> simp
  · simp

@[simp] theorem State.axisBase_axReplace (d n : Nat) (r : AxisRec) (dir : Int) :
    (s.axReplace d n r dir).axisBase = s.axisBase := by
  simp [State.axReplace]

end Sys2Proof.Machine
end

section
/-! SUPPORT. The axes on die 0 and their views: edges, crossings and index edges, the broadcast, records on their way, enabling,
1PPS, jumps and the axis journal (R265 to R279, R286, R295). -/

namespace Sys2Proof.Machine

open Sys2Proof

/-! ### Encoders (R268, R269) -/

section
variable {s : State} {enc held : Nat} {a b : Bool} (h : s.inReset = false) (he : enc < 6)
include h he

/-- The state with new levels of an encoder's A and B (R268). -/
def State.withLevels (s : State) (enc : Nat) (a b : Bool) : State :=
  s.modAx fun x => { x with enc := sset x.enc enc ((if a then 1 else 0) + if b then 2 else 0) }

theorem exec_encoderEdge_still (ha : a = bit (sgetD s.ax.enc enc 0) 0) (hb : b = bit (sgetD s.ax.enc enc 0) 1) :
    exec (.encoderEdge enc a b held) s = .next (s.keep s) := by
  refine (if_neg (Nat.not_le.mpr he)).trans ((cmd_awake h _).trans ?_)
  simp only [← ha, ← hb, ne_eq, not_true_eq_false, decide_false, Bool.not_false, Bool.and_self, if_true]

theorem exec_encoderEdge_glitch (hc : a ≠ bit (sgetD s.ax.enc enc 0) 0 ∨ b ≠ bit (sgetD s.ax.enc enc 0) 1)
    (hheld : held < bits (s.reg 0 .mlsInputCfg [enc]) 0 6) :
    exec (.encoderEdge enc a b held) s = .next (s.keep (s.count 0 ctrMLS 9)) := by
  refine (if_neg (Nat.not_le.mpr he)).trans ((cmd_awake h _).trans ?_)
  simp only [hheld, if_true]
  rw [if_neg]
  simpa [← Decidable.not_and_iff_or_not] using hc

variable (hheld : bits (s.reg 0 .mlsInputCfg [enc]) 0 6 ≤ held)
include hheld

theorem exec_encoderEdge_both (ha : a ≠ bit (sgetD s.ax.enc enc 0) 0) (hb : b ≠ bit (sgetD s.ax.enc enc 0) 1) :
    exec (.encoderEdge enc a b held) s =
      .next (s.keep (((s.withLevels enc a b).count 0 ctrMLS 10).event 0 .mls 3)) := by
  refine (if_neg (Nat.not_le.mpr he)).trans ((cmd_awake h _).trans ?_)
  simp only [ne_eq, ha, hb, not_false_eq_true, decide_true, Bool.not_true, Bool.and_self, Bool.false_eq_true, if_false,
    if_true, Nat.not_lt.mpr hheld]
  rfl

theorem exec_encoderEdge_a (ha : a ≠ bit (sgetD s.ax.enc enc 0) 0) (hb : b = bit (sgetD s.ax.enc enc 0) 1) :
    let te := since (s.time 0) (bits (s.reg 0 .mlsInputCfg [enc]) 0 6)
    let u := s.withLevels enc a b
    exec (.encoderEdge enc a b held) s = .next (s.keep
      (if encoderCounts (bits (s.reg 0 .mlsInputCfg [enc]) 6 2) true a then
        (u.axesOf enc (· < 2)).foldl (fun s n => s.axEdge n te (decide (a = b))) (u.count 0 ctrMLS 8)
      else u)) := by
  refine (if_neg (Nat.not_le.mpr he)).trans ((cmd_awake h _).trans ?_)
  have hmode : encoderCounts (bits (s.reg 0 .mlsInputCfg [enc]) 6 2) true a =
      !(decide (bits (s.reg 0 .mlsInputCfg [enc]) 6 2 = 2) && !a) := by
    rw [encoderCounts]
    split <;> simp [*]
  simp only [ne_eq, ha, ← hb, not_true_eq_false, not_false_eq_true, decide_true, decide_false, Bool.not_true, Bool.not_false,
    Bool.false_and, Bool.and_false, Bool.false_eq_true, if_false, if_true, Nat.not_lt.mpr hheld, hmode]
  cases decide (bits (s.reg 0 .mlsInputCfg [enc]) 6 2 = 2) && !a <;> rfl

theorem exec_encoderEdge_b (ha : a = bit (sgetD s.ax.enc enc 0) 0) (hb : b ≠ bit (sgetD s.ax.enc enc 0) 1) :
    let te := since (s.time 0) (bits (s.reg 0 .mlsInputCfg [enc]) 0 6)
    let u := s.withLevels enc a b
    exec (.encoderEdge enc a b held) s = .next (s.keep
      (if encoderCounts (bits (s.reg 0 .mlsInputCfg [enc]) 6 2) false a then
        (u.axesOf enc (· < 2)).foldl (fun s n => s.axEdge n te (decide (a ≠ b))) (u.count 0 ctrMLS 8)
      else u)) := by
  refine (if_neg (Nat.not_le.mpr he)).trans ((cmd_awake h _).trans ?_)
  have hmode : encoderCounts (bits (s.reg 0 .mlsInputCfg [enc]) 6 2) false a =
      !(decide (bits (s.reg 0 .mlsInputCfg [enc]) 6 2 = 1) || decide (bits (s.reg 0 .mlsInputCfg [enc]) 6 2 = 2)) := by
    rw [encoderCounts]
    split
    · simp [*]
    · split <;> simp [*]
  simp only [ne_eq, hb, ← ha, not_true_eq_false, not_false_eq_true, decide_true, decide_false, Bool.not_true, Bool.not_false,
    Bool.true_and, Bool.false_and, Bool.and_false, Bool.false_eq_true, if_false, Nat.not_lt.mpr hheld, hmode]
  cases decide (bits (s.reg 0 .mlsInputCfg [enc]) 6 2 = 1) <;>
    cases decide (bits (s.reg 0 .mlsInputCfg [enc]) 6 2 = 2) <;> rfl

end

/-! ### Counted edges and index edges (R271 to R273, R278) -/

theorem State.axForced_none (s : State) {m : AxisMaster} (h : m.forced = none) : s.axForced m = false := by
  simp only [State.axForced, h]

@[simp] theorem State.master_setMaster (s : State) (n : Nat) (m : AxisMaster) : (s.setMaster n m).master n = m :=
  sgetD_sset_self ..

@[simp] theorem State.master_sendRec (s : State) (n k : Nat) (r : AxisRec) (dir : Int) :
    (s.sendRec n r dir).master k = s.master k := rfl

theorem State.master_axEdge {s : State} {n te : Nat} (back : Bool) (hf : (s.master n).forced = none)
    (hh : (s.master n).hidden = none) (hi : (s.master n).idxAt ≠ some te) :
    let m := s.master n
    let down := back != bit (s.reg 0 .mlsAxisCfg [n - 1]) 7
    (s.axEdge n te back).master n = { m with
      cur := { m.cur with
        st := 1, ve := axNorm (s.axType n) (if down then m.cur.ve - s.axStep n else m.cur.ve + s.axStep n), te := te, down := down
        p := match m.last with | some (t, e) => if e = down ∧ m.cur.st = 1 then some (since te t) else none | none => none }
      last := some (te, down) } := by
  intro m down
  simp only [State.axEdge, s.axForced_none hf, hf, hh, if_neg hi, Bool.false_eq_true, if_false, Option.getD_none,
    State.master_sendRec, State.master_setMaster, m, Bool.and_eq_true, decide_eq_true_eq]
  cases (s.master n).last <;> rfl

theorem exec_indexEdge {s : State} {enc : Nat} (held : Nat) (h : s.inReset = false) (he : enc < 6) :
    let f := bits (s.reg 0 .mlsInputCfg [enc]) 0 6
    exec (.indexEdge enc held) s = .next (s.keep (if held < f then s.count 0 ctrMLS 9
      else (s.axesOf enc (· < 2)).foldl (fun s n => s.axIndex n (since (s.time 0) f)) s)) :=
  (if_neg (Nat.not_le.mpr he)).trans (cmd_awake h _)

/-- An index edge that counts starts the axis anew at AXIS_REF; what a HELD axis knew of its edges goes (R271, R278). -/
theorem State.master_axIndex {s : State} {n : Nat} (te : Nat)
    (hm : s.axCfg n 8 2 = 1 ∨ (s.axCfg n 8 2 = 2 ∧ (s.master n).idxDone = false)) (hf : (s.master n).forced = none) :
    let m := s.master n
    (s.axIndex n te).master n = { m with
      cur := { m.cur with
        st := 1, te := te, p := if m.cur.st = 1 then m.cur.p else none
        ve := axNorm (s.axType n) (axOfReg (s.axType n) (s.reg 0 .mlsAxisRef [n - 1]) + s.pendingDelta n te) }
      last := if m.cur.st = 1 then m.last else none
      idxDone := true, idxAt := some te, hidden := none, forced := none } := by
  have hmode : (decide (s.axCfg n 8 2 = 1) || decide (s.axCfg n 8 2 = 2) && !(s.master n).idxDone) = true := by
    simpa using hm
  intro m
  simp only [State.axIndex, hmode, if_true]
  rw [if_neg (by simp [State.axForced, hf])]
  exact State.master_setMaster ..

theorem State.master_axCross {s : State} {n : Nat} (te : Nat) (hf : (s.master n).forced = none) :
    let m := s.master n
    (s.axCross n te).master n = { m with
      cur := { m.cur with
        st := 1, te := te, down := false
        ve := if m.cur.st = 2 then m.cur.ve
          else axNorm 2 (axOfReg 2 (s.reg 0 .mlsAxisRef [n - 1]) + s.pendingDelta n te)
        p := match m.last with
          | some (t, _) => if m.cur.st = 2 then none else some (since te t)
          | none => none }
      last := some (te, false), hidden := none, forced := none } := by
  intro m
  simp only [State.axCross, s.axForced_none hf, Bool.false_eq_true, if_false, State.master_sendRec, State.master_setMaster]
  rfl

/-! ### Zero crossings (R270) -/

section
variable {s : State} {input held n : Nat} {falling : Bool} (h : s.inReset = false) (h6 : 6 ≤ input) (h10 : input < 10)
include h h6 h10

theorem exec_zeroCrossing_glitch (hheld : held < bits (s.reg 0 .mlsInputCfg [input]) 0 6) :
    exec (.zeroCrossing input falling held) s = .next (s.keep (s.count 0 ctrMLS 9)) := by
  refine (if_neg (by simp [Nat.not_lt.mpr h6, Nat.not_le.mpr h10])).trans ((cmd_awake h _).trans ?_)
  simp only [hheld, if_true]

variable (hheld : bits (s.reg 0 .mlsInputCfg [input]) 0 6 ≤ held)
include hheld

/-- An edge of the other polarity, or of an input that feeds no axis, does nothing. -/
theorem exec_zeroCrossing_unfed
    (hn : bit (s.reg 0 .mlsInputCfg [input]) 6 ≠ falling ∨ s.axesOf input (· = 2) = []) :
    exec (.zeroCrossing input falling held) s = .next (s.keep s) := by
  refine (if_neg (by simp [Nat.not_lt.mpr h6, Nat.not_le.mpr h10])).trans ((cmd_awake h _).trans ?_)
  rcases hn with hp | hn
  · simp only [Nat.not_lt.mpr hheld, hp, ne_eq, not_false_eq_true, if_true, if_false]
  · simp only [Nat.not_lt.mpr hheld, hn, List.isEmpty_nil, if_true, if_false, ite_self]

variable (hp : bit (s.reg 0 .mlsInputCfg [input]) 6 = falling) (hn : s.axesOf input (· = 2) = [n])
include hp hn

/-- The crossing of an input that feeds one axis counts unless it comes too early after the one before (R270). -/
theorem exec_zeroCrossing_fed :
    let te := since (s.time 0) (bits (s.reg 0 .mlsInputCfg [input]) 0 6)
    let early := match (s.master n).last with
      | some (t, _) => zcEarly (bits (s.reg 0 .mlsInputCfg [input]) 8 2) (since te t)
      | none => false
    exec (.zeroCrossing input falling held) s =
      .next (s.keep (if early then s.count 0 ctrMLS 11 else (s.count 0 ctrMLS 8).axCross n te)) := by
  intro te early
  refine (if_neg (by simp [Nat.not_lt.mpr h6, Nat.not_le.mpr h10])).trans ((cmd_awake h _).trans ?_)
  simp only [Nat.not_lt.mpr hheld, hp, hn, ne_eq, not_true_eq_false, if_false, List.isEmpty_cons, Bool.false_eq_true,
    List.all_cons, List.all_nil, Bool.and_true, List.filter_cons, List.filter_nil]
  change Host.Outcome.next (s.keep (if early = true then _ else List.foldl _ _ (if (!early) = true then [n] else []))) = _
  cases early <;> rfl

end

/-! ### The broadcast (R275) -/

/-- A die has heard a frame at a time of the model's clock. -/
def State.heardAt (s : State) (t d : Nat) : Prop := (s.die d).mls.lost = false ∧ (s.die d).mls.frameAt = t

/-- A die hears the frame. -/
def State.hear (s : State) (d : Nat) : State := s.modMls d fun m => { m with lost := false, frameAt := s.now }

/-- A die that die 0 reaches hears the frame; a lost view returns with it. -/
def State.hearFrame (s : State) (d : Nat) : State :=
  if d = 0 || s.reach 0 d then
    if (s.die d).mls.lost then (List.range 8).foldl (fun s n =>
      if n = 0 then s
      else s.axReplace d n (s.view 0 n).1 (if s.axType n = 2 then 0 else s.axDir n (s.view 0 n).1)) (s.hear d)
    else s.hear d
  else s

theorem exec_axisBroadcast {s : State} (h : s.inReset = false) :
    exec .axisBroadcast s = .next (s.keep (s.eachDie State.hearFrame)) := by
  refine Eq.trans ?_ (cmd_awake h fun s => s.eachDie State.hearFrame)
  change execAxisBroadcast s = _
  unfold execAxisBroadcast
  exact congrArg (cmd s) (funext fun s => congrArg (State.eachDie s) rfl)

section
variable {s u : State} {d e t : Nat}

theorem State.axisBase_hearFrame (h : d = 0 ∨ s.reach 0 d = true) : (s.hearFrame d).axisBase = (s.hear d).axisBase := by
  rw [State.hearFrame, if_pos (by simpa using h)]
  split
  · refine State.axisBase_foldl _ _ fun u n => ?_
    split
    · rfl
    · exact u.axisBase_axReplace ..
  · rfl

theorem State.hearFrame_cut (h : ¬(d = 0 ∨ s.reach 0 d = true)) : s.hearFrame d = s := if_neg (by simpa using h)

theorem State.heardAt_hear (h : d < 8) : (s.hear d).heardAt s.now d := by
  simp [State.heardAt, State.hear, State.modMls, State.die_modDie _ _ h]

theorem State.heardAt_hear_kept (h : s.heardAt s.now e) : (s.hear d).heardAt s.now e := by
  by_cases he : e = d
  · subst he
    exact ⟨(s.proj_modDie (fun x => x.mls.lost) e e _ h.1.symm).trans h.1,
      (s.proj_modDie (fun x => x.mls.frameAt) e e _ h.2.symm).trans h.2⟩
  · rwa [State.heardAt, State.hear, State.modMls, State.die_modDie_ne _ _ he]

theorem State.heardAt_congr (h : u.axisBase = s.axisBase) : u.heardAt t e ↔ s.heardAt t e := by
  rw [State.heardAt, State.heardAt, State.lost_of_axisBase h, State.frameAt_of_axisBase h]

/-- Dies that hear the frame one after the other have all heard it in the end: what reaches a die stands throughout. -/
theorem State.heardAt_foldl (hd : s.has d = true) (hr : d = 0 ∨ s.reach 0 d = true) (l : List Nat)
    (hf : u.fuses = s.fuses) (hl : u.fab.links = s.fab.links) (hn : u.now = s.now) (hu : d ∈ l ∨ u.heardAt s.now d) :
    (l.foldl (fun s d => if s.has d then s.hearFrame d else s) u).heardAt s.now d := by
  induction l generalizing u with
  | nil => exact hu.resolve_left List.not_mem_nil
  | cons e l ih =>
    have hhas : u.has d = true := by rwa [State.has, hf, ← State.has]
    have hreach : d = 0 ∨ u.reach 0 d = true := by rwa [State.reach_congr hf hl]
    by_cases he : u.has e = true ∧ (e = 0 ∨ u.reach 0 e = true)
    · have hb := State.axisBase_hearFrame he.2
      have hstep : (u.hearFrame e).heardAt s.now d ∨ d ∈ l := by
        rw [State.heardAt_congr hb, ← hn]
        rcases hu with hu | hu
        · rcases List.mem_cons.mp hu with rfl | hu
          · exact .inl (State.heardAt_hear (State.has_lt hhas))
          · exact .inr hu
        · exact .inl (State.heardAt_hear_kept (hn ▸ hu))
      rw [List.foldl_cons, if_pos he.1]
      exact ih ((State.fuses_of_axisBase hb).trans hf) ((State.links_of_axisBase hb).trans hl)
        ((State.now_of_axisBase hb).trans hn) hstep.symm
    · have hskip : (if u.has e then u.hearFrame e else u) = u := by
        split
        · exact State.hearFrame_cut fun h => he ⟨‹_›, h⟩
        · rfl
      rw [List.foldl_cons, hskip]
      refine ih hf hl hn (hu.imp_left fun hm => (List.mem_cons.mp hm).resolve_left ?_)
      rintro rfl
      exact he ⟨hhas, hreach⟩

theorem State.heardAt_broadcast (hd : s.has d = true) (hr : d = 0 ∨ s.reach 0 d = true) :
    (s.eachDie State.hearFrame).heardAt s.now d :=
  State.heardAt_foldl hd hr _ rfl rfl rfl (.inl (List.mem_range.mpr (State.has_lt hd)))

end

theorem exec_bcastLoss {s : State} {d : Nat} (h : s.live d) :
    exec (.bcastLoss d) s = .next (s.keep
      (if d = 0 ∨ (s.die d).mls.lost = true ∨ s.now < (s.die d).mls.frameAt + 64 then s
      else ((((List.range 8).foldl (fun s n => s.viewHeld d n) s).modMls d fun m => { m with lost := true }).count d ctrMLS
        13).event d .mls 5)) := by
  refine (onDie_live h _).trans ?_
  simp only [Bool.or_eq_true, decide_eq_true_eq, or_assoc]

/-! ### Records on their way (R275 to R278) -/

theorem State.modAx_congr (s : State) {f g : Axes → Axes} (h : f s.ax = g s.ax) : s.modAx f = s.modAx g := by
  rw [State.modAx, State.modAx, h]

theorem exec_axisRecordEffect_none {s : State} (h : s.inReset = false) (hn : s.ax.recs.find? s.recDue = none) :
    exec .axisRecordEffect s = .next (s.keep s) := by
  change execAxisRecordEffect s = _
  simp only [execAxisRecordEffect, cmd_awake h, hn]

/-- The oldest record that is due leaves the records on their way and takes effect on every die that follows the broadcast. -/
theorem exec_axisRecordEffect_some {s : State} {x : AxisFlight} {rest : List AxisFlight} (h : s.inReset = false)
    (hx : s.ax.recs.find? s.recDue = some x) (hrest : s.ax.recs.erase x = rest) :
    exec .axisRecordEffect s = .next (s.keep ((s.modAx fun a => { a with recs := rest }).eachDie fun s d =>
      if (s.die d).mls.lost then s else s.axReplace d x.axis x.recd x.dir)) := by
  have hrecs : (s.modAx fun a => { a with recs := a.recs.erase x }) = s.modAx fun a => { a with recs := rest } :=
    s.modAx_congr (by rw [hrest])
  change execAxisRecordEffect s = _
  simp only [execAxisRecordEffect, cmd_awake h, hx, hrecs]

theorem State.recDue_eq_reached (s : State) (x : AxisFlight) (h : ∀ j ∈ s.ax.jumps, j.axis ≠ x.axis) :
    s.recDue x = reached (s.time 0) ((x.recd.te + 48) % 2 ^ 72) := by
  have hj : (s.ax.jumps.all fun j => j.axis ≠ x.axis || 2 ^ 71 ≤ since x.recd.te j.at_) = true :=
    List.all_eq_true.mpr fun j hj => by simp [h j hj]
  rw [State.recDue, hj, Bool.and_true]

theorem State.recDue_of_not_reached (s : State) (x : AxisFlight)
    (h : ¬reached (s.time 0) ((x.recd.te + 48) % 2 ^ 72) = true) : s.recDue x = false := by
  rw [State.recDue, (Bool.not_eq_true _).mp h, Bool.false_and]

/-- A record of another enabling than the view's moves no milestone (R276). -/
theorem State.axReplace_reborn {s : State} {d n : Nat} {r : AxisRec} (dir : Int)
    (h : ((s.axGrow d n).view d n).1.born ≠ r.born) :
    s.axReplace d n r dir = (s.axGrow d n).putView d n r
      (r.model ((s.axGrow d n).axType n) ((s.axGrow d n).axStep n) ((s.axGrow d n).time d)) := by
  have hmoves : ∀ (u : State) (p q : Int) (e j : Bool) (t : Nat), u.axMoves n p q 0 e j t = [] := by
    intros
    simp [State.axMoves]
  simp [State.axReplace, h, hmoves, State.axMove, State.msMoves]

section
variable (s : State) (d n : Nat) (r : AxisRec) (v : Int)

theorem mls_apart : ApartFromUnits Die.mls := fun _ _ _ _ _ _ _ _ _ _ _ => rfl

/-- A view that enters HELD is counted and raises its event (R276, R298). -/
theorem State.putView_entered (hr : r.st = 2) (hv : (s.view d n).1.st ≠ 2) :
    s.putView d n r v = ((s.setView d n r v).count d ctrMLS 12).event d .mls 0 := by
  simp [State.putView, hr, hv]

/-- A report leaves the views and the milestones. -/
theorem State.mls_putView (e : Nat) : ((s.putView d n r v).die e).mls = ((s.setView d n r v).die e).mls := by
  unfold State.putView
  dsimp only
  split
  · exact (((State.keepsOf.refl Die.mls _).count mls_apart ..).event mls_apart ..).dies e
  · rfl

theorem State.due_putView : ((s.putView d n r v).die d).mls.due = (s.die d).mls.due := by
  rw [State.mls_putView]
  exact s.proj_modDie (fun x => x.mls.due) d d _ rfl

/-- There is no die 8 or above: what is read of one is the empty die. -/
theorem State.die_of_ge (h : 8 ≤ d) : s.die d = {} := by
  simp [State.die, Vector.getD, Nat.not_lt.mpr h]

/-- Growth of a view's model leaves its record. -/
theorem State.view_axGrow : ((s.axGrow d n).view d n).1 = (s.view d n).1 := by
  unfold State.axGrow
  dsimp only
  split
  · rfl
  · by_cases hd : d < 8
    · rw [State.setView, State.modMls, State.view, State.die_modDie _ _ hd, sgetD_sset_self]
    · simp only [State.view, State.die_of_ge _ d (Nat.le_of_not_lt hd)]

end

/-! ### HELD (R277) -/

section
variable {s : State} {n : Nat} (h : s.inReset = false) (h0 : 0 < n) (h8 : n < 8)
include h h0 h8

theorem exec_axisHeld : exec (.axisHeld n) s = .next (s.keep
    (if (s.master n).cur.st = 1 ∧ (∀ x ∈ s.ax.recs, x.axis ≠ n) ∧
        s.holdBound n (s.master n).cur < since (s.time 0) (s.master n).cur.te then s.axHold n else s)) := by
  refine (if_neg (by simp; omega)).trans ((cmd_awake h _).trans ?_)
  simp only [Bool.and_eq_true, decide_eq_true_eq, List.all_eq_true, and_assoc]

/-! ### Enabling (R276, R279, R296) -/

theorem exec_axisEnable (v : Dword) :
    exec (.axisEnable n v) s = .next (s.keep (s.axisCfgWrite n (putBit v.toNat 0 true))) := by
  change execAxisEnable n v s = _
  simp [execAxisEnable, cmd_awake h, Nat.not_le.mpr h8, h0.ne']

theorem exec_axisDisable (v : Dword) :
    exec (.axisDisable n v) s = .next (s.keep (s.axisCfgWrite n (putBit v.toNat 0 false))) := by
  change execAxisDisable n v s = _
  simp [execAxisDisable, cmd_awake h, Nat.not_le.mpr h8, h0.ne']

end

/-- Bit 0 of a written AXIS_CFG is the ENABLE that the write sets. -/
theorem bit_axisCfg (v : Nat) (b : Bool) : bit (bits (putBit v 0 b) 0 27) 0 = b := by
  rw [bit_bits_zero _ (by decide), bit_putBit_self]

section
variable {s : State} {n : Nat} (v : Nat)

/-- An enabled axis refuses a write that sets ENABLE, unless it changes nothing (R10, R279). -/
theorem State.axisCfgWrite_locked (hold : bit (s.reg 0 .mlsAxisCfg [n - 1]) 0 = true)
    (hne : bits (putBit v 0 true) 0 27 ≠ s.reg 0 .mlsAxisCfg [n - 1]) :
    s.axisCfgWrite n (putBit v 0 true) = s.violation 0 := by
  simp only [State.axisCfgWrite, hold, if_true, if_neg hne, bit_axisCfg]

theorem State.axisCfgWrite_disable (hold : bit (s.reg 0 .mlsAxisCfg [n - 1]) 0 = true) :
    s.axisCfgWrite n (putBit v 0 false) =
      (s.setReg 0 .mlsAxisCfg [n - 1] (putBit (s.reg 0 .mlsAxisCfg [n - 1]) 0 false)).axDisable n := by
  have hne : bits (putBit v 0 false) 0 27 ≠ s.reg 0 .mlsAxisCfg [n - 1] := fun e =>
    Bool.false_ne_true ((bit_axisCfg v false).symm.trans (e ▸ hold))
  simp only [State.axisCfgWrite, hold, if_true, if_neg hne, bit_axisCfg, Bool.false_eq_true, if_false]

/-- A write that enables an axis takes a TYPE and a SRC that fit each other (R265, R279). -/
theorem State.axisCfgWrite_enable (hold : bit (s.reg 0 .mlsAxisCfg [n - 1]) 0 = false) :
    let on := bits (putBit v 0 true) 0 27
    let ty := bits on 1 2
    let src := bits on 3 4
    s.axisCfgWrite n (putBit v 0 true) =
      if ty < 3 ∧ ((src < 6 ∧ ty ≠ 2) ∨ (6 ≤ src ∧ src < 10 ∧ ty = 2)) then
        (s.setReg 0 .mlsAxisCfg [n - 1] on).axEnable n
      else s.violation 0 := by
  intro on ty src
  have hty : ty < 4 := Nat.mod_lt _ (by decide)
  have hbad : (decide (ty = 3) || decide (10 ≤ src) || decide ((src < 6) = (ty = 2))) =
      !decide (ty < 3 ∧ ((src < 6 ∧ ty ≠ 2) ∨ (6 ≤ src ∧ src < 10 ∧ ty = 2))) := by
    rw [Bool.eq_iff_iff]
    simp only [Bool.or_eq_true, decide_eq_true_eq, eq_iff_iff, Bool.not_eq_true', decide_eq_false_iff_not]
    omega
  simp only [State.axisCfgWrite, hold, Bool.false_eq_true, if_false, bit_axisCfg, if_true]
  change (if (decide (ty = 3) || decide (10 ≤ src) || decide ((src < 6) = (ty = 2))) = true then _ else _) = _
  rw [hbad]
  split
  next hb => rw [if_neg (of_decide_eq_false ((Bool.not_eq_true' _).mp hb))]
  next hb => rw [if_pos (of_decide_eq_true (Bool.not_eq_false' .. |>.mp ((Bool.not_eq_true _).mp hb)))]

end

/-- The views of an axis that take a record at once leave the axes on die 0. -/
theorem State.ax_viewsNow (s : State) (n : Nat) (r : AxisRec) : (s.viewsNow n r).ax = s.ax :=
  State.ax_of_axisBase (s.axisBase_eachDie fun u d => by
    split
    · rfl
    · exact u.axisBase_putView ..)

/-- An axis that does not restore is enabled HELD at AXIS_INIT (R276). -/
theorem State.master_axEnable (s : State) {n : Nat} (h : bit (s.reg 0 .mlsAxisCfg [n - 1]) 10 = false) :
    ((s.axEnable n).master n).cur =
      { born := s.now, st := 2, ve := axOfReg (s.axType n) (s.reg 0 .mlsAxisInit [n - 1]), te := s.time 0 } := by
  simp only [State.axEnable, h, Bool.false_eq_true, if_false, Option.getD_none, Option.isSome_none]
  rw [State.master, State.ax_viewsNow]
  exact congrArg AxisMaster.cur (State.master_setMaster ..)

/-! ### 1PPS (R267) -/

section
variable {s : State} (h : s.inReset = false)
include h

theorem exec_ppsOutRise :
    exec .ppsOutRise s = .next (s.keep (if bit (s.reg 0 .mlsPpsCfg []) 0 = true ∧ reached (s.time 0) s.ax.ppsNext = true then
      (s.modAx fun a => { a with
        ppsNext := (s.time 0 / 1000000000 + 1) * 1000000000 % 2 ^ 72
        ppsFall := some (s.now + 1000000 * min 999 (max 1 (s.fld 0 .mlsPpsCfg [] 1 10))) }).emit (.pps true)
      else s)) := by
  change execPpsOutRise s = _
  simp only [execPpsOutRise, cmd_awake h, Bool.and_eq_true]

theorem exec_ppsOutFall {t : Nat} (hf : s.ax.ppsFall = some t) (ht : t ≤ s.now) :
    exec .ppsOutFall s = .next (s.keep ((s.modAx fun a => { a with ppsFall := none }).emit (.pps false))) := by
  change execPpsOutFall s = _
  simp only [execPpsOutFall, cmd_awake h, hf, if_pos ht]

theorem exec_ppsInEdge (falling : Bool) :
    exec (.ppsInEdge falling) s = .next (s.keep (
      if bit (s.reg 0 .mlsPpsCfg []) 11 = true ∧ bit (s.reg 0 .mlsPpsCfg []) 12 = falling then
        (s.setReg 0 .mlsPpsInLo [] (bits (s.time 0) 0 36)).setReg 0 .mlsPpsInHi [] (bits (s.time 0) 36 36)
      else s)) := by
  change execPpsInEdge falling s = _
  simp only [execPpsInEdge, cmd_awake h, Bool.and_eq_true, decide_eq_true_eq]

/-! ### Jumps (R286) -/

variable {j : Jump} {rest : List Jump} (hj : s.ax.jumps = j :: rest)
include hj

theorem exec_jumpEffect_early (hd : s.now < j.due) : exec .jumpEffect s = .next (s.keep s) := by
  change execJumpEffect s = _
  simp only [execJumpEffect, cmd_awake h, hj, hd, decide_true, Bool.true_or, if_true]

variable (hd : j.due ≤ s.now) (hr : s.ax.recs = [])
include hd hr

/-- A jump that is due, with no record on its way, shifts axis 0 on every die, or the views of another axis. -/
theorem exec_jumpEffect_due :
    let u := s.modAx fun a => { a with jumps := rest }
    let v := (u.modAx fun a => a.shift j.delta).eachDie fun s d => s.jumpTime d j.delta
    exec .jumpEffect s = .next (s.keep (if j.axis = 0 then
      v.modAx fun a => { a with ppsNext := (v.time 0 / 1000000000 + 1) * 1000000000 }
      else u.eachDie fun s d => s.jumpView d j.axis j.delta)) := by
  change execJumpEffect s = _
  simp only [execJumpEffect, cmd_awake h, hj, hr, Nat.not_lt.mpr hd, List.any_nil, decide_false, Bool.or_self,
    Bool.false_eq_true, if_false]

end

theorem State.time_jumpTime (s : State) {d : Nat} (delta : Int) (h : d < 8) :
    (s.jumpTime d delta).time d = shiftTime (s.time d) delta := by
  have hd : (s.msEval d).time d = s.time d := State.time_of_axisBase (s.axisBase_msEval d) d
  have hmoves : ∀ (u : State) (vs : List Move), (if delta < 0 then u else u.msMoves d vs).time d = u.time d := by
    intro u vs
    split
    · rfl
    · exact State.time_of_axisBase (u.axisBase_msMoves d vs) d
  simp only [State.jumpTime, hd, hmoves]
  rw [State.time, State.modMls, State.die_modDie _ _ h, State.die_modDie _ _ h]

/-! ### The axis journal (R295) -/

theorem exec_axisJournalRecord_early {s : State} (h : s.inReset = false) (hn : s.now < s.ax.jrnNext) :
    exec .axisJournalRecord s = .next (s.keep s) := by
  change execAxisJournalRecord s = _
  simp only [execAxisJournalRecord, cmd_awake h, if_pos hn]

/-- The state in which an axis record has gone into a slot of the ring of axis records (R295). -/
def State.axisRecordIn (s : State) (slot : Nat) (ws : List Word) : State :=
  let u := s.modAx fun a => { a with jrnNext := (s.now / 10000000 + 1) * 10000000 }
  (({ u with mram := (List.range 16).foldl (fun m w => sset m (6144 + 16 * slot + w)
    ((ws ++ [w36 (crcWords ws)]).getD w 0)) s.mram }).setFld 0 .mlsJrnCtl [] 1 8 slot).count 0 ctrMLS 15

theorem exec_axisJournalRecord_due {s : State} {x : Nat} (h : s.inReset = false) (hn : s.ax.jrnNext ≤ s.now)
    (hon : bit (s.reg 0 .mlsJrnCtl []) 0 = true) (hx : s.lastAxisRecord = some x) :
    exec .axisJournalRecord s = .next (s.keep
      (s.axisRecordIn ((x + 1) % 256) (s.axisWords ((s.mramWord (6144 + 16 * x)).toNat + 1)))) := by
  have hx' : ∀ f : Axes → Axes, (s.modAx f).lastAxisRecord = some x := fun f => hx
  change execAxisJournalRecord s = _
  rw [execAxisJournalRecord, cmd_awake h]
  simp only [if_neg (Nat.not_lt.mpr hn), hx']
  exact congrArg (fun u : State => (.next (s.keep u) : Res)) (if_pos hon)

section
variable (s : State) (slot : Nat) (ws : List Word)

theorem State.ax_axisRecordIn :
    (s.axisRecordIn slot ws).ax = { s.ax with jrnNext := (s.now / 10000000 + 1) * 10000000 } :=
  State.ax_of_axisBase (State.axisBase_count _ 0 ctrMLS 15 1)

theorem State.mram_count (d b i n : Nat) : (s.count d b i n).mram = s.mram := by
  obtain ⟨cs, hc⟩ := s.count_spec d b i n
  rw [hc, State.modDie_mram]

/-- The words of a record stand in its slot, the CRC after them. -/
theorem State.mramWord_axisRecordIn {w : Nat} (hw : w < 16) :
    (s.axisRecordIn slot ws).mramWord (6144 + 16 * slot + w) = (ws ++ [w36 (crcWords ws)]).getD w 0 := by
  simp only [State.mramWord, State.axisRecordIn, State.mram_count, State.setFld, State.setReg, State.modDie_mram]
  rw [sgetD_foldl_sset_run, if_pos ⟨Nat.le_add_right _ _, by simpa using hw⟩, Nat.add_sub_cancel_left]

end

/-! ### Reads that latch (R266, R267, R274) -/

theorem exec_timeReadLatch {s : State} {d : Nat} (h : s.hostReaches d) : exec (.timeReadLatch d) s = .next (s.keep
    ((s.setLatch d (regOff .mlsTimeLo []) (s.time d)).emit (.readData (s.time d % 2 ^ 32) false))) := by
  rw [← bits_low]
  change execTimeReadLatch d s = _
  exact onHostRead_reached h rfl _

theorem exec_ppsInReadLatch {s : State} (h : s.inReset = false) :
    let v := s.reg 0 .mlsPpsInLo [] + s.reg 0 .mlsPpsInHi [] * 2 ^ 36
    exec .ppsInReadLatch s = .next (s.keep
      ((s.setLatch 0 (regOff .mlsPpsInLo []) v).emit (.readData (v % 2 ^ 32) false))) := by
  intro v
  rw [← bits_low]
  change execPpsInReadLatch s = _
  exact cmd_awake h _

theorem exec_axisValueReadLatch {s : State} {d n which : Nat} (h : s.hostReaches d) (h0 : 0 < n) (h8 : n < 8)
    (hw : which < 3) :
    exec (.axisValueReadLatch d n which) s = .next (s.keep
      ((s.setLatch d (regOff (axisSlotReg which) [n - 1]) (s.axisSlot d n which)).emit
        (.readData (s.axisSlot d n which % 2 ^ 32) false))) := by
  rw [← bits_low]
  change execAxisValueReadLatch d n which s = _
  exact onHostRead_reached h (by simp [h8, hw, Nat.one_le_iff_ne_zero, h0.ne']) _

end Sys2Proof.Machine
end

section
/-! PROOFS. Axes. -/

namespace Sys2Proof.Machine

open Sys2Proof

/-- Settles O53: each command is one change of the axes or the views whose guards the hypotheses decide; a frame of the broadcast
has reached every die in the end, for nothing on its way touches the links. -/
theorem axesFollowTheirInputs : Obligations.AxesFollowTheirInputs := by
  unfold Obligations.AxesFollowTheirInputs
  refine ⟨?_, fun s n te back => State.master_axEdge back, ?_, ?_, ?_, ?_, ?_, ?_, ?_, ?_,
    fun s d n r v => s.putView_entered d n r v, ?_, ?_, fun s n => s.master_axEnable, ?_, ?_,
    fun s d delta => s.time_jumpTime delta, ?_, fun s d => exec_timeReadLatch, fun s => exec_ppsInReadLatch,
    fun s d n which => exec_axisValueReadLatch⟩
  · -- ENCODER_EDGE
    intro s enc held a b h he cfg old da db te u
    refine ⟨fun ha hb => exec_encoderEdge_still h he (not_not.mp ha) (not_not.mp hb), exec_encoderEdge_glitch h he,
      fun ha hb hheld => exec_encoderEdge_both h he hheld ha hb, ?_⟩
    rintro (⟨ha, hb⟩ | ⟨ha, hb⟩) hheld
    · have hrun := exec_encoderEdge_a h he hheld ha (not_not.mp hb)
      rw [decide_eq_true ha, if_pos ha]
      exact ⟨fun hc => hrun.trans (by rw [if_neg ((Bool.not_eq_true _).mpr hc)]; rfl),
        fun hc => hrun.trans (by rw [if_pos hc]; rfl)⟩
    · have hrun := exec_encoderEdge_b h he hheld (not_not.mp ha) hb
      rw [decide_eq_false ha, if_neg ha]
      exact ⟨fun hc => hrun.trans (by rw [if_neg ((Bool.not_eq_true _).mpr hc)]; rfl),
        fun hc => hrun.trans (by rw [if_pos hc]; rfl)⟩
  · -- INDEX_EDGE
    intro s enc held h he f
    rw [exec_indexEdge held h he]
    exact ⟨fun hlt => by rw [if_pos hlt], fun hle => by rw [if_neg (Nat.not_lt.mpr hle)]⟩
  · -- an index edge that counts
    intro s n te hm hf
    rw [State.master_axIndex te hm hf]
    exact ⟨rfl, rfl, rfl, fun hst => ⟨if_neg hst, if_neg hst⟩⟩
  · -- ZERO_CROSSING
    intro s input held falling h h6 h10 cfg te
    refine ⟨exec_zeroCrossing_glitch h h6 h10, exec_zeroCrossing_unfed h h6 h10, fun n hheld hp hn => ?_⟩
    rw [exec_zeroCrossing_fed h h6 h10 hheld hp hn]
    refine ⟨fun t b hl he => ?_, ?_⟩
    · simp only [hl]
      rw [if_pos he]
    · rintro (hl | ⟨t, b, hl, he⟩)
      · simp only [hl, Bool.false_eq_true, if_false]
        rfl
      · simp only [hl]
        rw [if_neg ((Bool.not_eq_true _).mpr he)]
  · -- a crossing that counts
    intro s n te hf r
    have hr : r = _ := congrArg AxisMaster.cur (State.master_axCross te hf)
    rw [hr]
    refine ⟨rfl, rfl, rfl, fun hst => ⟨if_pos hst, ?_⟩, fun hst => if_neg hst⟩
    simp only [hst, if_true]
    cases (s.master n).last <;> rfl
  · -- AXIS_BROADCAST
    exact fun s h => ⟨_, exec_axisBroadcast h, fun d hd hr => State.heardAt_broadcast hd hr⟩
  · -- BCAST_LOSS
    intro s d h
    rw [exec_bcastLoss h]
    refine ⟨fun hc => by rw [if_pos hc], fun h0 hl hle => ?_⟩
    rw [if_neg]
    rintro (hc | hc | hc)
    · exact h0 hc
    · exact Bool.false_ne_true (hl.symm.trans hc)
    · omega
  · -- AXIS_RECORD_EFFECT
    intro s h due lands
    refine ⟨fun hn => exec_axisRecordEffect_none h (List.find?_eq_none.mpr fun x hx => ?_), ?_, ?_⟩
    · rw [s.recDue_of_not_reached x (hn x hx)]
      exact Bool.false_ne_true
    · intro x rest hl hx hj
      have hdue : s.recDue x = true := (s.recDue_eq_reached x hj).trans hx
      have hfind : s.ax.recs.find? s.recDue = some x := by rw [hl, List.find?_cons_of_pos hdue]
      exact exec_axisRecordEffect_some h hfind (by rw [hl, List.erase_cons_head])
    · intro x y rest hl hx hy hj
      have hdue : s.recDue y = true := (s.recDue_eq_reached y hj).trans hy
      have hwait := s.recDue_of_not_reached x hx
      have hne : x ≠ y := fun e => Bool.false_ne_true (hwait.symm.trans (e ▸ hdue))
      have hfind : s.ax.recs.find? s.recDue = some y := by
        rw [hl, List.find?_cons_of_neg ((Bool.not_eq_true _).mpr hwait), List.find?_cons_of_pos hdue]
      have herase : s.ax.recs.erase y = x :: rest := by
        rw [hl, List.erase_cons_tail (by simpa using hne), List.erase_cons_head]
      exact exec_axisRecordEffect_some h hfind herase
  · -- a record of another enabling
    intro s d n r dir hb
    rw [State.axReplace_reborn dir (by rwa [s.view_axGrow]), State.due_putView]
  · -- AXIS_HELD
    intro s n h h0 h8 r
    rw [exec_axisHeld h h0 h8]
    refine ⟨fun h1 h2 h3 => by rw [if_pos ⟨h1, h2, h3⟩], fun hc => ?_⟩
    rw [if_neg]
    rintro ⟨h1, -, h3⟩
    exact hc.elim (fun hc => hc h1) fun hc => Nat.not_lt.mpr hc h3
  · -- AXIS_ENABLE and AXIS_DISABLE
    intro s n v h h0 h8 old on ty src fits
    rw [exec_axisEnable h h0 h8, exec_axisDisable h h0 h8]
    refine ⟨fun hold hne => by rw [State.axisCfgWrite_locked _ hold hne], fun hold hbad => ?_, fun hold hfit => ?_,
      fun hold => by rw [State.axisCfgWrite_disable _ hold]⟩
    · rw [State.axisCfgWrite_enable _ hold]
      exact congrArg (fun u : State => (.next (s.keep u) : Res)) (if_neg hbad)
    · rw [State.axisCfgWrite_enable _ hold]
      exact congrArg (fun u : State => (.next (s.keep u) : Res)) (if_pos hfit)
  · -- 1PPS
    intro s h on
    rw [exec_ppsOutRise h]
    refine ⟨fun hon => by rw [if_pos hon], fun hoff => by rw [if_neg hoff], fun t => exec_ppsOutFall h, fun falling => ?_⟩
    rw [exec_ppsInEdge h]
    refine ⟨fun hb hp => by rw [if_pos ⟨hb, hp⟩], fun hc => ?_⟩
    rw [if_neg]
    rintro ⟨hb, hp⟩
    exact hc.elim (fun hc => Bool.false_ne_true (hc.symm.trans hb)) fun hc => hc hp
  · -- JUMP_EFFECT
    intro s j rest h hj u
    refine ⟨exec_jumpEffect_early h hj, fun hd hr h0 => ?_, fun hd hr h0 => ?_⟩
    · rw [exec_jumpEffect_due h hj hd hr, if_neg h0]
    · rw [exec_jumpEffect_due h hj hd hr, if_pos h0]
  · -- AXIS_JOURNAL_RECORD
    intro s h
    refine ⟨exec_axisJournalRecord_early h, fun x hn hon hx => ⟨_, exec_axisJournalRecord_due h hn hon hx, ?_, ?_⟩⟩
    · rw [State.ax_axisRecordIn]
      exact Nat.lt_of_lt_of_eq (Nat.lt_mul_div_succ s.now (by decide)) (Nat.mul_comm _ _)
    · intro at_ ws
      refine ⟨fun w hw => ?_, ?_⟩
      · rw [State.mramWord_axisRecordIn _ _ _ (by omega), List.getD_append _ _ _ _ hw]
      · exact State.mramWord_axisRecordIn s _ ws (by decide)

end Sys2Proof.Machine
end

section
/-! SUPPORT. Milestones: what a move crosses, the order of crossings, and the words that a firing writes (R280 to R288). -/

namespace Sys2Proof.Machine

open Sys2Proof

/-! ### Crossings (R282, R287) -/

/-- A move of values that do not wrap crosses what lies past its start, UP up to its end and DOWN before its end (R282). -/
theorem Move.crosses_isSome {m : Move} (c : Int) (h : m.wrap = false) :
    (m.crosses c).isSome = true ↔ if m.down = true then m.q < c ∧ c ≤ m.p else m.p < c ∧ c ≤ m.q := by
  by_cases hd : m.down = true
  · simp [Move.crosses, h, hd]
    omega
  · simp [Move.crosses, h, hd]

/-- Crossings go by their place on the axis, and by number for equal values (R287). -/
def Hit.le (a b : Hit) : Prop := a.far < b.far ∨ (a.far = b.far ∧ a.ms ≤ b.ms)

theorem Hit.le_trans {a b c : Hit} (h : a.le b) (h' : b.le c) : a.le c := by
  unfold Hit.le at *
  omega

theorem Hit.le_of_not_lt {a b : Hit} (h : ¬(a.far < b.far ∨ a.far = b.far ∧ a.ms < b.ms)) : b.le a := by
  unfold Hit.le
  omega

theorem hitInsert_cons (x y : Hit) (l : List Hit) : hitInsert x (y :: l) =
    if x.far < y.far ∨ x.far = y.far ∧ x.ms < y.ms then x :: y :: l else y :: hitInsert x l := by
  simp [hitInsert]

theorem mem_hitInsert (x y : Hit) (l : List Hit) : y ∈ hitInsert x l ↔ y = x ∨ y ∈ l := by
  induction l with
  | nil => simp [hitInsert]
  | cons z l ih =>
    rw [hitInsert_cons]
    split
    · exact List.mem_cons
    · rw [List.mem_cons, List.mem_cons, ih, or_left_comm]

theorem pairwise_hitInsert (x : Hit) {l : List Hit} (h : l.Pairwise Hit.le) : (hitInsert x l).Pairwise Hit.le := by
  induction l with
  | nil => exact List.pairwise_singleton _ x
  | cons z l ih =>
    obtain ⟨hz, hl⟩ := List.pairwise_cons.mp h
    rw [hitInsert_cons]
    split
    next hlt =>
      have hxz : x.le z := hlt.imp_right (And.imp_right Nat.le_of_lt)
      refine List.pairwise_cons.mpr ⟨fun y hy => ?_, h⟩
      rcases List.mem_cons.mp hy with rfl | hy
      · exact hxz
      · exact Hit.le_trans hxz (hz y hy)
    next hge =>
      refine List.pairwise_cons.mpr ⟨fun y hy => ?_, ih hl⟩
      rcases (mem_hitInsert x y l).mp hy with rfl | hy
      · exact Hit.le_of_not_lt hge
      · exact hz y hy

/-! ### Entries (R284) -/

section
variable {s : State} {d : Nat} (m k : Nat) (v : Move)

theorem State.msWord_congr {t : State} {e : Nat} (h : (t.die e).mls.ms = (s.die e).mls.ms) (w : Nat) :
    t.msWord e m w = s.msWord e m w := by
  rw [State.msWord, State.msWord, h]

/-- A word is the same in an entry that was never armed as in one of zeros. -/
theorem State.msWord_entry (w : Nat) :
    s.msWord d m w = ((sgetD (s.die d).mls.ms m (List.replicate 8 0)).getD w 0).toNat := by
  rw [State.msWord, sgetD, sgetD]
  cases sget (s.die d).mls.ms m with
  | none =>
    exact congrArg BitVec.toNat
      ((List.getD_eq_getElem?_getD ..).trans (List.getElem?_getD_replicate_default_eq (0 : Word) 8 w)).symm
  | some ws => rfl

theorem State.msWord_msAdvance (w : Nat) : (s.msAdvance d m k v).msWord d m w = s.msWord d m w :=
  State.msWord_congr m (s.proj_modDie (fun x => x.mls.ms) d d _ rfl) w

/-- A compare value of POSITION or an encoder moves by its periods modulo 2^36. -/
theorem State.msC_msAdvance (h : d < 8) (hv : v.axis ≠ 0) : ((s.msAdvance d m k v).msC d m : Int) =
    (if bits (s.msWord d m 0) 3 2 = 1 then (s.msC d m : Int) - (k * s.msWord d m 3 : Nat)
      else s.msC d m + (k * s.msWord d m 3 : Nat)) % 2 ^ 36 := by
  simp only [State.msAdvance, State.modMls]
  rw [State.msC, State.die_modDie _ _ h, sgetD_sset_self, if_neg hv]
  exact Int.toNat_of_nonneg (Int.emod_nonneg _ (by decide))

end

/-! ### What a firing writes (R284, R288) -/

/-- The milestone entries of a die. -/
def Die.milestones (x : Die) : Store (List Word) := x.mls.ms

theorem milestones_apart : ApartFromUnits Die.milestones := fun _ _ _ _ _ _ _ _ _ _ _ => rfl

section
variable {s t : State} (h : s.keepsOf Die.milestones t) (d : Nat)
include h

theorem State.keepsOf.modEgr_milestones (f : Egress → Egress) : s.keepsOf Die.milestones (t.modEgr d f) :=
  h.modDie d _ rfl

theorem State.keepsOf.waitAction_milestones (m : Nat) : s.keepsOf Die.milestones (t.waitAction d m) := by
  unfold State.waitAction
  exact h.modDie d _ rfl

theorem State.keepsOf.unguard_milestones (p : Nat) (was : List Bool) : s.keepsOf Die.milestones (t.unguard d p was) := by
  unfold State.unguard
  refine List.foldlRecOn (motive := fun u => s.keepsOf Die.milestones u) _ _ h fun u hu q _ => ?_
  dsimp only
  split
  · exact hu.modEgr_milestones d _
  · exact hu

theorem State.keepsOf.gateAction_milestones (arg : Nat) : s.keepsOf Die.milestones (t.gateAction d arg) := by
  unfold State.gateAction State.mgateFire State.mgateSet
  exact ((h.setReg milestones_apart d .egrMgate _ _).unguard_milestones d _ _).modEgr_milestones d _

theorem State.keepsOf.sendAction_milestones (arg : Nat) (f : Firing) :
    s.keepsOf Die.milestones (t.sendAction d arg f) := by
  unfold State.sendAction
  dsimp only
  split
  · exact (h.count milestones_apart ..).event milestones_apart ..
  · have stamped : s.keepsOf Die.milestones t.stamp.2 := h.trans ⟨rfl, rfl, rfl, fun _ => rfl⟩
    exact stamped.modDie d _ rfl

theorem State.keepsOf.captureAction_milestones (f : Firing) : s.keepsOf Die.milestones (t.captureAction d f) := by
  unfold State.captureAction
  split
  · exact h.count milestones_apart ..
  · have put : s.keepsOf Die.milestones (t.modMls d fun m => { m with caps := m.caps ++ [f] }) := h.modDie d _ rfl
    exact put.event milestones_apart ..

theorem State.keepsOf.msAction_milestones (f : Firing) : s.keepsOf Die.milestones (t.msAction d f) := by
  unfold State.msAction
  dsimp only
  split
  · exact h.gateAction_milestones d _
  · exact h.sendAction_milestones d _ f
  · exact h.waitAction_milestones d _
  · exact h.trans ⟨rfl, rfl, rfl, fun _ => rfl⟩
  · exact h.captureAction_milestones d f

end

/-- A firing writes the words of its entry, and its action none. -/
theorem State.milestones_msFire {s : State} {d : Nat} (f : Firing) (h : d < 8) : ((s.msFire d f).die d).milestones =
    sset (s.die d).milestones f.ms (firedWords f (sgetD (s.die d).milestones f.ms (List.replicate 8 0))) := by
  have hread := (State.keepsOf.refl Die.milestones s).readUnit milestones_apart d 9 0 (cfgMilestone f.ms) true
  have hset : (((s.readUnit d 9 0 (cfgMilestone f.ms) true).msSet d f.ms (firedWords f)).die d).milestones =
      sset (s.die d).milestones f.ms (firedWords f (sgetD (s.die d).milestones f.ms (List.replicate 8 0))) := by
    rw [← hread.dies d]
    exact congrArg Die.milestones (State.die_modDie _ _ h)
  rw [← hset, State.msFire]
  generalize (s.readUnit d 9 0 (cfgMilestone f.ms) true).msSet d f.ms (firedWords f) = u
  have counted := (State.keepsOf.refl Die.milestones u).count milestones_apart d ctrMLS 0 1
  refine (State.keepsOf.msAction_milestones ?_ d f).dies d
  have late : u.keepsOf Die.milestones (if f.late then ((u.count d ctrMLS 0).count d ctrMLS 1).event d .mls 4
      else u.count d ctrMLS 0) := by
    split
    · exact (counted.count milestones_apart ..).event milestones_apart ..
    · exact counted
  split
  · exact late.count milestones_apart ..
  · exact late

/-- A field that lies above a replaced bit is as it was. -/
theorem bits_putBit_above (n : Nat) {i lo : Nat} (b : Bool) (w : Nat) (h : i < lo) : bits (putBit n i b) lo w = bits n lo w :=
  bits_putBits_above _ _ w h

/-- What a firing makes of an entry's flags and counts: bit 0 armed, bits 1 and 3 late and down, bits 4 to 19 FIRED. -/
def firedFlags (f : Firing) (w : Nat) (rep : Bool) : Nat :=
  let flags := putBit (putBit (putBit w 0 (bit w 0 && rep)) 1 f.late) 3 f.down
  putBits flags 4 16 (min 65535 (bits flags 4 16 + 1))

theorem bit_firedFlags (f : Firing) (w : Nat) (rep : Bool) : bit (firedFlags f w rep) 0 = (bit w 0 && rep) := by
  rw [firedFlags, bit_putBits_below _ _ _ (by decide), putBit, bit_putBits_below _ _ _ (by decide), putBit,
    bit_putBits_below _ _ _ (by decide), bit_putBit_self]

theorem bits_firedFlags (f : Firing) (w : Nat) (rep : Bool) :
    bits (firedFlags f w rep) 4 16 = min 65535 (bits w 4 16 + 1) := by
  have hmax : min 65535 (bits w 4 16 + 1) < 2 ^ 16 := by omega
  rw [firedFlags, bits_putBits_self, bits_putBit_above _ _ _ (by decide), bits_putBit_above _ _ _ (by decide),
    bits_putBit_above _ _ _ (by decide), Nat.mod_eq_of_lt hmax]

section
variable (f : Firing) {ws : List Word} (h : ws.length = 8)
include h

theorem firedWords_time_high : ((firedWords f ws).getD 6 0).toNat = f.time / 2 ^ 36 % 2 ^ 36 := by
  simp [firedWords, List.getD_eq_getElem?_getD, h, w36]

theorem firedWords_time_low : ((firedWords f ws).getD 7 0).toNat = f.time % 2 ^ 36 := by
  simp [firedWords, List.getD_eq_getElem?_getD, h, w36]

theorem firedWords_flags :
    (firedWords f ws).getD 5 0 = w36 (firedFlags f (ws.getD 5 0).toNat (bit (ws.getD 0 0).toNat 6)) := by
  simp [firedWords, firedFlags, List.getD_eq_getElem?_getD, h]

/-- A firing disarms the entry unless it repeats (R284). -/
theorem firedWords_armed :
    bit ((firedWords f ws).getD 5 0).toNat 0 = (bit (ws.getD 5 0).toNat 0 && bit (ws.getD 0 0).toNat 6) := by
  rw [firedWords_flags f h, bit_eq_bits, bits_w36 _ (by decide), ← bit_eq_bits, bit_firedFlags]

/-- A firing counts in FIRED, which stays at its maximum (R284). -/
theorem firedWords_count :
    bits ((firedWords f ws).getD 5 0).toNat 4 16 = min 65535 (bits (ws.getD 5 0).toNat 4 16 + 1) := by
  rw [firedWords_flags f h, bits_w36 _ (by decide), bits_firedFlags]

end

/-- The words of an entry of full length after its firing. -/
theorem State.msWord_msFire {s : State} {d : Nat} (f : Firing) (h : d < 8) (w : Nat) : (s.msFire d f).msWord d f.ms w =
    ((firedWords f (sgetD (s.die d).mls.ms f.ms (List.replicate 8 0))).getD w 0).toNat := by
  have hms : ((s.msFire d f).die d).mls.ms = _ := s.milestones_msFire f h
  rw [State.msWord, hms, sgetD_sset_self]
  rfl

end Sys2Proof.Machine
end

section
/-! SUPPORT. Milestones: the commands of firings, of the milestone ring and of the event outputs, each in the case that its
hypotheses name (R287 to R294, R468). -/

namespace Sys2Proof.Machine

open Sys2Proof

theorem Quota.room_iff (q : Quota) (now : Nat) : q.room now = true ↔ q.at_ ≠ now ∨ q.used < 4 := by
  simp [Quota.room]

theorem Quota.room_full {q : Quota} {now : Nat} (h : q.at_ = now) (hu : 4 ≤ q.used) : q.room now = false := by
  rw [← Bool.not_eq_true, Quota.room_iff]
  omega

section
variable {s : State} {d : Nat}

/-! ### Firing (R287) -/

theorem exec_milestoneFire (h : s.live d) :
    exec (.milestoneFire d) s = .next (s.keep (((s.msEval d).msPop d).settle d)) := onDieS_live h _

theorem State.msPop_nil (h : (s.die d).mls.due = []) : s.msPop d = s := by
  rw [State.msPop, h]

theorem State.msPop_room {f : Firing} {rest : List Firing} (h : (s.die d).mls.due = f :: rest)
    (hr : (s.die d).mls.fires.room s.now = true) :
    s.msPop d = (s.modMls d fun m => { m with due := rest, fires := m.fires.take s.now }).msFire d f := by
  simp only [State.msPop, h]
  exact if_pos hr

theorem State.msPop_full {f : Firing} {rest : List Firing} (h : (s.die d).mls.due = f :: rest)
    (hr : (s.die d).mls.fires.room s.now = false) : s.msPop d = s := by
  simp only [State.msPop, h, hr]
  rfl

/-! ### Actions (R288, R289, R291) -/

theorem State.msAction_capture {f : Firing} (h : 4 ≤ bits (s.msWord d f.ms 0) 8 3) : s.msAction d f = s.captureAction d f := by
  unfold State.msAction
  dsimp only
  split
  case h_5 => rfl
  all_goals omega

theorem State.captureAction_full {f : Firing} (h : 64 ≤ (s.die d).mls.caps.length) :
    s.captureAction d f = s.count d ctrMLS 7 := if_pos h

theorem State.caps_captureAction {f : Firing} (hd : d < 8) (h : (s.die d).mls.caps.length < 64) :
    ((s.captureAction d f).die d).mls.caps = (s.die d).mls.caps ++ [f] := by
  rw [State.captureAction, if_neg (Nat.not_le.mpr h), ((State.keepsOf.refl Die.mls _).event mls_apart d .mls 1).dies d,
    State.modMls, State.die_modDie _ _ hd]

theorem State.modMls_congr (s : State) (d : Nat) {f g : Mls → Mls} (h : f (s.die d).mls = g (s.die d).mls) :
    s.modMls d f = s.modMls d g :=
  s.modDie_congr d (by rw [h])

theorem State.sendNext_first {m : SendMsg} {rest : List SendMsg} (h : s.sendFits d m = true) :
    s.sendNext d [] (m :: rest) = some m := by
  simp [State.sendNext, h]

theorem exec_sendDelivery {m : SendMsg} {rest : List SendMsg} (h : s.live d) (hs : (s.die d).mls.sends = m :: rest)
    (hf : s.sendFits d m = true) : exec (.sendDelivery d) s = .next (s.keep
      ((((s.setChan d m.chan { s.chan d m.chan with msgs := (s.chan d m.chan).msgs ++
        [{ at_ := s.now, words := m.words.map fun w => (w, false) }] }).modMls d fun x => { x with
          sends := rest }).modThr d m.thread fun x => { x with msLatch := true }).settle d)) := by
  have hn : s.sendNext d [] (s.die d).mls.sends = some m := hs ▸ State.sendNext_first hf
  change execSendDelivery d s = _
  simp only [execSendDelivery, onDieS_live h, hn]
  generalize hu : s.setChan d m.chan _ = u
  have hsends : (u.die d).mls.sends.erase m = rest := by
    rw [← hu, State.setChan, s.proj_modDie (fun x => x.mls.sends) d d _ rfl, hs, List.erase_cons_head]
  rw [State.modMls_congr u d (f := fun x => { x with sends := x.sends.erase m })
    (g := fun x => { x with sends := rest }) (by rw [hsends])]

/-! ### Operations that wait (R290) -/

section
variable {w : Nat} {rest : List Nat} {o : Op} (h : s.live d) (hw : (s.die d).mls.waits = w :: rest)
  (ho : s.op d (w % 16384) = some o) (hord : o.order = w / 16384) (hk : o.kind = 3) (hst : o.st = .engine)
include h hw ho hord hk hst

theorem exec_milestoneWaitComplete_room (hr : (s.die d).mls.done.room s.now = true) :
    exec (.milestoneWaitComplete d) s = .next (s.keep
      ((((s.modMls d fun m => { m with waits := rest, done := m.done.take s.now }).engineDone d (w % 16384) o 0).count d ctrMLS
        6).settle d)) := by
  refine (onDieS_live h _).trans ?_
  simp only [hw, ho, hord, hk, hst, hr]
  rfl

theorem exec_milestoneWaitComplete_full (hr : (s.die d).mls.done.room s.now = false) :
    exec (.milestoneWaitComplete d) s = .next (s.keep (s.settle d)) := by
  refine (onDieS_live h _).trans ?_
  simp only [hw, ho, hord, hk, hst, hr]
  rfl

end

/-! ### Event outputs (R288, R468) -/

section
variable {pin op due : Nat} {rest : List (Nat × Nat × Nat)} (h : s.inReset = false) (hq : s.ax.pinQ = (pin, op, due) :: rest)

/-- What the change at the head of the queue does, by its code: TOGGLE, SET, CLEAR and PULSE. -/
def State.pinChanged (s : State) (pin op : Nat) (rest : List (Nat × Nat × Nat)) : State :=
  let u := s.modAx fun a => { a with pinQ := rest, pulses := sdel a.pulses pin }
  match op with
  | 0 => u.drivePin pin (!bit u.ax.pins pin)
  | 1 => u.drivePin pin true
  | 2 => u.drivePin pin false
  | _ => (u.modAx fun a => { a with
      pulses := sset a.pulses pin (u.now + max 4 (u.fld 0 .mlsPinCfg [] 0 16)) }).drivePin pin true

include h hq

theorem exec_eventPinChange_early (hd : s.now < due) : exec .eventPinChange s = .next (s.keep s) := by
  change execEventPinChange s = _
  simp only [execEventPinChange, cmd_awake h, hq, if_pos hd]

theorem exec_eventPinChange_due (hd : due ≤ s.now) :
    exec .eventPinChange s = .next (s.keep (s.pinChanged pin op rest)) := by
  change execEventPinChange s = _
  simp only [execEventPinChange, cmd_awake h, hq, if_neg (Nat.not_lt.mpr hd)]
  rfl

end

theorem exec_pinPulseEnd {pin t : Nat} (h : s.inReset = false) (hp : pin < 8) (hs : sget s.ax.pulses pin = some t) :
    exec (.pinPulseEnd pin) s = .next (s.keep
      (if t ≤ s.now then (s.modAx fun a => { a with pulses := sdel a.pulses pin }).drivePin pin false else s)) := by
  refine (if_neg (Nat.not_le.mpr hp)).trans ((cmd_awake h _).trans ?_)
  simp only [hs]

/-! ### The milestone ring (R292 to R294) -/

section
variable {t : State}

theorem exec_msArm (h : s.live d) (ht : s.msRing d 1 = t) : exec (.msArm d) s = .next (s.keep (t.settle d)) :=
  ht ▸ onDieS_live h _

theorem exec_msDisarm (h : s.live d) (ht : s.msRing d 2 = t) : exec (.msDisarm d) s = .next (s.keep (t.settle d)) :=
  ht ▸ onDieS_live h _

theorem exec_msRead (h : s.live d) (ht : s.msRing d 3 = t) : exec (.msRead d) s = .next (s.keep (t.settle d)) :=
  ht ▸ onDieS_live h _

theorem exec_axisSet (h : s.live d) (ht : s.msRing d 4 = t) : exec (.axisSet d) s = .next (s.keep (t.settle d)) :=
  ht ▸ onDieS_live h _

end

/-- A milestone entry has no poison bit, so a read of one without errors changes nothing (R357). -/
theorem State.readUnit_milestone {m : Nat} (hf : (s.die d).flips (unitKey 9 0 (cfgMilestone m)) = 0) :
    s.readUnit d 9 0 (cfgMilestone m) true = s :=
  State.readUnit_unflipped true hf

/-- The command at the head runs after the firings that are due. -/
theorem State.msRing_waits {c : RCmd} {op : Nat} (h : s.msHead d op c)
    (hw : (s.msFlush d).msWaits d op (bits c.d0 8 10) = true) : s.msRing d op = s.msFlush d := by
  obtain ⟨-, hc, hop, -⟩ := h
  simp [State.msRing, hc, hop, hw]

section
variable {c : RCmd} {m : Nat} (hm : bits c.d0 8 10 = m)
include hm

section
variable (h : s.msHead d 1 c) (hw : (s.msFlush d).msWaits d 1 m = false)
include h hw

theorem State.msRing_arm_malformed (he : ((s.msFlush d).msEntryOk d fun i => c.arg.getD i 0) = false) :
    s.msRing d 1 = (s.msFlush d).ringDone d 2 cMALFORMED 0 ((s.msFlush d).msWord d m 5) := by
  obtain ⟨-, hc, hop, hform⟩ := h
  simp only [List.getD_eq_getElem?_getD] at he
  simp [State.msRing, hc, hop, hform, hm, hw, he]

variable (he : ((s.msFlush d).msEntryOk d fun i => c.arg.getD i 0) = true)
include he

theorem State.msRing_arm_armed (ha : (s.msFlush d).msArmed d c = true) : s.msRing d 1 =
    ((s.msFlush d).ringDone d 2 cSTATE 0 ((s.msFlush d).msWord d m 5)).count d ctrMLS 14 := by
  obtain ⟨-, hc, hop, hform⟩ := h
  rw [State.msArmed, hm] at ha
  simp only [List.getD_eq_getElem?_getD] at he
  simp [State.msRing, hc, hop, hform, hm, hw, he, ha]

theorem State.msRing_arm (ha : (s.msFlush d).msArmed d c = false) : s.msRing d 1 =
    ((s.msFlush d).msArm d m c).ringDone d 2 cDONE 0 (((s.msFlush d).msArm d m c).msWord d m 5) := by
  obtain ⟨-, hc, hop, hform⟩ := h
  rw [State.msArmed, hm] at ha
  simp only [List.getD_eq_getElem?_getD] at he
  simp [State.msRing, hc, hop, hform, hm, hw, he, ha]

end

section
variable (h : s.msHead d 2 c) (hw : (s.msFlush d).msWaits d 2 m = false)
include h hw

theorem State.msRing_disarm_idle (ha : (s.msFlush d).msArmed d c = false) : s.msRing d 2 =
    ((s.msFlush d).ringDone d 2 cSTATE 0 ((s.msFlush d).msWord d m 5)).count d ctrMLS 14 := by
  obtain ⟨-, hc, hop, hform⟩ := h
  rw [State.msArmed, hm] at ha
  simp [State.msRing, hc, hop, hform, hm, hw, ha]

/-- MS_DISARM clears bit 0 of the entry's word 5. -/
def State.msDisarmed (s : State) (d m : Nat) : State :=
  s.msSet d m fun ws => ws.set 5 (w36 (putBit (ws.getD 5 0).toNat 0 false))

theorem State.msRing_disarm (ha : (s.msFlush d).msArmed d c = true) : s.msRing d 2 =
    ((s.msFlush d).msDisarmed d m).ringDone d 2 cDONE 0 (((s.msFlush d).msDisarmed d m).msWord d m 5) := by
  obtain ⟨-, hc, hop, hform⟩ := h
  rw [State.msArmed, hm] at ha
  simp [State.msRing, State.msDisarmed, hc, hop, hform, hm, hw, ha]

end

theorem State.msRing_read (h : s.msHead d 3 c) (hf : ((s.msFlush d).die d).flips (unitKey 9 0 (cfgMilestone m)) = 0) :
    s.msRing d 3 = ((s.msFlush d).emit
      (.hostWrite d c.d1 (slotBytes ((List.range 8).map fun w => w36 ((s.msFlush d).msWord d m w))))).ringDone d 2 cDONE := by
  obtain ⟨-, hc, hop, hform⟩ := h
  have hw : (s.msFlush d).msWaits d 3 m = false := by simp [State.msWaits]
  simp only [State.msRing, hc, hop, hform, hm, hw, State.readUnit_milestone hf]
  simp

end

section
variable {c : RCmd} (h : s.msHead d 4 c)
include h

theorem State.msRing_axis_off (hn : bits c.d0 18 3 ≠ 0) (hv : ((s.msFlush d).view 0 (bits c.d0 18 3)).1.st = 0) :
    s.msRing d 4 = ((s.msFlush d).ringDone d 2 cSTATE 0 0).count d ctrMLS 14 := by
  obtain ⟨-, hc, hop, hform⟩ := h
  simp [State.msRing, State.msWaits, hc, hop, hform, hn, hv]

theorem State.msRing_axis (hn : bits c.d0 18 3 = 0 ∨ ((s.msFlush d).view 0 (bits c.d0 18 3)).1.st ≠ 0) :
    s.msRing d 4 = ((s.msFlush d).axisSet (bits c.d0 18 3) (c.arg.getD 0 0 + c.arg.getD 1 0 * 2 ^ 36)).1.ringDone d 2 cDONE 0
      ((s.msFlush d).axisSet (bits c.d0 18 3) (c.arg.getD 0 0 + c.arg.getD 1 0 * 2 ^ 36)).2 := by
  obtain ⟨-, hc, hop, hform⟩ := h
  have hgo : ¬((bits c.d0 18 3 ≠ 0 && ((s.msFlush d).view 0 (bits c.d0 18 3)).1.st = 0) = true) := by
    simpa [← or_iff_not_imp_left] using hn
  have hw : (s.msFlush d).msWaits d 4 (bits c.d0 8 10) = false := rfl
  simp only [State.msRing, hc, hop, hform, hw, if_neg hgo]
  rfl

end

/-! ### Registers (R280, R291) -/

theorem exec_capturePop (h : s.hostReaches d) :
    exec (.capturePop d) s = .next (s.keep (s.modMls d fun m => { m with caps := m.caps.drop 1 })) :=
  onHost_reached h rfl fun s => s.modMls d fun m => { m with caps := m.caps.drop 1 }

/-- A milestone word has 36 bits, so its high half has 4. -/
theorem State.bits_msWord_high (m w : Nat) : bits (s.msWord d m w) 32 4 = s.msWord d m w / 2 ^ 32 := by
  have hlt : s.msWord d m w < 2 ^ 36 := BitVec.isLt _
  rw [bits, Nat.mod_eq_of_lt (by omega)]

theorem exec_msDataRead {m w : Nat} (h : s.hostReaches d) (hm : bits (s.reg d .mlsMsAddr []) 0 10 = m)
    (hw : bits (s.reg d .mlsMsAddr []) 10 3 = w) (hf : (s.die d).flips (unitKey 9 0 (cfgMilestone m)) = 0) :
    exec (.msDataRead d) s = .next (s.keep ((s.emit (.readData (s.msWord d m w / 2 ^ 32) false)).setReg d .mlsMsAddr []
      (if w = 7 then (m + 1) % 1024 else m + (w + 1) * 2 ^ 10))) := by
  change execMsDataRead d s = _
  simp only [execMsDataRead, onHostRead_reached h rfl, State.msData, hm, hw, State.readUnit_milestone hf, State.bits_msWord_high]

end
end Sys2Proof.Machine
end

section
/-! PROOFS. Milestones. -/

namespace Sys2Proof.Machine

open Sys2Proof

/-- Settles O54: each command is one change whose guards the hypotheses decide; a firing writes its words, and no action writes
an entry. -/
theorem milestonesFireAndActOnTheirRing : Obligations.MilestonesFireAndActOnTheirRing := by
  unfold Obligations.MilestonesFireAndActOnTheirRing
  refine ⟨fun m c => Move.crosses_isSome c, ?_, fun x l h => ⟨pairwise_hitInsert x h, fun y => mem_hitInsert x y l⟩,
    fun s d m k w v h => ⟨State.msWord_msAdvance m k v w, State.msC_msAdvance m k v h⟩, ?_, ?_,
    fun s d m rest => exec_sendDelivery, ?_, ?_, ?_, ?_, fun s v => ⟨rfl, rfl⟩, fun s d => exec_capturePop,
    fun s d h => exec_msDataRead h rfl rfl⟩
  · -- MILESTONE_FIRE
    intro s d h u
    have hnow : u.now = s.now := State.now_of_axisBase (s.axisBase_msEval d)
    refine ⟨fun hn => ?_, fun f rest hf => ⟨fun hat hu => ?_, fun hr => ?_⟩⟩
    · rw [exec_milestoneFire h, State.msPop_nil hn]
    · rw [exec_milestoneFire h, State.msPop_full hf (Quota.room_full (hat.trans hnow.symm) hu)]
    · rw [← hnow] at hr
      rw [exec_milestoneFire h, State.msPop_room hf ((Quota.room_iff _ _).mpr hr), hnow]
  · -- the words of a firing
    intro s d f h hlen u
    refine ⟨?_, ?_, ?_, ?_⟩
    · exact (State.msWord_msFire f h 6).trans (firedWords_time_high f hlen)
    · exact (State.msWord_msFire f h 7).trans (firedWords_time_low f hlen)
    · rw [State.msWord_msFire f h 5, firedWords_armed f hlen, Bool.and_eq_true, ← State.msWord_entry, ← State.msWord_entry]
    · rw [State.msWord_msFire f h 5, firedWords_count f hlen, ← State.msWord_entry]
  · -- CAPTURE
    intro s d f hc h
    rw [State.msAction_capture hc]
    exact ⟨State.captureAction_full, State.caps_captureAction h⟩
  · -- MILESTONE_WAIT_COMPLETE
    intro s d w rest o h hw ho hord hk hst
    exact ⟨fun hr => exec_milestoneWaitComplete_room h hw ho hord hk hst ((Quota.room_iff _ _).mpr hr),
      fun hat hu => exec_milestoneWaitComplete_full h hw ho hord hk hst (Quota.room_full hat hu)⟩
  · -- EVENT_PIN_CHANGE
    intro s pin op due rest h hq u
    refine ⟨exec_eventPinChange_early h hq, fun hd => ?_⟩
    rw [exec_eventPinChange_due h hq hd]
    refine ⟨?_, ?_, ?_, ?_⟩ <;> (rintro rfl; rfl)
  · -- PIN_PULSE_END
    intro s pin t h hp hs
    rw [exec_pinPulseEnd h hp hs]
    exact ⟨fun ht => by rw [if_pos ht], fun ht => by rw [if_neg (Nat.not_le.mpr ht)]⟩
  · -- the milestone ring
    intro s d c
    dsimp only
    exact ⟨fun h hw => exec_msArm h.1 (State.msRing_waits h hw),
      fun h hw => ⟨fun he => exec_msArm h.1 (State.msRing_arm_malformed rfl h hw he),
        fun he ha => exec_msArm h.1 (State.msRing_arm_armed rfl h hw he ha),
        fun he ha => exec_msArm h.1 (State.msRing_arm rfl h hw he ha)⟩,
      fun h hw => exec_msDisarm h.1 (State.msRing_waits h hw),
      fun h hw => ⟨fun ha => exec_msDisarm h.1 (State.msRing_disarm_idle rfl h hw ha),
        fun ha => exec_msDisarm h.1 (State.msRing_disarm rfl h hw ha)⟩,
      fun h hf => exec_msRead h.1 (State.msRing_read rfl h hf),
      fun h => ⟨fun hn hv => exec_axisSet h.1 (State.msRing_axis_off h hn hv),
        fun hn => exec_axisSet h.1 (State.msRing_axis h hn)⟩⟩

end Sys2Proof.Machine
end

section
/-! SUPPORT. What the axes go by stays through the work of a fabric cycle: the changes of a die, its errors and tags, its packets and
helpers, and the operations of its dispatcher. -/

namespace Sys2Proof.Machine

open Sys2Proof

variable (s : State) (d : Nat)

/-! ### Changes of a die -/

@[simp] theorem State.axisBase_modDsp (f : Dispatcher → Dispatcher) : (s.modDsp d f).axisBase = s.axisBase :=
  s.axisBase_modDie d _ rfl

@[simp] theorem State.axisBase_modDram (f : Dram → Dram) : (s.modDram d f).axisBase = s.axisBase :=
  s.axisBase_modDie d _ rfl

@[simp] theorem State.axisBase_modTbl (f : Tables → Tables) : (s.modTbl d f).axisBase = s.axisBase :=
  s.axisBase_modDie d _ rfl

@[simp] theorem State.axisBase_modTly (f : Tally → Tally) : (s.modTly d f).axisBase = s.axisBase :=
  s.axisBase_modDie d _ rfl

@[simp] theorem State.axisBase_setThr (k : Nat) (x : Thread) : (s.setThr d k x).axisBase = s.axisBase :=
  s.axisBase_modDie d _ rfl

@[simp] theorem State.axisBase_modThr (k : Nat) (f : Thread → Thread) : (s.modThr d k f).axisBase = s.axisBase :=
  s.axisBase_setThr d k _

@[simp] theorem State.axisBase_setCore (c : Nat) (x : Core) : (s.setCore d c x).axisBase = s.axisBase :=
  s.axisBase_modDie d _ rfl

@[simp] theorem State.axisBase_modCore (c : Nat) (f : Core → Core) : (s.modCore d c f).axisBase = s.axisBase :=
  s.axisBase_setCore d c _

@[simp] theorem State.axisBase_modPair (c : Nat) (f : Core → Core) : (s.modPair d c f).axisBase = s.axisBase := by
  unfold State.modPair
  dsimp only
  split <;> simp

@[simp] theorem State.axisBase_setHelper (j : Nat) (x : Helper) : (s.setHelper d j x).axisBase = s.axisBase :=
  s.axisBase_modDie d _ rfl

@[simp] theorem State.axisBase_setRing (r : Nat) (x : Ring) : (s.setRing d r x).axisBase = s.axisBase :=
  s.axisBase_modDie d _ rfl

@[simp] theorem State.axisBase_setInst (i : Nat) (x : Inst) : (s.setInst d i x).axisBase = s.axisBase :=
  s.axisBase_modDsp d _

@[simp] theorem State.axisBase_setOp (slot : Nat) (o : Op) : (s.setOp d slot o).axisBase = s.axisBase :=
  s.axisBase_modDsp d _

@[simp] theorem State.axisBase_setBoard (p : Nat) (b : List Ticket) : (s.setBoard d p b).axisBase = s.axisBase :=
  s.axisBase_modHop d _

@[simp] theorem State.axisBase_countCore (c i n : Nat) : (s.countCore d c i n).axisBase = s.axisBase :=
  s.axisBase_count ..

@[simp] theorem State.axisBase_violation : (s.violation d).axisBase = s.axisBase := s.axisBase_count ..

@[simp] theorem State.axisBase_send (f : Flight) : (s.send f).axisBase = s.axisBase := rfl

@[simp] theorem State.axisBase_stamps (n : Nat) : ({ s with stamps := n } : State).axisBase = s.axisBase := rfl

@[simp] theorem State.axisBase_pick (used : List Nat) (n : Nat) : (s.pick used n).2.axisBase = s.axisBase := rfl

/-! ### Journal, errors and tags (R357, R358, R367, R424, R439, R440) -/

@[simp] theorem State.axisBase_journalRec (r : JRec) : (s.journalRec r).axisBase = s.axisBase := by
  unfold State.journalRec
  split
  · rfl
  · exact State.axisBase_setReg _ 0 _ (by decide)

@[simp] theorem State.axisBase_journalBy (kind reason w4 w5 w6 : Nat) :
    (s.journalBy d kind reason w4 w5 w6).axisBase = s.axisBase := by
  unfold State.journalBy
  split
  · simp
  · rfl

@[simp] theorem State.axisBase_errRecord (r : ErrRec) : (s.errRecord d r).axisBase = s.axisBase := by
  have ring : (s.modDie d fun x => { x with errRing := x.errRing ++ [r] }).axisBase = s.axisBase :=
    s.axisBase_modDie d _ rfl
  unfold State.errRecord
  dsimp only
  split_ifs <;> simp [ring]

@[simp] theorem State.axisBase_poisonUnit (store cluster unit : Nat) :
    (s.poisonUnit d store cluster unit).axisBase = s.axisBase := by
  unfold State.poisonUnit
  split
  case h_8 => rfl
  all_goals exact s.axisBase_modDie d _ rfl

/-- A unit waits for its writeback. -/
@[simp] theorem State.axisBase_wback (key : Nat) :
    (s.modDie d fun x => { x with wback := mark x.wback key }).axisBase = s.axisBase := s.axisBase_modDie d _ rfl

@[simp] theorem State.axisBase_readUnit (store cluster unit : Nat) (demand : Bool) :
    (s.readUnit d store cluster unit demand).axisBase = s.axisBase := by
  unfold State.readUnit
  dsimp only
  split_ifs <;> simp

@[simp] theorem State.axisBase_readUnits (store cluster : Nat) (unit : Nat → Nat) (demand : Bool) (l : List Nat) :
    (l.foldl (fun s j => s.readUnit d store cluster (unit j) demand) s).axisBase = s.axisBase :=
  s.axisBase_foldl l fun u j => u.axisBase_readUnit d store cluster (unit j) demand

@[simp] theorem State.axisBase_tagPush (r : TagRec) : (s.tagPush d r).axisBase = s.axisBase := by
  unfold State.tagPush
  split
  · exact (State.axisBase_count ..).trans (s.axisBase_modDie d _ rfl)
  · simp

@[simp] theorem State.axisBase_tagOp (slot : Nat) (o : Op) (reason : Nat) : (s.tagOp d slot o reason).axisBase = s.axisBase := by
  unfold State.tagOp
  split
  · rfl
  · simp

@[simp] theorem State.axisBase_tagDraw : (s.tagDraw d).2.axisBase = s.axisBase := by
  unfold State.tagDraw
  dsimp only
  split_ifs <;> simp

/-! ### Packets and tickets (R18 to R23) -/

@[simp] theorem State.axisBase_freeCells (cells : List Nat) : (s.freeCells d cells).axisBase = s.axisBase :=
  s.axisBase_modHop d _

@[simp] theorem State.axisBase_reap (pid : Nat) : (s.reap d pid).axisBase = s.axisBase := by
  unfold State.reap
  split
  · split
    · simp
    · rfl
  · rfl

@[simp] theorem State.axisBase_modPkt (pid : Nat) (f : Packet → Packet) : (s.modPkt d pid f).axisBase = s.axisBase := by
  unfold State.modPkt
  split
  · simp
  · rfl

@[simp] theorem State.axisBase_unhold (pid : Nat) : (s.unhold d pid).axisBase = s.axisBase := by
  simp [State.unhold]

@[simp] theorem State.axisBase_settleTicket (r : Resolution) : (s.settleTicket r).axisBase = s.axisBase := by
  unfold State.settleTicket
  dsimp only
  split_ifs <;> simp

@[simp] theorem State.axisBase_resolveFrom (r : Resolution) : (s.resolveFrom d r).axisBase = s.axisBase := by
  unfold State.resolveFrom
  split_ifs <;> simp

@[simp] theorem State.axisBase_dropPkt (pid reason : Nat) (tagged : Bool) :
    (s.dropPkt d pid reason tagged).axisBase = s.axisBase := by
  unfold State.dropPkt
  split
  · rfl
  · dsimp only
    split <;> simp

@[simp] theorem State.axisBase_resolvePkt (pid : Nat) (enqs : List Enq) (tagged : Bool) (reason : Nat) :
    (s.resolvePkt d pid enqs tagged reason).axisBase = s.axisBase := by
  unfold State.resolvePkt
  split
  · rfl
  · simp

@[simp] theorem State.axisBase_countReason (reason : Nat) : (s.countReason d reason).axisBase = s.axisBase := by
  unfold State.countReason
  split_ifs <;> simp

@[simp] theorem State.axisBase_defaultAct (st : Staged) (reason : Nat) :
    (s.defaultAct d st reason).1.axisBase = s.axisBase := by
  unfold State.defaultAct
  split
  · rfl
  · dsimp only
    split <;> simp

/-! ### Helper locks (R209 to R212) -/

@[simp] theorem State.axisBase_readDesc (slot : Nat) : (s.readDesc d slot).axisBase = s.axisBase := by
  unfold State.readDesc
  split
  · rfl
  · exact s.axisBase_readUnits d 7 0 _ true _

@[simp] theorem State.axisBase_lockToOp (j slot : Nat) : (s.lockToOp d j slot).axisBase = s.axisBase := by
  unfold State.lockToOp
  dsimp only
  split <;> simp

@[simp] theorem State.axisBase_grantLock (j : Nat) : (s.grantLock d j).axisBase = s.axisBase := by
  unfold State.grantLock
  dsimp only
  split
  · rfl
  split
  · rfl
  · split <;> simp

@[simp] theorem State.axisBase_squash (k : Nat) : (s.squash d k).axisBase = s.axisBase :=
  s.axisBase_foldl _ fun u n => by simp

@[simp] theorem State.axisBase_squashOp (slot : Nat) : (s.squashOp d slot).axisBase = s.axisBase :=
  s.axisBase_foldl _ fun u j => by
    dsimp only
    split <;> simp

/-- The list of the group's cores is taken as any function: the kernel would compute it, product by product. -/
@[simp] theorem State.axisBase_helperPlace (slot : Nat) : (s.helperPlace d slot).axisBase = s.axisBase := by
  unfold State.helperPlace
  obtain ⟨cores, hcores⟩ : ∃ f, f = State.groupCores := ⟨_, rfl⟩
  rw [← hcores]
  clear hcores
  split
  · rfl
  split
  · rfl
  dsimp only
  split
  · simp
  split <;> simp

/-! ### Operations and the end of instances (R90, R98 to R103, R113 to R115) -/

@[simp] theorem State.axisBase_clearThreadOp (o : Op) (slot : Nat) : (s.clearThreadOp d o slot).axisBase = s.axisBase := by
  unfold State.clearThreadOp
  split
  · split <;> simp
  · rfl

@[simp] theorem State.axisBase_ready (slot : Nat) (o : Op) (head : Bool) : (s.ready d slot o head).axisBase = s.axisBase := by
  simp [State.ready]

@[simp] theorem State.axisBase_launch (slot : Nat) : (s.launch d slot).axisBase = s.axisBase := by
  unfold State.launch
  split
  · rfl
  · dsimp only
    split_ifs <;> simp

@[simp] theorem State.axisBase_createOp (i n : Nat) : (s.createOp d i n).axisBase = s.axisBase := by
  unfold State.createOp
  split
  · rfl
  · dsimp only
    split_ifs <;> simp

@[simp] theorem State.axisBase_unpark (i : Nat) : (s.unpark d i).axisBase = s.axisBase := by
  unfold State.unpark
  split
  · rfl
  split
  · split <;> simp
  · rfl

@[simp] theorem State.axisBase_lastFrees (o : Op) : (s.lastFrees d o).axisBase = s.axisBase := by
  unfold State.lastFrees
  split
  · split <;> simp
  · rfl

@[simp] theorem State.axisBase_leaveFlow (slot : Nat) (o : Op) : (s.leaveFlow d slot o).axisBase = s.axisBase := by
  unfold State.leaveFlow
  split
  · rfl
  dsimp only
  split
  · split <;> simp
  · simp

@[simp] theorem State.axisBase_freeSlot (slot : Nat) : (s.freeSlot d slot).axisBase = s.axisBase := by
  unfold State.freeSlot
  split
  · rfl
  dsimp only
  split
  · rw [State.axisBase_unpark, State.axisBase_unpark, State.axisBase_lastFrees, State.axisBase_leaveFlow]
    split <;> simp
  · rw [State.axisBase_unpark, State.axisBase_lastFrees, State.axisBase_leaveFlow]
    split <;> simp

end Sys2Proof.Machine
end

section
/-! SUPPORT. What the axes go by stays through aborts, the completions of rings, and faults and stops of cores. -/

namespace Sys2Proof.Machine

open Sys2Proof

variable (s : State) (d : Nat)

/-! ### Aborts and dispositions (R110 to R112) -/

@[simp] theorem State.axisBase_killOp (slot reason : Nat) : (s.killOp d slot reason).axisBase = s.axisBase := by
  unfold State.killOp
  split
  · rfl
  dsimp only
  rw [State.axisBase_freeSlot, State.axisBase_squashOp]
  split
  · split <;> simp
  · simp

@[simp] theorem State.axisBase_orphan (i : Nat) (x : Inst) (frees : Bool) : (s.orphan d i x frees).axisBase = s.axisBase := by
  have left : ∀ l : List (Nat × Op),
      (l.foldl (fun s p => s.setOp d p.1 { p.2 with inst := noInst, frees := frees }) s).axisBase = s.axisBase :=
    fun l => s.axisBase_foldl l fun u p => by simp
  unfold State.orphan
  dsimp only
  split
  · split <;> simp [left]
  · simp [left]

@[simp] theorem State.axisBase_lastFault (node reason : Nat) (replayed : Bool) (x : Inst) :
    (s.lastFault d node reason replayed x).axisBase = s.axisBase :=
  s.axisBase_setReg d _ (by decide)

@[simp] theorem State.axisBase_noteAbort (slot node reason : Nat) (replayed : Bool) (x : Inst) :
    (s.noteAbort d slot node reason replayed x).axisBase = s.axisBase := by
  unfold State.noteAbort
  dsimp only
  split_ifs <;> simp

@[simp] theorem State.axisBase_dispose (reason : Nat) (x : Inst) : (s.dispose d reason x).axisBase = s.axisBase := by
  unfold State.dispose
  split
  · rfl
  split
  · rfl
  dsimp only
  split
  · simp
  split
  · simp
  split
  · split
    next h => simpa using (congrArg (fun r => r.1.axisBase) h).symm
    next h => simpa using (congrArg (fun r => r.1.axisBase) h).symm
  all_goals simp

@[simp] theorem State.axisBase_abortInst (i slot node reason : Nat) (replayed quiet : Bool) :
    (s.abortInst d i slot node reason replayed quiet).axisBase = s.axisBase := by
  unfold State.abortInst
  split
  · rfl
  next x _ =>
  dsimp only
  generalize hk : List.foldl _ _ _ = v
  have hv : v.axisBase = s.axisBase := by
    rw [← hk]
    refine (State.axisBase_foldl _ _ fun u k => ?_).trans ?_
    · split
      · split <;> simp
      · rfl
    · rw [State.axisBase_setInst]
      split <;> simp
  split
  · simp [hv]
  split
  · split <;> simp [hv]
  · simp [hv]

@[simp] theorem State.axisBase_abortOp (slot reason : Nat) : (s.abortOp d slot reason).axisBase = s.axisBase := by
  unfold State.abortOp
  split
  · simp
  · rfl

@[simp] theorem State.axisBase_replayOp (slot : Nat) : (s.replayOp d slot).axisBase = s.axisBase := by
  unfold State.replayOp
  split
  · rfl
  dsimp only
  split <;> simp

/-! ### The idle count of the DRAM controller (R343) -/

@[simp] theorem State.axisBase_dramStir : (s.dramStir d).axisBase = s.axisBase := by
  unfold State.dramStir
  dsimp only
  split <;> simp

/-! ### Rings (R381 to R386, R446)

The command and the completion ring of a cycle's work are the table ring, 0, and the grit ring, 6, whose registers lie apart from
RATE. -/

/-- The rings whose completions the work of a cycle posts. -/
def cycleRing (r : Nat) : Prop := r = 0 ∨ r = 6

theorem ringCtl_ne_timeRate {r : Nat} (h : cycleRing r) : regOff .ringCtl [r] ≠ regOff .mlsTimeRate [] := by
  rcases h with rfl | rfl <;> decide

theorem ringCTail_ne_timeRate {r : Nat} (h : cycleRing r) : regOff .ringCTail [r] ≠ regOff .mlsTimeRate [] := by
  rcases h with rfl | rfl <;> decide

theorem State.axisBase_ringHalt {r : Nat} (h : cycleRing r) : (s.ringHalt d r).axisBase = s.axisBase :=
  (State.axisBase_event ..).trans (s.axisBase_setReg d _ (ringCtl_ne_timeRate h))

theorem State.axisBase_post {r : Nat} (h : cycleRing r) (die code tag c0 c1 : Nat) :
    (s.post d r die code tag c0 c1).axisBase = s.axisBase := by
  unfold State.post
  dsimp only
  refine (State.axisBase_watch _ d r ?_ (State.axisBase_setReg _ d _ (ringCTail_ne_timeRate h))).trans ?_
  · rcases h with rfl | rfl <;> decide
  · split_ifs <;> simp [State.axisBase_ringHalt _ d h]

@[simp] theorem State.axisBase_gritNote (cmd code d0 d1 d2 : Nat) :
    (s.gritNote d cmd code d0 d1 d2).axisBase = s.axisBase := by
  have last : ∀ (u : State) (v : Nat), (u.setReg d .grtLast [] v).axisBase = u.axisBase :=
    fun u v => u.axisBase_setReg d v (by decide)
  unfold State.gritNote
  dsimp only
  split_ifs <;> simp [last]

theorem State.axisBase_skipBad {r : Nat} (h : cycleRing r) (n : Nat) : (s.skipBad d r n).axisBase = s.axisBase := by
  induction n generalizing s with
  | zero => rfl
  | succ n ih =>
    unfold State.skipBad
    split
    · rfl
    dsimp only
    split
    · rfl
    · rw [ih, State.axisBase_post _ d h, State.axisBase_setRing]
      split_ifs <;> simp

theorem State.axisBase_ringDone {r : Nat} (h : cycleRing r) (code c0 c1 : Nat) :
    (s.ringDone d r code c0 c1).axisBase = s.axisBase := by
  unfold State.ringDone
  split
  · rfl
  · rw [State.axisBase_skipBad _ d h, State.axisBase_post _ d h, State.axisBase_setRing]

@[simp] theorem State.axisBase_gritDone (code : Nat) : (s.gritDone d code).axisBase = s.axisBase := by
  unfold State.gritDone
  split
  · rw [State.axisBase_ringDone _ d (.inr rfl), State.axisBase_gritNote]
  · rfl

/-! ### Faults, core stops and restarts (R135 to R149, R450, R451) -/

@[simp] theorem State.axisBase_noteFault (c thr pc code : Nat) (op : Option Nat) :
    (s.noteFault d c thr pc code op).axisBase = s.axisBase := by
  simp [State.noteFault]

@[simp] theorem State.axisBase_debugState (c : Nat) : (s.debugState d c).axisBase = s.axisBase := by
  unfold State.debugState
  split <;> simp

@[simp] theorem State.axisBase_discardOpen (k : Nat) (cluster : Bool) : (s.discardOpen d k cluster).axisBase = s.axisBase :=
  (State.axisBase_modThr ..).trans (s.axisBase_modDie d _ rfl)

/-- The words of the cores' events lie above RATE. -/
theorem coreEvent_ne_timeRate (c i : Nat) : regOff .cluCoreEvent [c, i] ≠ regOff .mlsTimeRate [] := by
  have hlow : regOff .mlsTimeRate [] < (regRow .cluCoreEvent).base := by decide
  exact (hlow.trans_le (Nat.le_add_right _ _)).ne'

@[simp] theorem State.axisBase_coreEvent (c i : Nat) : (s.coreEvent d c i).axisBase = s.axisBase :=
  s.axisBase_watch d 10 (by decide) (s.axisBase_setReg d _ (coreEvent_ne_timeRate _ _))

@[simp] theorem State.axisBase_forceStop (c : Nat) : (s.forceStop d c).axisBase = s.axisBase := by
  unfold State.forceStop
  split
  · exact (State.axisBase_gritDone ..).trans (s.axisBase_modDie d _ rfl)
  · rfl

theorem State.axisBase_stopCore (c : Nat) (hw : Bool) {each : State → Nat → State}
    (h : ∀ (u : State) (k : Nat), (each u k).axisBase = u.axisBase) : (s.stopCore d c hw each).axisBase = s.axisBase := by
  have partner : ∀ u : State, (if u.leader d c then u.coreEvent d (c + 1) 0 else u).axisBase = u.axisBase := fun u => by
    split <;> simp
  unfold State.stopCore
  dsimp only
  rw [State.axisBase_forceStop, partner, State.axisBase_coreEvent]
  refine (State.axisBase_foldl _ _ fun u k => ?_).trans (s.axisBase_modPair d c _)
  rw [State.axisBase_modThr]
  split <;> simp [h]

@[simp] theorem State.axisBase_progFault (k code : Nat) : (s.progFault d k code).axisBase = s.axisBase := by
  unfold State.progFault
  dsimp only
  split
  · split
    · split <;> simp
    · simp
  · rw [State.axisBase_stopCore _ d _ _ fun u slot => by simp]
    simp

@[simp] theorem State.axisBase_restartCore (c : Nat) : (s.restartCore d c).axisBase = s.axisBase := by
  unfold State.restartCore
  dsimp only
  rw [State.axisBase_modPair]
  exact (State.axisBase_foldl _ _ fun u k => by simp).trans (s.axisBase_modDie d _ rfl)

@[simp] theorem State.axisBase_hwStop (k code : Nat) (by_ : List Nat) : (s.hwStop d k code by_).axisBase = s.axisBase := by
  unfold State.hwStop
  dsimp only
  generalize hk : State.modPair _ _ _ _ = v
  have hv : v.axisBase = s.axisBase := by
    rw [← hk, State.axisBase_modPair, State.axisBase_stopCore _ d _ _ fun u slot => by simp]
    exact s.axisBase_foldl by_ fun u c => by simp
  split_ifs <;> simp [hv]

@[simp] theorem State.axisBase_lockstepFault (k : Nat) : (s.lockstepFault d k).axisBase = s.axisBase :=
  s.axisBase_hwStop d k _ _

@[simp] theorem State.axisBase_hwFault (k code : Nat) : (s.hwFault d k code).axisBase = s.axisBase :=
  s.axisBase_hwStop d k _ _

@[simp] theorem State.axisBase_forceStrike : (s.forceStrike d).axisBase = s.axisBase := by
  have struck : ∀ u : State, (u.modDie d fun x => { x with gritHw := none }).axisBase = u.axisBase :=
    fun u => u.axisBase_modDie d _ rfl
  unfold State.forceStrike
  split
  · split
    · rfl
    dsimp only
    split
    · simp [struck]
    · rw [State.axisBase_ringDone _ d (.inr rfl)]
      split <;> simp [struck]
  · rfl

/-! ### Rounds and counters of fabric cycles (R83, R117, R133, R153) -/

@[simp] theorem State.axisBase_poisonSlots : (s.poisonSlots d).axisBase = s.axisBase :=
  s.axisBase_foldl _ fun u p => by
    dsimp only
    split_ifs <;> simp

@[simp] theorem State.axisBase_roundEnd : (s.roundEnd d).axisBase = s.axisBase := by
  have mapped : ∀ u : State, (u.modDie d fun x => { x with
      threads := x.threads.map fun p => (p.1, p.2.roundEnd) }).axisBase = u.axisBase := fun u => u.axisBase_modDie d _ rfl
  unfold State.roundEnd
  refine (mapped _).trans ?_
  exact (State.axisBase_foldl _ _ fun u k => by simp).trans (s.axisBase_foldl _ fun u k => by simp)

@[simp] theorem State.axisBase_cycle (blk i : Nat) (holds : Bool) : (s.cycle d blk i holds).axisBase = s.axisBase := by
  unfold State.cycle
  split <;> simp

@[simp] theorem State.axisBase_cycles : (s.cycles d).axisBase = s.axisBase := by
  unfold State.cycles
  dsimp only
  split <;> simp

@[simp] theorem State.axisBase_freeWaiting : (s.freeWaiting d).axisBase = s.axisBase := by
  unfold State.freeWaiting
  split <;> simp

@[simp] theorem State.axisBase_deadNote : (s.deadNote d).axisBase = s.axisBase := by
  unfold State.deadNote
  refine (State.axisBase_modDie _ d _ rfl).trans ?_
  exact s.axisBase_foldl _ fun u c => by simp

@[simp] theorem State.axisBase_settle : (s.settle d).axisBase = s.axisBase := by
  obtain ⟨h, hs⟩ := s.hopOnly_settle d
  rw [hs, State.axisBase_modHop]

end Sys2Proof.Machine
end

section
/-! SUPPORT. What the axes go by stays through the DRAM's work and the capture of a snapshot. -/

namespace Sys2Proof.Machine

open Sys2Proof

variable (s : State) (d : Nat)

/-! ### Rows and granules (R325 to R339, R349 to R356, R366) -/

@[simp] theorem State.axisBase_dramTouch (ask : Option Nat) : (s.dramTouch d ask).axisBase = s.axisBase := by
  unfold State.dramTouch
  dsimp only
  split_ifs <;> simp

@[simp] theorem State.axisBase_dramPanic : (s.dramPanic d).axisBase = s.axisBase := by
  unfold State.dramPanic
  dsimp only
  split <;> simp

@[simp] theorem State.axisBase_dramRow (a : Nat) (panic : Bool) : (s.dramRow d a panic).axisBase = s.axisBase := by
  unfold State.dramRow
  dsimp only
  split_ifs <;> simp

@[simp] theorem State.axisBase_granulePoison (g : Nat) : (s.granulePoison d g).axisBase = s.axisBase := by
  simp [State.granulePoison]

@[simp] theorem State.axisBase_granuleWrite (g : Nat) (bytes : List Byte) :
    (s.granuleWrite d g bytes).axisBase = s.axisBase := by
  simp [State.granuleWrite]

/-- The counts of the DRAM's devices lie above RATE. -/
theorem eccDevCe_ne_timeRate (i : Nat) : regOff .eccDevCe [i] ≠ regOff .mlsTimeRate [] := by
  have hlow : regOff .mlsTimeRate [] < (regRow .eccDevCe).base := by decide
  exact (hlow.trans_le (Nat.le_add_right _ _)).ne'

@[simp] theorem State.axisBase_deviceCounts (rank : Nat) (r : Decoded) : (s.deviceCounts d rank r).axisBase = s.axisBase := by
  have counted : ∀ (u : State) (i v : Nat), (u.setReg d .eccDevCe [i] v).axisBase = u.axisBase :=
    fun u i v => u.axisBase_setReg d v (eccDevCe_ne_timeRate i)
  refine s.axisBase_foldl _ fun u j => ?_
  dsimp only
  split_ifs <;> simp [counted]

@[simp] theorem State.axisBase_granuleRead (g : Nat) (demand : Bool) : (s.granuleRead d g demand).1.axisBase = s.axisBase := by
  unfold State.granuleRead
  dsimp only
  split_ifs <;> simp

@[simp] theorem State.axisBase_dramPut (a : Nat) (bytes : List Byte) (panic : Bool) :
    (s.dramPut d a bytes panic).axisBase = s.axisBase := by
  unfold State.dramPut
  dsimp only
  split_ifs <;> simp

/-! ### Requests (R332, R333, R336, R339) -/

@[simp] theorem State.axisBase_barPart (id i : Nat) (bytes : List Byte) (poison : Bool) :
    (s.barPart d id i bytes poison).axisBase = s.axisBase := by
  unfold State.barPart
  split
  · rfl
  dsimp only
  split_ifs <;> simp

@[simp] theorem State.axisBase_dramAnswer (q : DramReq) : (s.dramAnswer d q).axisBase = s.axisBase := by
  unfold State.dramAnswer
  dsimp only
  split <;> simp

@[simp] theorem State.axisBase_dramServe (q : DramReq) : (s.dramServe d q).axisBase = s.axisBase := by
  unfold State.dramServe
  dsimp only
  split
  · simp
  · split <;> simp

@[simp] theorem State.axisBase_boltCancel (g : Nat) : (s.boltCancel d g).axisBase = s.axisBase := by
  unfold State.boltCancel
  dsimp only
  split <;> simp

@[simp] theorem State.axisBase_drainGo (n : Nat) : (s.drainGo d n).axisBase = s.axisBase := by
  induction n generalizing s with
  | zero => rfl
  | succ n ih =>
    unfold State.drainGo
    split
    · split
      · rw [ih, State.axisBase_dramServe]
      · rfl
    · rfl

@[simp] theorem State.axisBase_dramDrain : (s.dramDrain d).axisBase = s.axisBase := s.axisBase_drainGo d _

@[simp] theorem State.axisBase_dramAccept (q : DramReq) : (s.dramAccept d q).axisBase = s.axisBase := by
  unfold State.dramAccept
  dsimp only
  split <;> simp

@[simp] theorem State.axisBase_dramPost (q : DramReq) : (s.dramPost d q).axisBase = s.axisBase := by
  unfold State.dramPost
  split_ifs <;> simp

@[simp] theorem State.axisBase_dramStore (a : Nat) (bytes : List Byte) (panic : Bool) :
    (s.dramStore d a bytes panic).axisBase = s.axisBase := s.axisBase_dramPost d _

@[simp] theorem State.axisBase_dramWriteAll (n : Nat) (panic : Bool) (fuel a : Nat) (bs : List Byte) :
    (s.dramWriteAll d n panic fuel a bs).axisBase = s.axisBase := by
  induction fuel generalizing s a bs with
  | zero => rfl
  | succ fuel ih =>
    unfold State.dramWriteAll
    split
    · rfl
    · rw [ih, State.axisBase_dramStore]

/-! ### Delays (R448) -/

@[simp] theorem State.axisBase_dropItem (e : Delayed) : (s.dropItem d e).axisBase = s.axisBase := s.axisBase_modDie d _ rfl

@[simp] theorem State.axisBase_holdItem (e : Delayed) : (s.holdItem d e).axisBase = s.axisBase := s.axisBase_modDie d _ rfl

@[simp] theorem State.axisBase_delayPut (target src item : Nat) (data : List Nat) :
    (s.delayPut d target src item data).1.axisBase = s.axisBase := by
  have drawn : ∀ v : Nat, (s.setReg d .grtLfsr [] v).axisBase = s.axisBase := fun v => s.axisBase_setReg d v (by decide)
  unfold State.delayPut
  dsimp only
  split_ifs <;> simp [drawn]

@[simp] theorem State.axisBase_delayGate (target src item : Nat) : (s.delayGate d target src item).1.axisBase = s.axisBase := by
  unfold State.delayGate
  split
  · split <;> simp
  · simp

@[simp] theorem State.axisBase_dramFetch (a : Nat) (panic : Bool) (gate : Option Nat) :
    (s.dramFetch d a panic gate).1.axisBase = s.axisBase := by
  unfold State.dramFetch
  split
  · simp
  dsimp only
  split
  · split
    · split <;> simp
    · simp
  · simp

/-! ### The bolter and its writebacks -/

@[simp] theorem State.axisBase_boltWrite (b : BoltWrite) : (s.boltWrite d b).axisBase = s.axisBase := by
  unfold State.boltWrite
  dsimp only
  split <;> (split <;> simp)

@[simp] theorem State.axisBase_boltFlush : (s.boltFlush d).axisBase = s.axisBase :=
  s.axisBase_foldl _ fun u b => by
    split <;> simp

@[simp] theorem State.axisBase_boltRead (g : Nat) : (s.boltRead d g).axisBase = s.axisBase := by
  simp [State.boltRead]

@[simp] theorem State.axisBase_boltStep : (s.boltStep d).axisBase = s.axisBase := by
  unfold State.boltStep
  dsimp only
  split <;> simp

@[simp] theorem State.axisBase_boltMakeUp : (s.boltMakeUp d).axisBase = s.axisBase := by
  unfold State.boltMakeUp
  dsimp only
  split_ifs <;> simp

@[simp] theorem State.axisBase_dramCycle : (s.dramCycle d).axisBase = s.axisBase := by
  unfold State.dramCycle
  dsimp only
  split <;> simp

/-! ### Snapshots (R431 to R434) -/

@[simp] theorem State.axisBase_snapDone (seq : Nat) : (s.snapDone d seq).axisBase = s.axisBase := by
  have tail : ∀ (u : State) (v : Nat), (u.setReg d .tlySnapTail [] v).axisBase = u.axisBase :=
    fun u v => u.axisBase_setReg d v (by decide)
  have number : ∀ (u : State) (v : Nat), (u.setReg d .tlySnapSeq [] v).axisBase = u.axisBase :=
    fun u v => u.axisBase_setReg d v (by decide)
  simp [State.snapDone, tail, number]

@[simp] theorem State.axisBase_snapWrite (bs : List Byte) : (s.snapWrite d bs).axisBase = s.axisBase := by
  unfold State.snapWrite
  dsimp only
  split <;> simp

@[simp] theorem State.axisBase_snapOut (bs : List Byte) : (s.snapOut d bs).axisBase = s.axisBase := by
  have off : ∀ v : Nat, (s.setReg d .tlySnapCfg [] v).axisBase = s.axisBase := fun v => s.axisBase_setReg d v (by decide)
  unfold State.snapOut
  dsimp only
  split_ifs <;> simp [off]

@[simp] theorem State.axisBase_snapFlush : (s.snapFlush d).axisBase = s.axisBase := by
  unfold State.snapFlush
  split
  · split <;> simp
  · rfl

@[simp] theorem State.axisBase_captureGo (t : Nat) : (s.captureGo d t).axisBase = s.axisBase := by
  unfold State.captureGo
  split
  · rfl
  dsimp only
  split <;> simp

end Sys2Proof.Machine
end

section
/-! SUPPORT. What the axes go by stays through the table engine's work. -/

namespace Sys2Proof.Machine

open Sys2Proof

variable (s : State) (d : Nat)

/-! ### Entries and buckets (R234, R235, R238) -/

@[simp] theorem State.axisBase_bucketRead (body bucket : Nat) (gate : Bool) :
    (s.bucketRead d body bucket gate).1.axisBase = s.axisBase := by
  unfold State.bucketRead
  split
  · split
    next h => simpa using (congrArg (fun r => r.1.axisBase) h).symm
    next h => simpa using (congrArg (fun r => r.1.axisBase) h).symm
  · simp

theorem State.axisBase_initGranule {b bucket : Nat} {u : State} (h : s.initGranule d b bucket = some u) :
    u.axisBase = s.axisBase := by
  unfold State.initGranule at h
  split at h
  · cases h
  next hr =>
    cases h
    simpa using (congrArg (fun r => r.1.axisBase) hr).symm

@[simp] theorem State.axisBase_initNext (b : Nat) : (s.initNext d b).axisBase = s.axisBase := by
  have chip : ∀ k : Nat, (s.modDie d fun x => x.initChip b k).axisBase = s.axisBase := fun k => s.axisBase_modDie d _ rfl
  unfold State.initNext
  dsimp only
  split
  · rfl
  split
  · split <;> simp [chip]
  split
  · rfl
  split
  · simp
  split
  next h => simpa using s.axisBase_initGranule d h
  · rfl

@[simp] theorem State.axisBase_initTick : (s.initTick d).axisBase = s.axisBase := by
  unfold State.initTick
  split
  · rfl
  split
  · exact s.axisBase_foldl _ fun u _ => by simp
  · split <;> simp

theorem Die.axisBase_freshLay (x : Die) (n : Nat) : (x.freshLay n).axisBase = x.axisBase :=
  List.foldlRecOn (motive := fun y : Die => y.axisBase = x.axisBase) _ _ rfl fun _ hy _ _ => hy

theorem Die.axisBase_tbl (x : Die) (t : Tables) : ({ x with tbl := t } : Die).axisBase = x.axisBase := rfl

@[simp] theorem State.axisBase_layWrite (n bucket : Nat) (e : Option (List Word)) :
    (s.layWrite d n bucket e).axisBase = s.axisBase := by
  unfold State.layWrite
  exact s.axisBase_modDie d _ ((Die.axisBase_tbl _ _).trans (Die.axisBase_freshLay _ n))

@[simp] theorem State.axisBase_slotWrite (body bucket : Nat) (slots : List (List Word)) (i : Nat) (e : List Word) :
    (s.slotWrite d body bucket slots i e).axisBase = s.axisBase := by
  unfold State.slotWrite
  split
  · simp
  · refine s.axisBase_modDie d _ ?_
    exact List.foldlRecOn (motive := fun x : Die => x.axisBase = (s.die d).axisBase) _ _ rfl fun x hx j _ => hx

/-! ### Requests and grants (R242, R243) -/

@[simp] theorem State.axisBase_pipeGate (src item : Nat) : (s.pipeGate d src item).1.axisBase = s.axisBase := by
  unfold State.pipeGate
  split
  · rfl
  split
  · rfl
  split
  · dsimp only
    split <;> simp
  · rfl

@[simp] theorem State.axisBase_pipeTake (src item : Nat) : (s.pipeTake d src item).axisBase = s.axisBase := by
  unfold State.pipeTake
  split
  · simp
  · rfl

@[simp] theorem State.axisBase_tblNote : (s.tblNote d).axisBase = s.axisBase := by
  unfold State.tblNote
  dsimp only
  split <;> simp

@[simp] theorem State.axisBase_portGrant (cl : Nat) : (s.portGrant d cl).axisBase = s.axisBase := by
  unfold State.portGrant
  dsimp only
  split <;> simp

@[simp] theorem State.axisBase_portGrants : (s.portGrants d).axisBase = s.axisBase :=
  s.axisBase_foldl _ fun u cl => by simp

/-! ### Ring commands (R247 to R249, R252) -/

@[simp] theorem State.axisBase_ringSet (r : Nat) (c : RCmd) : (s.ringSet d r c).axisBase = s.axisBase := by
  unfold State.ringSet
  split <;> simp

@[simp] theorem State.axisBase_ringPop (r : Nat) : (s.ringPop d r).axisBase = s.axisBase := s.axisBase_setRing d r _

@[simp] theorem State.axisBase_begunSet (src : Nat) (c : RCmd) : (s.begunSet d src c).axisBase = s.axisBase := by
  unfold State.begunSet
  split
  · simp
  · exact s.axisBase_modDie d _ rfl

@[simp] theorem State.axisBase_tblSend (src code tag c0 c1 : Nat) : (s.tblSend d src code tag c0 c1).axisBase = s.axisBase := by
  unfold State.tblSend
  split
  · exact s.axisBase_post src (.inl rfl) ..
  · rfl

@[simp] theorem State.axisBase_tblPost (src : Nat) (c : RCmd) (code c0 c1 : Nat) :
    (s.tblPost d src c code c0 c1).axisBase = s.axisBase := by
  unfold State.tblPost
  dsimp only
  split <;> simp

@[simp] theorem State.axisBase_tblSkip (n : Nat) : (s.tblSkip d n).axisBase = s.axisBase := by
  induction n generalizing s with
  | zero => rfl
  | succ n ih =>
    unfold State.tblSkip
    split
    · split
      · rfl
      · rw [ih, State.axisBase_tblPost, State.axisBase_ringPop]
    · rfl

@[simp] theorem State.axisBase_tblEnd (c : RCmd) (code c0 c1 : Nat) : (s.tblEnd d c code c0 c1).axisBase = s.axisBase := by
  simp [State.tblEnd]

@[simp] theorem State.axisBase_begunEnd (src : Nat) (c : RCmd) (code c1 : Nat) :
    (s.begunEnd d src c code c1).axisBase = s.axisBase := by
  unfold State.begunEnd
  split
  · simp
  · exact (State.axisBase_tblPost ..).trans (s.axisBase_modDie d _ rfl)

@[simp] theorem State.axisBase_tblTally (code t body cmdCode bucket : Nat) (thread : Bool) :
    (s.tblTally d code t body cmdCode bucket thread).axisBase = s.axisBase := by
  have err : ∀ (u : State) (v : Nat), (u.setReg d .tblLastErr [] v).axisBase = u.axisBase :=
    fun u v => u.axisBase_setReg d v (by decide)
  have at_ : ∀ (u : State) (v : Nat), (u.setReg d .tblLastBucket [] v).axisBase = u.axisBase :=
    fun u v => u.axisBase_setReg d v (by decide)
  unfold State.tblTally
  dsimp only
  split_ifs <;> simp [err, at_]

/-! ### WALK (R251) -/

theorem State.axisBase_walkRecord (src out : Nat) (clear : Bool) (w : Walk) (e : List Word) {write : State → State}
    (h : ∀ u : State, (write u).axisBase = u.axisBase) :
    (s.walkRecord d src out clear w e write).1.axisBase = s.axisBase := by
  unfold State.walkRecord
  split
  · dsimp only
    split_ifs <;> simp [h]
  · rfl

@[simp] theorem State.axisBase_walkLay (src out : Nat) (clear : Bool) (w : Walk) :
    (s.walkLay d src out clear w).1.axisBase = s.axisBase := by
  unfold State.walkLay
  dsimp only
  split
  · simp
  split
  · simp
  · rw [State.axisBase_walkRecord _ d _ _ _ _ _ fun u => u.axisBase_layWrite d _ _ _, State.axisBase_readUnits]

@[simp] theorem State.axisBase_walkBucket (src out : Nat) (clear : Bool) (w : Walk) :
    (s.walkBucket d src out clear w).1.axisBase = s.axisBase := by
  unfold State.walkBucket
  dsimp only
  split
  next h => simpa using (congrArg (fun r => r.1.axisBase) h).symm
  next h => simpa using (congrArg (fun r => r.1.axisBase) h).symm
  next u slots h =>
    have hu : u.axisBase = s.axisBase := by simpa using (congrArg (fun r => r.1.axisBase) h).symm
    refine List.foldlRecOn (motive := fun r : State × Walk × List (List Word) => r.1.axisBase = s.axisBase) _ _ hu ?_
    intro r hr i _
    exact (State.axisBase_walkRecord _ d _ _ _ _ _ fun v => v.axisBase_slotWrite d _ _ _ _ _).trans hr

@[simp] theorem State.axisBase_walkNext (src out : Nat) (clear : Bool) (w : Walk) :
    (s.walkNext d src out clear w).1.axisBase = s.axisBase := by
  unfold State.walkNext
  dsimp only
  split_ifs <;> simp

@[simp] theorem State.axisBase_walkCycle (p : Nat × RCmd) : (s.walkCycle d p).axisBase = s.axisBase := by
  unfold State.walkCycle
  split
  · rfl
  split
  · rfl
  split
  next h => simpa using (congrArg (fun r => r.1.axisBase) h).symm
  next h =>
    have hgate := (congrArg (fun r => r.1.axisBase) h).symm
    dsimp only
    split
    next h => simpa using (congrArg (fun r => r.1.axisBase) h).symm.trans (by simpa using hgate)
    next h => simpa using (congrArg (fun r => r.1.axisBase) h).symm.trans (by simpa using hgate)
    next h => simpa using (congrArg (fun r => r.1.axisBase) h).symm.trans (by simpa using hgate)

@[simp] theorem State.axisBase_tblCycle : (s.tblCycle d).axisBase = s.axisBase := by
  have walked : (s.walkTick d).axisBase = s.axisBase := s.axisBase_foldl _ fun u p => by simp
  simp [State.tblCycle, walked]

end Sys2Proof.Machine
end

section
/-! SUPPORT. A fabric cycle moves each die's copy of axis 0 on once, by the rate of die 0 (R266). -/

namespace Sys2Proof.Machine

open Sys2Proof

/-- A copy of axis 0 moves on by a rate. -/
def DieTime.go (rate : Int) (x : DieTime) : DieTime :=
  { x with t0 := (axisTick rate x.t0 x.frac).1, frac := (axisTick rate x.t0 x.frac).2 }

/-- At rate 0 a copy gains 1 ns. -/
theorem axisTick_zero {t frac : Nat} (h : frac < 2 ^ 32) : (axisTick 0 t frac).1 = (t + 1) % 2 ^ 72 := by
  have hf : ((frac : Int) + 2 ^ 32 + 0).toNat / 2 ^ 32 = 1 := by omega
  rw [axisTick, hf]

section
variable {s t : State}

/-- RATE is read on die 0. -/
theorem State.timeRate_of_dieTime (h : (t.die 0).axisBase.rate = (s.die 0).axisBase.rate) : t.timeRate = s.timeRate :=
  congrArg (fun n => max (-4294967) (min 4294967 (sext n 32))) h

end

variable (s : State) (d : Nat)

/-- What the work of a cycle does to what the axes go by is to move on the die's own copy of axis 0. -/
theorem State.axisBase_dieCycle : (s.dieCycle d).axisBase = ((s.freeWaiting d).axisGo d).axisBase := by
  unfold State.dieCycle
  dsimp only
  split <;> simp

theorem State.dieTime_axisGo (h : d < 8) : ((s.axisGo d).die d).axisBase = (s.die d).axisBase.go s.timeRate := by
  rw [State.axisGo, State.die_modDie _ _ h]
  rfl

theorem State.dieTime_axisGo_ne {e : Nat} (h : e ≠ d) : ((s.axisGo d).die e).axisBase = (s.die e).axisBase := by
  rw [State.axisGo, State.die_modDie_ne _ _ h]

/-- The die's own copy moves on, and no other. -/
theorem State.dieTime_dieCycle (h : d < 8) (e : Nat) : ((s.dieCycle d).die e).axisBase =
    if e = d then (s.die e).axisBase.go s.timeRate else (s.die e).axisBase := by
  have hfree := s.axisBase_freeWaiting d
  have hrate := State.timeRate_of_dieTime (congrArg DieTime.rate (State.dieTime_of_axisBase hfree 0))
  rw [State.dieTime_of_axisBase (s.axisBase_dieCycle d)]
  split
  next he => rw [he, State.dieTime_axisGo _ d h, hrate, State.dieTime_of_axisBase hfree]
  next he => rw [State.dieTime_axisGo_ne _ d he, State.dieTime_of_axisBase hfree]

theorem State.fuses_dieCycle : (s.dieCycle d).fuses = s.fuses :=
  have hgo : ((s.freeWaiting d).axisGo d).fuses = (s.freeWaiting d).fuses := rfl
  (State.fuses_of_axisBase (s.axisBase_dieCycle d)).trans (hgo.trans (State.fuses_of_axisBase (s.axisBase_freeWaiting d)))

/-- No copy's move changes RATE. -/
theorem State.timeRate_dieCycle (h : d < 8) : (s.dieCycle d).timeRate = s.timeRate := by
  refine State.timeRate_of_dieTime ?_
  rw [s.dieTime_dieCycle d h]
  split <;> rfl

/-- The work of a cycle on a fitted die. -/
def State.cycleOn (s : State) (d : Nat) : State := if s.has d then s.dieCycle d else s

/-- The dies of a list work, each once: the copy of a fitted one among them moves on once. -/
theorem State.dieTime_foldl_cycleOn (l : List Nat) (hl : l.Nodup) (e : Nat) :
    ((l.foldl State.cycleOn s).die e).axisBase =
      if e ∈ l ∧ s.has e = true then (s.die e).axisBase.go s.timeRate else (s.die e).axisBase := by
  induction l generalizing s with
  | nil => simp
  | cons d l ih =>
    obtain ⟨hd, hl⟩ := List.nodup_cons.mp hl
    rw [List.foldl_cons, ih _ hl]
    by_cases hhas : s.has d = true
    · have h8 := State.has_lt hhas
      have hon : s.cycleOn d = s.dieCycle d := if_pos hhas
      have hsame : (s.dieCycle d).has e = s.has e := by rw [State.has, State.has, s.fuses_dieCycle d]
      rw [hon, s.timeRate_dieCycle d h8, s.dieTime_dieCycle d h8, hsame]
      by_cases he : e = d
      · subst he
        simp [hd, hhas]
      · simp [he]
    · have hoff : s.cycleOn d = s := if_neg hhas
      rw [hoff]
      by_cases he : e = d
      · subst he
        simp [hd, hhas]
      · simp [he]

theorem State.eachDie_dieCycle : s.eachDie State.dieCycle = (List.range 8).foldl State.cycleOn s := rfl

theorem State.time_modAx (f : Axes → Axes) : (s.modAx f).time d = s.time d := rfl

theorem State.time_ppsSkip : s.ppsSkip.time d = s.time d := by
  unfold State.ppsSkip
  split
  · exact s.time_modAx d _
  · rfl

/-- The model's clock and queue lie apart from axis 0. -/
theorem State.time_clocked (f : Fuses) (n : Nat) (cs : List Instr) :
    ({ s with fuses := f, now := n, pending := cs } : State).time d = s.time d := rfl

/-- A fabric cycle outside reset moves the copy of a fitted die on by the rate. -/
theorem State.time_tick (hr : s.inReset = false) (hd : s.has d = true) :
    s.tick.time d = (axisTick s.timeRate (s.time d) (s.die d).t0frac).1 := by
  have hmem : d ∈ List.range 8 ∧ s.has d = true := ⟨List.mem_range.mpr (State.has_lt hd), hd⟩
  have hgo := s.dieTime_foldl_cycleOn (List.range 8) List.nodup_range d
  rw [if_pos hmem, ← State.eachDie_dieCycle] at hgo
  rw [State.tick, if_neg (Bool.eq_false_iff.mp hr), State.time_clocked, State.cycleWork, State.time_ppsSkip]
  generalize s.eachDie State.dieCycle = t at hgo
  exact congrArg DieTime.t0 hgo

/-- In reset only the model's clock moves. -/
theorem State.tick_inReset (h : s.inReset = true) : s.tick = { s with now := s.now + 1 } := by
  rw [State.tick, if_pos h]

end Sys2Proof.Machine
end

section
/-! PROOFS. The step of the machine. -/

namespace Sys2Proof.Machine

open Sys2Proof

/-- Settles O1: the cycle on an empty queue changes RATE and the copies of axis 0 only where each copy moves on. -/
theorem stepRunsTheFrontCommand : Obligations.StepRunsTheFrontCommand := by
  unfold Obligations.StepRunsTheFrontCommand
  refine ⟨fun s c cs h => by rw [step, h], fun s h => ⟨s.tick, by rw [step, h], rfl, h, rfl, s.tick_inReset, ?_⟩⟩
  intro hreset hrate d hd hfrac
  have hzero : s.timeRate = 0 := by
    rw [State.timeRate, hrate]
    rfl
  rw [s.time_tick d hreset hd, hzero, axisTick_zero hfrac]

end Sys2Proof.Machine
end
